-- ==== Sys2Proof/Word.lean ====
section
/-! DEFINITION. Word.lean: the byte type and the plainest arithmetic on it. -/
namespace Sys2Proof

/-- One byte of a frame, an object value or a memory. -/
abbrev Byte := BitVec 8

end Sys2Proof
end

