-- ==== Sys2Proof/Config.lean ====
section
/-! DEFINITION. Config.lean: what the production of a module fixes, and the FREE VALUES: constants without a body, so that no
proof can see what they are. Each is named in a row of notes/assumptions. -/
namespace Sys2Proof

/-- The four variants (R1). -/
inductive Variant where
  | a | g | s | l
  deriving DecidableEq, Repr

namespace Config

/-- Production values (R402): `PRODUCTION_AT` (also the default of `XO_AGE_EPOCH`), `HW_REVISION`, `DIE_STEPPING`. -/
opaque productionInstant : Int
opaque hwRevision : Int
opaque dieStepping : Int
/-- `DICT_VERSION` of the active image (R418). -/
opaque dictVersion : Int
/-- Production OCTETS and STR values, by object key. -/
opaque production : Nat → List Byte
/-- The direction of a rounding that no rule fixes, by the free-value counter. -/
opaque freeBit : Nat → Bool
/-- A number that no rule fixes, by the free-value counter. -/
opaque freeNat : Nat → Nat
/-- AES-CMAC of a message under a key, as a number of 128 bits (R370, R393). -/
opaque cmac : Nat → List Byte → Nat
/-- HMAC-SHA-256 (32 bytes), and GMAC with its IV of 12 bytes (16 bytes), of a message under a key (R292). -/
opaque hmac256 : Nat → List Byte → List Byte
opaque gmac : Nat → List Byte → List Byte → List Byte
/-- The octets of a frame that its record does not hold, by the octets before them and the place (R8). -/
opaque dataOctet : List Byte → Nat → Byte
/-- Counter-mode KDF: key, label, context (R341, R373). -/
opaque kdf : Nat → List Byte → List Byte → Nat
/-- SHA-256 and SHA-384 digests as numbers (R392, R390). -/
opaque sha256 : List Byte → Nat
opaque sha384 : List Byte → Nat
/-- AES-SIV wrap under a key: the sealed bytes (R332, R344). -/
opaque sivSeal : Nat → List Byte → List Byte → List Byte
/-- A value drawn from the DRBG, by the free-value counter (R348). -/
opaque drbg : Nat → Nat

/-- The production calibration table φ of a TDC channel's core at a count k, in 2⁻²⁵ of a tick (R104). -/
opaque productionPhi : Nat → Nat → Nat
/-- Input path delay in ps of a channel and source at an on-die reading (R109). -/
opaque tdcPathDelay : Nat → Nat → Int → Nat

/-- How a first-order low-pass filter of a bandwidth in µHz is realised at steps of 1 ms (R157): `lowPass` takes it between the two
discrete forms that bound every one. -/
opaque lowPassGain : Nat → Nat
/-- Path delay of PPSOUT n in ps at an on-die reading (R171). -/
opaque ppsPathDelay : Nat → Int → Nat


/-- The serialiser's phase that a port measures at a strobe (R208, R256), in 1/64 UI from the start of a layout period: port, link session,
tick of the strobe. -/
opaque serialPhase : Nat → Nat → Nat → Nat
/-- The keyed hash of the Louvre: key, source (R333). -/
opaque keyedHash : Nat → List Byte → Nat

/-- MAC address of the next hop to an address that no received frame names (R302). -/
opaque nextHopMac : List Byte → Nat

/-- The keys that a die's PUF root yields, by slot (R341): material of slots 0, 1 and 3. -/
opaque rootKey : Nat → Nat
/-- KEY_ID of a key: type, material, public point (R342); public point of a P-384 private key. -/
opaque keyId : Nat → Nat → List Byte → Nat
opaque publicPoint : Nat → List Byte
/-- Events that a core has counted by a tick: core, event code, tick (R450). -/
opaque pmcEvents : Nat → Nat → Nat → Nat
/-- The image that production installed in a bank, as a container (R511). -/
opaque productionImage : Nat → List Byte
/-- The symbol table that a component carries (R454), and the DICT_VERSION that a dictionary component carries (R514). -/
opaque symbolTable : List Byte → List Byte
opaque imageDictVersion : List Byte → Int
/-- Bytes of the boot ROM and of the NOR read window, by address. -/
opaque romByte : Nat → Byte
opaque norByte : Nat → Byte
/-- A byte of a memory region whose layout no rule states: address and tick. -/
opaque memByte : Nat → Nat → Byte
/-- An address of the unit registers is one of the NOR and SD controllers' ("Masters"). -/
opaque ctrlReg : Nat → Bool
/-- What a module measures of itself and no command brings, by object key and tick: latencies of the agent and the Pane, VKEEP, the
current of DDR_VDDQ, outstanding transactions of the matrix. -/
opaque measured : Nat → Nat → Nat
/-- ECDSA P-384 signature by the identity key over a digest (R390). -/
opaque sign : Nat → Nat → List Byte

end Config
end Sys2Proof
end

