-- ==== Sys2Proof/Syntax.lean ====
section
/-! DEFINITION. Syntax.lean: the commands of the block, one constructor per row of spec/opcode_table.json, with the operands
that the row's rules name: what a sender outside gives (a request record, a frame, a measurement, a level) and nothing the
module itself holds. -/
namespace Sys2Proof

/-- What the transport and the frame header bring with a Transom frame (R365–R370). -/
structure FrameHdr where
  /-- 1 MGMT, 2 data port, 3 host link; the data port and VLAN. -/
  iface : Nat
  port : Nat := 0xFF
  vlan : Nat := 0
  /-- Address (16 bytes, IPv4 in bytes 12–15) and UDP port (2 bytes) of the peer. -/
  peer : List Byte := List.replicate 18 0
  /-- Destination address of the datagram (16 bytes). -/
  own : List Byte := List.replicate 16 0
  /-- UDP length and checksum agree (R369). -/
  udpOk : Bool := true
  version : Nat := 1
  /-- Bytes of the frame, and whether LENGTH plus header and TAG equals them (R369, R370). -/
  bytes : Nat := 44
  lengthOk : Bool := true
  seq : Nat
  /-- TAG verifies under the key the frame's kind uses (R370, R372). -/
  tagOk : Bool := true
  deriving DecidableEq, Repr

/-- A request record in its frame ("Request record"). `value` holds the bytes of the BODY after the header. -/
structure Req where
  hdr : FrameHdr
  sess : Nat
  tag : Nat := 0
  /-- FLAGS bits 0 LAST and 1 ORDERED; reserved bits and fields are 0, OP is defined. -/
  last : Bool := true
  ordered : Bool := false
  reservedOk : Bool := true
  offset : Nat := 0
  group : Nat := 0
  valueLen : Nat
  value : List Byte
  deriving DecidableEq, Repr

/-- A time replica (R15). -/
inductive ReplicaId where
  | core | gnss | port (p : Fin 16)
  deriving DecidableEq, Repr

/-- A sentence received on a TODIN (R180). -/
inductive TodSentence where
  /-- FNTD: whether its CRC holds, VERSION, LENGTH, EDGE_TIME seconds and nanoseconds, FLAGS. -/
  | fntd (crcOk : Bool) (version length sec ns flags : Nat)
  /-- ZDA: whether its checksum holds, and the UTC count, second 60 read as the second after 59. -/
  | zda (sumOk : Bool) (utc : Nat)
  deriving DecidableEq, Repr

/-- A candidate satellite (R183): system, number, predicted elevation in degrees, whether it transmits in the L5 band. -/
structure SatCand where
  sys : Nat
  prn : Nat
  elev : Int
  l5 : Bool
  deriving DecidableEq, Repr

/-- UTC parameters decoded alike from `sats` satellites of a system (R196): ΔtLS, WN_LSF modulo `modulus`, DN, ΔtLSF, and the
current week of the system. -/
structure UtcParams where
  sys : Nat
  sats : Nat
  dtLS : Int
  wnLSF : Nat
  modulus : Nat
  dn : Nat
  dtLSF : Int
  week : Nat
  deriving DecidableEq, Repr

/-- What the cores compute for a second (R185, R187, R196): the 3D solution in mm, UTC parameters, broadcast offsets in ps. -/
structure NavSecond where
  pos : Option (Int × Int × Int) := none
  utc : Option UtcParams := none
  bcast : List (Nat × Int) := []
  deriving DecidableEq, Repr

/-- A satellite as the correlators and the cores hold it (R184): number; of each band the C/N0 in 0.1 dB-Hz and the ms since the last cycle
slip; its ephemeris within the validity period of its system; flagged unhealthy. -/
structure SatObs where
  prn : Nat
  l1 : Option (Nat × Nat) := none
  l5 : Option (Nat × Nat) := none
  ephValid : Bool := true
  unhealthy : Bool := false
  deriving DecidableEq, Repr

/-- What the correlators give for one system (R184, R188, R198): its tracked satellites, and the single-system clock estimate over the usable
ones: MTS less the time of that system before `REF_DELAY`, in 2⁻¹⁶ ns, with its σ in ps. -/
structure SysEst where
  sys : Nat
  sats : List SatObs
  x : Int
  sigma : Nat
  deriving DecidableEq, Repr

/-- A weighted least-squares solution from the systems of `mask` (R188, R190): MTS less the time of `GNSS_TIME_SYSTEM` before `REF_DELAY` in
2⁻¹⁶ ns, with the inter-system offsets applied, σ in ps, d and
its σ in 10⁻¹⁵, TDOP in 0.01. -/
structure GnssSol where
  mask : Nat
  x : Int
  sigma : Nat
  d : Int
  sigmaD : Nat
  tdop : Nat
  deriving DecidableEq, Repr

/-- What the timing solver has for a second: estimates by system, solutions by set of systems, satellites tracked on L1 and the
spread of their C/N0 in 0.1 dB (R200). -/
structure TimingInput where
  est : List SysEst := []
  sols : List GnssSol := []
  tracked : Nat := 0
  spread : Nat := 0
  deriving DecidableEq, Repr

/-- A VLAN tag (R216, R217). -/
structure Tag where
  /-- S-tag (TPID 0x88A8) or C-tag (0x8100). -/
  s : Bool := false
  pcp : Nat
  vid : Nat
  deriving DecidableEq, Repr

/-- The bound TLV ("Bound TLV", R289). -/
structure BoundTlv where
  version : Nat
  scope : Bool
  unb : Bool
  m : Nat
  p : Nat
  grade : Nat
  ts : Nat
  deriving DecidableEq, Repr

/-- An AUTHENTICATION TLV (Annex P): whether it is the last TLV, its fields, and whether its ICV verifies under the key that its
SPP and keyID name. -/
structure AuthTlv where
  last : Bool := true
  spp : Nat
  keyId : Nat
  /-- disclosedKey or RES present. -/
  extra : Bool := false
  seq : Option Nat
  icvOk : Bool := true
  /-- The 16 bytes of the ICV of a message that the module seals (R292). -/
  icv : List Byte := []
  deriving DecidableEq, Repr

/-- A TLV of unicast negotiation: messageType, logInterMessagePeriod, durationField. -/
inductive UcTlv where
  | request (typ : Nat) (log : Int) (dur : Nat)
  | grant (typ : Nat) (log : Int) (dur : Nat)
  | cancel (typ : Nat)
  | ack (typ : Nat)
  | other
  deriving DecidableEq, Repr

/-- The body of an Announce (R283). -/
structure AnnounceData where
  p1 : Nat
  p2 : Nat
  cls : Nat
  acc : Nat
  var : Nat
  gm : List Byte
  steps : Nat := 0
  utcOffset : Int := 0
  src : Nat := 0xA0
  leap61 : Bool := false
  leap59 : Bool := false
  utcValid : Bool := false
  ptpScale : Bool := true
  timeTrace : Bool := false
  freqTrace : Bool := false
  deriving DecidableEq, Repr

/-- A PTP message. `typ` is messageType: 0 Sync, 1 Delay_Req, 2 Pdelay_Req, 3 Pdelay_Resp, 8 Follow_Up, 9 Delay_Resp,
10 Pdelay_Resp_Follow_Up, 11 Announce, 12 Signaling, 13 Management. Its timestamp field is a count of 2⁻¹⁶ ns. -/
structure PtpMsg where
  typ : Nat
  version : Nat := 2
  minor : Nat := 1
  sdo : Nat := 0
  domain : Nat
  unicast : Bool := false
  two : Bool := false
  seq : Nat := 0
  corr : Int := 0
  log : Int := 127
  src : List Byte
  /-- messageLength, and the PTP bytes present. -/
  len : Nat
  present : Nat
  /-- No TLV runs past messageLength (R277). -/
  tlvOk : Bool := true
  ts : Nat := 0
  /-- requestingPortIdentity. -/
  req : List Byte := []
  ann : Option AnnounceData := none
  bound : Option BoundTlv := none
  auth : Option AuthTlv := none
  uc : List UcTlv := []
  /-- The Follow_Up information TLV of a GPTP port: its cumulativeScaledRateOffset (R277). -/
  info : Option Int := none
  deriving DecidableEq, Repr

/-- An NTP extension field (R317): type, the length it states, and what its body holds. -/
inductive ExtBody where
  | plain
  /-- The body of a Unique Identifier field. -/
  | uid (b : List Byte)
  /-- A cookie: bytes of its body, VERSION, LINEAGE, EPOCH, and C2S then S2C where it decrypts under that epoch's key. -/
  | cookie (len version lineage epoch : Nat) (keys : Option (List Byte))
  /-- An authenticator: Nonce Length, Ciphertext Length, whether that fits the field, whether it verifies under the cookie's C2S
  key, bytes of plaintext, and the type and length of each field in it. -/
  | auth (nonce ct : Nat) (fits verifies : Bool) (ptLen : Nat) (inner : List (Nat × Nat))
  deriving DecidableEq, Repr

structure ExtField where
  typ : Nat
  len : Nat
  body : ExtBody := .plain
  deriving DecidableEq, Repr

/-- An NTP request (R316): bytes of its IP header, of the packet as that header states them, of the packet present; the UDP length;
whether the checksum holds; the header; the fields after it. -/
structure NtpReq where
  ipHead : Nat := 20
  ipLen : Nat := 76
  present : Nat := 76
  udpLen : Nat := 56
  csumOk : Bool := true
  vn : Nat := 4
  mode : Nat := 3
  poll : Nat := 0
  xmt : Nat := 0
  ext : List ExtField := []
  deriving DecidableEq, Repr

/-- An NTP response ("Response header"); timestamps of 64 bits. -/
structure NtpResp where
  li : Nat
  vn : Nat
  stratum : Nat
  poll : Nat
  disp : Nat
  refId : Nat
  ref : Nat
  org : Nat
  rcv : Nat
  xmt : Nat := 0
  /-- Body of the Unique Identifier field, if any (R326). -/
  uid : Option (List Byte) := none
  /-- What the authenticator seals: new cookies, and the bound field's flags, grade, state and two pairs. -/
  cookies : List (List Byte) := []
  bound : Option (Nat × Nat × Nat × Int × Int) := none
  /-- The authenticator's nonce and its ciphertext, the synthetic IV first. -/
  auth : Option (List Byte × List Byte) := none
  deriving DecidableEq, Repr

/-- What a frame carries above its addresses and tags. -/
inductive Body where
  | other
  /-- An ESMC PDU (R154): whether it parses, its SSM code, its enhanced code (0 none) and its cascade count. -/
  | esmc (valid : Bool) (ql : Fin 16) (ecode cascade : Fin 256)
  /-- An ARP request or Neighbor Solicitation for an address. -/
  | ask (v6 : Bool) (target : List Byte)
  /-- An answer to one, or an unsolicited announcement. -/
  | tell (v6 : Bool) (target : List Byte) (mac : Nat)
  | pause (quanta : Nat)
  | pfc (classes : List (Nat × Nat))
  | macCtrl (opcode : Nat)
  | ptp (m : PtpMsg)
  | ntpReq (r : NtpReq)
  | ntp (r : NtpResp)
  | bytes (b : List Byte)
  deriving DecidableEq, Repr

/-- IP header and UDP ports; IPv4 addresses in bytes 12–15; the UDP checksum field of a
received frame; of one that the module originates, 0, or 1 for the full checksum (R280). -/
structure IpHdr where
  v6 : Bool := false
  src : List Byte
  dst : List Byte
  fragment : Bool := false
  udp : Option (Nat × Nat) := none
  csum : Nat := 0
  deriving DecidableEq, Repr

/-- A frame: MAC addresses as numbers, tags outermost first, Length/Type after the tags. -/
structure Frame where
  dst : Nat
  src : Nat
  tags : List Tag := []
  etherType : Nat
  ip : Option IpHdr := none
  body : Body := .other
  deriving DecidableEq, Repr

/-- What the PCS counts of a stamped frame (R208): the boundary of the block or code group that carries its SFD, by the port replica, in
2⁻¹⁶ ns; the bit of it after which the SFD has ended; the phase of the word clock in 1/64 UI; and the bits of latency that vary from
frame to frame: gearbox, codeword, alignment markers. -/
structure PcsPlace where
  bit : Nat := 0
  phase : Nat := 0
  gearbox : Nat := 0
  codeword : Nat := 0
  marker : Nat := 0
  deriving DecidableEq, Repr
structure PcsStamp where
  block : Nat
  place : PcsPlace := {}
  deriving DecidableEq, Repr

/-- What a PCS reports with its link: the port, and in SGMII the speed in Mb/s and the duplex of the control word (R205). -/
structure LinkReport where
  port : Fin 17
  speed : Nat := 1000
  full : Bool := true
  deriving DecidableEq, Repr

/-- What the inputs show at an epoch boundary: at a whole MTS second, per port the average over that second of the ratio of recovered clock
to TCLK less 1, in 10⁻¹⁵ (R129); and the channels whose prescaler has seen no edge for two nominal input periods (R134). -/
structure BoundaryIn where
  ratios : List (Nat × Int) := []
  silent : List Nat := []
  deriving DecidableEq, Repr

/-- How a frame's reception ends (R213): length from the destination address through the FCS; FCS; an error character or invalid code
group inside, or cut short; code errors since the last report. -/
structure RxEnd where
  len : Nat
  fcsOk : Bool := true
  codeError : Bool := false
  symbols : Nat := 0
  /-- Bytes received before the first of them. -/
  good : Nat := 0
  deriving DecidableEq, Repr

/-- A buffer error (R254): correctable, uncorrectable in a cell of the copy being read by a port, or in a descriptor or link word. -/
inductive BufEcc where
  | correctable
  | cell (out : Fin 16)
  | descriptor
  deriving DecidableEq, Repr

/-- An IOMMU window ("IOMMU window", R431). -/
structure IommuWindow where
  iova : Nat
  phys : Nat
  size : Nat
  read : Bool
  write : Bool
  deriving DecidableEq, Repr

/-- What firmware does before it starts or restarts a DMA channel: it writes the channel's windows, the bytes of its descriptors and buffers
at system addresses, and the IOVA of the first descriptor (R430, R431). -/
structure DmaSetup where
  windows : List IommuWindow
  stores : List (Nat × List Byte)
  first : Nat
  deriving DecidableEq, Repr

/-- An access on the bus matrix: master ID, system address, 1 read, 2 write, 3 instruction fetch. -/
structure BusAccess where
  master : Nat
  address : Nat
  access : Nat
  deriving DecidableEq, Repr

/-- A request that a stopped service core held (R447): OP 1 READ, 2 WRITE, 3 COMMAND; its object. -/
structure HeldReq where
  op : Nat
  index : Nat
  sub : Nat
  req : Req
  deriving DecidableEq, Repr

/-- What the sampling hardware sees of the instruction that retires at zero ("Sample entry", R452). -/
structure SampleIn where
  core : Nat
  branch : Bool
  excepted : Bool
  truncated : Bool
  task : Nat
  latency : Nat
  address : Nat
  opcode : Nat
  stack : List Nat
  deriving DecidableEq, Repr

/-- A session entry as the Hinge mirrors it (R303, R476): the fields of "Session entry". -/
structure MirrorEntry where
  index : Nat
  state : Nat
  inst : Nat
  port : Nat
  v6 : Bool
  tags : List Tag
  vlan : Nat
  mac : Nat
  addr : List Byte
  peerId : List Byte
  svc : Nat
  sa : Nat
  logSync : Int
  logAnn : Int
  logDresp : Int
  syncG : Bool
  annG : Bool
  drespG : Bool
  two : Bool
  syncExp : Nat
  annExp : Nat
  drespExp : Nat
  seqSync : Nat
  seqAnn : Nat
  nextSync : Nat
  nextAnn : Nat
  gen : Nat
  deriving DecidableEq, Repr

/-- A journal entry of the active as the Hinge mirrors it (R477). -/
structure MirrorJournal where
  seq : Nat
  kind : Nat
  result : Nat
  session : Nat
  credential : Nat
  index : Nat
  sub : Nat
  flags : Nat
  group : Nat
  old : List Byte
  oldLen : Nat
  new : List Byte
  newLen : Nat
  deriving DecidableEq, Repr

/-- What a Hinge frame carries ("Hinge traffic"; R354, R472–R485). -/
inductive HingeBody where
  /-- Health word; it holds the role and `PAIR_HOME` (R472). -/
  | heartbeat (word : Nat)
  /-- `NTS_EPOCH`, `NTS_NEXT_ROTATE` as a count of 2⁻¹⁶ ns, `NTS_ROTATE`. -/
  | keys (epoch nextRotate rotate : Nat)
  | session (e : MirrorEntry)
  /-- Updates that found the mirror queue full. -/
  | overflow (n : Nat)
  | journal (e : MirrorJournal)
  /-- Handover: instant S in seconds of MTS. -/
  | request (sec : Nat)
  | accept (sec : Nat)
  | refuse
  /-- Bonding: the peer's certificate: whether its chain verifies, the first 8 bytes of its digest, the peer's life-cycle state. -/
  | bondCert (chainOk : Bool) (digest : List Byte) (lc : Nat)
  /-- Bonding: the peer's ephemeral key: whether its signature verifies, and the ECDH shared value. -/
  | bondKey (sigOk : Bool) (shared : Nat)
  deriving DecidableEq, Repr

/-- A zeroize of a slot: the request, and whether the slot's tag is right when it is checked (R345, R346). -/
structure ZeroizeIn where
  req : Req
  tagOk : Bool
  deriving DecidableEq, Repr

/-- How a read of the SD card ends (R506). -/
inductive SdResult where
  | image (bytes : List Byte)
  | readError | noFile | unsupported
  deriving DecidableEq, Repr

/-- The commands and events of the table (one per row). -/
inductive Instr where
  /-- EPOCH_BOUNDARY (R136). What the inputs show at it. -/
  | epochBoundary (x : BoundaryIn)
  /-- SYNC_STROBE (R21). Replica, and the correction in ps (a step excluded, R48). -/
  | syncStrobe (r : ReplicaId) (corr : Int)
  /-- REPLICA_STROBE_TIMEOUT (R18). -/
  | replicaStrobeTimeout (r : ReplicaId)
  /-- STROBE_REMEASURE (R16). Replica, and the measured delay in ps. -/
  | strobeRemeasure (r : ReplicaId) (delay : Nat)
  /-- LOOP_MODE (R42). -/
  | loopMode (q : Req)
  /-- INCR_WRITE (R43). -/
  | incrWrite (q : Req)
  /-- LOOP_INCR_APPLY (R40). -/
  | loopIncrApply
  /-- STEP_APPLY (R50). -/
  | stepApply (q : Req)
  /-- SET_TIME (R50). -/
  | setTime (q : Req)
  /-- STEP_TICK (R48). -/
  | stepTick
  /-- CAPTURE (R32). The command, and the keep ticks since the keep count was last told. -/
  | capture (q : Req) (keep : Nat)
  /-- LEAP_INSTANT_REACHED (R60). -/
  | leapInstantReached
  /-- KEEP_RECORD_WRITE (R62). Keep ticks since the keep count was last told. -/
  | keepRecordWrite (keep : Nat)
  /-- KEEP_FREQ_LEARN (R63). Keep ticks since the keep count was last told. -/
  | keepFreqLearn (keep : Nat)
  /-- TS_LOCKED (R34). -/
  | tsLocked
  /-- MEASUREMENT_ARRIVAL (R79). The reference whose oldest waiting measurement arrives. -/
  | measurementArrival (r : Fin 30)
  /-- BOUND_GRADE_DWELL (R94). -/
  | boundGradeDwell
  /-- REF_FREQ_UNC_VIOL_EXPIRY (R87). -/
  | refFreqUncViolExpiry
  /-- TDC_EDGE (R99). Channel, and the count of the measuring core; T_p is the present tick. -/
  | tdcEdge (c : Fin 16) (k : Fin 2560)
  /-- TDC_WINDOW_MAX (R114). -/
  | tdcWindowMax (c : Fin 16)
  /-- TDC_CAL_HISTOGRAM_DONE (R102). Hits per bin, and the first and the last on-die conversion from the first hit to the last, in 1/1,024 °C;
  those between are held (R121). -/
  | tdcCalHistogramDone (c : Fin 16) (hits : List Nat) (dieFirst dieLast : Int)
  /-- TDC_CORE_SWAP (R103). -/
  | tdcCoreSwap (c : Fin 16)
  /-- TDC_CAL_FAILED (R105). -/
  | tdcCalFailed (c : Fin 16)
  /-- TDC_SOURCE (R108). Channel, field 01 to 06 less 1, and the write. -/
  | tdcSource (c : Fin 16) (f : Fin 6) (q : Req)
  /-- SENSOR_CONVERSION (R121). The two readings in 1/1,024 °C. -/
  | sensorConversion (xo die : Int)
  /-- REF_MODE (R126). Reference and the write. -/
  | refMode (r : Fin 30) (q : Req)
  /-- REF_USE (R128). Reference and the write. -/
  | refUse (r : Fin 30) (q : Req)
  /-- REF_QUALIFIED (R133). -/
  | refQualified (r : Fin 30)
  /-- REF_LOST (R134). -/
  | refLost (r : Fin 30)
  /-- REF_WTR_EXPIRY (R139). -/
  | refWtrExpiry (r : Fin 30)
  /-- REF_DISQUAL_HOLD_EXPIRY (R135). -/
  | refDisqualHoldExpiry (r : Fin 30)
  /-- BUILD_OUT_TIMEOUT (R140). -/
  | buildOutTimeout
  /-- FREQ_SWITCH_DONE (R143). -/
  | freqSwitchDone
  /-- DISPUTE_BEGIN (R144). The pair, a below b. -/
  | disputeBegin (a b : Fin 30)
  /-- DISPUTE_END (R144). -/
  | disputeEnd (a b : Fin 30)
  /-- DISPUTE_UNRESOLVED (R145). -/
  | disputeUnresolved (a b : Fin 30)
  /-- LEARN_POINT (R147). -/
  | learnPoint
  /-- ATOM_STEER_UPDATE (R150). -/
  | atomSteerUpdate
  /-- ATOM_PROFILE (R153). -/
  | atomProfile (q : Req)
  /-- ATOM_STATUS_POLL (R151). -/
  | atomStatusPoll
  /-- ATOM_STATUS_RESPONSE (R152). The bytes received on ATOM_RX. -/
  | atomStatusResponse (bytes : List Byte)
  /-- ATOM_RESP_TIMEOUT (R151). -/
  | atomRespTimeout
  /-- ATOM_LOCK_CHANGE (R152). The level of ATOM_LOCK. -/
  | atomLockChange (high : Bool)
  /-- ESMC_PDU_RX (R154). Port; whether the PDU parses; SSM code, enhanced code (0 none) and cascade count. -/
  | esmcPduRx (p : Fin 16) (valid : Bool) (ql : Fin 16) (ecode : Fin 256) (cascade : Fin 256)
  /-- ESMC_INFO_TX (R154). -/
  | esmcInfoTx (p : Fin 16)
  /-- ESMC_QL_FAILED (R154). -/
  | esmcQlFailed (p : Fin 16)
  /-- DPLL_MODE (R156). DPLL and the write. -/
  | dpllMode (n : Fin 4) (q : Req)
  /-- APLL_SEARCH_STEP (R161). Result of the comparison of steps 1 to 6, and of step 7: 0 within range, 1 outer low, 2 outer high. -/
  | apllSearchStep (n : Fin 4) (higher : Bool) (outer : Fin 3)
  /-- APLL_LOCK_WINDOW (R161). Difference of the counts. -/
  | apllLockWindow (n : Fin 4) (diff : Nat)
  /-- CLK_ENABLE (R165). -/
  | clkEnable (c : Fin 12) (q : Req)
  /-- CLK_SQUELCH (R167). -/
  | clkSquelch (c : Fin 12)
  /-- CLK_SYNC (R168). -/
  | clkSync (c : Fin 12) (q : Req)
  /-- PULSE_EDGE_COMMIT (R170). 0 to 3 the native generators, 4 to 11 PG0 to PG7. -/
  | pulseEdgeCommit (o : Fin 12)
  /-- PULSE_EDGE_EMIT (R171). -/
  | pulseEdgeEmit (o : Fin 12)
  /-- PPS_OFFSET (R172). -/
  | ppsOffset (n : Fin 4) (q : Req)
  /-- PG_ARM (R174). -/
  | pgArm (g : Fin 8) (q : Req)
  /-- PG_MODE (R177). -/
  | pgMode (g : Fin 8) (q : Req)
  /-- PG_ROUTE (R177). -/
  | pgRoute (g : Fin 8) (q : Req)
  /-- ALIGN_WINDOW_MISS (R175). -/
  | alignWindowMiss (g : Fin 8)
  /-- TOD_SENTENCE_START (R178). -/
  | todSentenceStart (t : Fin 2)
  /-- TODIN_SENTENCE (R180). The sentence, and the ticks since its first start bit. -/
  | todinSentence (t : Fin 2) (x : TodSentence) (ago : Nat)
  /-- GNSS_CHAN_ALLOC (R183). Candidates as predicted. -/
  | gnssChanAlloc (cands : List SatCand)
  /-- GNSS_SURVEY_START (R185). -/
  | gnssSurveyStart (q : Req)
  /-- GNSS_NAV_SECOND (R187). -/
  | gnssNavSecond (n : NavSecond)
  /-- GNSS_TIMING_SOLUTION (R188). -/
  | gnssTimingSolution (x : TimingInput)
  /-- GNSSPPS_EDGE (R192). -/
  | gnssppsEdge
  /-- ISB_INVALID_TIMEOUT (R195). -/
  | isbInvalidTimeout (q : Fin 4)
  /-- ANT_CURRENT_SAMPLE (R197). Current in 0.1 mA, and the µs for which it has exceeded the limit. -/
  | antCurrentSample (cur : Nat) (aboveUs : Nat)
  /-- ANT_SUPPLY_RETRY (R197). -/
  | antSupplyRetry
  /-- GNSS_EXCLUDE_EXPIRY (R198). -/
  | gnssExcludeExpiry (sys : Fin 5)
  /-- GNSS_NOISE_MEASURE (R199). Noise rise per band in 0.1 dB. -/
  | gnssNoiseMeasure (l1 l5 : Int)
  /-- GNSS_SNAP_ARM (R201). -/
  | gnssSnapArm (q : Req)
  /-- GNSS_SNAP_START (R201). -/
  | gnssSnapStart
  /-- GNSS_SNAP_COMPLETE (R202). The samples, gains, local oscillators and rate offset of the header. -/
  | gnssSnapComplete (data : List Byte) (agc1 agc2 lo1 lo5 : Nat) (rate : Int)
  /-- PORT_MODE (R206). -/
  | portMode (q : Req) (p : Fin 16)
  /-- PORT_FEC (R204). -/
  | portFec (q : Req) (p : Fin 16)
  /-- MAX_FRAME (R214). -/
  | maxFrame (q : Req)
  /-- FRAME_HEAD_ARRIVAL (R242). Port (16 MGMT), the frame, and what the PCS counts of its stamp (R208). -/
  | frameHeadArrival (p : Fin 17) (f : Frame) (x : PcsStamp)
  /-- RX_FRAME (R213). The frame in reception on the port ends. -/
  | rxFrame (p : Fin 17) (e : RxEnd)
  /-- PAUSE_EXPIRY (R222). -/
  | pauseExpiry (p : Fin 16)
  /-- BACKPRESSURE_REPEAT (R236). -/
  | backpressureRepeat (p : Fin 16)
  /-- TX_FRAME_START (R219). Port (16 MGMT), and what the PCS counts of the egress stamp: its block boundary and the place in it (R208). -/
  | txFrameStart (p : Fin 17) (block : Nat) (place : PcsPlace)
  /-- CT_UNDERRUN (R225). -/
  | ctUnderrun (p : Fin 16)
  /-- CT_RUNG_DOWN (R226). -/
  | ctRungDown (p : Fin 16)
  /-- CT_LADDER_RESET (R226). -/
  | ctLadderReset (q : Req) (p : Fin 16)
  /-- LINK_DOWN (R227). -/
  | linkDown (p : Fin 17)
  /-- LINK_UP (R228). The port (16 MGMT), and what its PCS reports. -/
  | linkUp (x : LinkReport)
  /-- PORT_CLOSE (R229). -/
  | portClose (p : Fin 17)
  /-- SWITCH_CELL_SLOT (R239). Bytes received so far of the frame in reception, by port; cells the egress MAC has taken from its FIFO since the last slot, by port. -/
  | switchCellSlot (rx : List (Fin 16 × Nat)) (tx : List (Fin 16 × Nat))
  /-- REPLICATE_FRAME (R241). -/
  | replicateFrame (p : Fin 16)
  /-- FDB_AGE_EXPIRY (R243). -/
  | fdbAgeExpiry (mac vid : Nat)
  /-- FDB_WRITE (R245). -/
  | fdbWrite (q : Req)
  /-- FDB_FLUSH (R246). -/
  | fdbFlush (q : Req)
  /-- VLAN_WRITE (R245). -/
  | vlanWrite (q : Req)
  /-- TABLE_WRITE_RETURN (R247). -/
  | tableWriteReturn (vlan : Bool)
  /-- TABLE_GEN_TIMEOUT (R247). -/
  | tableGenTimeout (vlan : Bool)
  /-- BUF_ECC_ERROR (R254). -/
  | bufEccError (e : BufEcc)
  /-- CRYPTO_OP_COMPLETE (R25). The operation's tag. -/
  | cryptoOpComplete (tag : Nat)
  /-- SLOT_WAIT_TIMEOUT (R262). -/
  | slotWaitTimeout (p : Fin 16)
  /-- SILL_READY_DEADLINE (R263). Port and slot. -/
  | sillReadyDeadline (p : Fin 16) (n : Fin 64)
  /-- SILL_PREAMBLE_START (R266). Port and slot. -/
  | sillPreambleStart (p : Fin 16) (n : Fin 64)
  /-- SILL_LAUNCH (R261). Port, slot, and what the PCS counts of the stamp of the SFD (R208). -/
  | sillLaunch (p : Fin 16) (n : Fin 64) (x : PcsStamp)
  /-- LEAD_ADAPT_WINDOW (R264). -/
  | leadAdaptWindow (p : Fin 16)
  /-- LEAD_LIMITS (R265). 0 `LEAD_DEFAULT`, 1 `LEAD_MIN`, 2 `LEAD_MAX`. -/
  | leadLimits (q : Req) (p : Fin 16) (f : Fin 3)
  /-- PTP_SYNC_RX (R308). -/
  | ptpSyncRx (p : Fin 16)
  /-- PTP_FOLLOW_UP_RX (R277). -/
  | ptpFollowUpRx (p : Fin 16)
  /-- PTP_DELAY_REQ_RX (R300). -/
  | ptpDelayReqRx (p : Fin 16)
  /-- PTP_DELAY_RESP_RX (R308). -/
  | ptpDelayRespRx (p : Fin 16)
  /-- PTP_PDELAY_REQ_RX (R278). -/
  | ptpPdelayReqRx (p : Fin 16)
  /-- PTP_PDELAY_RESP_RX (R277). -/
  | ptpPdelayRespRx (p : Fin 16)
  /-- PTP_ANNOUNCE_RX (R286). -/
  | ptpAnnounceRx (p : Fin 16)
  /-- REQUEST_UNICAST_TRANSMISSION (R297). -/
  | requestUnicastTransmission (p : Fin 16)
  /-- CANCEL_UNICAST_TRANSMISSION (R299). -/
  | cancelUnicastTransmission (p : Fin 16)
  /-- GRANT_UNICAST_TRANSMISSION (R302). -/
  | grantUnicastTransmission (p : Fin 16)
  /-- SYNC_DUE (R281). Of the L2 port of an instance, or of a session. -/
  | syncDue (k : Fin 4) (p : Fin 16) (j : Option (Fin 131072))
  /-- ANNOUNCE_DUE (R281). Of the L2 port of an instance, or of a session. -/
  | announceDue (k : Fin 4) (p : Fin 16) (j : Option (Fin 131072))
  /-- BMCA_DECISION (R286). -/
  | bmcaDecision (k : Fin 4)
  /-- ANNOUNCE_RECEIPT_TIMEOUT (R287). -/
  | announceReceiptTimeout (k : Fin 4) (p : Fin 16)
  /-- GRANT_EXPIRY (R299). -/
  | grantExpiry (j : Fin 131072)
  /-- SESSION_CANCEL (R299). -/
  | sessionCancel (q : Req)
  /-- UC_REQ_STALE (R301). -/
  | ucReqStale (p : Fin 16)
  /-- UC_RENEW_DUE (R302). -/
  | ucRenewDue (k : Fin 4)
  /-- SA_KEY_ROLL (R295). -/
  | saKeyRoll (a : Fin 32)
  /-- SA_OVERLAP_EXPIRY (R295). -/
  | saOverlapExpiry (a : Fin 32)
  /-- SHED_FACTOR_UPDATE (R307). -/
  | shedFactorUpdate
  /-- INST_ENABLE (R273). 0 `INST_ENABLE`, 1 `INST_PROFILE`, 2 `INST_DOMAIN`. -/
  | instEnable (q : Req) (k : Fin 4) (f : Fin 3)
  /-- NTP_REQUEST_RX (R318). -/
  | ntpRequestRx (p : Fin 16)
  /-- NTP_REQUEST_PARSE (R316). -/
  | ntpRequestParse (p : Fin 16)
  /-- NTS_EPOCH_ROTATION (R330). -/
  | ntsEpochRotation
  /-- NTS_REVOKE (R331). -/
  | ntsRevoke (q : Req)
  /-- NTS_COOKIE_SEAL (R332). The command, and what unwrapping WRAPPED_KEYS gives where it succeeds. -/
  | ntsCookieSeal (q : Req) (keys : Option (List Byte))
  /-- NTP_SHUT_ORDER (R338). -/
  | ntpShutOrder (p : Fin 16)
  /-- PUF_REGENERATE (R339). Attempts made, whether the last one matched the check tag, the bits it corrected in 10⁻⁴, slots whose check tag fails (R346). -/
  | pufRegenerate (attempts : Nat) (ok : Bool) (ber : Nat) (bad : List Nat)
  /-- KEY_IMPORT (R344). The request, whether AES-SIV unwraps the key, and the key. -/
  | keyImport (q : Req) (unwrapOk : Bool) (material : Nat)
  /-- KEY_GENERATE (R344). -/
  | keyGenerate (q : Req)
  /-- KEY_ZEROIZE (R345). The request, and the check of the slot's tag. -/
  | keyZeroize (x : ZeroizeIn)
  /-- KEY_SLOT_CHECK (R346). Slots whose tag fails, the attributes' tag included (R371). -/
  | keySlotCheck (bad : List Nat)
  /-- DRBG_RESEED (R348). 0 healthy, 1 the repetition-count test failed, 2 the adaptive-proportion test. -/
  | drbgReseed (failed : Nat)
  /-- DRBG_RESTART_DONE (R348). -/
  | drbgRestartDone
  /-- LC_TRANSITION (R350). -/
  | lcTransition (q : Req)
  /-- JTAG_FIRST_TCK (R353). -/
  | jtagFirstTck
  /-- PAIR_BOND (R354). -/
  | pairBond (q : Req)
  /-- PAIR_BOND_TIMEOUT (R355). -/
  | pairBondTimeout
  /-- PAIR_LINEAGE_APPLY (R354). -/
  | pairLineageApply
  /-- PAIR_UNBOND (R355). -/
  | pairUnbond (q : Req)
  /-- TAMPER_ALARM (R357). Source, and the keep ticks since the keep count was last told. -/
  | tamperAlarm (src : Fin 8) (keep : Nat)
  /-- TAMPER_ACK (R363). -/
  | tamperAck (q : Req)
  /-- KEEP_VOLT_ARM (R489). -/
  | keepVoltArm
  /-- WRITE_FRAME (R368). The frame, and whether HSPI_CS_N rose after exactly LENGTH bytes. -/
  | writeFrame (frame : List Byte) (agree : Bool)
  /-- READ_FRAME (R368). Whether the host clocked the whole frame out. -/
  | readFrame (whole : Bool)
  /-- READ_STATUS (R367). -/
  | readStatus
  /-- OPEN_REQ (R372). The frame, its KEY_ID and client nonce. -/
  | openReq (h : FrameHdr) (keyId nonce : Nat)
  /-- CLOSE (R374). -/
  | close (h : FrameHdr) (sess : Nat)
  /-- READ (R409). -/
  | read (q : Req) (index sub : Nat)
  /-- WRITE (R408). -/
  | write (q : Req) (index sub : Nat)
  /-- GROUP_OPEN (R384). -/
  | groupOpen (q : Req)
  /-- GROUP_ADD (R385). -/
  | groupAdd (q : Req) (index sub : Nat)
  /-- GROUP_COMMIT (R386). -/
  | groupCommit (q : Req)
  /-- GROUP_ABORT (R389). -/
  | groupAbort (q : Req)
  /-- LATCH_CLAIM (R380). -/
  | latchClaim (q : Req)
  /-- LATCH_RENEW (R381). -/
  | latchRenew (q : Req)
  /-- LATCH_HAND (R382). -/
  | latchHand (q : Req)
  /-- LATCH_RELEASE (R382). -/
  | latchRelease (q : Req)
  /-- ENROL_REQ (R390). The frame, the client's point and nonce, the ECDH shared value. -/
  | enrolReq (h : FrameHdr) (point : List Byte) (nonce shared : Nat)
  /-- ENROL_KEY (R390). The frame, its KEY_IMPORT argument, whether it unwraps, and the key. -/
  | enrolKey (h : FrameHdr) (value : List Byte) (unwrapOk : Bool) (material : Nat)
  /-- ENROL_TIMEOUT (R390). -/
  | enrolTimeout
  /-- SESSION_PENDING_TIMEOUT (R374). Session sess + 1. -/
  | sessionPendingTimeout (sess : Fin 16)
  /-- SESSION_IDLE_TIMEOUT (R374). Session sess + 1. -/
  | sessionIdleTimeout (sess : Fin 16)
  /-- LATCH_ELECTION_END (R380). -/
  | latchElectionEnd
  /-- LATCH_LEASE_EXPIRY (R381). -/
  | latchLeaseExpiry
  /-- GROUP_STAGE (R387). -/
  | groupStage (id : Nat)
  /-- GROUP_APPLY (R387). -/
  | groupApply
  /-- JOURNAL_EPOCH_CLOSE (R394). -/
  | journalEpochClose
  /-- JOURNAL_TAIL_COPY (R396). -/
  | journalTailCopy
  /-- JOURNAL_ENTRIES_READ (R395). -/
  | journalEntriesRead (q : Req)
  /-- JOURNAL_KEY_READ (R394). -/
  | journalKeyRead (q : Req)
  /-- STAT_SNAPSHOT (R419). -/
  | statSnapshot
  /-- CONFIG_STORE (R403). -/
  | configStore
  /-- DRAM_TRAINING (R423). Whether training succeeds with the stored geometry, and with the default one. -/
  | dramTraining (ok retryOk : Bool)
  /-- DRAM_FILL_DONE (R424). -/
  | dramFillDone
  /-- REMAP_BIT_SET (R426). -/
  | remapBitSet
  /-- DECODE_FAULT (R429). -/
  | decodeFault (a : BusAccess)
  /-- DMA_DESCRIPTOR (R430). Channel, firmware's setup of an idle or halted channel, bursts that the matrix grants. -/
  | dmaDescriptor (d : Fin 8) (fw : Option DmaSetup) (bursts : Nat)
  /-- ECC_CORRECTABLE (R435). A single-bit error; with retries, a DRAM command that succeeded after so many parity errors (R435). -/
  | eccCorrectable (a : BusAccess) (retries : Fin 4)
  /-- ECC_UNCORRECTABLE (R436). Whether a fourth parity failure of the command made it so (R435). -/
  | eccUncorrectable (a : BusAccess) (parity : Bool)
  /-- CE_BUCKET_LEAK (R437). -/
  | ceBucketLeak (r : Fin 10)
  /-- SCRUB_READ (R439). 0 DDR0, 1 DDR1, 2 working SRAM, 3 boot ROM. -/
  | scrubRead (m : Fin 4)
  /-- SCRUB_FORCED (R439). -/
  | scrubForced (ch : Fin 2)
  /-- REMAP_COPY_DONE (R440). -/
  | remapCopyDone (entry : Nat)
  /-- REMAP_CLEAR (R441). -/
  | remapClear (q : Req)
  /-- SCHED_FRAME (R443). Work offered in the frame by task class, in µs of core time. -/
  | schedFrame (work : List (Nat × Nat))
  /-- CORE_WATCHDOG (R447). -/
  | coreWatchdog (n : Fin 4) (held : Option HeldReq)
  /-- TIME_CORE_WATCHDOG (R448). -/
  | timeCoreWatchdog
  /-- CORE_RESTART_DONE (R447). -/
  | coreRestartDone (n : Fin 5)
  /-- PMC_SEL (R450). Core and counter. -/
  | pmcSel (q : Req) (n : Fin 5) (j : Fin 8)
  /-- PMC_SNAPSHOT (R451). -/
  | pmcSnapshot (q : Req) (n : Fin 5)
  /-- INSTR_SAMPLE (R452). The sample, and the awaiting entries the bus has written since the last one. -/
  | instrSample (x : SampleIn) (written : Nat)
  /-- SAMPLE_PAGE_READ (R453). -/
  | samplePageRead (q : Req) (page : Fin 16)
  /-- FAULT_RAISE (R456). Source, base class, DETAIL and the captured access. -/
  | faultRaise (src base : Nat) (detail : Nat) (a : Option BusAccess)
  /-- FAULT_LEVEL_DECAY (R461). -/
  | faultLevelDecay (src : Nat)
  /-- FAULT_WINDOW_EXPIRY (R461). -/
  | faultWindowExpiry (src : Nat)
  /-- UNIT_RESTART_TIMEOUT (R457). -/
  | unitRestartTimeout (unit : Nat)
  /-- COLLECTOR_MISMATCH (R467). -/
  | collectorMismatch
  /-- FAULT_CLEAR (R465). -/
  | faultClear (q : Req)
  /-- FAULT_OVERRIDES (R462). -/
  | faultOverrides (q : Req)
  /-- PAIR_ENABLE (R471). -/
  | pairEnable (q : Req)
  /-- HINGE_FRAME_RX (R472). -/
  | hingeFrameRx (tagged tagOk : Bool) (b : HingeBody)
  /-- HINGE_HEARTBEAT_TX (R472). -/
  | hingeHeartbeatTx
  /-- HINGE_DOWN_TIMEOUT (R472). -/
  | hingeDownTimeout
  /-- HINGE_UP (R472). -/
  | hingeUp
  /-- HINGE_TIME_EXCHANGE (R473). Stamps of R473 in 2⁻¹⁶ ns, and the active's epoch bound as a BOUND80 code. -/
  | hingeTimeExchange (t1 t2 t3 t4 : Int) (bound : Nat)
  /-- HINGE_MEASUREMENT (R473). -/
  | hingeMeasurement
  /-- MIRROR_RESYNC_DONE (R476). -/
  | mirrorResyncDone
  /-- PRBS_SELFTEST (R479). -/
  | prbsSelftest (p : Fin 16) (errors : Nat)
  /-- CRYPTO_KAT (R479). -/
  | cryptoKat (ok : Bool)
  /-- ACTIVE_IN_CHANGE (R482). -/
  | activeInChange (level : Bool)
  /-- START_ROLE_DWELL (R484). -/
  | startRoleDwell
  /-- PAIR_WTR_EXPIRY (R485). -/
  | pairWtrExpiry
  /-- PAIR_HANDOVER (R485). -/
  | pairHandover (q : Req)
  /-- HANDOVER_INSTANT (R486). -/
  | handoverInstant
  /-- HANDOVER_ARB_TIMEOUT (R486). -/
  | handoverArbTimeout
  /-- HOME_CONFLICT (R486). -/
  | homeConflict
  /-- VIN_VALID (R490). VIN in mV, and the keep ticks since the keep count was last told. -/
  | vinValid (vin keep : Nat)
  /-- IMAGE_VERIFY (R511). Whether bank A and bank B verify under R511. -/
  | imageVerify (okA okB : Bool)
  /-- CONFIG_LOAD (R403). -/
  | configLoad
  /-- TIME_RESUME (R64). Keep ticks since the keep count was last told. -/
  | timeResume (keep : Nat)
  /-- SERVICE_OPEN (R496). -/
  | serviceOpen
  /-- SHUTTER_CLOSE (R498). VIN in mV as filtered (R487), mean input power in mW (R498). -/
  | shutterClose (vin power : Nat)
  /-- SHUTTER_REOPEN (R498). VIN in mV and mean input power in mW over the last second. -/
  | shutterReopen (vin power : Nat)
  /-- OVERVOLTAGE_STOP (R488). -/
  | overvoltageStop (vin : Nat)
  /-- OVERVOLTAGE_RESTART (R488). -/
  | overvoltageRestart (vin keep : Nat)
  /-- RAIL_FAULT (R491). -/
  | railFault (rail : Fin 8) (mv : Nat)
  /-- RESET_ASSERT (R492). Time RESET_N has been low, and whether a pulse of 500 ns to 1 µs is recognised. -/
  | resetAssert (ns : Nat) (taken : Bool)
  /-- RESET_RELEASE (R492). -/
  | resetRelease (keep : Nat)
  /-- POWER_STAGE_STOP (R494). -/
  | powerStageStop (vin : Nat)
  /-- KEEP_PORTS (R501). -/
  | keepPorts (q : Req)
  /-- START_ADMIT (R502). -/
  | startAdmit
  /-- START_ADMIT_TIMEOUT (R502). -/
  | startAdmitTimeout
  /-- SD_CARD_DETECT (R506). -/
  | sdCardDetect
  /-- SD_READ_DONE (R506). -/
  | sdReadDone (r : SdResult)
  /-- UPD_STAGE_TRANSOM (R507). -/
  | updStageTransom (q : Req)
  /-- STAGE_VERIFY_DONE (R508). Whether certificate and SIGNATURE verify, and whether a COSIGNATURE present verifies under slot 4 (R504). -/
  | stageVerifyDone (slot : Fin 2) (sigOk cosigOk : Bool)
  /-- UPD_INSTALL (R510). -/
  | updInstall (q : Req)
  /-- INSTALL_DONE (R510). -/
  | installDone (ok : Bool)
  /-- UPD_ACTIVATE (R513). -/
  | updActivate (q : Req)
  /-- UPD_ACTIVATION (R514). -/
  | updActivation
  /-- UPD_CANCEL (R513). -/
  | updCancel (q : Req)
  /-- UPD_ROLLBACK (R516). The request, and whether the inactive bank verifies under R511. -/
  | updRollback (q : Req) (bankOk : Bool)
  /-- UPD_DISCARD (R508). -/
  | updDiscard (q : Req)
  /-- UPD_TRIAL_EXPIRY (R516). -/
  | updTrialExpiry
  /-- UNIT_RESTART_DONE (R464). -/
  | unitRestartDone (unit : Nat)
  /-- DELAY_REQ_DUE (R278). -/
  | delayReqDue (k : Fin 4) (p : Fin 16)
  /-- TAMPER_ALARM_END (R464). -/
  | tamperAlarmEnd (src : Fin 8)
  /-- PEER_HEALTH_IN_CHANGE (R481). -/
  | peerHealthInChange (level : Bool)
  /-- JTAG_TEST_INSTRUCTION (R426). -/
  | jtagTestInstruction (selected : Bool)
  /-- VKEEP_LOSS (R489). -/
  | vkeepLoss
  /-- HINGE_KEYS_TX (R337). -/
  | hingeKeysTx
  deriving DecidableEq, Repr

end Sys2Proof
end

