-- ==== Sys2Proof/Machine/Objects.lean ====
section
/-! DEFINITION. Machine/Objects.lean: the object dictionary as data. The names are those of the object tables of spec/02 to
spec/22; a key is INDEX * 256 + SUB (R398). The table rows carry type, access code, range, the marks 'mirrored' and 'journalled',
the counter mark of R406 and the default of R402. Families carry the number of their instances (one index apart). -/
namespace Sys2Proof.Machine

/-- "Data types" (spec/15). -/
inductive DType where
  | bool | u8 | u16 | u32 | u64 | i8 | i16 | i32 | i64 | time96 | bound80 | str | oct | dom
  deriving DecidableEq, Repr

/-- "Access codes" (spec/00), R11, R12, R401. -/
inductive Access where
  | ro | rw | rwc | wo | cmd | prv
  deriving DecidableEq, Repr

/-- One family of objects: index of the first instance, first subindex, instances (one index apart), subindexes. -/
structure ObjInfo where
  base : Nat
  sub : Nat
  count : Nat
  nsub : Nat
  typ : DType
  acc : Access
  mirrored : Bool
  journalled : Bool
  counter : Bool
  lo : Int
  hi : Int
  dflt : Int
  deriving DecidableEq, Repr

def ObjInfo.covers (o : ObjInfo) (index sub : Nat) : Bool :=
  o.base ≤ index && index < o.base + o.count && o.sub ≤ sub && sub < o.sub + o.nsub

/-- Least value a type encodes (R399, R400). -/
def DType.lo : DType → Int
  | .i8 => -128 | .i16 => -32768 | .i32 => -2147483648 | .i64 => -9223372036854775808
  | _ => 0

/-- Largest value a type encodes; a TIME96 is held as a count of 2⁻¹⁶ ns, a BOUND80 as its 80-bit code. -/
def DType.hi : DType → Int
  | .bool => 1 | .u8 => 255 | .u16 => 65535 | .u32 => 4294967295 | .u64 => 18446744073709551615
  | .i8 => 127 | .i16 => 32767 | .i32 => 2147483647 | .i64 => 9223372036854775807
  | .time96 => 281474976710656 * 65536000000000 - 1 | .bound80 => 1208925819614629174706175
  | .str | .oct | .dom => 0

/-- Bytes of a value of fixed length (R399); 0 where the object states its own length. -/
def DType.bytes : DType → Nat
  | .bool | .u8 | .i8 => 1 | .u16 | .i16 => 2 | .u32 | .i32 => 4 | .u64 | .i64 => 8
  | .time96 => 12 | .bound80 => 10 | .str | .oct | .dom => 0

/-- Type codes of "Data types". -/
def DType.code : DType → Nat
  | .bool => 1 | .u8 => 2 | .u16 => 3 | .u32 => 4 | .u64 => 5 | .i8 => 6 | .i16 => 7 | .i32 => 8 | .i64 => 9
  | .time96 => 10 | .bound80 => 11 | .str => 12 | .oct => 13 | .dom => 14

/-- Access codes of the catalogue descriptor (R418). -/
def Access.code : Access → Nat
  | .ro => 0 | .rw => 1 | .rwc => 2 | .wo => 3 | .cmd => 4 | .prv => 5

/-- A family whose range is that of its type. -/
def ot (base sub count nsub : Nat) (t : DType) (a : Access) (m j c : Bool) (d : Int) : ObjInfo :=
  ⟨base, sub, count, nsub, t, a, m, j, c, t.lo, t.hi, d⟩

/-- A family whose Notes column states a range. -/
def orng (base sub count nsub : Nat) (t : DType) (a : Access) (m j : Bool) (lo hi d : Int) : ObjInfo :=
  ⟨base, sub, count, nsub, t, a, m, j, false, lo, hi, d⟩

abbrev Obj.REPLICA_STATE (n : Nat) : Nat := 0x201001 + 256 * n
abbrev Obj.REPLICA_LAST_CORR (n : Nat) : Nat := 0x201002 + 256 * n
abbrev Obj.REPLICA_STALE (n : Nat) : Nat := 0x201003 + 256 * n
abbrev Obj.REPLICA_SLIP (n : Nat) : Nat := 0x201004 + 256 * n
abbrev Obj.STROBE_DELAY (n : Nat) : Nat := 0x201005 + 256 * n
abbrev Obj.STROBE_DELAY_AT (n : Nat) : Nat := 0x201006 + 256 * n
abbrev Obj.MTS_NOW : Nat := 0x200001
abbrev Obj.TS_STATE : Nat := 0x200002
abbrev Obj.TS_STATE_SINCE : Nat := 0x200003
abbrev Obj.INCR_CURRENT : Nat := 0x200004
abbrev Obj.MEASURED_OFFSET : Nat := 0x200005
abbrev Obj.TCLK_TICKS : Nat := 0x200006
abbrev Obj.LOCK_EXCURSION : Nat := 0x200007
abbrev Obj.LOOP_MODE : Nat := 0x200101
abbrev Obj.INCR_WRITE : Nat := 0x200102
abbrev Obj.INCR_APPLIED_AT : Nat := 0x200103
abbrev Obj.TL_BANDWIDTH : Nat := 0x200104
abbrev Obj.TL_ACQ_BANDWIDTH : Nat := 0x200105
abbrev Obj.TL_DAMPING : Nat := 0x200106
abbrev Obj.TL_PULL_RANGE : Nat := 0x200107
abbrev Obj.TS_LOCK_THRESHOLD : Nat := 0x200108
abbrev Obj.TS_LOCK_DWELL : Nat := 0x200109
abbrev Obj.LOOP_MODE_NOW : Nat := 0x20010A
abbrev Obj.SLEW_LIMIT : Nat := 0x200201
abbrev Obj.STEP_POLICY : Nat := 0x200202
abbrev Obj.STEP_THRESHOLD : Nat := 0x200203
abbrev Obj.STEP_OFFSET : Nat := 0x200204
abbrev Obj.STEP_AT : Nat := 0x200205
abbrev Obj.STEP_APPLY : Nat := 0x200206
abbrev Obj.SET_TIME : Nat := 0x200207
abbrev Obj.STEP_STATUS : Nat := 0x200208
abbrev Obj.LAST_STEP_OFFSET : Nat := 0x200209
abbrev Obj.LAST_STEP_AT : Nat := 0x20020A
abbrev Obj.STEP_COUNT : Nat := 0x20020B
abbrev Obj.CURRENT_UTC_OFFSET : Nat := 0x200301
abbrev Obj.UTC_SOURCE : Nat := 0x200302
abbrev Obj.LEAP_PENDING : Nat := 0x200303
abbrev Obj.LEAP_INSTANT : Nat := 0x200304
abbrev Obj.UTC_VALID : Nat := 0x200305
abbrev Obj.UTC_NOW : Nat := 0x200306
abbrev Obj.UTC_FLAGS : Nat := 0x200307
abbrev Obj.KEEP_VALID : Nat := 0x200401
abbrev Obj.KEEP_COUNT : Nat := 0x200402
abbrev Obj.KEEP_FREQ_LEARNED : Nat := 0x200403
abbrev Obj.KEEP_FREQ_UNC : Nat := 0x200404
abbrev Obj.RESUME_RESULT : Nat := 0x200405
abbrev Obj.RESUME_GAP : Nat := 0x200406
abbrev Obj.CAPTURE : Nat := 0x200501
abbrev Obj.CAP_MTS : Nat := 0x200502
abbrev Obj.CAP_BOUND : Nat := 0x200503
abbrev Obj.CAP_INCR : Nat := 0x200504
abbrev Obj.CAP_TCLK_TICKS : Nat := 0x200505
abbrev Obj.CAP_KEEP_COUNT : Nat := 0x200506
abbrev Obj.CAP_UTC_OFFSET : Nat := 0x200507
abbrev Obj.CAP_SEQ : Nat := 0x200508
abbrev Obj.BOUND : Nat := 0x240001
abbrev Obj.BOUND_ANCHOR_AT : Nat := 0x240002
abbrev Obj.BOUND_ANCHOR_REF : Nat := 0x240003
abbrev Obj.BOUND_MODEL : Nat := 0x240004
abbrev Obj.BOUND_GRADE : Nat := 0x240005
abbrev Obj.CLOCK_ACCURACY : Nat := 0x240006
abbrev Obj.OFFSET_SCALED_LOG_VAR : Nat := 0x240007
abbrev Obj.ROOT_DISP : Nat := 0x240008
abbrev Obj.GROWTH_FREQ : Nat := 0x240009
abbrev Obj.GROWTH_AGE : Nat := 0x24000A
abbrev Obj.GROWTH_TEMP : Nat := 0x24000B
abbrev Obj.STEER_PHASE : Nat := 0x24000C
abbrev Obj.TEMP_DEV : Nat := 0x24000D
abbrev Obj.SINCE_ANCHOR : Nat := 0x24000E
abbrev Obj.FREQ_UNC_EFF : Nat := 0x24000F
abbrev Obj.REF_VIOLATION : Nat := 0x240101
abbrev Obj.MODULE_VIOLATION : Nat := 0x240102
abbrev Obj.LAST_VIOL_REF : Nat := 0x240103
abbrev Obj.LAST_VIOL_AT : Nat := 0x240104
abbrev Obj.LAST_VIOL_OFFSET : Nat := 0x240105
abbrev Obj.LAST_VIOL_TEST : Nat := 0x240106
abbrev Obj.AGREE_AGE : Nat := 0x240107
abbrev Obj.SERVE_BOUND : Nat := 0x240201
abbrev Obj.HOLD_SPEC : Nat := 0x240202
abbrev Obj.GRADE_DWELL : Nat := 0x240203
abbrev Obj.FREQ_UNC_FLOOR (n : Nat) : Nat := 0x241001 + 256 * n
abbrev Obj.FREQ_UNC_LEARNED (n : Nat) : Nat := 0x241002 + 256 * n
abbrev Obj.AGE_UNC (n : Nat) : Nat := 0x241003 + 256 * n
abbrev Obj.TEMP_COEF_UNC (n : Nat) : Nat := 0x241004 + 256 * n
abbrev Obj.REF_FREQ_UNC_MIN : Nat := 0x241201
abbrev Obj.REF_FREQ_UNC_VIOL : Nat := 0x241202
abbrev Obj.PPS_BUDGET : Nat := 0x242001
abbrev Obj.NTP_TX_BUDGET : Nat := 0x242002
abbrev Obj.NTP_RX_ROUND : Nat := 0x242003
abbrev Obj.READ_BUDGET : Nat := 0x242004
abbrev Obj.DELAY_UNC (n : Nat) : Nat := 0x244001 + 256 * n
abbrev Obj.ASYM_NEG (n : Nat) : Nat := 0x244002 + 256 * n
abbrev Obj.ASYM_POS (n : Nat) : Nat := 0x244003 + 256 * n
abbrev Obj.LAST_UNC (n : Nat) : Nat := 0x244004 + 256 * n
abbrev Obj.LAST_OFFSET (n : Nat) : Nat := 0x244005 + 256 * n
abbrev Obj.LAST_VERDICT (n : Nat) : Nat := 0x244006 + 256 * n
abbrev Obj.LAST_MEAS_AT (n : Nat) : Nat := 0x244007 + 256 * n
abbrev Obj.TDC_SIGMA_MULT : Nat := 0x340001
abbrev Obj.TDC_CAL_DISCARD : Nat := 0x340002
abbrev Obj.TDC_XCHECK_ENABLE : Nat := 0x340003
abbrev Obj.TDC_SOURCE (n : Nat) : Nat := 0x341001 + 256 * n
abbrev Obj.TDC_EDGE (n : Nat) : Nat := 0x341002 + 256 * n
abbrev Obj.TDC_NOM_FREQ (n : Nat) : Nat := 0x341003 + 256 * n
abbrev Obj.TDC_DECIM (n : Nat) : Nat := 0x341004 + 256 * n
abbrev Obj.TDC_WIN_N (n : Nat) : Nat := 0x341005 + 256 * n
abbrev Obj.TDC_WIN_MAX (n : Nat) : Nat := 0x341006 + 256 * n
abbrev Obj.TDC_CAL_STATE (n : Nat) : Nat := 0x341007 + 256 * n
abbrev Obj.TDC_PATH_DELAY (n : Nat) : Nat := 0x341008 + 256 * n
abbrev Obj.TDC_LAST_EDGE (n : Nat) : Nat := 0x341009 + 256 * n
abbrev Obj.EDGE_COUNT (n : Nat) : Nat := 0x34100A + 256 * n
abbrev Obj.EDGE_MISSED (n : Nat) : Nat := 0x34100B + 256 * n
abbrev Obj.WIN_SEQ (n : Nat) : Nat := 0x34100C + 256 * n
abbrev Obj.WIN_COUNT (n : Nat) : Nat := 0x34100D + 256 * n
abbrev Obj.WIN_MEAN (n : Nat) : Nat := 0x34100E + 256 * n
abbrev Obj.WIN_SD (n : Nat) : Nat := 0x34100F + 256 * n
abbrev Obj.WIN_MIN (n : Nat) : Nat := 0x341010 + 256 * n
abbrev Obj.WIN_MAX (n : Nat) : Nat := 0x341011 + 256 * n
abbrev Obj.WIN_FREQ_MTS (n : Nat) : Nat := 0x341012 + 256 * n
abbrev Obj.WIN_FREQ_TCLK (n : Nat) : Nat := 0x341013 + 256 * n
abbrev Obj.WIN_FREQ_UNC (n : Nat) : Nat := 0x341014 + 256 * n
abbrev Obj.WIN_UNC (n : Nat) : Nat := 0x341015 + 256 * n
abbrev Obj.WIN_FIRST_AT (n : Nat) : Nat := 0x341016 + 256 * n
abbrev Obj.WIN_LAST_AT (n : Nat) : Nat := 0x341017 + 256 * n
abbrev Obj.WIN_FLAGS (n : Nat) : Nat := 0x341018 + 256 * n
abbrev Obj.WIN_DISCARD (n : Nat) : Nat := 0x341019 + 256 * n
abbrev Obj.XCHECK_FAIL (n : Nat) : Nat := 0x34101A + 256 * n
abbrev Obj.TDC_EDGE_LOG (n : Nat) : Nat := 0x34101B + 256 * n
abbrev Obj.XO_NOMINAL : Nat := 0x344001
abbrev Obj.XO_FREQ_COMP : Nat := 0x344002
abbrev Obj.XO_TEMP_TERM : Nat := 0x344003
abbrev Obj.XO_AGE_TERM : Nat := 0x344004
abbrev Obj.XO_LEARN_OFFSET : Nat := 0x344005
abbrev Obj.XO_AGE_RATE : Nat := 0x344006
abbrev Obj.XO_AGE_EPOCH : Nat := 0x344007
abbrev Obj.XO_AGE_AUTO : Nat := 0x344008
abbrev Obj.XO_COMP_TABLE : Nat := 0x344009
abbrev Obj.TEMP_XO : Nat := 0x344101
abbrev Obj.TEMP_DIE : Nat := 0x344102
abbrev Obj.SENSOR_STATUS : Nat := 0x344103
abbrev Obj.ACTIVE_TIME_REF : Nat := 0x300001
abbrev Obj.ACTIVE_FREQ_REF : Nat := 0x300002
abbrev Obj.SWITCH_STATE : Nat := 0x300003
abbrev Obj.SWITCH_COUNT : Nat := 0x300004
abbrev Obj.SWITCH_SLOPE : Nat := 0x300005
abbrev Obj.FREQ_SWITCH_SLOPE : Nat := 0x300006
abbrev Obj.REVERTIVE : Nat := 0x300007
abbrev Obj.DISPUTE_THRESHOLD : Nat := 0x300008
abbrev Obj.DISPUTE_PERSIST : Nat := 0x300009
abbrev Obj.DISQUAL_HOLD : Nat := 0x30000A
abbrev Obj.BUILD_OUT_MAX : Nat := 0x30000B
abbrev Obj.BUILD_OUT_TIMEOUT : Nat := 0x30000C
abbrev Obj.EEC_TYPE : Nat := 0x30000D
abbrev Obj.SSM_HOLDOVER_QL : Nat := 0x30000E
abbrev Obj.LEARN_TAU : Nat := 0x300101
abbrev Obj.LEARN_SPAN : Nat := 0x300102
abbrev Obj.LEARN_STATE : Nat := 0x300103
abbrev Obj.LEARN_POINTS : Nat := 0x300104
abbrev Obj.REF_MODE (n : Nat) : Nat := 0x301001 + 256 * n
abbrev Obj.REF_USE (n : Nat) : Nat := 0x301002 + 256 * n
abbrev Obj.REF_PRIORITY (n : Nat) : Nat := 0x301003 + 256 * n
abbrev Obj.REF_STATE (n : Nat) : Nat := 0x301004 + 256 * n
abbrev Obj.REF_DISQ_CAUSE (n : Nat) : Nat := 0x301005 + 256 * n
abbrev Obj.REF_QN (n : Nat) : Nat := 0x301006 + 256 * n
abbrev Obj.REF_QN_DECLARED (n : Nat) : Nat := 0x301007 + 256 * n
abbrev Obj.REF_ACC_NEG (n : Nat) : Nat := 0x301008 + 256 * n
abbrev Obj.REF_ACC_POS (n : Nat) : Nat := 0x301009 + 256 * n
abbrev Obj.REF_FREQ_ACC (n : Nat) : Nat := 0x30100A + 256 * n
abbrev Obj.REF_DELAY (n : Nat) : Nat := 0x30100B + 256 * n
abbrev Obj.REF_HOLDOFF (n : Nat) : Nat := 0x30100C + 256 * n
abbrev Obj.REF_QUAL_TIME (n : Nat) : Nat := 0x30100D + 256 * n
abbrev Obj.REF_WTR (n : Nat) : Nat := 0x30100E + 256 * n
abbrev Obj.REF_PULL_RANGE (n : Nat) : Nat := 0x30100F + 256 * n
abbrev Obj.REF_NOM_FREQ (n : Nat) : Nat := 0x301010 + 256 * n
abbrev Obj.REF_TDC_TIME (n : Nat) : Nat := 0x301011 + 256 * n
abbrev Obj.REF_TDC_FREQ (n : Nat) : Nat := 0x301012 + 256 * n
abbrev Obj.REF_WIN_N (n : Nat) : Nat := 0x301013 + 256 * n
abbrev Obj.REF_TOD_SOURCE (n : Nat) : Nat := 0x301014 + 256 * n
abbrev Obj.REF_INTERVAL (n : Nat) : Nat := 0x301015 + 256 * n
abbrev Obj.REF_FREQ (n : Nat) : Nat := 0x301016 + 256 * n
abbrev Obj.REF_FREQ_UNC (n : Nat) : Nat := 0x301017 + 256 * n
abbrev Obj.REF_STATE_SINCE (n : Nat) : Nat := 0x301018 + 256 * n
abbrev Obj.REF_WTR_LEFT (n : Nat) : Nat := 0x301019 + 256 * n
abbrev Obj.REF_DISPUTE_WITH (n : Nat) : Nat := 0x30101A + 256 * n
abbrev Obj.QUAL_FAIL (n : Nat) : Nat := 0x30101B + 256 * n
abbrev Obj.REF_LOST (n : Nat) : Nat := 0x30101C + 256 * n
abbrev Obj.REF_DISPUTES (n : Nat) : Nat := 0x30101D + 256 * n
abbrev Obj.ATOM_FITTED : Nat := 0x304001
abbrev Obj.ATOM_PROFILE : Nat := 0x304002
abbrev Obj.ATOM_PROFILE_STATE : Nat := 0x304003
abbrev Obj.ATOM_STEER_MODE : Nat := 0x304004
abbrev Obj.ATOM_STEER_TAU : Nat := 0x304005
abbrev Obj.ATOM_STEER_MAX : Nat := 0x304006
abbrev Obj.ATOM_STEER_SET : Nat := 0x304007
abbrev Obj.ATOM_STEER_NOW : Nat := 0x304008
abbrev Obj.ATOM_DAC_CODE : Nat := 0x304009
abbrev Obj.ATOM_LOCK_STATE : Nat := 0x30400A
abbrev Obj.ATOM_DRIFT_COMP : Nat := 0x30400B
abbrev Obj.ATOM_DRIFT_LEARNED : Nat := 0x30400C
abbrev Obj.ATOM_NO_RESP : Nat := 0x30400D
abbrev Obj.ATOM_STEER_CLAMP : Nat := 0x30400E
abbrev Obj.SSM_ENABLE (n : Nat) : Nat := 0x305001 + 256 * n
abbrev Obj.SSM_OPTION (n : Nat) : Nat := 0x305002 + 256 * n
abbrev Obj.SSM_RX_QL (n : Nat) : Nat := 0x305003 + 256 * n
abbrev Obj.SSM_RX_ECODE (n : Nat) : Nat := 0x305004 + 256 * n
abbrev Obj.SSM_TX_QL (n : Nat) : Nat := 0x305005 + 256 * n
abbrev Obj.SSM_QN_DISABLED (n : Nat) : Nat := 0x305006 + 256 * n
abbrev Obj.ESMC_RX (n : Nat) : Nat := 0x305007 + 256 * n
abbrev Obj.ESMC_TX (n : Nat) : Nat := 0x305008 + 256 * n
abbrev Obj.ESMC_BAD (n : Nat) : Nat := 0x305009 + 256 * n
abbrev Obj.QL_FAILED (n : Nat) : Nat := 0x30500A + 256 * n
abbrev Obj.DPLL_MODE (n : Nat) : Nat := 0x380001 + 256 * n
abbrev Obj.DPLL_STATE (n : Nat) : Nat := 0x380002 + 256 * n
abbrev Obj.DPLL_BANDWIDTH (n : Nat) : Nat := 0x380003 + 256 * n
abbrev Obj.DPLL_PULL_RANGE (n : Nat) : Nat := 0x380004 + 256 * n
abbrev Obj.DPLL_PHASE_SLOPE (n : Nat) : Nat := 0x380005 + 256 * n
abbrev Obj.DPLL_STEP_ACTION (n : Nat) : Nat := 0x380006 + 256 * n
abbrev Obj.DPLL_FREQ_NOW (n : Nat) : Nat := 0x380007 + 256 * n
abbrev Obj.DPLL_PHASE_ERR (n : Nat) : Nat := 0x380008 + 256 * n
abbrev Obj.DPLL_CLAMP (n : Nat) : Nat := 0x380009 + 256 * n
abbrev Obj.APLL_STATE (n : Nat) : Nat := 0x381001 + 256 * n
abbrev Obj.APLL_BAND (n : Nat) : Nat := 0x381002 + 256 * n
abbrev Obj.APLL_LOCK_COUNT (n : Nat) : Nat := 0x381003 + 256 * n
abbrev Obj.APLL_VCO_FREQ (n : Nat) : Nat := 0x381004 + 256 * n
abbrev Obj.APLL_UNLOCK (n : Nat) : Nat := 0x381005 + 256 * n
abbrev Obj.APLL_BAND_FAIL (n : Nat) : Nat := 0x381006 + 256 * n
abbrev Obj.CLK_ENABLE (n : Nat) : Nat := 0x382001 + 256 * n
abbrev Obj.CLK_SOURCE (n : Nat) : Nat := 0x382002 + 256 * n
abbrev Obj.CLK_FREQ (n : Nat) : Nat := 0x382003 + 256 * n
abbrev Obj.CLK_FORMAT (n : Nat) : Nat := 0x382004 + 256 * n
abbrev Obj.CLK_SQUELCH_ON (n : Nat) : Nat := 0x382005 + 256 * n
abbrev Obj.CLK_SQUELCH_LEVEL (n : Nat) : Nat := 0x382006 + 256 * n
abbrev Obj.CLK_S3_KEEP (n : Nat) : Nat := 0x382007 + 256 * n
abbrev Obj.CLK_SYNC (n : Nat) : Nat := 0x382008 + 256 * n
abbrev Obj.CLK_STATE (n : Nat) : Nat := 0x382009 + 256 * n
abbrev Obj.CLK_SQUELCHES (n : Nat) : Nat := 0x38200A + 256 * n
abbrev Obj.PPS_ENABLE (n : Nat) : Nat := 0x3C0001 + 256 * n
abbrev Obj.PPS_OFFSET (n : Nat) : Nat := 0x3C0002 + 256 * n
abbrev Obj.PPS_WIDTH (n : Nat) : Nat := 0x3C0003 + 256 * n
abbrev Obj.PPS_POLARITY (n : Nat) : Nat := 0x3C0004 + 256 * n
abbrev Obj.PPS_MAX_GRADE (n : Nat) : Nat := 0x3C0005 + 256 * n
abbrev Obj.PPS_STATE (n : Nat) : Nat := 0x3C0006 + 256 * n
abbrev Obj.PPS_PATH_DELAY (n : Nat) : Nat := 0x3C0007 + 256 * n
abbrev Obj.PPS_LAST_EDGE (n : Nat) : Nat := 0x3C0008 + 256 * n
abbrev Obj.PPS_LAST_BOUND (n : Nat) : Nat := 0x3C0009 + 256 * n
abbrev Obj.PPS_EMITTED (n : Nat) : Nat := 0x3C000A + 256 * n
abbrev Obj.PPS_MISSED (n : Nat) : Nat := 0x3C000B + 256 * n
abbrev Obj.PPS_SQUELCHED (n : Nat) : Nat := 0x3C000C + 256 * n
abbrev Obj.PG_MODE (n : Nat) : Nat := 0x3C1001 + 256 * n
abbrev Obj.PG_ROUTE (n : Nat) : Nat := 0x3C1002 + 256 * n
abbrev Obj.PG_START (n : Nat) : Nat := 0x3C1003 + 256 * n
abbrev Obj.PG_PERIOD (n : Nat) : Nat := 0x3C1004 + 256 * n
abbrev Obj.PG_WIDTH (n : Nat) : Nat := 0x3C1005 + 256 * n
abbrev Obj.PG_COUNT (n : Nat) : Nat := 0x3C1006 + 256 * n
abbrev Obj.PG_ALIGN_CH (n : Nat) : Nat := 0x3C1007 + 256 * n
abbrev Obj.PG_ALIGN_OFFSET (n : Nat) : Nat := 0x3C1008 + 256 * n
abbrev Obj.PG_ALIGN_HOLD (n : Nat) : Nat := 0x3C1009 + 256 * n
abbrev Obj.PG_POLARITY (n : Nat) : Nat := 0x3C100A + 256 * n
abbrev Obj.PG_ARM (n : Nat) : Nat := 0x3C100B + 256 * n
abbrev Obj.PG_STATE (n : Nat) : Nat := 0x3C100C + 256 * n
abbrev Obj.PG_NEXT (n : Nat) : Nat := 0x3C100D + 256 * n
abbrev Obj.PG_EMITTED (n : Nat) : Nat := 0x3C100E + 256 * n
abbrev Obj.PG_MISSED (n : Nat) : Nat := 0x3C100F + 256 * n
abbrev Obj.ALIGN_MISS (n : Nat) : Nat := 0x3C1010 + 256 * n
abbrev Obj.ALIGN_STRAY (n : Nat) : Nat := 0x3C1011 + 256 * n
abbrev Obj.TOD_ENABLE (n : Nat) : Nat := 0x3C2001 + 256 * n
abbrev Obj.TOD_PPS (n : Nat) : Nat := 0x3C2002 + 256 * n
abbrev Obj.TOD_FORMAT (n : Nat) : Nat := 0x3C2003 + 256 * n
abbrev Obj.TOD_BAUD (n : Nat) : Nat := 0x3C2004 + 256 * n
abbrev Obj.TOD_DELAY (n : Nat) : Nat := 0x3C2005 + 256 * n
abbrev Obj.ZDA_TALKER (n : Nat) : Nat := 0x3C2006 + 256 * n
abbrev Obj.TOD_SENT (n : Nat) : Nat := 0x3C2007 + 256 * n
abbrev Obj.TOD_SKIPPED (n : Nat) : Nat := 0x3C2008 + 256 * n
abbrev Obj.TODIN_FORMAT (n : Nat) : Nat := 0x3C2801 + 256 * n
abbrev Obj.TODIN_BAUD (n : Nat) : Nat := 0x3C2802 + 256 * n
abbrev Obj.TODIN_WINDOW (n : Nat) : Nat := 0x3C2803 + 256 * n
abbrev Obj.TODIN_LAST_SEC (n : Nat) : Nat := 0x3C2804 + 256 * n
abbrev Obj.TODIN_GOOD (n : Nat) : Nat := 0x3C2805 + 256 * n
abbrev Obj.TODIN_BAD (n : Nat) : Nat := 0x3C2806 + 256 * n
abbrev Obj.TODIN_ORPHAN (n : Nat) : Nat := 0x3C2807 + 256 * n
abbrev Obj.GNSS_FIX_STATE : Nat := 0x400001
abbrev Obj.GNSS_SATS_USED : Nat := 0x400002
abbrev Obj.GNSS_SATS_TRACKED : Nat := 0x400003
abbrev Obj.GNSS_CHAN_IN_USE : Nat := 0x400004
abbrev Obj.GNSS_SOL_UNC : Nat := 0x400005
abbrev Obj.GNSS_SOL_AT : Nat := 0x400006
abbrev Obj.GNSS_FLAGS : Nat := 0x400007
abbrev Obj.GNSS_JN_L1 : Nat := 0x400008
abbrev Obj.GNSS_JN_L5 : Nat := 0x400009
abbrev Obj.GNSS_TIMING_MSG : Nat := 0x40000A
abbrev Obj.GNSS_TM_SEQ : Nat := 0x40000B
abbrev Obj.POS_ALARMS : Nat := 0x40000C
abbrev Obj.SYS_EXCLUDED : Nat := 0x40000D
abbrev Obj.JAM_EVENTS : Nat := 0x40000E
abbrev Obj.SPOOF_SUSPECT_SEC : Nat := 0x40000F
abbrev Obj.UTC_PARAM_REJECT : Nat := 0x400010
abbrev Obj.GNSS_SYS_ENABLE : Nat := 0x400101
abbrev Obj.GNSS_BAND_ENABLE : Nat := 0x400102
abbrev Obj.GNSS_CHAN_LIMIT : Nat := 0x400103
abbrev Obj.GNSS_ELEV_MASK : Nat := 0x400104
abbrev Obj.GNSS_CN0_MASK : Nat := 0x400105
abbrev Obj.GNSS_TIME_SYSTEM : Nat := 0x400106
abbrev Obj.GNSS_SIGMA_MULT : Nat := 0x400107
abbrev Obj.GNSS_SYS_TIME_UNC : Nat := 0x400108
abbrev Obj.GNSS_ISB_MODE : Nat := 0x400109
abbrev Obj.GNSS_ISB_TAU : Nat := 0x40010A
abbrev Obj.GNSS_ISB_BCAST_UNC : Nat := 0x40010B
abbrev Obj.GNSS_EXCLUDE_HOLD : Nat := 0x40010C
abbrev Obj.GNSS_JAM_THRESHOLD : Nat := 0x40010D
abbrev Obj.GNSS_POS_MODE : Nat := 0x400201
abbrev Obj.GNSS_SURVEY_MIN : Nat := 0x400202
abbrev Obj.GNSS_SURVEY_MAX : Nat := 0x400203
abbrev Obj.GNSS_SURVEY_UNC : Nat := 0x400204
abbrev Obj.GNSS_SURVEY_START : Nat := 0x400205
abbrev Obj.GNSS_SURVEY_STATE : Nat := 0x400206
abbrev Obj.GNSS_POS_X : Nat := 0x400207
abbrev Obj.GNSS_POS_Y : Nat := 0x400208
abbrev Obj.GNSS_POS_Z : Nat := 0x400209
abbrev Obj.GNSS_POS_UNC : Nat := 0x40020A
abbrev Obj.GNSS_POS_JUMP : Nat := 0x40020B
abbrev Obj.GNSS_POS_PERSIST : Nat := 0x40020C
abbrev Obj.GNSS_RESURVEY_AUTO : Nat := 0x40020D
abbrev Obj.GNSSPPS_ENABLE : Nat := 0x400301
abbrev Obj.GNSSPPS_OFFSET : Nat := 0x400302
abbrev Obj.GNSSPPS_WIDTH : Nat := 0x400303
abbrev Obj.GNSSPPS_SQUELCH : Nat := 0x400304
abbrev Obj.GNSSPPS_PATH_DELAY : Nat := 0x400305
abbrev Obj.GNSSPPS_LAST_EDGE : Nat := 0x400306
abbrev Obj.GNSS_ANT_SUPPLY : Nat := 0x400401
abbrev Obj.GNSS_ANT_I_LIMIT : Nat := 0x400402
abbrev Obj.GNSS_ANT_CURRENT : Nat := 0x400403
abbrev Obj.GNSS_ANT_STATE : Nat := 0x400404
abbrev Obj.ANT_SHORT : Nat := 0x400405
abbrev Obj.ISB_BCAST (n : Nat) : Nat := 0x401001 + 256 * n
abbrev Obj.ISB_BCAST_VALID (n : Nat) : Nat := 0x401002 + 256 * n
abbrev Obj.ISB_SOLVED (n : Nat) : Nat := 0x401003 + 256 * n
abbrev Obj.ISB_SOLVED_UNC (n : Nat) : Nat := 0x401004 + 256 * n
abbrev Obj.ISB_SOLVED_VALID (n : Nat) : Nat := 0x401005 + 256 * n
abbrev Obj.GNSS_SNAP_LEN : Nat := 0x402001
abbrev Obj.GNSS_SNAP_BANDS : Nat := 0x402002
abbrev Obj.GNSS_SNAP_AT : Nat := 0x402003
abbrev Obj.GNSS_SNAP_ARM : Nat := 0x402004
abbrev Obj.GNSS_SNAP_LAST : Nat := 0x402005
abbrev Obj.SNAP_DROPPED : Nat := 0x402006
abbrev Obj.SNAP_ABORT : Nat := 0x402007
abbrev Obj.SNAP_STATE (n : Nat) : Nat := 0x403001 + 256 * n
abbrev Obj.SNAP_DATA (n : Nat) : Nat := 0x403002 + 256 * n
abbrev Obj.MAX_FRAME : Nat := 0x500001
abbrev Obj.PORT_MODE (n : Nat) : Nat := 0x501001 + 256 * n
abbrev Obj.PORT_FEC (n : Nat) : Nat := 0x501002 + 256 * n
abbrev Obj.PORT_LINK (n : Nat) : Nat := 0x501003 + 256 * n
abbrev Obj.PORT_CAL_STATE (n : Nat) : Nat := 0x501004 + 256 * n
abbrev Obj.PORT_P (n : Nat) : Nat := 0x501005 + 256 * n
abbrev Obj.PORT_EXT_DELAY_RX (n : Nat) : Nat := 0x501006 + 256 * n
abbrev Obj.PORT_EXT_DELAY_TX (n : Nat) : Nat := 0x501007 + 256 * n
abbrev Obj.PORT_CAL_TABLE (n : Nat) : Nat := 0x501008 + 256 * n
abbrev Obj.PORT_TAG_MODE (n : Nat) : Nat := 0x501009 + 256 * n
abbrev Obj.PORT_PVID (n : Nat) : Nat := 0x50100A + 256 * n
abbrev Obj.PORT_PCP (n : Nat) : Nat := 0x50100B + 256 * n
abbrev Obj.PORT_PAUSE (n : Nat) : Nat := 0x50100C + 256 * n
abbrev Obj.PORT_CT_ENABLE (n : Nat) : Nat := 0x50100D + 256 * n
abbrev Obj.CT_RUNG (n : Nat) : Nat := 0x50100E + 256 * n
abbrev Obj.CT_CLEAN_RUN (n : Nat) : Nat := 0x50100F + 256 * n
abbrev Obj.CT_LADDER_RESET (n : Nat) : Nat := 0x501010 + 256 * n
abbrev Obj.PORT_ENGINE_Q (n : Nat) : Nat := 0x501011 + 256 * n
abbrev Obj.PORT_RX_OFFSET_NOW (n : Nat) : Nat := 0x501012 + 256 * n
abbrev Obj.PORT_TX_OFFSET_NOW (n : Nat) : Nat := 0x501013 + 256 * n
abbrev Obj.RX_OK (n : Nat) : Nat := 0x503001 + 256 * n
abbrev Obj.RUNT (n : Nat) : Nat := 0x503002 + 256 * n
abbrev Obj.GIANT (n : Nat) : Nat := 0x503003 + 256 * n
abbrev Obj.FCS_ERR (n : Nat) : Nat := 0x503004 + 256 * n
abbrev Obj.LEN_ERR (n : Nat) : Nat := 0x503005 + 256 * n
abbrev Obj.SYMBOL_ERR (n : Nat) : Nat := 0x503006 + 256 * n
abbrev Obj.ADMIT_DROP (n : Nat) : Nat := 0x503007 + 256 * n
abbrev Obj.PAUSE_RX (n : Nat) : Nat := 0x503008 + 256 * n
abbrev Obj.MAC_CTRL_DROP (n : Nat) : Nat := 0x503009 + 256 * n
abbrev Obj.TX_OK (n : Nat) : Nat := 0x50300A + 256 * n
abbrev Obj.TAG_OVERSIZE (n : Nat) : Nat := 0x50300B + 256 * n
abbrev Obj.STOMPED (n : Nat) : Nat := 0x50300C + 256 * n
abbrev Obj.UNDERRUN (n : Nat) : Nat := 0x50300D + 256 * n
abbrev Obj.LINK_ABORT (n : Nat) : Nat := 0x50300E + 256 * n
abbrev Obj.LINK_DROP (n : Nat) : Nat := 0x50300F + 256 * n
abbrev Obj.SHUT_DROP (n : Nat) : Nat := 0x503010 + 256 * n
abbrev Obj.PAUSE_TX (n : Nat) : Nat := 0x503011 + 256 * n
abbrev Obj.LINK_DOWN_EVENTS (n : Nat) : Nat := 0x503012 + 256 * n
abbrev Obj.CT_FRAMES (n : Nat) : Nat := 0x503013 + 256 * n
abbrev Obj.RX_OCTETS (n : Nat) : Nat := 0x503014 + 256 * n
abbrev Obj.TX_OCTETS (n : Nat) : Nat := 0x503015 + 256 * n
abbrev Obj.SW_BANK_RESERVE : Nat := 0x580001
abbrev Obj.SW_ALPHA : Nat := 0x580002
abbrev Obj.SW_BETA : Nat := 0x580003
abbrev Obj.SW_REPL_XOFF : Nat := 0x580004
abbrev Obj.SW_GEN_TIMEOUT : Nat := 0x580005
abbrev Obj.FDB_AGE_TIME : Nat := 0x580006
abbrev Obj.TC_ENABLE : Nat := 0x580007
abbrev Obj.TC_AUTH_RESEAL : Nat := 0x580008
abbrev Obj.SW_SHARED_SIZE : Nat := 0x580101
abbrev Obj.SW_SHARED_FREE : Nat := 0x580102
abbrev Obj.FDB_GEN : Nat := 0x580103
abbrev Obj.VLAN_GEN : Nat := 0x580104
abbrev Obj.FDB_STATIC_COUNT : Nat := 0x580105
abbrev Obj.FDB_LEARNED_COUNT : Nat := 0x580106
abbrev Obj.LEARN_FULL : Nat := 0x580107
abbrev Obj.BUF_ECC_CORR : Nat := 0x580108
abbrev Obj.FDB_WRITE : Nat := 0x580201
abbrev Obj.FDB_FLUSH : Nat := 0x580202
abbrev Obj.FDB_DUMP : Nat := 0x580203
abbrev Obj.VLAN_WRITE : Nat := 0x580204
abbrev Obj.VLAN_TABLE : Nat := 0x580205
abbrev Obj.SW_SHARED_HELD (n : Nat) : Nat := 0x581001 + 256 * n
abbrev Obj.SW_RESERVE_HELD (n : Nat) : Nat := 0x581002 + 256 * n
abbrev Obj.SW_REPL_BACKLOG (n : Nat) : Nat := 0x581003 + 256 * n
abbrev Obj.LINK_LOCAL_DROP (n : Nat) : Nat := 0x581004 + 256 * n
abbrev Obj.SVC_DROP (n : Nat) : Nat := 0x581005 + 256 * n
abbrev Obj.ARP_ND_ANSWERED (n : Nat) : Nat := 0x581006 + 256 * n
abbrev Obj.VLAN_DROP (n : Nat) : Nat := 0x581007 + 256 * n
abbrev Obj.FDB_DISCARD (n : Nat) : Nat := 0x581008 + 256 * n
abbrev Obj.FILTERED (n : Nat) : Nat := 0x581009 + 256 * n
abbrev Obj.BUF_DROP (n : Nat) : Nat := 0x58100A + 256 * n
abbrev Obj.REPL_DROP (n : Nat) : Nat := 0x58100B + 256 * n
abbrev Obj.EGR_DROP (n : Nat) : Nat := 0x58100C + 256 * n
abbrev Obj.GEN_FLUSH (n : Nat) : Nat := 0x58100D + 256 * n
abbrev Obj.TC_CORRECTED (n : Nat) : Nat := 0x58100E + 256 * n
abbrev Obj.TC_UNCORRECTED (n : Nat) : Nat := 0x58100F + 256 * n
abbrev Obj.TC_AUTH_RESEALED (n : Nat) : Nat := 0x581010 + 256 * n
abbrev Obj.TC_AUTH_UNCORRECTED (n : Nat) : Nat := 0x581011 + 256 * n
abbrev Obj.TC_AUTH_BAD (n : Nat) : Nat := 0x581012 + 256 * n
abbrev Obj.TC_LEN_DROP (n : Nat) : Nat := 0x581013 + 256 * n
abbrev Obj.BUF_ECC_DROP (n : Nat) : Nat := 0x581014 + 256 * n
abbrev Obj.SW_XOFF_EVENTS (n : Nat) : Nat := 0x581015 + 256 * n
abbrev Obj.LATE_POLICY_NTP : Nat := 0x6C0001
abbrev Obj.LATE_POLICY_PTP : Nat := 0x6C0002
abbrev Obj.LATE_POLICY_TC : Nat := 0x6C0003
abbrev Obj.LEAD_ADAPT (n : Nat) : Nat := 0x6C1001 + 256 * n
abbrev Obj.LEAD_DEFAULT (n : Nat) : Nat := 0x6C1002 + 256 * n
abbrev Obj.LEAD_MIN (n : Nat) : Nat := 0x6C1003 + 256 * n
abbrev Obj.LEAD_MAX (n : Nat) : Nat := 0x6C1004 + 256 * n
abbrev Obj.SILL_PAUSE_MODE (n : Nat) : Nat := 0x6C1005 + 256 * n
abbrev Obj.LEAD_NOW (n : Nat) : Nat := 0x6C1006 + 256 * n
abbrev Obj.SLACK_MIN_LAST (n : Nat) : Nat := 0x6C1007 + 256 * n
abbrev Obj.LAST_LAUNCH_ERR (n : Nat) : Nat := 0x6C1008 + 256 * n
abbrev Obj.SLOTS_HELD (n : Nat) : Nat := 0x6C1009 + 256 * n
abbrev Obj.SILL_SLOTS (n : Nat) : Nat := 0x6C100A + 256 * n
abbrev Obj.SILL_LAUNCHED (n : Nat) : Nat := 0x6C3001 + 256 * n
abbrev Obj.LATE_SEAL (n : Nat) : Nat := 0x6C3002 + 256 * n
abbrev Obj.LATE_STEP (n : Nat) : Nat := 0x6C3003 + 256 * n
abbrev Obj.LATE_INCR (n : Nat) : Nat := 0x6C3004 + 256 * n
abbrev Obj.LATE_PAUSE (n : Nat) : Nat := 0x6C3005 + 256 * n
abbrev Obj.LATE_REPLICA (n : Nat) : Nat := 0x6C3006 + 256 * n
abbrev Obj.LATE_LINK (n : Nat) : Nat := 0x6C3007 + 256 * n
abbrev Obj.RESEALED (n : Nat) : Nat := 0x6C3008 + 256 * n
abbrev Obj.LATE_DROP (n : Nat) : Nat := 0x6C3009 + 256 * n
abbrev Obj.LAUNCH_ABORT (n : Nat) : Nat := 0x6C300A + 256 * n
abbrev Obj.LAUNCH_MISMATCH (n : Nat) : Nat := 0x6C300B + 256 * n
abbrev Obj.SLOT_FULL (n : Nat) : Nat := 0x6C300C + 256 * n
abbrev Obj.SLOT_WAIT_DROP (n : Nat) : Nat := 0x6C300D + 256 * n
abbrev Obj.PTP_EVENT_BUDGET : Nat := 0x600001
abbrev Obj.PTP_EVENT_LOAD : Nat := 0x600002
abbrev Obj.PTP_HMAC_LOAD : Nat := 0x600003
abbrev Obj.PTP_HMAC_CAPACITY : Nat := 0x600004
abbrev Obj.PTP_SESSION_LIMIT : Nat := 0x600005
abbrev Obj.PTP_SESSIONS : Nat := 0x600006
abbrev Obj.UC_DUR_MIN : Nat := 0x600007
abbrev Obj.UC_DUR_MAX : Nat := 0x600008
abbrev Obj.UC_LOG_SYNC_MIN : Nat := 0x600009
abbrev Obj.UC_LOG_DRESP_MIN : Nat := 0x60000A
abbrev Obj.UC_LOG_ANN_MIN : Nat := 0x60000B
abbrev Obj.UC_REQ_MAX_AGE : Nat := 0x60000C
abbrev Obj.UC_RX_DURATION : Nat := 0x60000D
abbrev Obj.SESSION_SELECT : Nat := 0x60000E
abbrev Obj.SYNC_SHED : Nat := 0x60000F
abbrev Obj.DREQ_SHED : Nat := 0x600010
abbrev Obj.SESSION_ENTRY : Nat := 0x600011
abbrev Obj.SESSION_CANCEL : Nat := 0x600012
abbrev Obj.UC_GRANTED : Nat := 0x600013
abbrev Obj.UC_DENIED_STATE : Nat := 0x600014
abbrev Obj.UC_DENIED_PARAM : Nat := 0x600015
abbrev Obj.UC_DENIED_CAPACITY : Nat := 0x600016
abbrev Obj.UC_REQ_STALE : Nat := 0x600017
abbrev Obj.SESSION_POISONED : Nat := 0x600018
abbrev Obj.SYNC_MISSED : Nat := 0x600019
abbrev Obj.INST_ENABLE (n : Nat) : Nat := 0x601001 + 256 * n
abbrev Obj.INST_PROFILE (n : Nat) : Nat := 0x601002 + 256 * n
abbrev Obj.INST_DOMAIN (n : Nat) : Nat := 0x601003 + 256 * n
abbrev Obj.INST_PRIORITY1 (n : Nat) : Nat := 0x601004 + 256 * n
abbrev Obj.INST_PRIORITY2 (n : Nat) : Nat := 0x601005 + 256 * n
abbrev Obj.INST_LOCAL_PRIORITY (n : Nat) : Nat := 0x601006 + 256 * n
abbrev Obj.INST_DEGRADED_CLASS (n : Nat) : Nat := 0x601007 + 256 * n
abbrev Obj.INST_SERVE_EARLY (n : Nat) : Nat := 0x601008 + 256 * n
abbrev Obj.INST_CLOCK_ID (n : Nat) : Nat := 0x601009 + 256 * n
abbrev Obj.RX_MEAS_N (n : Nat) : Nat := 0x60100A + 256 * n
abbrev Obj.INST_UC_UPSTREAM (n : Nat) : Nat := 0x60100B + 256 * n
abbrev Obj.INST_CLOCK_CLASS (n : Nat) : Nat := 0x60100C + 256 * n
abbrev Obj.INST_TR_PORT (n : Nat) : Nat := 0x60100D + 256 * n
abbrev Obj.INST_PARENT_PORT_ID (n : Nat) : Nat := 0x60100E + 256 * n
abbrev Obj.INST_UPSTREAM_BOUND (n : Nat) : Nat := 0x60100F + 256 * n
abbrev Obj.PTPP_MODE (n : Nat) : Nat := 0x610001 + 256 * n
abbrev Obj.PTPP_ENCAP (n : Nat) : Nat := 0x610002 + 256 * n
abbrev Obj.PTPP_STEP (n : Nat) : Nat := 0x610003 + 256 * n
abbrev Obj.PTPP_LOG_SYNC (n : Nat) : Nat := 0x610004 + 256 * n
abbrev Obj.PTPP_LOG_ANNOUNCE (n : Nat) : Nat := 0x610005 + 256 * n
abbrev Obj.PTPP_LOG_MIN_DREQ (n : Nat) : Nat := 0x610006 + 256 * n
abbrev Obj.PTPP_ANN_TIMEOUT (n : Nat) : Nat := 0x610007 + 256 * n
abbrev Obj.PTPP_VLAN (n : Nat) : Nat := 0x610008 + 256 * n
abbrev Obj.PTPP_TX_SA (n : Nat) : Nat := 0x610009 + 256 * n
abbrev Obj.PTPP_AUTH (n : Nat) : Nat := 0x61000A + 256 * n
abbrev Obj.PTPP_BOUND_TLV (n : Nat) : Nat := 0x61000B + 256 * n
abbrev Obj.PTPP_DREQ_RESERVE (n : Nat) : Nat := 0x61000C + 256 * n
abbrev Obj.PTPP_STATE (n : Nat) : Nat := 0x61000D + 256 * n
abbrev Obj.PTPP_PEER_DELAY (n : Nat) : Nat := 0x61000E + 256 * n
abbrev Obj.SYNC_TX (n : Nat) : Nat := 0x620001 + 256 * n
abbrev Obj.ANN_TX (n : Nat) : Nat := 0x620002 + 256 * n
abbrev Obj.DREQ_RX (n : Nat) : Nat := 0x620003 + 256 * n
abbrev Obj.DRESP_TX (n : Nat) : Nat := 0x620004 + 256 * n
abbrev Obj.ANN_RX (n : Nat) : Nat := 0x620005 + 256 * n
abbrev Obj.SYNC_WITHHELD (n : Nat) : Nat := 0x620006 + 256 * n
abbrev Obj.MSG_FOREIGN (n : Nat) : Nat := 0x620007 + 256 * n
abbrev Obj.PTP_LEN_DROP (n : Nat) : Nat := 0x620008 + 256 * n
abbrev Obj.MGMT_DROP (n : Nat) : Nat := 0x620009 + 256 * n
abbrev Obj.SIG_IGNORED (n : Nat) : Nat := 0x62000A + 256 * n
abbrev Obj.AUTH_MISSING (n : Nat) : Nat := 0x62000B + 256 * n
abbrev Obj.AUTH_UNSUPPORTED (n : Nat) : Nat := 0x62000C + 256 * n
abbrev Obj.AUTH_UNKNOWN_SA (n : Nat) : Nat := 0x62000D + 256 * n
abbrev Obj.AUTH_BAD_KEY (n : Nat) : Nat := 0x62000E + 256 * n
abbrev Obj.AUTH_ICV_FAIL (n : Nat) : Nat := 0x62000F + 256 * n
abbrev Obj.AUTH_REPLAY (n : Nat) : Nat := 0x620010 + 256 * n
abbrev Obj.DREQ_POLICED (n : Nat) : Nat := 0x620011 + 256 * n
abbrev Obj.DREQ_NO_GRANT (n : Nat) : Nat := 0x620012 + 256 * n
abbrev Obj.SA_SPP (n : Nat) : Nat := 0x604001 + 256 * n
abbrev Obj.SA_ALG (n : Nat) : Nat := 0x604002 + 256 * n
abbrev Obj.SA_KEY_SLOT (n : Nat) : Nat := 0x604003 + 256 * n
abbrev Obj.SA_KEY_ID (n : Nat) : Nat := 0x604004 + 256 * n
abbrev Obj.SA_NEXT_SLOT (n : Nat) : Nat := 0x604005 + 256 * n
abbrev Obj.SA_NEXT_ID (n : Nat) : Nat := 0x604006 + 256 * n
abbrev Obj.SA_ROLL_AT (n : Nat) : Nat := 0x604007 + 256 * n
abbrev Obj.SA_OVERLAP (n : Nat) : Nat := 0x604008 + 256 * n
abbrev Obj.SA_TRANSIT (n : Nat) : Nat := 0x604009 + 256 * n
abbrev Obj.SA_TX_SEQ (n : Nat) : Nat := 0x60400A + 256 * n
abbrev Obj.SEQNO_EXHAUSTED (n : Nat) : Nat := 0x60400B + 256 * n
abbrev Obj.ROLL_MISSED (n : Nat) : Nat := 0x60400C + 256 * n
abbrev Obj.NTP_UNSERVED_POLICY : Nat := 0x680001
abbrev Obj.NTP_SERVE_EARLY : Nat := 0x680002
abbrev Obj.NTP_DEGRADED_STRATUM : Nat := 0x680003
abbrev Obj.NTP_PRECISION : Nat := 0x680004
abbrev Obj.NTP_SHUT_NOTICE : Nat := 0x680005
abbrev Obj.NTP_LI : Nat := 0x680006
abbrev Obj.NTP_STRATUM : Nat := 0x680007
abbrev Obj.NTS_ROTATE : Nat := 0x680101
abbrev Obj.NTS_EPOCH : Nat := 0x680102
abbrev Obj.NTS_NEXT_ROTATE : Nat := 0x680103
abbrev Obj.NTS_LINEAGE_ID : Nat := 0x680104
abbrev Obj.NTS_REVOKE : Nat := 0x680105
abbrev Obj.NTS_MAX_COOKIES : Nat := 0x680106
abbrev Obj.NTS_BOUND_FIELD : Nat := 0x680107
abbrev Obj.NTS_COOKIE_SEAL : Nat := 0x680108
abbrev Obj.COOKIES_SEALED : Nat := 0x680109
abbrev Obj.NTS_CRYPTO_CAPACITY : Nat := 0x680201
abbrev Obj.NTS_CONTEXTS_HELD : Nat := 0x680202
abbrev Obj.NTS_CONTEXTS_PEAK : Nat := 0x680203
abbrev Obj.CONTEXT_LOST : Nat := 0x680204
abbrev Obj.LOUVRE_RATE : Nat := 0x680401
abbrev Obj.LOUVRE_BURST : Nat := 0x680402
abbrev Obj.LOUVRE_V6_PREFIX : Nat := 0x680403
abbrev Obj.LOUVRE_POLICY : Nat := 0x680404
abbrev Obj.LOUVRE_BUCKETS : Nat := 0x680405
abbrev Obj.LOUVRE_RESETS : Nat := 0x680406
abbrev Obj.SVC_ENABLE (n : Nat) : Nat := 0x681001 + 256 * n
abbrev Obj.SVC_ADDR (n : Nat) : Nat := 0x681002 + 256 * n
abbrev Obj.SVC_VLAN (n : Nat) : Nat := 0x681003 + 256 * n
abbrev Obj.SVC_PORTS (n : Nat) : Nat := 0x681004 + 256 * n
abbrev Obj.SVC_MAC (n : Nat) : Nat := 0x681005 + 256 * n
abbrev Obj.SVC_NTP (n : Nat) : Nat := 0x681006 + 256 * n
abbrev Obj.SVC_REQ (n : Nat) : Nat := 0x681007 + 256 * n
abbrev Obj.NTP_SERVED (n : Nat) : Nat := 0x683001 + 256 * n
abbrev Obj.NTS_SERVED (n : Nat) : Nat := 0x683002 + 256 * n
abbrev Obj.NTP_STANDBY_DROP (n : Nat) : Nat := 0x683003 + 256 * n
abbrev Obj.NTP_LEN_DROP (n : Nat) : Nat := 0x683004 + 256 * n
abbrev Obj.NTP_CSUM_DROP (n : Nat) : Nat := 0x683005 + 256 * n
abbrev Obj.NTP_VERSION_DROP (n : Nat) : Nat := 0x683006 + 256 * n
abbrev Obj.MODE6_DROP (n : Nat) : Nat := 0x683007 + 256 * n
abbrev Obj.MODE7_DROP (n : Nat) : Nat := 0x683008 + 256 * n
abbrev Obj.NTP_MODE_DROP (n : Nat) : Nat := 0x683009 + 256 * n
abbrev Obj.NTS_REQUIRED_DROP (n : Nat) : Nat := 0x68300A + 256 * n
abbrev Obj.LOUVRE_DROP (n : Nat) : Nat := 0x68300B + 256 * n
abbrev Obj.NTS_MALFORMED (n : Nat) : Nat := 0x68300C + 256 * n
abbrev Obj.NTS_OVERLOAD (n : Nat) : Nat := 0x68300D + 256 * n
abbrev Obj.NTS_NO_CONTEXT (n : Nat) : Nat := 0x68300E + 256 * n
abbrev Obj.NTP_QUEUE_DROP (n : Nat) : Nat := 0x68300F + 256 * n
abbrev Obj.KOD_NTSN (n : Nat) : Nat := 0x683010 + 256 * n
abbrev Obj.KOD_RATE (n : Nat) : Nat := 0x683011 + 256 * n
abbrev Obj.KOD_XBND (n : Nat) : Nat := 0x683012 + 256 * n
abbrev Obj.BOUND_FIELD_TX (n : Nat) : Nat := 0x683013 + 256 * n
abbrev Obj.UNSERVED_DROP (n : Nat) : Nat := 0x683014 + 256 * n
abbrev Obj.PLACEHOLDER_BAD (n : Nat) : Nat := 0x683015 + 256 * n
abbrev Obj.NTP_RESTART_DROP (n : Nat) : Nat := 0x683016 + 256 * n
abbrev Obj.LC_STATE : Nat := 0x700001
abbrev Obj.LC_CHALLENGE : Nat := 0x700002
abbrev Obj.LC_TRANSITION : Nat := 0x700003
abbrev Obj.PUF_BER : Nat := 0x700101
abbrev Obj.PUF_ATTEMPTS : Nat := 0x700102
abbrev Obj.DRBG_STATE : Nat := 0x700103
abbrev Obj.DRBG_STARVED : Nat := 0x700104
abbrev Obj.DEVICE_CERT : Nat := 0x700201
abbrev Obj.DEVICE_SERIAL : Nat := 0x700202
abbrev Obj.IDENTITY_PUBLIC : Nat := 0x700203
abbrev Obj.KEY_IMPORT : Nat := 0x700301
abbrev Obj.KEY_GENERATE : Nat := 0x700302
abbrev Obj.KEY_ZEROIZE : Nat := 0x700303
abbrev Obj.KEY_BAD_COUNT : Nat := 0x700304
abbrev Obj.KEY_CHECK_LAST : Nat := 0x700305
abbrev Obj.SLOT_HEADER (n : Nat) : Nat := 0x710001 + 256 * n
abbrev Obj.KEY_ID (n : Nat) : Nat := 0x710002 + 256 * n
abbrev Obj.SLOT_STATE (n : Nat) : Nat := 0x710003 + 256 * n
abbrev Obj.PUBLIC_KEY (n : Nat) : Nat := 0x710004 + 256 * n
abbrev Obj.KEY_USE_FAIL (n : Nat) : Nat := 0x710005 + 256 * n
abbrev Obj.TAMPER_STATE : Nat := 0x701001
abbrev Obj.TAMPER_ENABLE : Nat := 0x701002
abbrev Obj.TAMPER_STICKY : Nat := 0x701003
abbrev Obj.TAMPER_ACK : Nat := 0x701004
abbrev Obj.TAMPER_RECORDS : Nat := 0x701005
abbrev Obj.TAMPER_OVERFLOW : Nat := 0x701006
abbrev Obj.TAMPER_POLARITY : Nat := 0x701007
abbrev Obj.TAMPER_DEBOUNCE : Nat := 0x701008
abbrev Obj.TAMPER_ACTION (n : Nat) : Nat := 0x701101 + 256 * n
abbrev Obj.TAMPER_LIVE (n : Nat) : Nat := 0x701102 + 256 * n
abbrev Obj.TAMPER_EVENTS (n : Nat) : Nat := 0x701103 + 256 * n
abbrev Obj.PAIR_PEER_FP : Nat := 0x702001
abbrev Obj.PAIR_BOND : Nat := 0x702002
abbrev Obj.PAIR_UNBOND : Nat := 0x702003
abbrev Obj.PAIR_BOND_STATE : Nat := 0x702004
abbrev Obj.PAIR_BOND_CAUSE : Nat := 0x702005
abbrev Obj.TRANSOM_UDP_PORT : Nat := 0x9C0001
abbrev Obj.TRANSOM_VLAN : Nat := 0x9C0002
abbrev Obj.TRANSOM_IDLE : Nat := 0x9C0003
abbrev Obj.MGMT_IPV4 : Nat := 0x9C0004
abbrev Obj.MGMT_IPV4_PREFIX : Nat := 0x9C0005
abbrev Obj.MGMT_IPV4_GW : Nat := 0x9C0006
abbrev Obj.MGMT_IPV6 : Nat := 0x9C0007
abbrev Obj.MGMT_MAC : Nat := 0x9C0008
abbrev Obj.MGMT_VLAN : Nat := 0x9C0009
abbrev Obj.SESSIONS_OPEN : Nat := 0x9C000A
abbrev Obj.OPEN_FAIL : Nat := 0x9C000B
abbrev Obj.FRAME_AUTH_FAIL : Nat := 0x9C000C
abbrev Obj.FRAME_REPLAY : Nat := 0x9C000D
abbrev Obj.TRANSOM_LEN_DROP : Nat := 0x9C000E
abbrev Obj.REQ_BUSY : Nat := 0x9C000F
abbrev Obj.SPI_OVERRUN : Nat := 0x9C0010
abbrev Obj.NOTIFY_DROP : Nat := 0x9C0011
abbrev Obj.ENROL_REFUSED : Nat := 0x9C0012
abbrev Obj.LATCH_HOLDER : Nat := 0x9C0101
abbrev Obj.LATCH_STATE : Nat := 0x9C0102
abbrev Obj.LATCH_KEY_ID : Nat := 0x9C0103
abbrev Obj.LATCH_LEASE_LEFT : Nat := 0x9C0104
abbrev Obj.LATCH_CHANGES : Nat := 0x9C0105
abbrev Obj.GROUPS_HELD : Nat := 0x9C0301
abbrev Obj.GROUP_LATE : Nat := 0x9C0302
abbrev Obj.GROUP_LIST : Nat := 0x9C0303
abbrev Obj.JOURNAL_HEAD_SEQ : Nat := 0x9C0201
abbrev Obj.JOURNAL_OLDEST_SEQ : Nat := 0x9C0202
abbrev Obj.JOURNAL_ENTRIES : Nat := 0x9C0203
abbrev Obj.JOURNAL_EPOCH : Nat := 0x9C0204
abbrev Obj.JOURNAL_EPOCH_PERIOD : Nat := 0x9C0205
abbrev Obj.JOURNAL_KEY : Nat := 0x9C0206
abbrev Obj.JOURNAL_NOR_SEQ : Nat := 0x9C0207
abbrev Obj.JOURNAL_LOST : Nat := 0x9C0208
abbrev Obj.JOURNAL_BREAKS : Nat := 0x9C0209
abbrev Obj.SESS_STATE (n : Nat) : Nat := 0x9C0F01 + 256 * n
abbrev Obj.SESS_INTERFACE (n : Nat) : Nat := 0x9C0F02 + 256 * n
abbrev Obj.SESS_PEER (n : Nat) : Nat := 0x9C0F03 + 256 * n
abbrev Obj.SESS_KEY_ID (n : Nat) : Nat := 0x9C0F04 + 256 * n
abbrev Obj.SESS_IN_FLIGHT (n : Nat) : Nat := 0x9C0F05 + 256 * n
abbrev Obj.SESS_OPENED_AT (n : Nat) : Nat := 0x9C0F06 + 256 * n
abbrev Obj.SESS_REQUESTS (n : Nat) : Nat := 0x9C0F07 + 256 * n
abbrev Obj.CRED_ROLE (n : Nat) : Nat := 0x9D0001 + 256 * n
abbrev Obj.CRED_RANK (n : Nat) : Nat := 0x9D0002 + 256 * n
abbrev Obj.CRED_READ_MASK (n : Nat) : Nat := 0x9D0003 + 256 * n
abbrev Obj.VENDOR_NAME : Nat := 0x100001
abbrev Obj.PART_NUMBER : Nat := 0x100002
abbrev Obj.VARIANT : Nat := 0x100003
abbrev Obj.HW_REVISION : Nat := 0x100004
abbrev Obj.DIE_STEPPING : Nat := 0x100005
abbrev Obj.BASE_MAC : Nat := 0x100006
abbrev Obj.PRODUCTION_AT : Nat := 0x100007
abbrev Obj.DICT_VERSION : Nat := 0x100008
abbrev Obj.DICT_CATALOGUE : Nat := 0x100101
abbrev Obj.DICT_FAMILIES : Nat := 0x100102
abbrev Obj.PANE_READS : Nat := 0x100201
abbrev Obj.AGENT_REQUESTS : Nat := 0x100202
abbrev Obj.PANE_LATENCY_MAX : Nat := 0x100203
abbrev Obj.STAT_PERIOD : Nat := 0x100204
abbrev Obj.STAT_SEQ : Nat := 0x100205
abbrev Obj.UNIT_PRESENT : Nat := 0x101001
abbrev Obj.TAP_LIST : Nat := 0x11FF01
abbrev Obj.DRAM_GEOMETRY : Nat := 0x800001
abbrev Obj.DRAM_SIZE : Nat := 0x800002
abbrev Obj.DRAM_STATE : Nat := 0x800003
abbrev Obj.REMAP_BIT : Nat := 0x800004
abbrev Obj.FW_WM_SIZE : Nat := 0x800005
abbrev Obj.SCRUB_INTERVAL : Nat := 0x800101
abbrev Obj.SCRUB_STARVE : Nat := 0x800102
abbrev Obj.SCRUB_LAP_LAST : Nat := 0x800103
abbrev Obj.SCRUB_LAP_MAX : Nat := 0x800104
abbrev Obj.SCRUB_LAPS : Nat := 0x800105
abbrev Obj.SCRUB_FORCED : Nat := 0x800106
abbrev Obj.SRAM_SCRUB_LAP_LAST : Nat := 0x800107
abbrev Obj.OUTSTANDING_NOW : Nat := 0x800201
abbrev Obj.OUTSTANDING_PEAK : Nat := 0x800202
abbrev Obj.HELD_BACK : Nat := 0x800203
abbrev Obj.DECODE_FAULT : Nat := 0x800204
abbrev Obj.CA_PARITY_RETRY : Nat := 0x800205
abbrev Obj.REMAP_CE_TRIGGER : Nat := 0x800301
abbrev Obj.REMAP_TABLE : Nat := 0x800302
abbrev Obj.REMAP_CLEAR : Nat := 0x800303
abbrev Obj.REMAP_FREE_DRAM : Nat := 0x800304
abbrev Obj.REMAP_FREE_SRAM : Nat := 0x800305
abbrev Obj.REMAP_DONE : Nat := 0x800306
abbrev Obj.REMAP_EXHAUSTED : Nat := 0x800307
abbrev Obj.REGION_BASE (n : Nat) : Nat := 0x801001 + 256 * n
abbrev Obj.REGION_SIZE (n : Nat) : Nat := 0x801002 + 256 * n
abbrev Obj.CE_COUNT (n : Nat) : Nat := 0x801003 + 256 * n
abbrev Obj.UE_COUNT (n : Nat) : Nat := 0x801004 + 256 * n
abbrev Obj.CE_BUCKET (n : Nat) : Nat := 0x801005 + 256 * n
abbrev Obj.CE_THRESHOLD (n : Nat) : Nat := 0x801006 + 256 * n
abbrev Obj.CE_LEAK_PERIOD (n : Nat) : Nat := 0x801007 + 256 * n
abbrev Obj.LAST_CE_ADDR (n : Nat) : Nat := 0x801008 + 256 * n
abbrev Obj.LAST_UE_ADDR (n : Nat) : Nat := 0x801009 + 256 * n
abbrev Obj.LAST_UE_AT (n : Nat) : Nat := 0x80100A + 256 * n
abbrev Obj.CE_BUCKET_TRIPS (n : Nat) : Nat := 0x80100B + 256 * n
abbrev Obj.DMA_STATE (n : Nat) : Nat := 0x804001 + 256 * n
abbrev Obj.DMA_LAST_STATUS (n : Nat) : Nat := 0x804002 + 256 * n
abbrev Obj.DMA_FAULT_IOVA (n : Nat) : Nat := 0x804003 + 256 * n
abbrev Obj.IOMMU_WINDOWS (n : Nat) : Nat := 0x804004 + 256 * n
abbrev Obj.DMA_DESCRIPTORS (n : Nat) : Nat := 0x804005 + 256 * n
abbrev Obj.DMA_BYTES (n : Nat) : Nat := 0x804006 + 256 * n
abbrev Obj.DMA_FAULTS (n : Nat) : Nat := 0x804007 + 256 * n
abbrev Obj.DMA_PREEMPTED (n : Nat) : Nat := 0x804008 + 256 * n
abbrev Obj.MASTER_RESETS (n : Nat) : Nat := 0x806001 + 256 * n
abbrev Obj.MASTER_OUTSTANDING (n : Nat) : Nat := 0x806002 + 256 * n
abbrev Obj.MASTER_FAULTS (n : Nat) : Nat := 0x806003 + 256 * n
abbrev Obj.SAMPLE_ENABLE : Nat := 0x980001
abbrev Obj.SAMPLE_PERIOD : Nat := 0x980002
abbrev Obj.SAMPLE_HEAD_SEQ : Nat := 0x980003
abbrev Obj.SAMPLES : Nat := 0x980004
abbrev Obj.SAMPLE_DROPPED : Nat := 0x980005
abbrev Obj.AGENT_QUEUE : Nat := 0x980006
abbrev Obj.AGENT_LATENCY_MAX : Nat := 0x980007
/-- TASK_TIME_t, by the task class t (1 to 18). -/
abbrev Obj.TASK_TIME (t : Nat) : Nat := 0x980200 + t
abbrev Obj.SAMPLE_PAGE (i : Nat) : Nat := 0x981101 + i
abbrev Obj.SYMTAB_PAGE (n i : Nat) : Nat := 0x982001 + 256 * n + i
abbrev Obj.CYCLES (n : Nat) : Nat := 0x984001 + 256 * n
abbrev Obj.PMC_SEL (n i : Nat) : Nat := 0x984002 + 256 * n + i
abbrev Obj.PMC_VALUE (n i : Nat) : Nat := 0x98400A + 256 * n + i
abbrev Obj.CORE_STATE (n : Nat) : Nat := 0x984012 + 256 * n
abbrev Obj.CORE_TASK (n : Nat) : Nat := 0x984013 + 256 * n
abbrev Obj.CORE_RESTARTS (n : Nat) : Nat := 0x984014 + 256 * n
abbrev Obj.PMC_SNAPSHOT (n : Nat) : Nat := 0x984015 + 256 * n
abbrev Obj.FAULT_WORST_STICKY : Nat := 0x880001
abbrev Obj.FAULT_WORST_LIVE : Nat := 0x880002
abbrev Obj.FAULT_STICKY_COUNT : Nat := 0x880003
abbrev Obj.FAULT_ROLE_HOLD : Nat := 0x880004
abbrev Obj.FAULT_TABLE : Nat := 0x880005
abbrev Obj.FAULT_N : Nat := 0x880101
abbrev Obj.FAULT_W : Nat := 0x880102
abbrev Obj.FAULT_OVERRIDES : Nat := 0x880103
abbrev Obj.FAULT_CLEAR : Nat := 0x880201
abbrev Obj.FAULT_SELECT : Nat := 0x880202
abbrev Obj.FAULT_RECORD : Nat := 0x880203
abbrev Obj.LAST_C4 : Nat := 0x880204
abbrev Obj.LAST_C4_VALID : Nat := 0x880205
abbrev Obj.FAULTS_C0 : Nat := 0x881001
abbrev Obj.FAULTS_C1 : Nat := 0x881002
abbrev Obj.FAULTS_C2 : Nat := 0x881003
abbrev Obj.FAULTS_C3 : Nat := 0x881004
abbrev Obj.ESCALATIONS : Nat := 0x881005
abbrev Obj.FAULT_CLEARS : Nat := 0x881006
abbrev Obj.CLEAR_REFUSED : Nat := 0x881007
abbrev Obj.RAISES_UNJOURNALLED : Nat := 0x881008
abbrev Obj.PAIR_ENABLE : Nat := 0x8C0001
abbrev Obj.PAIR_HOME : Nat := 0x8C0002
abbrev Obj.PAIR_REVERTIVE : Nat := 0x8C0003
abbrev Obj.WTR_PAIR : Nat := 0x8C0004
abbrev Obj.PAIR_ARB_TIME : Nat := 0x8C0005
abbrev Obj.PAIR_STANDBY_OUTPUTS : Nat := 0x8C0006
abbrev Obj.HINGE_DELAY_TX : Nat := 0x8C0007
abbrev Obj.HINGE_DELAY_RX : Nat := 0x8C0008
abbrev Obj.HINGE_ASYM_UNC : Nat := 0x8C0009
abbrev Obj.HINGE_LOOP_BW : Nat := 0x8C000A
abbrev Obj.PAIR_HEALTH_MAX_GRADE : Nat := 0x8C000B
abbrev Obj.PAIR_HANDOVER : Nat := 0x8C000C
abbrev Obj.PAIR_ROLE : Nat := 0x8C0101
abbrev Obj.HEALTH_WORD : Nat := 0x8C0102
abbrev Obj.PEER_HEALTH_WORD : Nat := 0x8C0103
abbrev Obj.HINGE_OFFSET : Nat := 0x8C0104
abbrev Obj.HINGE_STATE : Nat := 0x8C0105
abbrev Obj.PAIR_WTR_LEFT : Nat := 0x8C0106
abbrev Obj.PAIR_ROLE_SINCE : Nat := 0x8C0107
abbrev Obj.MIRROR_BACKLOG : Nat := 0x8C0108
abbrev Obj.PEER_HEALTH_PIN : Nat := 0x8C0109
abbrev Obj.TAKEOVERS : Nat := 0x8C0201
abbrev Obj.HANDBACKS : Nat := 0x8C0202
abbrev Obj.HANDBACK_FAIL : Nat := 0x8C0203
abbrev Obj.DUAL_ACTIVE : Nat := 0x8C0204
abbrev Obj.HINGE_DOWN_EVENTS : Nat := 0x8C0205
abbrev Obj.HINGE_AUTH_FAIL : Nat := 0x8C0206
abbrev Obj.LOCK_LOSS : Nat := 0x8C0207
abbrev Obj.MIRROR_OVERFLOW : Nat := 0x8C0208
abbrev Obj.MIRROR_RESYNC : Nat := 0x8C0209
abbrev Obj.PRBS_ERRORS : Nat := 0x8C020A
abbrev Obj.VIN_NOW : Nat := 0x900001
abbrev Obj.VKEEP_NOW : Nat := 0x900002
abbrev Obj.INPUT_POWER : Nat := 0x900003
abbrev Obj.SHUTTER_STAGE : Nat := 0x900004
abbrev Obj.SHUTTER_CAUSE : Nat := 0x900005
abbrev Obj.START_MILESTONE : Nat := 0x900006
abbrev Obj.MILESTONE_TIMES : Nat := 0x900007
abbrev Obj.START_CAUSE : Nat := 0x900008
abbrev Obj.DDR_VDDQ_CURRENT : Nat := 0x900009
abbrev Obj.POWER_BUDGET : Nat := 0x900101
abbrev Obj.POWER_HYST : Nat := 0x900102
abbrev Obj.KEEP_PORTS : Nat := 0x900103
abbrev Obj.SHUT_S1 : Nat := 0x900201
abbrev Obj.SHUT_S2 : Nat := 0x900202
abbrev Obj.SHUT_S3 : Nat := 0x900203
abbrev Obj.BUDGET_TRIPS : Nat := 0x900204
abbrev Obj.SHUT_NOTICE_CUT : Nat := 0x900205
abbrev Obj.RAIL_MV (i : Nat) : Nat := 0x901001 + i
abbrev Obj.INRUSH_BUDGET : Nat := 0x902001
abbrev Obj.INRUSH_QUEUE : Nat := 0x902002
abbrev Obj.INRUSH_WAIT_MAX : Nat := 0x902003
abbrev Obj.INRUSH_QUEUED : Nat := 0x902004
abbrev Obj.UPD_ACTIVE_BANK : Nat := 0x940001
abbrev Obj.UPD_STATE : Nat := 0x940002
abbrev Obj.UPD_ACTIVATE_AT : Nat := 0x940003
abbrev Obj.UPD_CONFLICT : Nat := 0x940004
abbrev Obj.UPD_TRIAL_LEFT : Nat := 0x940005
abbrev Obj.UPD_ACTIVATIONS : Nat := 0x940006
abbrev Obj.UPD_ROLLBACKS : Nat := 0x940007
abbrev Obj.SD_READ_ERR : Nat := 0x940008
abbrev Obj.UPD_SD_AUTO : Nat := 0x940101
abbrev Obj.UPD_TRIAL : Nat := 0x940102
abbrev Obj.UPD_STAGE_TRANSOM : Nat := 0x940201
abbrev Obj.UPD_INSTALL : Nat := 0x940202
abbrev Obj.UPD_ACTIVATE : Nat := 0x940203
abbrev Obj.UPD_CANCEL : Nat := 0x940204
abbrev Obj.UPD_ROLLBACK : Nat := 0x940205
abbrev Obj.UPD_DISCARD : Nat := 0x940206
abbrev Obj.STAGE_STATE (n : Nat) : Nat := 0x941001 + 256 * n
abbrev Obj.STAGE_CAUSE (n : Nat) : Nat := 0x941002 + 256 * n
abbrev Obj.STAGE_DIGEST (n : Nat) : Nat := 0x941003 + 256 * n
abbrev Obj.STAGE_HEADER (n : Nat) : Nat := 0x941004 + 256 * n
abbrev Obj.BANK_STATE (n : Nat) : Nat := 0x942001 + 256 * n
abbrev Obj.BANK_VERSIONS (n : Nat) : Nat := 0x942002 + 256 * n
abbrev Obj.BANK_RECORD (n : Nat) : Nat := 0x942003 + 256 * n
abbrev Obj.MGMT_MODE : Nat := 0x502001

def objRows04 : List ObjInfo := [
  ot 0x1000 0x1 1 1 .str .ro true false false 0,
  ot 0x1000 0x2 1 1 .str .ro true false false 0,
  orng 0x1000 0x3 1 1 .u8 .ro true false 0 3 0,
  ot 0x1000 0x4 1 1 .u16 .ro true false false 0,
  ot 0x1000 0x5 1 1 .u8 .ro true false false 0,
  ot 0x1000 0x6 1 1 .oct .ro true false false 0,
  ot 0x1000 0x7 1 1 .time96 .ro true false false 0,
  ot 0x1000 0x8 1 1 .u32 .ro true false false 0,
  ot 0x1001 0x1 1 1 .dom .ro false false false 0,
  ot 0x1001 0x2 1 1 .u16 .ro true false false 0,
  ot 0x1002 0x1 1 1 .u64 .ro true false true 0,
  ot 0x1002 0x2 1 1 .u64 .ro true false true 0,
  ot 0x1002 0x3 1 1 .u32 .ro true false false 0,
  orng 0x1002 0x4 1 1 .u16 .rw false true 1 3600 1,
  ot 0x1002 0x5 1 1 .u32 .ro true false false 0,
  ot 0x1010 0x1 1 1 .u64 .ro true false false 0,
  ot 0x11FF 0x1 1 1 .dom .ro false false false 0]

def objRows08a : List ObjInfo := [
  orng 0x2020 0x1 16 1 .u8 .ro true false 0 2 1,
  ot 0x2020 0x2 16 1 .i32 .ro true false false 0,
  ot 0x2020 0x3 16 1 .u32 .ro true false true 0,
  ot 0x2020 0x4 16 1 .u32 .ro true false true 0,
  ot 0x2020 0x5 16 1 .u32 .ro true false false 0,
  ot 0x2020 0x6 16 1 .time96 .ro true false false 0,
  ot 0x2000 0x1 1 1 .time96 .ro true false false 0,
  orng 0x2000 0x2 1 1 .u8 .ro true false 0 4 0,
  ot 0x2000 0x3 1 1 .time96 .ro true false false 0,
  ot 0x2000 0x4 1 1 .u64 .ro true false false 1407374883553280,
  ot 0x2000 0x5 1 1 .i64 .ro true false false 0,
  ot 0x2000 0x6 1 1 .u64 .ro true false false 0,
  ot 0x2000 0x7 1 1 .u32 .ro true false true 0,
  orng 0x2001 0x1 1 1 .u8 .rw false true 0 1 0,
  ot 0x2001 0x2 1 1 .u64 .rw false true false 1407374883553280,
  ot 0x2001 0x3 1 1 .time96 .ro true false false 0,
  orng 0x2001 0x4 1 1 .u32 .rw false true 100 1000000 10000,
  orng 0x2001 0x5 1 1 .u32 .rw false true 100 1000000 100000,
  orng 0x2001 0x6 1 1 .u16 .rw false true 500 5000 707,
  orng 0x2001 0x7 1 1 .u32 .rw false true 1000000 1000000000 20000000,
  orng 0x2001 0x8 1 1 .u32 .rw false true 1000 1000000000 20000,
  orng 0x2001 0x9 1 1 .u16 .rw false true 1 3600 30,
  orng 0x2001 0xA 1 1 .u8 .ro true false 0 1 0,
  orng 0x2002 0x1 1 1 .u32 .rw false true 1 1000000 50,
  orng 0x2002 0x2 1 1 .u8 .rw false true 0 1 1,
  orng 0x2002 0x3 1 1 .u64 .rw false true 1000 1000000000000 1000000,
  ot 0x2002 0x4 1 1 .i64 .rw false true false 0,
  ot 0x2002 0x5 1 1 .time96 .rw false true false 0,
  ot 0x2002 0x6 1 1 .u8 .cmd false true false 0,
  ot 0x2002 0x7 1 1 .time96 .cmd false true false 0,
  orng 0x2002 0x8 1 1 .u8 .ro true false 0 3 0,
  ot 0x2002 0x9 1 1 .i64 .ro true false false 0,
  ot 0x2002 0xA 1 1 .time96 .ro true false false 0,
  ot 0x2002 0xB 1 1 .u32 .ro true false false 0,
  orng 0x2003 0x1 1 1 .i32 .rw false true 0 1000 37,
  orng 0x2003 0x2 1 1 .u8 .rw false true 0 1 0,
  orng 0x2003 0x3 1 1 .u8 .rwc false true 0 2 0,
  ot 0x2003 0x4 1 1 .time96 .rwc false true false 0,
  ot 0x2003 0x5 1 1 .bool .ro true false false 0,
  ot 0x2003 0x6 1 1 .time96 .ro true false false 0]

def objRows08b : List ObjInfo := [
  ot 0x2003 0x7 1 1 .u8 .ro true false false 0,
  ot 0x2004 0x1 1 1 .bool .ro true false false 0,
  ot 0x2004 0x2 1 1 .u64 .ro true false false 0,
  ot 0x2004 0x3 1 1 .i64 .ro true false false 0,
  orng 0x2004 0x4 1 1 .u32 .rw false true 100 1000000 300000,
  ot 0x2004 0x5 1 1 .u8 .ro true false false 1,
  ot 0x2004 0x6 1 1 .u64 .ro true false false 0,
  ot 0x2005 0x1 1 1 .u8 .cmd false false false 0,
  ot 0x2005 0x2 1 1 .time96 .ro true false false 0,
  ot 0x2005 0x3 1 1 .bound80 .ro true false false 1208925819614629174706175,
  ot 0x2005 0x4 1 1 .u64 .ro true false false 0,
  ot 0x2005 0x5 1 1 .u64 .ro true false false 0,
  ot 0x2005 0x6 1 1 .u64 .ro true false false 0,
  ot 0x2005 0x7 1 1 .i32 .ro true false false 0,
  ot 0x2005 0x8 1 1 .u32 .ro true false false 0,
  orng 0x2010 0x1 2 1 .u8 .ro true false 0 2 1,
  ot 0x2010 0x2 2 1 .i32 .ro true false false 0,
  ot 0x2010 0x3 2 1 .u32 .ro true false true 0,
  ot 0x2010 0x4 2 1 .u32 .ro true false true 0,
  ot 0x2010 0x5 2 1 .u32 .ro true false false 0,
  ot 0x2010 0x6 2 1 .time96 .ro true false false 0]

def objRows08 : List ObjInfo := objRows08a ++ objRows08b

def objRows09a : List ObjInfo := [
  ot 0x2400 0x1 1 1 .bound80 .ro true false false 1208925819614629174706175,
  ot 0x2400 0x2 1 1 .time96 .ro true false false 0,
  ot 0x2400 0x3 1 1 .u8 .ro true false false 255,
  orng 0x2400 0x4 1 1 .u8 .ro true false 0 2 0,
  ot 0x2400 0x5 1 1 .u8 .ro true true false 4,
  ot 0x2400 0x6 1 1 .u8 .ro true false false 254,
  ot 0x2400 0x7 1 1 .u16 .ro true false false 65535,
  ot 0x2400 0x8 1 1 .u32 .ro true false false 4294967295,
  ot 0x2400 0x9 1 1 .u64 .ro true false false 0,
  ot 0x2400 0xA 1 1 .u64 .ro true false false 0,
  ot 0x2400 0xB 1 1 .u64 .ro true false false 0,
  ot 0x2400 0xC 1 1 .i64 .ro true false false 0,
  ot 0x2400 0xD 1 1 .u16 .ro true false false 0,
  ot 0x2400 0xE 1 1 .u64 .ro true false false 0,
  ot 0x2400 0xF 1 1 .u32 .ro true false false 10000,
  ot 0x2401 0x1 1 1 .u32 .ro true false true 0,
  ot 0x2401 0x2 1 1 .u32 .ro true false true 0,
  ot 0x2401 0x3 1 1 .u8 .ro true false false 255,
  ot 0x2401 0x4 1 1 .time96 .ro true false false 0,
  ot 0x2401 0x5 1 1 .i64 .ro true false false 0,
  ot 0x2401 0x6 1 1 .bound80 .ro true false false 1208925819614629174706175,
  orng 0x2401 0x7 1 1 .u16 .rw false true 100 60000 2000,
  orng 0x2402 0x1 1 1 .u64 .rw false true 1000 1099511627774 1000000000,
  orng 0x2402 0x2 1 1 .u64 .rw false true 1000 1099511627774 1000000,
  orng 0x2402 0x3 1 1 .u16 .rw false true 0 3600 10,
  orng 0x2410 0x1 2 1 .u32 .rw false true 1 1000000000 10000,
  ot 0x2410 0x2 2 1 .u32 .ro true false false 0,
  orng 0x2410 0x3 2 1 .u32 .rw false true 0 1000000 12000,
  orng 0x2410 0x4 2 1 .u32 .rw false true 0 1000000 10000,
  orng 0x2412 0x1 1 1 .u32 .rw false true 1 1000000000 10000,
  ot 0x2412 0x2 1 1 .u32 .ro true false false 0,
  ot 0x2420 0x1 1 1 .u32 .ro true false false 50,
  ot 0x2420 0x2 1 1 .u32 .ro true false false 20,
  ot 0x2420 0x3 1 1 .u32 .ro true false false 233,
  ot 0x2420 0x4 1 1 .u32 .ro true false false 1,
  ot 0x2440 0x1 30 1 .u32 .rw false true false 0,
  ot 0x2440 0x2 30 1 .u32 .rw false true false 0,
  ot 0x2440 0x3 30 1 .u32 .rw false true false 0,
  ot 0x2440 0x4 30 1 .bound80 .ro true false false 1208925819614629174706175,
  ot 0x2440 0x5 30 1 .i64 .ro true false false 0]

def objRows09b : List ObjInfo := [
  orng 0x2440 0x6 30 1 .u8 .ro true false 0 4 0,
  ot 0x2440 0x7 30 1 .time96 .ro true false false 0]

def objRows09 : List ObjInfo := objRows09a ++ objRows09b

def objRows0Ca : List ObjInfo := [
  ot 0x3000 0x1 1 1 .u8 .ro true true false 255,
  ot 0x3000 0x2 1 1 .u8 .ro true true false 255,
  orng 0x3000 0x3 1 1 .u8 .ro true false 0 1 0,
  ot 0x3000 0x4 1 1 .u32 .ro true false true 0,
  orng 0x3000 0x5 1 1 .u32 .rw false true 1 1000000 10,
  orng 0x3000 0x6 1 1 .u32 .rw false true 1 1000000000 10000,
  ot 0x3000 0x7 1 1 .bool .rw false true false 1,
  orng 0x3000 0x8 1 1 .u32 .rw false true 1000 1000000000 2000000,
  orng 0x3000 0x9 1 1 .u8 .rw false true 1 255 3,
  orng 0x3000 0xA 1 1 .u16 .rw false true 0 3600 60,
  orng 0x3000 0xB 1 1 .u16 .rw false true 10 3600 600,
  ot 0x3000 0xC 1 1 .u32 .ro true false true 0,
  orng 0x3000 0xD 1 1 .u8 .rw false true 1 3 1,
  orng 0x3000 0xE 1 1 .u8 .rw false true 0 15 11,
  orng 0x3001 0x1 1 1 .u32 .rw false true 3600 2592000 86400,
  orng 0x3001 0x2 1 1 .u32 .rw false true 86400 2592000 604800,
  orng 0x3001 0x3 1 1 .u8 .ro true false 0 1 1,
  ot 0x3001 0x4 1 1 .u32 .ro true false false 0,
  orng 0x3010 0x1 30 1 .u8 .rw false true 0 2 0,
  orng 0x3010 0x2 30 1 .u8 .rw false true 0 3 3,
  orng 0x3010 0x3 30 1 .u8 .rw false true 1 15 8,
  ot 0x3010 0x4 30 1 .u8 .ro true true false 0,
  orng 0x3010 0x5 30 1 .u8 .ro true false 0 6 0,
  ot 0x3010 0x6 30 1 .u8 .ro true false false 255,
  orng 0x3010 0x7 30 1 .u8 .rw false true 0 254 128,
  ot 0x3010 0x8 30 1 .u32 .rw false true false 100000,
  ot 0x3010 0x9 30 1 .u32 .rw false true false 100000,
  orng 0x3010 0xA 30 1 .u32 .rw false true 1 1000000000 10000,
  ot 0x3010 0xB 30 1 .i32 .rw false true false 0,
  orng 0x3010 0xC 30 1 .u16 .rw false true 100 60000 2000,
  orng 0x3010 0xD 30 1 .u16 .rw false true 1 3600 10,
  orng 0x3010 0xE 30 1 .u16 .rw false true 0 3600 10,
  orng 0x3010 0xF 30 1 .u32 .rw false true 1000 100000000 5000000,
  orng 0x3010 0x10 30 1 .u64 .rw false true 1 200000000000000 1000000,
  ot 0x3010 0x11 30 1 .u8 .rw false true false 255,
  ot 0x3010 0x12 30 1 .u8 .rw false true false 255,
  orng 0x3010 0x13 30 1 .u16 .rw false true 1 65535 1,
  ot 0x3010 0x14 30 1 .u8 .rw false true false 255,
  ot 0x3010 0x15 30 1 .u32 .ro true false false 1000,
  ot 0x3010 0x16 30 1 .i64 .ro true false false 0]

def objRows0Cb : List ObjInfo := [
  ot 0x3010 0x17 30 1 .u64 .ro true false false 0,
  ot 0x3010 0x18 30 1 .time96 .ro true false false 0,
  ot 0x3010 0x19 30 1 .u16 .ro true false false 0,
  ot 0x3010 0x1A 30 1 .u8 .ro true false false 255,
  ot 0x3010 0x1B 30 1 .u32 .ro true false true 0,
  ot 0x3010 0x1C 30 1 .u32 .ro true false true 0,
  ot 0x3010 0x1D 30 1 .u32 .ro true false true 0,
  ot 0x3040 0x1 1 1 .bool .rw false true false 0,
  ot 0x3040 0x2 1 1 .dom .rw false true false 0,
  orng 0x3040 0x3 1 1 .u8 .ro true false 0 1 0,
  orng 0x3040 0x4 1 1 .u8 .rw false true 0 2 0,
  orng 0x3040 0x5 1 1 .u32 .rw false true 100 1000000 10000,
  orng 0x3040 0x6 1 1 .u32 .rw false true 1 1000000 100,
  ot 0x3040 0x7 1 1 .i64 .rw false true false 0,
  ot 0x3040 0x8 1 1 .i64 .ro true false false 0,
  ot 0x3040 0x9 1 1 .u32 .ro true false false 0,
  orng 0x3040 0xA 1 1 .u8 .ro true false 0 2 0,
  ot 0x3040 0xB 1 1 .bool .rw false true false 1,
  ot 0x3040 0xC 1 1 .i32 .ro true false false 0,
  ot 0x3040 0xD 1 1 .u32 .ro true false true 0,
  ot 0x3040 0xE 1 1 .u32 .ro true false true 0,
  ot 0x3050 0x1 16 1 .bool .rw false true false 1,
  orng 0x3050 0x2 16 1 .u8 .rw false true 1 2 1,
  ot 0x3050 0x3 16 1 .u8 .ro true false false 15,
  ot 0x3050 0x4 16 1 .u8 .ro true false false 0,
  ot 0x3050 0x5 16 1 .u8 .ro true false false 15,
  orng 0x3050 0x6 16 1 .u8 .rw false true 0 254 128,
  ot 0x3050 0x7 16 1 .u32 .ro true false true 0,
  ot 0x3050 0x8 16 1 .u32 .ro true false true 0,
  ot 0x3050 0x9 16 1 .u32 .ro true false true 0,
  ot 0x3050 0xA 16 1 .u32 .ro true false true 0]

def objRows0C : List ObjInfo := objRows0Ca ++ objRows0Cb

def objRows0Da : List ObjInfo := [
  orng 0x3400 0x1 1 1 .u8 .rw false true 10 100 60,
  ot 0x3400 0x2 1 1 .u32 .ro true false false 0,
  ot 0x3400 0x3 1 1 .bool .rw false true false 1,
  ot 0x3410 0x1 16 1 .u8 .rw false true false 0,
  orng 0x3410 0x2 16 1 .u8 .rw false true 0 1 0,
  orng 0x3410 0x3 16 1 .u64 .rw false true 1 200000000000000 1000000,
  orng 0x3410 0x4 16 1 .u16 .rw false true 1 65535 1,
  orng 0x3410 0x5 16 1 .u16 .rw false true 1 65535 16,
  orng 0x3410 0x6 16 1 .u32 .rw false true 1 3600000 20000,
  ot 0x3410 0x7 16 1 .u8 .ro true false false 0,
  ot 0x3410 0x8 16 1 .u32 .ro true false false 0,
  ot 0x3410 0x9 16 1 .time96 .ro true false false 0,
  ot 0x3410 0xA 16 1 .u32 .ro true false true 0,
  ot 0x3410 0xB 16 1 .u32 .ro true false true 0,
  ot 0x3410 0xC 16 1 .u32 .ro true false false 0,
  ot 0x3410 0xD 16 1 .u16 .ro true false false 0,
  ot 0x3410 0xE 16 1 .i64 .ro true false false 0,
  ot 0x3410 0xF 16 1 .u64 .ro true false false 0,
  ot 0x3410 0x10 16 1 .i64 .ro true false false 0,
  ot 0x3410 0x11 16 1 .i64 .ro true false false 0,
  ot 0x3410 0x12 16 1 .i64 .ro true false false 0,
  ot 0x3410 0x13 16 1 .i64 .ro true false false 0,
  ot 0x3410 0x14 16 1 .u64 .ro true false false 0,
  ot 0x3410 0x15 16 1 .u32 .ro true false false 4294967295,
  ot 0x3410 0x16 16 1 .time96 .ro true false false 0,
  ot 0x3410 0x17 16 1 .time96 .ro true false false 0,
  ot 0x3410 0x18 16 1 .u8 .ro true false false 0,
  ot 0x3410 0x19 16 1 .u32 .ro true false true 0,
  ot 0x3410 0x1A 16 1 .u32 .ro true false true 0,
  ot 0x3410 0x1B 16 1 .dom .ro false false false 0,
  ot 0x3440 0x1 1 1 .u32 .ro true false false 50000000,
  ot 0x3440 0x2 1 1 .i64 .ro true false false 0,
  ot 0x3440 0x3 1 1 .i64 .ro true false false 0,
  ot 0x3440 0x4 1 1 .i64 .ro true false false 0,
  ot 0x3440 0x5 1 1 .i64 .ro true false false 0,
  orng 0x3440 0x6 1 1 .i32 .rw false true (-1000000) 1000000 0,
  ot 0x3440 0x7 1 1 .time96 .rw false true false 0,
  ot 0x3440 0x8 1 1 .bool .rw false true false 1,
  ot 0x3440 0x9 1 1 .dom .prv false true false 0,
  ot 0x3441 0x1 1 1 .i16 .ro true false false 0]

def objRows0Db : List ObjInfo := [
  ot 0x3441 0x2 1 1 .i16 .ro true false false 0,
  ot 0x3441 0x3 1 1 .u8 .ro true false false 0]

def objRows0D : List ObjInfo := objRows0Da ++ objRows0Db

def objRows0E : List ObjInfo := [
  ot 0x3800 0x1 4 1 .u8 .rw false true false 1,
  ot 0x3800 0x2 4 1 .u8 .ro true false false 0,
  orng 0x3800 0x3 4 1 .u32 .rw false true 1000 10000000 50000,
  orng 0x3800 0x4 4 1 .u32 .rw false true 1000000 100000000 10000000,
  orng 0x3800 0x5 4 1 .u32 .rw false true 1 10000 100,
  orng 0x3800 0x6 4 1 .u8 .rw false true 0 1 0,
  ot 0x3800 0x7 4 1 .i64 .ro true false false 0,
  ot 0x3800 0x8 4 1 .i64 .ro true false false 0,
  ot 0x3800 0x9 4 1 .u32 .ro true false true 0,
  orng 0x3810 0x1 4 1 .u8 .ro true false 0 3 0,
  orng 0x3810 0x2 4 1 .u8 .ro true false 0 63 0,
  orng 0x3810 0x3 4 1 .u8 .rw false true 1 16 4,
  ot 0x3810 0x4 4 1 .u64 .ro true false false 10000000000,
  ot 0x3810 0x5 4 1 .u32 .ro true false true 0,
  ot 0x3810 0x6 4 1 .u32 .ro true false true 0,
  ot 0x3820 0x1 12 1 .bool .rw false true false 0,
  ot 0x3820 0x2 12 1 .u8 .rw false true false 255,
  ot 0x3820 0x3 12 1 .u64 .rw false true false 10000000000,
  orng 0x3820 0x4 12 1 .u8 .rw false true 0 4 0,
  orng 0x3820 0x5 12 1 .u8 .rw false true 0 3 0,
  orng 0x3820 0x6 12 1 .u8 .rw false true 0 1 0,
  ot 0x3820 0x7 12 1 .bool .rw false true false 0,
  ot 0x3820 0x8 12 1 .u8 .cmd false true false 0,
  orng 0x3820 0x9 12 1 .u8 .ro true false 0 2 0,
  ot 0x3820 0xA 12 1 .u32 .ro true false true 0]

def objRows0Fa : List ObjInfo := [
  ot 0x3C00 0x1 4 1 .bool .rw false true false 0,
  orng 0x3C00 0x2 4 1 .i64 .rw false true (-32768000000000) 32768000000000 0,
  orng 0x3C00 0x3 4 1 .u32 .rw false true 100 900000000 100000000,
  orng 0x3C00 0x4 4 1 .u8 .rw false true 0 1 0,
  orng 0x3C00 0x5 4 1 .u8 .rw false true 0 4 3,
  orng 0x3C00 0x6 4 1 .u8 .ro true false 0 3 0,
  ot 0x3C00 0x7 4 1 .u32 .ro true false false 0,
  ot 0x3C00 0x8 4 1 .time96 .ro true false false 0,
  ot 0x3C00 0x9 4 1 .bound80 .ro true false false 1208925819614629174706175,
  ot 0x3C00 0xA 4 1 .u32 .ro true false true 0,
  ot 0x3C00 0xB 4 1 .u32 .ro true false true 0,
  ot 0x3C00 0xC 4 1 .u32 .ro true false true 0,
  orng 0x3C10 0x1 8 1 .u8 .rw false true 0 2 0,
  orng 0x3C10 0x2 8 1 .u8 .rw false true 0 4 0,
  ot 0x3C10 0x3 8 1 .time96 .rw false true false 0,
  ot 0x3C10 0x4 8 1 .u64 .rw false true false 65536000000000,
  ot 0x3C10 0x5 8 1 .u32 .rw false true false 100000000,
  ot 0x3C10 0x6 8 1 .u32 .rw false true false 0,
  ot 0x3C10 0x7 8 1 .u8 .rw false true false 255,
  ot 0x3C10 0x8 8 1 .i64 .rw false true false 0,
  orng 0x3C10 0x9 8 1 .u8 .rw false true 0 255 3,
  orng 0x3C10 0xA 8 1 .u8 .rw false true 0 1 0,
  ot 0x3C10 0xB 8 1 .u8 .cmd false true false 0,
  orng 0x3C10 0xC 8 1 .u8 .ro true false 0 5 0,
  ot 0x3C10 0xD 8 1 .time96 .ro true false false 0,
  ot 0x3C10 0xE 8 1 .u32 .ro true false true 0,
  ot 0x3C10 0xF 8 1 .u32 .ro true false true 0,
  ot 0x3C10 0x10 8 1 .u32 .ro true false true 0,
  ot 0x3C10 0x11 8 1 .u32 .ro true false true 0,
  ot 0x3C20 0x1 2 1 .bool .rw false true false 0,
  orng 0x3C20 0x2 2 1 .u8 .rw false true 0 3 0,
  orng 0x3C20 0x3 2 1 .u8 .rw false true 0 2 0,
  orng 0x3C20 0x4 2 1 .u32 .rw false true 4800 115200 9600,
  orng 0x3C20 0x5 2 1 .u32 .rw false true 0 500000 1000,
  orng 0x3C20 0x6 2 1 .u8 .rw false true 0 1 0,
  ot 0x3C20 0x7 2 1 .u32 .ro true false true 0,
  ot 0x3C20 0x8 2 1 .u32 .ro true false true 0,
  orng 0x3C28 0x1 2 1 .u8 .rw false true 0 1 0,
  orng 0x3C28 0x2 2 1 .u32 .rw false true 4800 115200 9600,
  orng 0x3C28 0x3 2 1 .u16 .rw false true 100 990 900]

def objRows0Fb : List ObjInfo := [
  ot 0x3C28 0x4 2 1 .u64 .ro true false false 0,
  ot 0x3C28 0x5 2 1 .u32 .ro true false true 0,
  ot 0x3C28 0x6 2 1 .u32 .ro true false true 0,
  ot 0x3C28 0x7 2 1 .u32 .ro true false true 0]

def objRows0F : List ObjInfo := objRows0Fa ++ objRows0Fb

def objRows10a : List ObjInfo := [
  ot 0x4000 0x1 1 1 .u8 .ro true false false 0,
  ot 0x4000 0x2 1 1 .u8 .ro true false false 0,
  ot 0x4000 0x3 1 1 .u8 .ro true false false 0,
  ot 0x4000 0x4 1 1 .u8 .ro true false false 0,
  ot 0x4000 0x5 1 1 .u32 .ro true false false 4294967295,
  ot 0x4000 0x6 1 1 .time96 .ro true false false 0,
  ot 0x4000 0x7 1 1 .u8 .ro true false false 0,
  ot 0x4000 0x8 1 1 .i16 .ro true false false 0,
  ot 0x4000 0x9 1 1 .i16 .ro true false false 0,
  ot 0x4000 0xA 1 1 .oct .ro true false false 0,
  ot 0x4000 0xB 1 1 .u32 .ro true false false 0,
  ot 0x4000 0xC 1 1 .u32 .ro true false true 0,
  ot 0x4000 0xD 1 1 .u32 .ro true false true 0,
  ot 0x4000 0xE 1 1 .u32 .ro true false true 0,
  ot 0x4000 0xF 1 1 .u32 .ro true false true 0,
  ot 0x4000 0x10 1 1 .u32 .ro true false true 0,
  orng 0x4001 0x1 1 1 .u8 .rw false true 0 31 31,
  orng 0x4001 0x2 1 1 .u8 .rw false true 1 3 3,
  orng 0x4001 0x3 1 1 .u8 .rw false true 8 96 96,
  orng 0x4001 0x4 1 1 .u8 .rw false true 5 30 10,
  orng 0x4001 0x5 1 1 .u8 .rw false true 20 45 30,
  ot 0x4001 0x6 1 1 .u8 .rw false true false 0,
  orng 0x4001 0x7 1 1 .u8 .rw false true 10 100 60,
  orng 0x4001 0x8 1 1 .u32 .rw false true 0 1000000000 10000,
  orng 0x4001 0x9 1 1 .u8 .rw false true 0 1 0,
  orng 0x4001 0xA 1 1 .u32 .rw false true 60 86400 3600,
  orng 0x4001 0xB 1 1 .u32 .rw false true 0 1000000 5000,
  orng 0x4001 0xC 1 1 .u16 .rw false true 10 3600 600,
  orng 0x4001 0xD 1 1 .u16 .rw false true 10 400 100,
  orng 0x4002 0x1 1 1 .u8 .rw false true 0 1 0,
  orng 0x4002 0x2 1 1 .u32 .rw false true 60 604800 3600,
  orng 0x4002 0x3 1 1 .u32 .rw false true 60 604800 86400,
  orng 0x4002 0x4 1 1 .u32 .rw false true 10 100000 1000,
  ot 0x4002 0x5 1 1 .u8 .cmd false true false 0,
  orng 0x4002 0x6 1 1 .u8 .ro true false 0 2 0,
  ot 0x4002 0x7 1 1 .i64 .rw false true false 0,
  ot 0x4002 0x8 1 1 .i64 .rw false true false 0,
  ot 0x4002 0x9 1 1 .i64 .rw false true false 0,
  ot 0x4002 0xA 1 1 .u32 .rw false true false 0,
  orng 0x4002 0xB 1 1 .u32 .rw false true 1000 10000000 100000]

def objRows10b : List ObjInfo := [
  orng 0x4002 0xC 1 1 .u16 .rw false true 1 3600 60,
  ot 0x4002 0xD 1 1 .bool .rw false true false 0,
  ot 0x4003 0x1 1 1 .bool .rw false true false 1,
  orng 0x4003 0x2 1 1 .i64 .rw false true (-32768000000000) 32768000000000 0,
  orng 0x4003 0x3 1 1 .u32 .rw false true 100 900000000 100000000,
  ot 0x4003 0x4 1 1 .u8 .rw false true false 1,
  ot 0x4003 0x5 1 1 .u32 .ro true false false 0,
  ot 0x4003 0x6 1 1 .time96 .ro true false false 0,
  orng 0x4004 0x1 1 1 .u8 .rw false true 0 2 1,
  orng 0x4004 0x2 1 1 .u8 .rw false true 10 100 60,
  ot 0x4004 0x3 1 1 .u16 .ro true false false 0,
  orng 0x4004 0x4 1 1 .u8 .ro true false 0 3 0,
  ot 0x4004 0x5 1 1 .u32 .ro true false true 0,
  ot 0x4010 0x1 4 1 .i64 .ro true false false 0,
  ot 0x4010 0x2 4 1 .bool .ro true false false 0,
  ot 0x4010 0x3 4 1 .i64 .ro true false false 0,
  ot 0x4010 0x4 4 1 .u32 .ro true false false 4294967295,
  ot 0x4010 0x5 4 1 .bool .ro true false false 0,
  orng 0x4020 0x1 1 1 .u8 .rw false true 1 20 1,
  ot 0x4020 0x2 1 1 .u8 .rw false true false 3,
  ot 0x4020 0x3 1 1 .time96 .rw false true false 0,
  ot 0x4020 0x4 1 1 .u8 .cmd false true false 0,
  ot 0x4020 0x5 1 1 .u8 .ro true false false 255,
  ot 0x4020 0x6 1 1 .u32 .ro true false true 0,
  ot 0x4020 0x7 1 1 .u32 .ro true false true 0,
  orng 0x4030 0x1 8 1 .u8 .ro true false 0 3 0,
  ot 0x4030 0x2 8 1 .dom .ro false false false 0]

def objRows10 : List ObjInfo := objRows10a ++ objRows10b

def objRows14a : List ObjInfo := [
  orng 0x5000 0x1 1 1 .u16 .rw false true 1518 9600 1522,
  ot 0x5010 0x1 16 1 .u8 .rw false true false 0,
  ot 0x5010 0x2 16 1 .u8 .rw false true false 0,
  orng 0x5010 0x3 16 1 .u8 .ro true false 0 2 0,
  orng 0x5010 0x4 16 1 .u8 .ro true false 0 1 0,
  ot 0x5010 0x5 16 1 .u16 .ro true false false 150,
  orng 0x5010 0x6 16 1 .u32 .rw false true 0 100000 0,
  orng 0x5010 0x7 16 1 .u32 .rw false true 0 100000 0,
  ot 0x5010 0x8 16 1 .dom .ro false false false 0,
  orng 0x5010 0x9 16 1 .u8 .rw false true 0 2 0,
  orng 0x5010 0xA 16 1 .u16 .rw false true 1 4094 1,
  orng 0x5010 0xB 16 1 .u8 .rw false true 0 7 0,
  ot 0x5010 0xC 16 1 .u8 .rw false true false 0,
  ot 0x5010 0xD 16 1 .bool .rw false true false 1,
  ot 0x5010 0xE 16 1 .u8 .ro true true false 0,
  ot 0x5010 0xF 16 1 .u32 .ro true false false 0,
  ot 0x5010 0x10 16 1 .u8 .cmd false true false 0,
  orng 0x5010 0x11 16 1 .u8 .rw false true 0 7 7,
  ot 0x5010 0x12 16 1 .i32 .ro true false false 0,
  ot 0x5010 0x13 16 1 .i32 .ro true false false 0,
  ot 0x5030 0x1 16 1 .u64 .ro true false true 0,
  ot 0x5030 0x2 16 1 .u32 .ro true false true 0,
  ot 0x5030 0x3 16 1 .u32 .ro true false true 0,
  ot 0x5030 0x4 16 1 .u32 .ro true false true 0,
  ot 0x5030 0x5 16 1 .u32 .ro true false true 0,
  ot 0x5030 0x6 16 1 .u32 .ro true false true 0,
  ot 0x5030 0x7 16 1 .u32 .ro true false true 0,
  ot 0x5030 0x8 16 1 .u32 .ro true false true 0,
  ot 0x5030 0x9 16 1 .u32 .ro true false true 0,
  ot 0x5030 0xA 16 1 .u64 .ro true false true 0,
  ot 0x5030 0xB 16 1 .u32 .ro true false true 0,
  ot 0x5030 0xC 16 1 .u32 .ro true false true 0,
  ot 0x5030 0xD 16 1 .u32 .ro true false true 0,
  ot 0x5030 0xE 16 1 .u32 .ro true false true 0,
  ot 0x5030 0xF 16 1 .u32 .ro true false true 0,
  ot 0x5030 0x10 16 1 .u32 .ro true false true 0,
  ot 0x5030 0x11 16 1 .u32 .ro true false true 0,
  ot 0x5030 0x12 16 1 .u32 .ro true false true 0,
  ot 0x5030 0x13 16 1 .u64 .ro true false true 0,
  ot 0x5030 0x14 16 1 .u64 .ro true false true 0]

def objRows14b : List ObjInfo := [
  ot 0x5030 0x15 16 1 .u64 .ro true false true 0,
  orng 0x5020 0x1 1 1 .u8 .rw false true 1 2 1,
  ot 0x5020 0x3 1 1 .u8 .ro true false false 0,
  ot 0x5040 0x1 1 1 .u64 .ro true false true 0,
  ot 0x5040 0x2 1 1 .u32 .ro true false true 0,
  ot 0x5040 0x3 1 1 .u32 .ro true false true 0,
  ot 0x5040 0x4 1 1 .u32 .ro true false true 0,
  ot 0x5040 0x5 1 1 .u32 .ro true false true 0,
  ot 0x5040 0x6 1 1 .u32 .ro true false true 0,
  ot 0x5040 0x7 1 1 .u32 .ro true false true 0,
  ot 0x5040 0x8 1 1 .u32 .ro true false true 0,
  ot 0x5040 0x9 1 1 .u32 .ro true false true 0,
  ot 0x5040 0xA 1 1 .u64 .ro true false true 0,
  ot 0x5040 0x10 1 1 .u32 .ro true false true 0,
  ot 0x5040 0x12 1 1 .u32 .ro true false true 0,
  ot 0x5040 0x14 1 1 .u64 .ro true false true 0,
  ot 0x5040 0x15 1 1 .u64 .ro true false true 0]

def objRows14 : List ObjInfo := objRows14a ++ objRows14b

def objRows16a : List ObjInfo := [
  orng 0x5800 0x1 1 1 .u16 .rw false true 64 3072 768,
  orng 0x5800 0x2 1 1 .u8 .rw false true 1 64 8,
  orng 0x5800 0x3 1 1 .u8 .rw false true 1 64 8,
  orng 0x5800 0x4 1 1 .u16 .rw false true 16 511 256,
  orng 0x5800 0x5 1 1 .u16 .rw false true 5 1000 50,
  ot 0x5800 0x6 1 1 .u32 .rw false true false 300,
  ot 0x5800 0x7 1 1 .bool .rw false true false 1,
  ot 0x5800 0x8 1 1 .bool .rw false true false 1,
  ot 0x5801 0x1 1 1 .u32 .ro true false false 0,
  ot 0x5801 0x2 1 1 .u32 .ro true false false 0,
  ot 0x5801 0x3 1 1 .u32 .ro true false false 0,
  ot 0x5801 0x4 1 1 .u32 .ro true false false 0,
  ot 0x5801 0x5 1 1 .u32 .ro true false false 0,
  ot 0x5801 0x6 1 1 .u32 .ro true false false 0,
  ot 0x5801 0x7 1 1 .u32 .ro true false true 0,
  ot 0x5801 0x8 1 1 .u32 .ro true false true 0,
  ot 0x5802 0x1 1 1 .dom .wo false true false 0,
  ot 0x5802 0x2 1 1 .u16 .cmd false true false 0,
  ot 0x5802 0x3 1 1 .dom .ro false false false 0,
  ot 0x5802 0x4 1 1 .dom .wo false true false 0,
  ot 0x5802 0x5 1 1 .dom .ro false false false 0,
  ot 0x5810 0x1 16 1 .u32 .ro true false false 0,
  ot 0x5810 0x2 16 1 .u32 .ro true false false 0,
  ot 0x5810 0x3 16 1 .u16 .ro true false false 0,
  ot 0x5810 0x4 16 1 .u32 .ro true false true 0,
  ot 0x5810 0x5 16 1 .u32 .ro true false true 0,
  ot 0x5810 0x6 16 1 .u32 .ro true false true 0,
  ot 0x5810 0x7 16 1 .u32 .ro true false true 0,
  ot 0x5810 0x8 16 1 .u32 .ro true false true 0,
  ot 0x5810 0x9 16 1 .u32 .ro true false true 0,
  ot 0x5810 0xA 16 1 .u32 .ro true false true 0,
  ot 0x5810 0xB 16 1 .u32 .ro true false true 0,
  ot 0x5810 0xC 16 1 .u32 .ro true false true 0,
  ot 0x5810 0xD 16 1 .u32 .ro true false true 0,
  ot 0x5810 0xE 16 1 .u64 .ro true false true 0,
  ot 0x5810 0xF 16 1 .u32 .ro true false true 0,
  ot 0x5810 0x10 16 1 .u32 .ro true false true 0,
  ot 0x5810 0x11 16 1 .u32 .ro true false true 0,
  ot 0x5810 0x12 16 1 .u32 .ro true false true 0,
  ot 0x5810 0x13 16 1 .u32 .ro true false true 0]

def objRows16b : List ObjInfo := [
  ot 0x5810 0x14 16 1 .u32 .ro true false true 0,
  ot 0x5810 0x15 16 1 .u32 .ro true false true 0]

def objRows16 : List ObjInfo := objRows16a ++ objRows16b

def objRows18a : List ObjInfo := [
  orng 0x6000 0x1 1 1 .u32 .rw false true 1000 8000000 8000000,
  ot 0x6000 0x2 1 1 .u32 .ro true false false 0,
  ot 0x6000 0x3 1 1 .u32 .ro true false false 0,
  ot 0x6000 0x4 1 1 .u32 .ro true false false 0,
  orng 0x6000 0x5 1 1 .u32 .rw false true 0 131072 131072,
  ot 0x6000 0x6 1 1 .u32 .ro true false false 0,
  orng 0x6000 0x7 1 1 .u16 .rw false true 1 1000 10,
  orng 0x6000 0x8 1 1 .u16 .rw false true 1 1000 1000,
  orng 0x6000 0x9 1 1 .i8 .rw false true (-7) 0 (-7),
  orng 0x6000 0xA 1 1 .i8 .rw false true (-7) 0 (-7),
  orng 0x6000 0xB 1 1 .i8 .rw false true (-3) 4 (-3),
  orng 0x6000 0xC 1 1 .u16 .rw false true 100 10000 2000,
  orng 0x6000 0xD 1 1 .u16 .rw false true 10 1000 300,
  ot 0x6000 0xE 1 1 .u32 .rw false false false 0,
  ot 0x6000 0xF 1 1 .u64 .ro true false true 0,
  ot 0x6000 0x10 1 1 .u64 .ro true false true 0,
  ot 0x6000 0x11 1 1 .oct .ro false false false 0,
  ot 0x6000 0x12 1 1 .u32 .cmd false true false 0,
  ot 0x6000 0x13 1 1 .u32 .ro true false true 0,
  ot 0x6000 0x14 1 1 .u32 .ro true false true 0,
  ot 0x6000 0x15 1 1 .u32 .ro true false true 0,
  ot 0x6000 0x16 1 1 .u32 .ro true false true 0,
  ot 0x6000 0x17 1 1 .u32 .ro true false true 0,
  ot 0x6000 0x18 1 1 .u32 .ro true false true 0,
  ot 0x6000 0x19 1 1 .u32 .ro true false true 0,
  ot 0x6010 0x1 4 1 .bool .rw false true false 0,
  ot 0x6010 0x2 4 1 .u8 .rw false true false 0,
  ot 0x6010 0x3 4 1 .u8 .rw false true false 0,
  ot 0x6010 0x4 4 1 .u8 .rw false true false 128,
  ot 0x6010 0x5 4 1 .u8 .rw false true false 128,
  orng 0x6010 0x6 4 1 .u8 .rw false true 1 255 128,
  ot 0x6010 0x7 4 1 .u8 .rw false true false 140,
  ot 0x6010 0x8 4 1 .bool .rw false true false 0,
  ot 0x6010 0x9 4 1 .oct .rw false true false 0,
  orng 0x6010 0xA 4 1 .u16 .rw false true 2 1024 16,
  ot 0x6010 0xB 4 1 .dom .rw false true false 0,
  ot 0x6010 0xC 4 1 .u8 .ro true false false 248,
  ot 0x6010 0xD 4 1 .u8 .ro true false false 255,
  ot 0x6010 0xE 4 1 .oct .ro true false false 0,
  ot 0x6010 0xF 4 1 .bound80 .ro true false false 1208925819614629174706175]

def objRows18b : List ObjInfo := [
  orng 0x6100 0x1 64 1 .u8 .rw false true 0 3 0,
  orng 0x6100 0x2 64 1 .u8 .rw false true 0 2 0,
  orng 0x6100 0x3 64 1 .u8 .rw false true 0 1 0,
  orng 0x6100 0x4 64 1 .i8 .rw false true (-7) 1 (-4),
  orng 0x6100 0x5 64 1 .i8 .rw false true (-3) 4 1,
  orng 0x6100 0x6 64 1 .i8 .rw false true (-7) 5 (-4),
  orng 0x6100 0x7 64 1 .u8 .rw false true 2 10 3,
  orng 0x6100 0x8 64 1 .u16 .rw false true 0 4094 0,
  ot 0x6100 0x9 64 1 .u8 .rw false true false 255,
  orng 0x6100 0xA 64 1 .u8 .rw false true 0 1 0,
  ot 0x6100 0xB 64 1 .u8 .rw false true false 1,
  orng 0x6100 0xC 64 1 .u32 .rw false true 0 1000000 128,
  orng 0x6100 0xD 64 1 .u8 .ro true true 0 7 0,
  ot 0x6100 0xE 64 1 .i64 .ro true false false 0,
  ot 0x6200 0x1 64 1 .u64 .ro true false true 0,
  ot 0x6200 0x2 64 1 .u32 .ro true false true 0,
  ot 0x6200 0x3 64 1 .u64 .ro true false true 0,
  ot 0x6200 0x4 64 1 .u64 .ro true false true 0,
  ot 0x6200 0x5 64 1 .u32 .ro true false true 0,
  ot 0x6200 0x6 64 1 .u32 .ro true false true 0,
  ot 0x6200 0x7 64 1 .u32 .ro true false true 0,
  ot 0x6200 0x8 64 1 .u32 .ro true false true 0,
  ot 0x6200 0x9 64 1 .u32 .ro true false true 0,
  ot 0x6200 0xA 64 1 .u32 .ro true false true 0,
  ot 0x6200 0xB 64 1 .u32 .ro true false true 0,
  ot 0x6200 0xC 64 1 .u32 .ro true false true 0,
  ot 0x6200 0xD 64 1 .u32 .ro true false true 0,
  ot 0x6200 0xE 64 1 .u32 .ro true false true 0,
  ot 0x6200 0xF 64 1 .u32 .ro true false true 0,
  ot 0x6200 0x10 64 1 .u32 .ro true false true 0,
  ot 0x6200 0x11 64 1 .u32 .ro true false true 0,
  ot 0x6200 0x12 64 1 .u32 .ro true false true 0,
  ot 0x6040 0x1 32 1 .u8 .rw false true false 0,
  orng 0x6040 0x2 32 1 .u8 .rw false true 0 3 0,
  ot 0x6040 0x3 32 1 .u8 .rw false true false 255,
  ot 0x6040 0x4 32 1 .u32 .rw false true false 0,
  ot 0x6040 0x5 32 1 .u8 .rw false true false 255,
  ot 0x6040 0x6 32 1 .u32 .rw false true false 0,
  ot 0x6040 0x7 32 1 .time96 .rw false true false 0,
  orng 0x6040 0x8 32 1 .u16 .rw false true 0 3600 60]

def objRows18c : List ObjInfo := [
  ot 0x6040 0x9 32 1 .bool .rw false true false 0,
  ot 0x6040 0xA 32 1 .u32 .ro true false false 0,
  ot 0x6040 0xB 32 1 .u32 .ro true false true 0,
  ot 0x6040 0xC 32 1 .u32 .ro true false true 0]

def objRows18 : List ObjInfo := objRows18a ++ objRows18b ++ objRows18c

def objRows1Aa : List ObjInfo := [
  orng 0x6800 0x1 1 1 .u8 .rw false true 0 1 1,
  ot 0x6800 0x2 1 1 .bool .rw false true false 0,
  orng 0x6800 0x3 1 1 .u8 .rw false true 1 15 2,
  ot 0x6800 0x4 1 1 .i8 .ro true false false (-30),
  orng 0x6800 0x5 1 1 .u16 .rw false true 0 35 20,
  ot 0x6800 0x6 1 1 .u8 .ro true false false 0,
  ot 0x6800 0x7 1 1 .u8 .ro true false false 0,
  orng 0x6801 0x1 1 1 .u32 .rw false true 3600 604800 86400,
  ot 0x6801 0x2 1 1 .u32 .ro true true false 0,
  ot 0x6801 0x3 1 1 .time96 .ro true false false 0,
  ot 0x6801 0x4 1 1 .u16 .ro true false false 0,
  ot 0x6801 0x5 1 1 .u8 .cmd false true false 0,
  orng 0x6801 0x6 1 1 .u8 .rw false true 1 8 8,
  ot 0x6801 0x7 1 1 .bool .rw false true false 1,
  ot 0x6801 0x8 1 1 .dom .cmd false false false 0,
  ot 0x6801 0x9 1 1 .u64 .ro true false true 0,
  ot 0x6802 0x1 1 1 .u32 .ro true false false 0,
  ot 0x6802 0x2 1 1 .u16 .ro true false false 0,
  ot 0x6802 0x3 1 1 .u16 .ro true false false 0,
  ot 0x6802 0x4 1 1 .u32 .ro true false true 0,
  orng 0x6804 0x1 1 1 .u16 .rw false true 1 1000 16,
  orng 0x6804 0x2 1 1 .u16 .rw false true 1 1024 64,
  orng 0x6804 0x3 1 1 .u8 .rw false true 32 128 64,
  orng 0x6804 0x4 1 1 .u8 .rw false true 0 1 1,
  ot 0x6804 0x5 1 1 .u32 .ro true false false 4194304,
  ot 0x6804 0x6 1 1 .u32 .ro true false true 0,
  ot 0x6810 0x1 32 1 .bool .rw false true false 0,
  ot 0x6810 0x2 32 1 .oct .rw false true false 0,
  orng 0x6810 0x3 32 1 .u16 .rw false true 1 4094 1,
  ot 0x6810 0x4 32 1 .u16 .rw false true false 0,
  ot 0x6810 0x5 32 1 .oct .rw false true false 0,
  orng 0x6810 0x6 32 1 .u8 .rw false true 0 2 1,
  ot 0x6810 0x7 32 1 .u64 .ro true false true 0,
  ot 0x6830 0x1 16 1 .u64 .ro true false true 0,
  ot 0x6830 0x2 16 1 .u64 .ro true false true 0,
  ot 0x6830 0x3 16 1 .u32 .ro true false true 0,
  ot 0x6830 0x4 16 1 .u32 .ro true false true 0,
  ot 0x6830 0x5 16 1 .u32 .ro true false true 0,
  ot 0x6830 0x6 16 1 .u32 .ro true false true 0,
  ot 0x6830 0x7 16 1 .u32 .ro true false true 0]

def objRows1Ab : List ObjInfo := [
  ot 0x6830 0x8 16 1 .u32 .ro true false true 0,
  ot 0x6830 0x9 16 1 .u32 .ro true false true 0,
  ot 0x6830 0xA 16 1 .u32 .ro true false true 0,
  ot 0x6830 0xB 16 1 .u64 .ro true false true 0,
  ot 0x6830 0xC 16 1 .u32 .ro true false true 0,
  ot 0x6830 0xD 16 1 .u64 .ro true false true 0,
  ot 0x6830 0xE 16 1 .u32 .ro true false true 0,
  ot 0x6830 0xF 16 1 .u32 .ro true false true 0,
  ot 0x6830 0x10 16 1 .u32 .ro true false true 0,
  ot 0x6830 0x11 16 1 .u32 .ro true false true 0,
  ot 0x6830 0x12 16 1 .u32 .ro true false true 0,
  ot 0x6830 0x13 16 1 .u64 .ro true false true 0,
  ot 0x6830 0x14 16 1 .u32 .ro true false true 0,
  ot 0x6830 0x15 16 1 .u32 .ro true false true 0,
  ot 0x6830 0x16 16 1 .u32 .ro true false true 0]

def objRows1A : List ObjInfo := objRows1Aa ++ objRows1Ab

def objRows1B : List ObjInfo := [
  orng 0x6C00 0x1 1 1 .u8 .rw false true 0 1 1,
  orng 0x6C00 0x2 1 1 .u8 .rw false true 0 1 1,
  orng 0x6C00 0x3 1 1 .u8 .rw false true 0 1 1,
  ot 0x6C10 0x1 16 1 .bool .rw false true false 1,
  ot 0x6C10 0x2 16 1 .u32 .rw false true false 6000,
  ot 0x6C10 0x3 16 1 .u32 .rw false true false 2000,
  ot 0x6C10 0x4 16 1 .u32 .rw false true false 40000,
  orng 0x6C10 0x5 16 1 .u8 .rw false true 0 1 0,
  ot 0x6C10 0x6 16 1 .u32 .ro true false false 6000,
  ot 0x6C10 0x7 16 1 .u32 .ro true false false 4294967295,
  ot 0x6C10 0x8 16 1 .i32 .ro true false false 0,
  ot 0x6C10 0x9 16 1 .u8 .ro true false false 0,
  ot 0x6C10 0xA 16 1 .dom .ro false false false 0,
  ot 0x6C30 0x1 16 1 .u64 .ro true false true 0,
  ot 0x6C30 0x2 16 1 .u32 .ro true false true 0,
  ot 0x6C30 0x3 16 1 .u32 .ro true false true 0,
  ot 0x6C30 0x4 16 1 .u32 .ro true false true 0,
  ot 0x6C30 0x5 16 1 .u32 .ro true false true 0,
  ot 0x6C30 0x6 16 1 .u32 .ro true false true 0,
  ot 0x6C30 0x7 16 1 .u32 .ro true false true 0,
  ot 0x6C30 0x8 16 1 .u32 .ro true false true 0,
  ot 0x6C30 0x9 16 1 .u32 .ro true false true 0,
  ot 0x6C30 0xA 16 1 .u32 .ro true false true 0,
  ot 0x6C30 0xB 16 1 .u32 .ro true false true 0,
  ot 0x6C30 0xC 16 1 .u32 .ro true false true 0,
  ot 0x6C30 0xD 16 1 .u32 .ro true false true 0]

def objRows1C : List ObjInfo := [
  ot 0x7000 0x1 1 1 .u8 .ro true true false 1,
  ot 0x7000 0x2 1 1 .u32 .ro false false false 0,
  ot 0x7000 0x3 1 1 .oct .cmd false true false 0,
  ot 0x7001 0x1 1 1 .u16 .ro true false false 0,
  ot 0x7001 0x2 1 1 .u8 .ro true false false 0,
  orng 0x7001 0x3 1 1 .u8 .ro true false 0 1 0,
  ot 0x7001 0x4 1 1 .u32 .ro true false true 0,
  ot 0x7002 0x1 1 1 .dom .ro false false false 0,
  ot 0x7002 0x2 1 1 .str .ro true false false 0,
  ot 0x7002 0x3 1 1 .oct .ro true false false 0,
  ot 0x7003 0x1 1 1 .dom .cmd false true false 0,
  ot 0x7003 0x2 1 1 .oct .cmd false true false 0,
  ot 0x7003 0x3 1 1 .u8 .cmd false true false 0,
  ot 0x7003 0x4 1 1 .u8 .ro true false false 0,
  ot 0x7003 0x5 1 1 .time96 .ro true false false 0,
  ot 0x7100 0x1 256 1 .u64 .ro true false false 0,
  ot 0x7100 0x2 256 1 .u32 .ro true false false 0,
  orng 0x7100 0x3 256 1 .u8 .ro true true 0 2 0,
  ot 0x7100 0x4 256 1 .oct .ro false false false 0,
  ot 0x7100 0x5 256 1 .u32 .ro true false true 0,
  orng 0x7010 0x1 1 1 .u8 .ro true false 0 2 0,
  ot 0x7010 0x2 1 1 .u8 .rw false true false 224,
  ot 0x7010 0x3 1 1 .u8 .ro true false false 0,
  ot 0x7010 0x4 1 1 .u16 .cmd false true false 0,
  ot 0x7010 0x5 1 1 .dom .ro false false false 0,
  ot 0x7010 0x6 1 1 .u16 .ro true false true 0,
  orng 0x7010 0x7 1 1 .u8 .rw false true 0 15 0,
  orng 0x7010 0x8 1 1 .u8 .rw false true 1 100 10,
  orng 0x7011 0x1 8 1 .u8 .rw false true 0 2 1,
  ot 0x7011 0x2 8 1 .bool .ro true false false 0,
  ot 0x7011 0x3 8 1 .u32 .ro true false true 0,
  ot 0x7020 0x1 1 1 .oct .rw false true false 0,
  ot 0x7020 0x2 1 1 .u8 .cmd false true false 0,
  ot 0x7020 0x3 1 1 .u8 .cmd false true false 0,
  orng 0x7020 0x4 1 1 .u8 .ro true true 0 3 0,
  orng 0x7020 0x5 1 1 .u8 .ro true false 0 4 0]

def objRows20a : List ObjInfo := [
  ot 0x8000 0x1 1 1 .u32 .prv false true false 20,
  ot 0x8000 0x2 1 1 .u8 .ro true false false 2,
  orng 0x8000 0x3 1 1 .u8 .ro true false 0 3 0,
  ot 0x8000 0x4 1 1 .bool .ro true false false 0,
  ot 0x8000 0x5 1 1 .u64 .ro true false false 3824091136,
  orng 0x8001 0x1 1 1 .u32 .rw false true 100 1000000 1000,
  orng 0x8001 0x2 1 1 .u32 .rw false true 10 10000 100,
  ot 0x8001 0x3 1 1 .u32 .ro true false false 0,
  ot 0x8001 0x4 1 1 .u32 .ro true false false 0,
  ot 0x8001 0x5 1 1 .u32 .ro true false true 0,
  ot 0x8001 0x6 1 1 .u64 .ro true false true 0,
  ot 0x8001 0x7 1 1 .u32 .ro true false false 0,
  ot 0x8002 0x1 1 1 .u16 .ro true false false 0,
  ot 0x8002 0x2 1 1 .u16 .ro true false false 0,
  ot 0x8002 0x3 1 1 .u64 .ro true false true 0,
  ot 0x8002 0x4 1 1 .u32 .ro true false true 0,
  ot 0x8002 0x5 1 1 .u32 .ro true false true 0,
  orng 0x8003 0x1 1 1 .u8 .rw false true 1 255 4,
  ot 0x8003 0x2 1 1 .dom .ro false false false 0,
  ot 0x8003 0x3 1 1 .u8 .cmd false true false 0,
  ot 0x8003 0x4 1 1 .u8 .ro true false false 16,
  ot 0x8003 0x5 1 1 .u8 .ro true false false 128,
  ot 0x8003 0x6 1 1 .u32 .ro true false true 0,
  ot 0x8003 0x7 1 1 .u32 .ro true false true 0,
  ot 0x8010 0x1 10 1 .u64 .ro true false false 0,
  ot 0x8010 0x2 10 1 .u64 .ro true false false 0,
  ot 0x8010 0x3 10 1 .u32 .ro true false true 0,
  ot 0x8010 0x4 10 1 .u32 .ro true false true 0,
  ot 0x8010 0x5 10 1 .u16 .ro true false false 0,
  orng 0x8010 0x6 10 1 .u16 .rw false true 1 65535 16,
  orng 0x8010 0x7 10 1 .u16 .rw false true 1 3600 60,
  ot 0x8010 0x8 10 1 .u64 .ro true false false 0,
  ot 0x8010 0x9 10 1 .u64 .ro true false false 0,
  ot 0x8010 0xA 10 1 .time96 .ro true false false 0,
  ot 0x8010 0xB 10 1 .u32 .ro true false true 0,
  orng 0x8040 0x1 8 1 .u8 .ro true false 0 3 0,
  ot 0x8040 0x2 8 1 .u8 .ro true false false 0,
  ot 0x8040 0x3 8 1 .u64 .ro true false false 0,
  ot 0x8040 0x4 8 1 .dom .ro false false false 0,
  ot 0x8040 0x5 8 1 .u64 .ro true false true 0]

def objRows20b : List ObjInfo := [
  ot 0x8040 0x6 8 1 .u64 .ro true false true 0,
  ot 0x8040 0x7 8 1 .u32 .ro true false true 0,
  ot 0x8040 0x8 8 1 .u32 .ro true false true 0,
  ot 0x8060 0x1 7 1 .u32 .ro true false true 0,
  ot 0x8060 0x2 7 1 .u16 .ro true false false 0,
  ot 0x8060 0x3 7 1 .u32 .ro true false true 0]

def objRows20 : List ObjInfo := objRows20a ++ objRows20b

def objRows22 : List ObjInfo := [
  ot 0x8800 0x1 1 1 .u8 .ro true false false 255,
  ot 0x8800 0x2 1 1 .u8 .ro true false false 255,
  ot 0x8800 0x3 1 1 .u16 .ro true false false 0,
  ot 0x8800 0x4 1 1 .bool .ro true true false 0,
  ot 0x8800 0x5 1 1 .dom .ro false false false 0,
  orng 0x8801 0x1 1 1 .u8 .rw false true 1 255 8,
  orng 0x8801 0x2 1 1 .u16 .rw false true 1 3600 10,
  ot 0x8801 0x3 1 1 .dom .rw false true false 0,
  ot 0x8802 0x1 1 1 .u16 .cmd false true false 0,
  ot 0x8802 0x2 1 1 .u16 .rw false false false 0,
  ot 0x8802 0x3 1 1 .oct .ro false false false 0,
  ot 0x8802 0x4 1 1 .oct .ro true false false 0,
  ot 0x8802 0x5 1 1 .bool .ro true false false 0,
  ot 0x8810 0x1 1 1 .u32 .ro true false true 0,
  ot 0x8810 0x2 1 1 .u32 .ro true false true 0,
  ot 0x8810 0x3 1 1 .u32 .ro true false true 0,
  ot 0x8810 0x4 1 1 .u32 .ro true false true 0,
  ot 0x8810 0x5 1 1 .u32 .ro true false true 0,
  ot 0x8810 0x6 1 1 .u32 .ro true false true 0,
  ot 0x8810 0x7 1 1 .u32 .ro true false true 0,
  ot 0x8810 0x8 1 1 .u64 .ro true false true 0]

def objRows23 : List ObjInfo := [
  ot 0x8C00 0x1 1 1 .bool .rw false true false 0,
  ot 0x8C00 0x2 1 1 .bool .rw false true false 0,
  ot 0x8C00 0x3 1 1 .bool .rw false true false 1,
  orng 0x8C00 0x4 1 1 .u16 .rw false true 0 3600 300,
  orng 0x8C00 0x5 1 1 .u32 .rw false true 10 100000 1000,
  orng 0x8C00 0x6 1 1 .u8 .rw false true 0 1 0,
  orng 0x8C00 0x7 1 1 .u32 .rw false true 0 100000 0,
  orng 0x8C00 0x8 1 1 .u32 .rw false true 0 100000 0,
  orng 0x8C00 0x9 1 1 .u32 .rw false true 0 1000000 20,
  orng 0x8C00 0xA 1 1 .u32 .rw false true 100000 10000000 1000000,
  orng 0x8C00 0xB 1 1 .u8 .rw false true 0 3 2,
  ot 0x8C00 0xC 1 1 .u8 .cmd false true false 0,
  ot 0x8C01 0x1 1 1 .u8 .ro true true false 0,
  ot 0x8C01 0x2 1 1 .u32 .ro true false false 32880,
  ot 0x8C01 0x3 1 1 .u32 .ro true false false 0,
  ot 0x8C01 0x4 1 1 .i64 .ro true false false 0,
  orng 0x8C01 0x5 1 1 .u8 .ro true false 0 1 0,
  ot 0x8C01 0x6 1 1 .u16 .ro true false false 0,
  ot 0x8C01 0x7 1 1 .time96 .ro true false false 0,
  ot 0x8C01 0x8 1 1 .u32 .ro true false false 0,
  ot 0x8C01 0x9 1 1 .u8 .ro true false false 0,
  ot 0x8C02 0x1 1 1 .u32 .ro true false true 0,
  ot 0x8C02 0x2 1 1 .u32 .ro true false true 0,
  ot 0x8C02 0x3 1 1 .u32 .ro true false true 0,
  ot 0x8C02 0x4 1 1 .u32 .ro true false true 0,
  ot 0x8C02 0x5 1 1 .u32 .ro true false true 0,
  ot 0x8C02 0x6 1 1 .u32 .ro true false true 0,
  ot 0x8C02 0x7 1 1 .u32 .ro true false true 0,
  ot 0x8C02 0x8 1 1 .u32 .ro true false true 0,
  ot 0x8C02 0x9 1 1 .u32 .ro true false true 0,
  ot 0x8C02 0xA 1 1 .u64 .ro true false true 0]

def objRows24 : List ObjInfo := [
  ot 0x9000 0x1 1 1 .u16 .ro true false false 0,
  ot 0x9000 0x2 1 1 .u16 .ro true false false 0,
  ot 0x9000 0x3 1 1 .u32 .ro true false false 0,
  ot 0x9000 0x4 1 1 .u8 .ro true true false 0,
  orng 0x9000 0x5 1 1 .u8 .ro true false 0 2 0,
  ot 0x9000 0x6 1 1 .u8 .ro true false false 0,
  ot 0x9000 0x7 1 1 .oct .ro true false false 0,
  orng 0x9000 0x8 1 1 .u8 .ro true false 0 1 0,
  ot 0x9000 0x9 1 1 .u16 .ro true false false 0,
  orng 0x9001 0x1 1 1 .u32 .rw false true 10000 60000 0,
  orng 0x9001 0x2 1 1 .u16 .rw false true 500 10000 2000,
  ot 0x9001 0x3 1 1 .u16 .rw false true false 0,
  ot 0x9002 0x1 1 1 .u32 .ro true false true 0,
  ot 0x9002 0x2 1 1 .u32 .ro true false true 0,
  ot 0x9002 0x3 1 1 .u32 .ro true false true 0,
  ot 0x9002 0x4 1 1 .u32 .ro true false true 0,
  ot 0x9002 0x5 1 1 .u32 .ro true false true 0,
  ot 0x9010 0x1 1 8 .u16 .ro true false false 0,
  orng 0x9020 0x1 1 1 .u32 .rw false true 1300 20000 3000,
  ot 0x9020 0x2 1 1 .u8 .ro true false false 0,
  ot 0x9020 0x3 1 1 .u32 .ro true false false 0,
  ot 0x9020 0x4 1 1 .u32 .ro true false true 0]

def objRows25 : List ObjInfo := [
  orng 0x9400 0x1 1 1 .u8 .ro true false 0 1 0,
  orng 0x9400 0x2 1 1 .u8 .ro true true 0 5 0,
  ot 0x9400 0x3 1 1 .time96 .ro true false false 0,
  ot 0x9400 0x4 1 1 .bool .ro true false false 0,
  ot 0x9400 0x5 1 1 .u32 .ro true false false 0,
  ot 0x9400 0x6 1 1 .u32 .ro true false true 0,
  ot 0x9400 0x7 1 1 .u32 .ro true false true 0,
  ot 0x9400 0x8 1 1 .u32 .ro true false true 0,
  ot 0x9401 0x1 1 1 .bool .rw false true false 0,
  orng 0x9401 0x2 1 1 .u32 .rw false true 60 86400 600,
  ot 0x9402 0x1 1 1 .dom .wo false true false 0,
  ot 0x9402 0x2 1 1 .oct .cmd false true false 0,
  ot 0x9402 0x3 1 1 .time96 .cmd false true false 0,
  ot 0x9402 0x4 1 1 .u8 .cmd false true false 0,
  ot 0x9402 0x5 1 1 .time96 .cmd false true false 0,
  ot 0x9402 0x6 1 1 .u8 .cmd false true false 0,
  orng 0x9410 0x1 2 1 .u8 .ro true false 0 4 0,
  ot 0x9410 0x2 2 1 .u8 .ro true false false 0,
  ot 0x9410 0x3 2 1 .oct .ro true false false 0,
  ot 0x9410 0x4 2 1 .dom .ro false false false 0,
  orng 0x9420 0x1 2 1 .u8 .ro true false 0 2 0,
  ot 0x9420 0x2 2 1 .oct .ro true false false 0,
  ot 0x9420 0x3 2 1 .dom .ro false false false 0]

def objRows26 : List ObjInfo := [
  orng 0x9800 0x1 1 1 .u8 .rw false true 0 31 0,
  orng 0x9800 0x2 1 1 .u32 .rw false true 1000 100000000 100000,
  ot 0x9800 0x3 1 1 .u64 .ro true false false 0,
  ot 0x9800 0x4 1 1 .u64 .ro true false true 0,
  ot 0x9800 0x5 1 1 .u32 .ro true false true 0,
  ot 0x9800 0x6 1 1 .u16 .ro true false false 0,
  ot 0x9800 0x7 1 1 .u32 .ro true false false 0,
  ot 0x9802 0x1 1 8 .u64 .ro true false true 0,
  ot 0x9802 0x10 1 3 .u64 .ro true false true 0,
  ot 0x9811 0x1 1 16 .dom .ro false false false 0,
  ot 0x9820 0x1 4 64 .dom .ro false false false 0,
  ot 0x9840 0x1 5 1 .u64 .ro true false true 0,
  ot 0x9840 0x2 5 8 .u8 .rw false true false 0,
  ot 0x9840 0xA 5 8 .u64 .ro true false false 0,
  orng 0x9840 0x12 5 1 .u8 .ro true false 0 3 0,
  ot 0x9840 0x13 5 1 .u8 .ro true false false 0,
  ot 0x9840 0x14 5 1 .u32 .ro true false true 0,
  ot 0x9840 0x15 5 1 .oct .ro true false false 0]

def objRows27a : List ObjInfo := [
  orng 0x9C00 0x1 1 1 .u16 .rw false true 1024 65535 38417,
  orng 0x9C00 0x2 1 1 .u16 .rw false true 0 4094 0,
  orng 0x9C00 0x3 1 1 .u16 .rw false true 10 3600 60,
  ot 0x9C00 0x4 1 1 .oct .rw false true false 0,
  orng 0x9C00 0x5 1 1 .u8 .rw false true 8 30 24,
  ot 0x9C00 0x6 1 1 .oct .rw false true false 0,
  ot 0x9C00 0x7 1 1 .oct .rw false true false 0,
  ot 0x9C00 0x8 1 1 .oct .ro true false false 0,
  orng 0x9C00 0x9 1 1 .u16 .rw false true 0 4094 0,
  ot 0x9C00 0xA 1 1 .u8 .ro true false false 0,
  ot 0x9C00 0xB 1 1 .u32 .ro true false true 0,
  ot 0x9C00 0xC 1 1 .u32 .ro true false true 0,
  ot 0x9C00 0xD 1 1 .u32 .ro true false true 0,
  ot 0x9C00 0xE 1 1 .u32 .ro true false true 0,
  ot 0x9C00 0xF 1 1 .u32 .ro true false true 0,
  ot 0x9C00 0x10 1 1 .u32 .ro true false true 0,
  ot 0x9C00 0x11 1 1 .u32 .ro true false true 0,
  ot 0x9C00 0x12 1 1 .u32 .ro true false true 0,
  ot 0x9C01 0x1 1 1 .u8 .ro true true false 0,
  orng 0x9C01 0x2 1 1 .u8 .ro true false 0 2 0,
  ot 0x9C01 0x3 1 1 .u32 .ro true false false 0,
  ot 0x9C01 0x4 1 1 .u16 .ro true false false 0,
  ot 0x9C01 0x5 1 1 .u32 .ro true false true 0,
  ot 0x9C03 0x1 1 1 .u8 .ro true false false 0,
  ot 0x9C03 0x2 1 1 .u32 .ro true false true 0,
  ot 0x9C03 0x3 1 1 .dom .ro false false false 0,
  ot 0x9C02 0x1 1 1 .u64 .ro true false false 0,
  ot 0x9C02 0x2 1 1 .u64 .ro true false false 0,
  ot 0x9C02 0x3 1 1 .dom .ro false false false 0,
  ot 0x9C02 0x4 1 1 .u32 .ro true false false 0,
  orng 0x9C02 0x5 1 1 .u32 .rw false true 60 86400 600,
  ot 0x9C02 0x6 1 1 .dom .ro false false false 0,
  ot 0x9C02 0x7 1 1 .u64 .ro true false false 0,
  ot 0x9C02 0x8 1 1 .u32 .ro true false true 0,
  ot 0x9C02 0x9 1 1 .u32 .ro true false true 0,
  orng 0x9C10 0x1 16 1 .u8 .ro true false 0 2 0,
  ot 0x9C10 0x2 16 1 .u8 .ro true false false 0,
  ot 0x9C10 0x3 16 1 .oct .ro true false false 0,
  ot 0x9C10 0x4 16 1 .u32 .ro true false false 0,
  ot 0x9C10 0x5 16 1 .u8 .ro true false false 0]

def objRows27b : List ObjInfo := [
  ot 0x9C10 0x6 16 1 .time96 .ro true false false 0,
  ot 0x9C10 0x7 16 1 .u64 .ro true false true 0,
  orng 0x9D10 0x1 240 1 .u8 .rw false true 0 1 0,
  orng 0x9D10 0x2 240 1 .u8 .rw false true 0 15 0,
  ot 0x9D10 0x3 240 1 .u64 .rw false true false 281474976710640]

def objRows27 : List ObjInfo := objRows27a ++ objRows27b

/-- The families of one part of the master map (R422); a part covers 0x400 indexes. -/
def objRows (part : Nat) : List ObjInfo :=
  match part with
  | 0x4 => objRows04
  | 0x8 => objRows08
  | 0x9 => objRows09
  | 0xC => objRows0C
  | 0xD => objRows0D
  | 0xE => objRows0E
  | 0xF => objRows0F
  | 0x10 => objRows10
  | 0x14 => objRows14
  | 0x16 => objRows16
  | 0x18 => objRows18
  | 0x1A => objRows1A
  | 0x1B => objRows1B
  | 0x1C => objRows1C
  | 0x20 => objRows20
  | 0x22 => objRows22
  | 0x23 => objRows23
  | 0x24 => objRows24
  | 0x25 => objRows25
  | 0x26 => objRows26
  | 0x27 => objRows27
  | _ => []

/-- Every part of the map that holds objects with a row of their own. -/
def objParts : List Nat := [0x4, 0x8, 0x9, 0xC, 0xD, 0xE, 0xF, 0x10, 0x14, 0x16, 0x18, 0x1A, 0x1B, 0x1C, 0x20, 0x22, 0x23, 0x24, 0x25, 0x26, 0x27]

/-- The family an index and a subindex belong to (R398); `none` is an undefined object. -/
def objInfo (index sub : Nat) : Option ObjInfo :=
  (objRows (index / 1024)).find? (fun o => o.covers index sub)

/-- Data ports of the variant (R1). -/
def nPorts : Variant → Nat
  | .a | .g => 16 | .s => 8 | .l => 4

/-- TDC channels of the variant (R1). -/
def nTdcs : Variant → Nat
  | .l => 8 | _ => 16

/-- AES lanes and SHA-256 lanes of the variant (R1). -/
def nAes : Variant → Nat
  | .a | .g => 8 | .s => 4 | .l => 2

def nSha : Variant → Nat
  | .a | .g => 4 | .s => 2 | .l => 1

/-- The GNSS unit is present on -A and -S (R1). -/
def hasGnss : Variant → Bool
  | .a | .s => true | _ => false

/-- "UNIT_PRESENT per variant" (R412). -/
def unitPresent : Variant → Nat
  | .a => 0xFFFFFFFF0048007D | .g => 0xFFFFFFFF00480079
  | .s => 0xFFFF00FF0024007D | .l => 0x00FF000F00120039

def variantCode : Variant → Nat
  | .a => 0 | .g => 1 | .s => 2 | .l => 3

/-- Base of region r with `REMAP_BIT` 0: "DRAM regions" and the address map (R425, R426). -/
def regionBase : Nat → Nat
  | 0 => 0x1000000000 | 1 => 0x1001000000 | 2 => 0x1005000000 | 3 => 0x1015000000
  | 4 => 0x1016000000 | 5 => 0x1018000000 | 6 => 0x101C000000 | 7 => 0x101C100000
  | 8 => 0x10000000 | _ => 0

/-- Size of region r with 2 GiB per channel. -/
def regionSize : Nat → Nat
  | 0 => 0x1000000 | 1 => 0x4000000 | 2 => 0x10000000 | 3 => 0x1000000
  | 4 => 0x2000000 | 5 => 0x4000000 | 6 => 0x100000 | 7 => 3824091136
  | 8 => 0x400000 | _ => 0x40000

/-- Defaults that depend on the variant or the instance (the Default column names the case); `none` where the row's own
default holds. `index` and `sub` are those of the object. -/
def dfltSpecial (v : Variant) (index sub : Nat) : Option Int :=
  match index / 1024 with
  | 0x08 => if index = 0x2003 ∧ sub = 2 ∧ !hasGnss v then some 1 else none
  | 0x09 =>
    if index = 0x2411 then
      (match sub with | 1 => some 1000 | 3 => some 20 | 4 => some 100 | _ => none)
    else none
  | 0x0C =>
    if index < 0x3010 ∨ 0x302E ≤ index then none
    else
      let n := index - 0x3010
      match sub with
      | 1 => if n = 8 ∧ hasGnss v then some 2 else none
      | 2 => if 14 ≤ n then some 2 else none
      | 7 => if n = 9 then some 30 else none
      | 8 | 9 => if n = 9 then some 1000000 else none
      | 0x11 => if n < 8 then some n else if n = 9 ∧ v ≠ .l then some 8 else none
      | 0x12 => if n < 8 then some n else if n = 9 ∧ v ≠ .l then some 9 else none
      | _ => none
  | 0x0D => if index = 0x3440 ∧ sub = 7 then some Config.productionInstant else none
  | 0x0E =>
    if sub = 1 ∧ index = 0x3800 then some 0
    else if sub = 1 ∧ index = 0x3801 then some 2
    else if sub = 4 ∧ index = 0x3813 then some 9600000000 else none
  | 0x0F => if sub = 1 ∧ (index = 0x3C00 ∨ index = 0x3C20) then some 1 else none
  | 0x14 => if v = .l ∧ sub = 0xD ∧ 0x5010 ≤ index ∧ index < 0x5020 then some 0 else none
  | 0x16 => if index = 0x5801 ∧ (sub = 1 ∨ sub = 2) then some (49152 - 768 * (nPorts v : Int)) else none
  | 0x18 =>
    if index = 0x6000 ∧ sub = 4 then some (1785714 * (nSha v : Int))
    else if index = 0x6010 ∧ sub = 1 then some 1
    else if 0x6040 ≤ index ∧ index < 0x6060 ∧ sub = 1 then some ((index : Int) - 0x6040)
    else none
  | 0x1A =>
    if index = 0x6802 ∧ sub = 1 then some ((((nAes v : Int) * 400000000 - 144000000) * 10) / 285) else none
  | 0x1C => if 0x7016 ≤ index ∧ index < 0x7019 ∧ sub = 1 then some 2 else none
  | 0x04 =>
    if index = 0x1000 then
      (match sub with
       | 3 => some (variantCode v) | 4 => some Config.hwRevision | 5 => some Config.dieStepping
       | 7 => some Config.productionInstant | 8 => some Config.dictVersion | _ => none)
    else if index = 0x1010 then some (unitPresent v) else none
  | 0x20 =>
    if 0x8010 ≤ index ∧ index < 0x801A ∧ sub = 1 then some (regionBase (index - 0x8010))
    else if 0x8010 ≤ index ∧ index < 0x801A ∧ sub = 2 then some (regionSize (index - 0x8010)) else none
  | 0x24 =>
    if index = 0x9001 ∧ sub = 1 then
      some (match v with | .a => 42000 | .g => 39000 | .s => 30000 | .l => 20000)
    else none
  | 0x25 => if (index = 0x9420 ∨ index = 0x9421) ∧ sub = 1 then some (if index = 0x9420 then 1 else 0) else none
  | _ => none

/-- The default a number object holds when no stored value applies (R402). -/
def dfltNum (v : Variant) (k : Nat) : Int :=
  match dfltSpecial v (k / 256) (k % 256) with
  | some d => d
  | none => match objInfo (k / 256) (k % 256) with
    | some o => o.dflt
    | none => 0


end Sys2Proof.Machine
end

