-- ==== Sys2Proof/Machine/State.lean ====
section
/-! DEFINITION. Machine/State.lean: everything the spec gives the machine, as plain data. Objects of the dictionary live in
`nums` and `blobs` (one home each, by key); everything else is a field of a unit's own structure. -/
namespace Sys2Proof.Machine

/-- A value of an object: a number (BOOL, integers, TIME96 as a count of 2⁻¹⁶ ns, BOUND80 as its code) or bytes (R8). -/
inductive Val where
  | num (v : Int)
  | oct (b : List Byte)
  deriving DecidableEq, Repr

/-- What the module as a whole is in (R488, R492–R494, R512, R352). Every mode but `running` and `recovery` shows the absent-state. -/
inductive Mode where
  | unpowered | running | resetHeld | safe | tamperHold | pastS4 | overVoltage | decommissioned | recovery
  deriving DecidableEq, Repr

/-- Who made a change that the journal records (R55, R57, R60, R391). -/
inductive Origin where
  | module | gnss | hinge | session (n : Nat)
  deriving DecidableEq, Repr

/-- One entry of the change journal ("Journal entry", R391–R393). The bytes of an entry are formed from it. -/
structure JEntry where
  kind : Nat
  result : Nat
  seq : Nat
  epoch : Nat
  time : Nat
  bound : Nat
  iface : Nat
  port : Nat
  session : Nat
  credential : Nat
  index : Nat
  sub : Nat
  flags : Nat
  group : Nat
  old : List Byte
  oldLen : Nat
  new : List Byte
  newLen : Nat
  chain : Nat
  origin : Origin
  /-- Bytes of the ring written before it since the start: its place (R395). -/
  pos : Nat := 0
  deriving DecidableEq, Repr

/-- The ring, the NOR tail and the chain of the journal (R393–R397). -/
structure Journal where
  /-- Entries in the ring, newest first. -/
  ring : List JEntry := []
  /-- Entries in the journal tail in NOR, newest first (R396). -/
  tail : List JEntry := []
  /-- SEQ of the next entry; SEQ of the first entry ever written is 0 (R393). -/
  next : Nat := 0
  /-- CHAIN of the newest entry (R393). -/
  chain : Nat := 0
  /-- Open epoch, and the tick at which it opened (R394). -/
  epoch : Nat := 0
  openedAt : Nat := 0
  /-- Epochs below this one are closed and their keys disclosed (R394). -/
  disclosed : Nat := 0
  /-- Bytes of the ring written since the start. -/
  head : Nat := 0
  /-- SEQ of the oldest entry still in the ring (R395). -/
  oldest : Nat := 0
  /-- Tick of the last copy to the NOR tail (R396). -/
  lastTailCopy : Nat := 0
  deriving DecidableEq, Repr

/-- What a raise tells the collector beside its source and class ("Fault record"). -/
structure FaultInfo where
  detail : Nat := 0
  master : Nat := 0xFF
  access : Nat := 0
  address : Nat := 0
  suspect : Bool := false
  deriving DecidableEq, Repr

/-- The first error a source captured (R463). -/
structure Capture where
  base : Nat
  info : FaultInfo
  firstAt : Nat
  deriving DecidableEq, Repr

/-- The counting window of a source (R461): opened at a tick with the N and W then in force. -/
structure Window where
  count : Nat
  openedAt : Nat
  n : Nat
  w : Nat
  deriving DecidableEq, Repr

/-- What the collector keeps for one source (R460–R464). -/
structure FaultSrc where
  code : Nat
  live : Bool := false
  sticky : Bool := false
  capture : Option Capture := none
  classSticky : Option Nat := none
  level : Nat := 0
  window : Option Window := none
  raises : Nat := 0
  lastAt : Nat := 0
  /-- Tick of the latest raise, or of the latest fall of LEVEL (R461). -/
  decayFrom : Nat := 0
  /-- Base class of the latest raise that was reacted to (R457). -/
  lastBase : Nat := 0
  deriving DecidableEq, Repr

/-- A unit restart that runs (R456, R457, R464). -/
structure Restart where
  source : Nat
  unit : Nat
  began : Nat
  base : Nat
  /-- It has not completed 1 s after it began, and its source was raised again. -/
  late : Bool := false
  deriving DecidableEq, Repr

/-- The keep record (R62). -/
structure KeepRecord where
  mts : Nat
  keepCount : Nat
  bound : Nat
  utcOffset : Int
  leapPending : Int
  leapInstant : Int
  deriving DecidableEq, Repr

/-- The KEEP island: what survives while VKEEP is held (R62, R460, R468, R489). -/
structure Keep where
  /-- Count of keep ticks, U48. -/
  count : Nat := 0
  /-- Double-buffered records, each with whether its CRC-32 is valid: the last complete one is used (R62). -/
  recA : Option KeepRecord := none
  recB : Option KeepRecord := none
  /-- Which of the two is the last complete one. -/
  lastIsB : Bool := false
  /-- Tick at which the count was last brought up to date. -/
  tick : Nat := 0
  /-- The whole MTS seconds whose record was written, as closed ranges, the latest first (R54, R62). -/
  written : List (Nat × Nat) := []
  /-- The island powered up afresh since the last start (R65, R489). -/
  afresh : Bool := true
  /-- Sticky-only fault sources with the class they were raised at (R460, R470). -/
  stickyOnly : List (Nat × Nat) := []
  /-- The last-C4 record, and whether the journal has taken it (R468, R469). -/
  lastC4 : Option (List Byte) := none
  lastC4Journalled : Bool := false
  /-- KEEP_VOLT is armed (R489). -/
  voltArmed : Bool := false
  poweredAt : Nat := 0
  /-- TAMPER_HOLD marker and owner-acknowledge state of the tamper monitor (R360–R363). -/
  holdMarker : Bool := false
  deriving DecidableEq, Repr

/-- The signal lands ("Lands", R518), one row of the table or one of its numbered lands each. -/
inductive Land where
  | portTx (p : Nat) | portRx (p : Nat) | mgmtTx | mgmtRx | hingeTx | hingeRx | ddr | ddrSupply | refin (n : Nat) | atomPps | atomClk
  | atomLock | atomRx | atomTx | atomDac | clkout (c : Nat) | ppsout (n : Nat) | gnssPps | todout (t : Nat) | todin (t : Nat) | rfin
  | antBias | hspiIn | hspiIo | hostIrqN | sdClk | sdIo | healthOut | peerIn | tamper | tmesh | resetN | pgOut | shutterStat | jtagIn | tdo
  deriving DecidableEq, Repr

/-- What a land shows (R167, R494, R518, R520): it carries its unit's signal; a level; high-impedance without and with bias; a pair static
with P low and N high; a transmitter squelched at the common-mode level; an input with its pull or termination; a fail-safe input; a supply
on or off; the last code held; DC-blocked only; low through a passive resistor; the three parked states of an absent unit; and, of a port's
transmitter while its link is down, remote fault ordered sets or the Clause 37 advertisement (R205, R227). -/
inductive Level where
  | signal | low | high | highZ | biased | staticPair | squelched | input | failSafe | on | off | held | blocked | passiveLow
  | parkedTx | parkedRx | parkedRf | remoteFault | autoNeg (fullDuplex pause : Bool)
  deriving DecidableEq, Repr

/-- Every land, in the order of the table. -/
def lands : List Land :=
  (List.range 16).map .portTx ++ [.mgmtTx, .hingeTx] ++ (List.range 16).map .portRx ++ [.mgmtRx, .hingeRx, .ddr, .ddrSupply] ++
  (List.range 8).map .refin ++ [.atomPps, .atomClk, .atomLock, .atomRx, .atomTx, .atomDac] ++ (List.range 12).map .clkout ++
  (List.range 4).map .ppsout ++ [.gnssPps, .todout 0, .todout 1, .todin 0, .todin 1, .rfin, .antBias, .hspiIn, .hspiIo, .hostIrqN, .sdClk,
  .sdIo, .healthOut, .peerIn, .tamper, .tmesh, .resetN, .pgOut, .shutterStat, .jtagIn, .tdo]

/-- The state of a land with neither VIN nor VKEEP present (R518, fourth column). -/
def unpoweredLevel : Land → Level
  | .ddrSupply | .antBias => .off
  | .refin _ | .atomPps | .atomClk | .atomLock | .atomRx | .todin _ | .hspiIn | .hspiIo | .sdIo | .peerIn | .resetN | .jtagIn => .failSafe
  | .ppsout _ | .gnssPps | .healthOut | .pgOut => .passiveLow
  | .rfin => .blocked
  | _ => .highZ

/-- The lands the module drives as levels (R494, R495, R518, R481, R368). -/
structure Pins where
  healthOut : Bool := false
  pgOut : Bool := false
  shutterStat : Nat := 0
  hostIrqN : Bool := true
  /-- Every port transmitter squelched; PPSOUT and GNSSPPS held low; CLKOUT high-impedance with bias; TODOUT idle-high;
  no heartbeat (the outputs of the absent-state). -/
  outputsAbsent : Bool := true
  antBias : Bool := false
  /-- What every land shows (R518, R520). -/
  levels : List (Land × Level) := lands.map (fun l => (l, unpoweredLevel l))
  deriving DecidableEq, Repr

/-- One request in a session's segment buffer (R378); a read copy with whether its last segment has been sent. -/
inductive SegBuf where
  | empty
  | readCopy (key : Nat) (bytes : List Byte) (sent : Bool)
  | writing (key : Nat) (bytes : List Byte)
  deriving DecidableEq, Repr

/-- A Transom session (R370–R378). -/
structure Session where
  /-- 0 CLOSED, 1 PENDING, 2 OPEN. -/
  state : Nat := 0
  /-- INTERFACE of "Journal entry": 1 MGMT, 2 data port, 3 host link; and the data port. -/
  iface : Nat := 0
  port : Nat := 0xFF
  /-- Address (16 bytes) and UDP port (2 bytes) of the peer. -/
  peer : List Byte := List.replicate 18 0
  /-- The module's address that it runs on (R365, R366). -/
  own : List Byte := List.replicate 16 0
  vlan : Nat := 0
  keyId : Nat := 0
  slot : Nat := 0
  /-- Highest accepted SEQ and the accepted ones within the window of 64 (R370). -/
  rxHigh : Nat := 0
  rxSeen : List Nat := []
  txSeq : Nat := 0
  openedAt : Nat := 0
  openedTick : Nat := 0
  lastAccepted : Nat := 0
  inFlight : List Nat := []
  seg : SegBuf := .empty
  /-- READs with ORDERED set that wait for earlier responses (R376): object key and request. -/
  held : List (Nat × Req) := []
  requests : Nat := 0
  serverNonce : Nat := 0
  clientNonce : Nat := 0
  deriving DecidableEq, Repr

/-- The Latch (R380–R383). -/
structure Latch where
  holder : Nat := 0
  /-- Tick from which the lease of 3,000 ms runs. -/
  leaseFrom : Nat := 0
  /-- Tick at which the election window opened, and the claims in it: session and TAG. -/
  electionFrom : Option Nat := none
  claims : List (Nat × Nat) := []
  deriving DecidableEq, Repr

/-- One write of a commit group (R385). -/
structure GWrite where
  key : Nat
  val : Val
  deriving DecidableEq, Repr

/-- A commit group (R384–R389). -/
structure Group where
  id : Nat
  /-- 0 open, 1 committed, 2 staged. -/
  state : Nat := 0
  writes : List GWrite := []
  bytes : Nat := 0
  atI : Nat := 0
  /-- The owner's session, and the tick at which that session opened. -/
  session : Nat := 0
  opened : Nat := 0
  /-- Order of the commits. -/
  order : Nat := 0
  deriving DecidableEq, Repr

/-- What leaves the module: the model's own record of it, newest first. -/
inductive Out where
  | response (sess op status tag index sub flags offset total : Nat) (value : List Byte)
  | openResp (iface sess status nonce : Nat)
  | notify (sess event arg status object : Nat)
  | close (sess reason : Nat)
  | hostFrame (bytes : List Byte)
  | hostStatus (byte : Nat)
  | enrolResp (iface : Nat) (ephemeral : Nat)
  | enrolDone (iface status : Nat)
  | tx (port queue : Nat) (f : Frame) (te : Nat)
  /-- A frame ended early: its bytes before the stomped FCS, and that FCS (R224). -/
  | stomp (port sent fcs : Nat)
  | ppsEdge (n : Nat) (atI : Nat) (rising : Bool) (width : Nat)
  | gnssPps (atI : Nat) (width : Nat)
  | sentence (t : Nat) (text : List Byte)
  | dac (code : Nat)
  | uart (bytes : List Byte)
  | esmc (port ql ecode : Nat) (event : Bool)
  | hinge (kind : Nat) (data : List Byte)
  | strobe (atI : Nat) (step : Int)
  /-- A DMA channel interrupts the core that issued a descriptor, named by its IOVA ("DMA descriptor"). -/
  | dmaNotify (channel iova : Nat)
  deriving DecidableEq, Repr

/-- A time replica (R15–R22): 0 CORE, 1 GNSS, 16 + p for port Pp, as `Obj.REPLICA_STATE` numbers them. -/
structure Replica where
  id : Nat
  /-- Tick of the last accepted strobe, and of the first returning strobe while stale (R18, R21, R22). -/
  lastStrobe : Nat := 0
  returning : Option Nat := none
  /-- Consecutive good strobes since the reload (R21). -/
  good : Nat := 0
  /-- Timestamps of the present strobe interval: still held, and handed on (R20). -/
  held : Nat := 0
  handedOn : Nat := 0
  /-- MTS of the last accepted strobe, in 2⁻¹⁶ ns. -/
  strobeAt : Nat := 0
  /-- Epoch bound in force in the island (R89). -/
  bound : Nat := 1208925819614629174706175
  /-- Whether the strobe delay has been measured, and tick and die temperature of the last delay measurement (R16). -/
  measured : Bool := false
  measuredTick : Nat := 0
  measuredTemp : Int := 0
  /-- A C2 was raised for this spell of staleness (R22). -/
  raisedC2 : Bool := false
  deriving DecidableEq, Repr

/-- A step that waits for its strobe tick (R48–R51). -/
structure PendingStep where
  /-- Offset in 2⁻¹⁶ ns. -/
  offset : Int
  /-- The instant of the step tick, in 2⁻⁴⁸ ns of MTS. -/
  atI : Nat
  owner : Bool
  session : Nat
  setTime : Bool
  /-- The instant at which it was announced, in 2⁻⁴⁸ ns of MTS (R266). -/
  told : Nat := 0
  deriving DecidableEq, Repr

/-- The marks of an instant (R80): elapsed time, steering and steps up to it. -/
structure Mark where
  /-- Sums over the ticks since the TIME island left reset: increments, steering phase and steps, in 2⁻⁴⁸ ns. -/
  run : Nat := 0
  steer : Int := 0
  step : Int := 0
  deriving DecidableEq, Repr

/-- A measurement that a unit has formed and that waits for the bound unit (R78, R129): x in 2⁻¹⁶ ns, U in ps (`none`
unbounded), the measurement instant in 2⁻⁴⁸ ns, whether it rests on a stale replica's timestamp (R19), and the marks of
that instant. -/
structure Meas where
  ref : Nat
  x : Int
  uM : Option Nat
  uP : Option Nat
  atI : Nat
  stale : Bool := false
  mark : Mark := {}
  deriving DecidableEq, Repr

/-- The time counter, the loop and the keep measurements (R28–R65). -/
structure TimeScale where
  /-- MTS in 2⁻⁴⁸ ns, modulo 2⁴⁸ s (R28). -/
  mts : Nat := 0
  /-- Increment in force (R28). -/
  incr : Nat := 0x0005000000000000
  /-- The shadow counter beside the master counter (R23). -/
  shadow : Nat := 0
  /-- Sum of the increments added since the TIME island left reset, without the steps: the elapsed time of R72. -/
  run : Nat := 0
  /-- Written increments on their way to the TIME island, oldest first, each with the request whose response waits for its tick (R43). -/
  incrWrites : List (Nat × Option Req) := []
  /-- Integrator of the loop in 2⁻⁶⁴ (R41). -/
  integ : Int := 0
  /-- Increment that the completed filter hands over at the next tick, and the phase term it carries (R40). -/
  nextIncr : Option Nat := none
  /-- Instant of the previous accepted measurement of the active time reference, for tau. -/
  prevMeas : Option Nat := none
  step : Option PendingStep := none
  /-- The single step of R46 and the single decision of R45 have been taken in this state. -/
  acqDone : Bool := false
  recDone : Bool := false
  /-- A measurement of the active reference since the state was entered, and the instant of the last large one (R34). -/
  measured : Bool := false
  lastBig : Nat := 0
  /-- Instant at which the present state was entered. -/
  since : Nat := 0
  /-- The last millisecond of MTS whose epoch boundary was taken (R68). -/
  lastEpoch : Nat := 0
  /-- Tick of the last epoch boundary (R68). -/
  epochTick : Option Nat := none
  /-- Tick of the last update of `KEEP_FREQ_LEARNED` and of the last `FREQ_UNC_LEARNED` write (R63, R70). -/
  keepLearnTick : Nat := 0
  /-- Incremental change of the frequency role in progress: the rate in force (R143), in 10⁻¹⁸. -/
  holdRate : Int := 0
  holdSlewing : Bool := false
  /-- The latest leap applied: the whole second of its instant, and what it added to the offset (R60). -/
  lastLeap : Option (Nat × Int) := none
  /-- Whether the receiver has decoded UTC parameters since start (R58). -/
  utcDecoded : Bool := false
  /-- Keep count and elapsed time at the last measurement of the keep oscillator (R63). -/
  keepMark : Nat × Nat := (0, 0)
  deriving DecidableEq, Repr

/-- A pair of halves in 2⁻³² ps, each with whether it is held at unbounded (R66, R67). -/
structure Pair where
  m : Nat := 0
  p : Nat := 0
  mU : Bool := true
  pU : Bool := true
  deriving DecidableEq, Repr

/-- The shadow pair of a disputant's latest accepted measurement (R76). -/
structure ShadowPair where
  ref : Nat
  pair : Pair
  atI : Nat
  anchorRun : Nat
  deriving DecidableEq, Repr

/-- The bound after one of its updates (R68): the pair, and what governs its growth until the next one (R69, R73), the sensor readings then
latched and the sums of steering and steps up to it (R80, R82). -/
structure BoundPoint where
  run : Nat
  pair : Pair
  anchorRun : Nat
  fUnc : Nat
  aUnc : Nat
  tUnc : Nat
  dtemp : Nat
  xo : Int
  die : Int
  xoFailed : Bool
  dieFailed : Bool
  steer : Int
  step : Int
  deriving DecidableEq, Repr

/-- The bound unit (R66–R98). -/
structure BoundUnit where
  cur : Pair := {}
  /-- Elapsed time (`run`) at the anchor and at the last update. -/
  anchorRun : Nat := 0
  lastRun : Nat := 0
  /-- Instant of the anchor in MTS. -/
  anchorAt : Nat := 0
  /-- Sensor readings latched at the anchor, 1/1,024 K (R73). -/
  tXo : Int := 0
  tDie : Int := 0
  /-- Deviation in force, 1/16 K. -/
  dtemp : Nat := 0
  /-- Steering phase since the last update and since the anchor, in 2⁻⁴⁸ ns (R74). -/
  steer : Int := 0
  steerAnchor : Int := 0
  /-- Steering phase and steps since the TIME island left reset, in 2⁻⁴⁸ ns: the marks of R80. -/
  steerTotal : Int := 0
  stepTotal : Int := 0
  /-- Reference increment of R74 in force. -/
  refIncr : Nat := 0x0005000000000000
  /-- Terms since the anchor in 2⁻³² ps. -/
  gFreq : Nat := 0
  gAge : Nat := 0
  gTemp : Nat := 0
  /-- Parameters in force for this epoch (R69): frequency 10⁻¹⁵, ageing 10⁻¹⁸ per s, temperature 10⁻¹⁵ per K. -/
  fUnc : Nat := 10000
  aUnc : Nat := 12000
  tUnc : Nat := 10000
  /-- A module-level violation whose frequency-uncertainty raise is due at the next epoch boundary (R87). -/
  raiseDue : Bool := false
  /-- Tick of the last module-level violation (R87). -/
  violTick : Option Nat := none
  /-- The latest accepted measurement of each time reference, carried forward as a pair, and the disputants whose resets widen to each
  other's pair in this epoch (R76). -/
  shadows : List ShadowPair := []
  widen : List (Nat × Nat) := []
  /-- The updates of the bound that measurements still on their way may reach back to, newest first (R80, R82). -/
  history : List BoundPoint := []
  /-- For each grade 0 to 3, the tick since which every boundary has computed that grade or a better one (R94). -/
  held : List (Option Nat) := [none, none, none, none]
  deriving DecidableEq, Repr

/-- A key slot that is not EMPTY (R342–R347). Secret material is a number; slots 248–255 live in the KEEP island. -/
structure KeySlot where
  id : Nat
  typ : Nat
  usage : Nat
  bindP : Bool
  bindD : Bool
  generated : Bool := false
  derived : Bool := false
  zot : Bool := false
  keyId : Nat
  bad : Bool := false
  material : Nat
  pub : List Byte := []
  deriving DecidableEq, Repr

/-- A bonding exchange (R354, R355). -/
structure BondExchange where
  began : Nat
  /-- The peer's certificate chain and digest, and its ephemeral key, have been accepted. -/
  certOk : Bool := false
  keyOk : Bool := false
  secret : Nat := 0
  /-- Instant of MTS from which the new lineage applies at an epoch boundary. -/
  applyFrom : Option Nat := none
  deriving DecidableEq, Repr

/-- The key store, the DRBG, the life cycle and the bond (R339–R356). -/
structure Keys where
  slots : List KeySlot := []
  /-- Key RAM holds the root-derived keys (cleared by a HOLD alarm and at S4). -/
  ram : Bool := false
  /-- PUF helper data is in NOR (R351, R352). -/
  helper : Bool := true
  /-- Tick of the last periodic slot check (R346). -/
  checkTick : Nat := 0
  /-- Tick at which the DRBG restart began, the requests since the last reseed and the tick of that reseed (R348). -/
  drbgRestart : Option Nat := none
  drbgRequests : Nat := 0
  drbgReseed : Nat := 0
  /-- Value of `LC_CHALLENGE`; `none` until it is drawn (R350). -/
  challenge : Option Nat := none
  /-- Accepted transition that takes effect at the next epoch boundary, with the session that asked (R351). -/
  lcPending : Option (Nat × Nat) := none
  bond : Option BondExchange := none
  /-- Slot of the lineage root, and a reversion to slot 1 due at the next epoch boundary (R355, R356). -/
  lineage : Nat := 1
  lineageRevert : Bool := false
  /-- A first TCK edge has been seen since the start, and a JTAG test instruction is selected (R353, R426). -/
  tckSeen : Bool := false
  jtagTest : Bool := false
  /-- The mesh seed, and the check key of the keep-mode slots (R346), drawn at the start. -/
  meshSeed : Nat := 0
  keepCheck : Nat := 0
  deriving DecidableEq, Repr

/-- Material of a slot; 0 where it is EMPTY. -/
def Keys.root (k : Keys) (n : Nat) : Nat := ((k.slots.find? (fun x => x.id = n)).map (·.material)).getD 0

/-- A tamper record ("Tamper record", R358). -/
structure TamperRec where
  seq : Nat
  source : Nat
  context : Nat
  action : Nat
  aborted : Nat
  flags : Nat
  keepCount : Nat
  journalled : Bool := false
  deriving DecidableEq, Repr

/-- The tamper monitor in the KEEP island (R357–R364). -/
structure Tamper where
  /-- Latched records, oldest first, at most 16. -/
  records : List TamperRec := []
  nextSeq : Nat := 0
  /-- A HOLD source alarmed in keep mode, so the next start follows R363 (R362). -/
  keepHold : Bool := false
  deriving DecidableEq, Repr

/-- A configuration copy in NOR (R403). -/
structure ConfigCopy where
  seq : Nat
  crcOk : Bool
  nums : List (Nat × Int)
  blobs : List (Nat × List Byte)
  deriving DecidableEq, Repr

/-- What NOR keeps beside the journal tail, the key slots and the banks. -/
structure Nor where
  /-- Hold marker (R360, R361, R363). -/
  holdMarker : Bool := false
  copyA : Option ConfigCopy := none
  copyB : Option ConfigCopy := none
  /-- The copy was changed at this tick and not stored yet (R403). -/
  dirtySince : Option Nat := none
  /-- The surveyed GNSS position and its uncertainty in mm (R185, R186). -/
  gnssPos : Option (Int × Int × Int × Nat) := none
  /-- The previous run reached S4 (R396). -/
  cleanStop : Bool := true
  deriving DecidableEq, Repr

/-- A port under its close order (R499). -/
structure Notice where
  port : Nat
  ordered : Nat
  stage : Nat
  /-- The NTP/NTS engine has received its order (R338). -/
  ntpOrdered : Bool := false
  deriving DecidableEq, Repr

/-- A start that waits for admission, and one already admitted ("Start costs", R502). -/
structure StartReq where
  /-- 0 Hinge, 1 MGMT, 2 + p port Pp, 20 GNSS, 30 + n crypto lane, 40 + n service core n. -/
  unit : Nat
  cost : Nat
  cls : Nat
  since : Nat
  counted : Bool := false
  raised : Bool := false
  deriving DecidableEq, Repr

/-- Power, shutters and start-up (R487–R502). -/
structure Power where
  /-- Deepest closed stage, 0 to 4, and the cause of S1. -/
  closed : Nat := 0
  /-- Tick of the last reopening of a stage (R498). -/
  reopened : Nat := 0
  /-- Mask in force of the ports that S2 spares (R501). -/
  keepMask : Nat := 0
  notices : List Notice := []
  queue : List StartReq := []
  /-- Admissions of the last 200 µs: tick, cost and whether it is a SerDes lane. -/
  admitted : List (Nat × Nat × Bool) := []
  /-- Tick of VIN valid or of the release of RESET_N, and the milestones completed with their ticks. -/
  started : Nat := 0
  milestones : List (Nat × Nat) := []
  vinPresent : Bool := false
  /-- RESET_N is low. -/
  resetLow : Bool := false
  /-- DDR_VDDQ and DDR_VPP are on (R490). -/
  ddrOn : Bool := false
  /-- Units that run: ports whose lanes have started, GNSS front end. -/
  gnssOn : Bool := false
  deriving DecidableEq, Repr

/-- A Transom frame of the CORE island for a port: the port, 16 for MGMT, the frame, its length and VLAN (R230, R366). -/
structure NetFrame where
  port : Nat
  frame : Frame
  len : Nat
  vlan : Nat
  deriving DecidableEq, Repr

/-- The host quad-SPI link (R367, R368): frames written by the host, and the read queue. -/
structure HostLink where
  /-- Written frames held for the front end, oldest first, at most 8. -/
  written : List (List Byte) := []
  /-- Frames in the read queue, head first, at most 16. -/
  read : List (List Byte) := []
  /-- Responses that wait while the read queue is full. -/
  waiting : List (List Byte) := []
  /-- Transom frames that the CORE island has for a port, and those that a port has handed to it, oldest first (R230, R231). -/
  netTx : List NetFrame := []
  netRx : List (Nat × Frame) := []
  deriving DecidableEq, Repr

/-- An enrolment in progress (R390). -/
structure Enrolment where
  iface : Nat
  peer : List Byte
  began : Nat
  shared : Nat
  deriving DecidableEq, Repr

/-- The temperature sensors (R121): readings latched at the last epoch boundary and the last conversions, in 1/1,024 °C. -/
structure Sensors where
  xo : Int := 0
  die : Int := 0
  lastXo : Int := 0
  lastDie : Int := 0
  /-- No conversion has been made since the start. -/
  first : Bool := true
  xoFailed : Bool := false
  dieFailed : Bool := false
  deriving DecidableEq, Repr

/-- One claim of the resource table ("Claimant record", R414). A resource without a claim is FREE. -/
structure Claim where
  cls : Nat
  num : Nat
  kind : Nat
  knum : Nat
  index : Nat := 0
  sub : Nat := 0
  permanent : Bool := false
  since : Nat := 0
  deriving DecidableEq, Repr

/-- An open TDC window (R114): sums of phases and of their squares in 2⁻⁴⁸ ns, first and last edge. -/
structure TdcWindow where
  n : Nat
  sum : Int
  sumSq : Nat
  min : Int
  max : Int
  /-- The whole second the grid is anchored on, first and last timestamps in 2⁻¹⁶ ns. -/
  anchorSec : Nat
  first : Nat
  last : Nat
  /-- Positions of R101 and indices of R111. -/
  pFirst : Int
  pLast : Int
  iFirst : Nat
  iLast : Nat
  /-- Timestamp of the first edge as an instant of MTS, from which `TDC_WIN_MAX` counts (R114). -/
  firstMts : Nat
  markFirst : Mark
  markLast : Mark
  /-- Worst table state seen: 0 LIVE, 1 FACTORY or AGED, 2 FAILED (R116). -/
  cal : Nat
  /-- An edge was missed inside the window or since the window before it. -/
  missed : Bool
  n0 : Nat
  max0 : Nat
  deriving DecidableEq, Repr

/-- An entry of the edge log (R125). -/
structure EdgeLog where
  ts : Nat
  index : Nat
  flags : Nat
  deriving DecidableEq, Repr

/-- A TDC channel (R99–R120). -/
structure Tdc where
  id : Nat
  /-- Configuration in force since the last epoch boundary (R113). -/
  source : Nat := 0
  edge : Nat := 0
  nom : Nat := 1000000
  decim : Nat := 1
  /-- Nominal interval of decimated edges, held to 2⁻⁴⁸ ns. -/
  tnom : Nat := 1000000000 * 281474976710656
  /-- Histogram of the table the measuring core uses (`none` the production table), the tick and the die reading at its
  acceptance (R102, R104). -/
  table : Option (List Nat) := none
  tableTick : Nat := 0
  tableTemp : Int := 0
  /-- An accepted table of the calibrating core that waits for the swap (R103), and the die reading at its acceptance. -/
  ready : Option (List Nat) := none
  readyTemp : Int := 0
  /-- Least and largest on-die conversion since the calibrating core began its histogram, in 1/1,024 °C (R102). -/
  calRange : Option (Int × Int) := none
  /-- Tick of the last accepted table of either core, or of the start in FACTORY (R104). -/
  acceptedTick : Nat := 0
  converting : Bool := false
  /-- Index of the last decimated edge (R111), tick of the last accepted edge (R110). -/
  index : Nat := 0
  lastTick : Option Nat := none
  /-- Tick of the last decimated edge, accepted or missed (loss indication of R134), and whether an edge was missed since. -/
  seenTick : Nat := 0
  missed : Bool := false
  /-- No edge at the input for two nominal input periods at the last boundary, as the prescaler of a decimated channel sees it (R134). -/
  silent : Bool := false
  /-- Timestamp of the last accepted edge and its tick, for the cross-check (R120). -/
  lastTs : Nat := 0
  window : Option TdcWindow := none
  log : List EdgeLog := []
  deriving DecidableEq, Repr

/-- What the selector keeps for a reference beside its objects (R126–R145). -/
structure Ref where
  id : Nat
  /-- `REF_MODE` in force (R135). -/
  mode : Nat := 0
  /-- Unbroken run of passing qualification steps: tick of its first step, count (R133). -/
  runStart : Option Nat := none
  runCount : Nat := 0
  /-- Tick from which the next measurement of an edge-measured reference falls due (R133). -/
  dueFrom : Option Nat := none
  /-- Tick of the last accepted measurement (R134), and of the start of an unbroken loss indication. -/
  lastAccepted : Nat := 0
  lossSince : Option Nat := none
  /-- A measurement arrived since the last boundary; its step failed, or fell due and was missed. -/
  arrived : Bool := false
  stepPassed : Bool := false
  missedDue : Bool := false
  /-- Reference-level violation, outvoted, or unit shut since the last boundary. -/
  violated : Bool := false
  outvoted : Bool := false
  shut : Bool := false
  /-- Tick of the disqualification (R135). -/
  disqTick : Nat := 0
  /-- Latest tested measurement: its instant and whether it agreed (R84, R85). -/
  lastTested : Option (Nat × Bool) := none
  /-- Instant of the latest frequency measurement, new since the last boundary (R144). -/
  freqAt : Option Nat := none
  newFreq : Bool := false
  windowShort : Bool := false
  edgeMissed : Bool := false
  /-- Tick at which REF_WTR_LEFT was loaded, running, and the value loaded (R139). -/
  wtrFrom : Option Nat := none
  wtrLoad : Nat := 0
  /-- GNSS: the latest second had a timing solution, and the quality number of the last second that had one (R131). -/
  solved : Bool := false
  engineQn : Nat := 255
  /-- PTPRX: clockClass and clockAccuracy of the grandmaster while the instance is in the time receiver port state. -/
  parentClass : Option (Nat × Nat) := none
  deriving DecidableEq, Repr

/-- A pair of references of equal rank under comparison (R144, R145). -/
structure Dispute where
  a : Nat
  b : Nat
  disagree : Nat := 0
  agree : Nat := 0
  begun : Bool := false
  /-- The last C0 event of R145: second of MTS. -/
  eventSec : Option Nat := none
  deriving DecidableEq, Repr

/-- The selector (R136–R149). -/
structure Selector where
  refs : List Ref := (List.range 30).map (fun n => { id := n })
  disputes : List Dispute := []
  /-- Tick of the start of build-out; a frequency-role switch in progress (R140, R143). -/
  buildOutFrom : Nat := 0
  freqSwitch : Bool := false
  /-- Build-out ran when the present boundary began (R141). -/
  buildOutBusy : Bool := false
  /-- Learning: interval in progress since this tick, its sum and count of integrator samples, and the points: tick and
  compensated value y + f_xo − f_temp in 10⁻¹⁵ (R147, R148). -/
  interval : Option Nat := none
  intSum : Int := 0
  intCount : Nat := 0
  points : List (Nat × Int) := []
  atomPoints : List (Nat × Int) := []
  atomSum : Int := 0
  atomCount : Nat := 0
  /-- `XO_AGE_RATE` that waits for the epoch boundary (R148). -/
  pendingRate : Option Int := none
  /-- A Δ of XO_LEARN_OFFSET that waits for the epoch boundary (R148). -/
  pendingDelta : Int := 0
  /-- Mean measurement uncertainty of the time holder over the interval: sum in ps and count (R149). -/
  uncSum : Nat := 0
  uncCount : Nat := 0
  deriving DecidableEq, Repr

/-- The atomic oscillator interface (R150–R153). -/
structure Atom where
  /-- Valid profile in force, one that waits for the boundary, and DAC_ZERO of the last valid one. -/
  profile : Option (List Byte) := none
  pending : Option (List Byte) := none
  lastZero : Nat := 0
  lockHigh : Bool := false
  /-- Value last sent in a steering template and the tick of that sending (R151). -/
  lastUart : Option Int := none
  lastSend : Option Nat := none
  lastPoll : Option Nat := none
  awaiting : Option Nat := none
  /-- Tick of the last status response that contained the match bytes (R152). -/
  lastMatch : Option Nat := none
  lastSteer : Nat := 0
  /-- S in 10⁻¹⁸; `ATOM_STEER_NOW` shows it in 10⁻¹⁵ (R150). -/
  steer : Int := 0
  /-- e over the last 64 s: samples in 10⁻¹⁵, newest first (R150). -/
  errors : List Int := []
  deriving DecidableEq, Repr

/-- ESMC of a port (R154): tick of the last valid PDU, of the last information PDU, and the code last sent. -/
structure Esmc where
  port : Nat
  lastRx : Option Nat := none
  failed : Bool := false
  lastTx : Option Nat := none
  sentQl : Nat := 0x0F
  sentE : Nat := 0
  cascade : Nat := 0
  /-- Received cascade count of the extended QL TLV. -/
  rxCascade : Nat := 0
  deriving DecidableEq, Repr

/-- An accepted pulse of a REFIN reference that names a TODIN (R130, R180): its second by MTS, the second its sentence has given, and the
measurement of a window that it closed and that waits for that sentence. -/
structure PulseWait where
  todin : Nat
  ref : Nat
  sec : Nat
  tick : Nat
  said : Option Nat := none
  meas : Option Meas := none
  deriving DecidableEq, Repr

/-- A digital PLL (R156–R160). Rates are in 10⁻¹⁸ against nominal. -/
structure Dpll where
  id : Nat
  /-- `DPLL_MODE` in force. -/
  mode : Nat
  rate : Int := 0
  /-- Output of the low-pass filter of R157; `none` until it holds a value. -/
  filt : Option Int := none
  /-- The rate moves to a new target under `FREQ_SWITCH_SLOPE` (R143, R156). -/
  switching : Bool := false
  /-- Phase error against MTS in 2⁻⁴⁸ ns (R160). -/
  phase : Int := 0
  deriving DecidableEq, Repr

/-- An analog PLL (R161–R164). -/
structure Apll where
  id : Nat
  /-- Steps of the band search taken, and the bands still in the set: least and number. -/
  steps : Nat := 0
  lo : Nat := 0
  size : Nat := 64
  /-- Consecutive good windows, failed searches in a row. -/
  good : Nat := 0
  failed : Nat := 0
  /-- Count windows since the loop closed. -/
  windows : Nat := 0
  deriving DecidableEq, Repr

/-- A clock output (R165–R168). -/
structure ClkOut where
  id : Nat
  enabled : Bool := false
  /-- `CLK_SOURCE` it draws on while enabled. -/
  source : Nat := 0xFF
  /-- Phase of the divider aligned to the MTS second by `CLK_SYNC`. -/
  synced : Bool := false
  deriving DecidableEq, Repr

/-- An edge committed 2 µs before its instant (R170). -/
structure Edge where
  /-- Instant in 2⁻⁴⁸ ns of MTS. -/
  atI : Nat
  /-- PPSOUT that carries it, if any, and squelched (R173). -/
  route : Option Nat
  squelched : Bool
  pair : Int
  /-- The on-time edge is the rising one (R171), and the width of the pulse in ns, fixed at commit. -/
  rising : Bool := true
  width : Nat := 0
  deriving DecidableEq, Repr

/-- A sentence due on a TODOUT (R178): the described instant and what was in force at it. -/
structure Sentence where
  edge : Nat
  omitted : Bool
  pair : Int
  source : Nat
  utcOffset : Int
  utcFlags : Nat
  tsState : Nat
  grade : Nat
  timeRef : Nat
  utcSec : Int
  deriving DecidableEq, Repr

/-- The native generator of a PPSOUT (R170–R173, R176). -/
structure Pps where
  id : Nat
  enabled : Bool := false
  offset : Int := 0
  /-- The offset has changed and its first edge is not committed yet (R172). -/
  changed : Bool := false
  /-- Instant last committed, skipped or missed (R170, R172, R176). -/
  lastAt : Option Nat := none
  /-- On-time instant of the previous pulse. -/
  lastEdge : Option Nat := none
  edges : List Edge := []
  deriving DecidableEq, Repr

/-- A pulse generator (R174–R177). -/
structure Pg where
  id : Nat
  k : Nat := 0
  /-- t_k of R175 in 2⁻¹⁶ ns; `none` before the first input edge. -/
  anchor : Option Nat := none
  /-- Output instants placed and not yet committed, oldest first, and the last one placed, in 2⁻⁴⁸ ns. -/
  due : List Nat := []
  lastOut : Nat := 0
  misses : Nat := 0
  edges : List Edge := []
  deriving DecidableEq, Repr

/-- A TODOUT UART (R178). -/
structure TodOut where
  id : Nat
  due : List Sentence := []
  /-- Tick at which the present sentence ends. -/
  busyUntil : Nat := 0
  seq : Nat := 0
  deriving DecidableEq, Repr

/-- The synthesis block. -/
structure Synth where
  dplls : List Dpll := [{ id := 0, mode := 0 }, { id := 1, mode := 2 }, { id := 2, mode := 1 }, { id := 3, mode := 1 }]
  aplls : List Apll := (List.range 4).map (fun n => { id := n })
  clks : List ClkOut := (List.range 12).map (fun n => { id := n })
  pps : List Pps := (List.range 4).map (fun n => { id := n })
  pgs : List Pg := (List.range 8).map (fun n => { id := n })
  tods : List TodOut := (List.range 2).map (fun n => { id := n })
  deriving DecidableEq, Repr

/-- A tracked signal of a satellite (R183): system 0 GPS, 1 Galileo, 2 BeiDou, 3 GLONASS, 4 QZSS. -/
structure GnssChan where
  sys : Nat
  prn : Nat
  l5 : Bool
  deriving DecidableEq, Repr

/-- The filter of one inter-system offset (R195). -/
structure Isb where
  /-- Filter output in 10⁻³ ps, seconds filtered, sums of the inputs in ps for their deviation. -/
  filt : Int := 0
  seconds : Nat := 0
  sum : Int := 0
  sumSq : Nat := 0
  lastInput : Nat := 0
  deriving DecidableEq, Repr

/-- A capture of raw samples (R201, R202). -/
structure Snap where
  /-- Armed for this instant, and the slot, first sample and bound of a running one. -/
  armed : Option Nat := none
  slot : Option Nat := none
  first : Nat := 0
  bound : Int := 0
  stale : Bool := false
  bands : Nat := 3
  len : Nat := 1
  began : Nat := 0
  deriving DecidableEq, Repr

/-- The GNSS receiver beside its objects (R183–R203). -/
structure Gnss where
  chans : List GnssChan := []
  /-- The candidates of the last allocation (R183). -/
  cands : List SatCand := []
  /-- Satellites of the last timing solution: system and number. -/
  used : List (Nat × Nat) := []
  /-- A held position exists; survey sums per axis in mm: count, Σ, Σ². -/
  held : Bool := false
  surveyN : Nat := 0
  surveySum : Int × Int × Int := (0, 0, 0)
  surveySq : Nat × Nat × Nat := (0, 0, 0)
  /-- POS_ALARM and the consecutive seconds beyond and within its distances (R187). -/
  posAlarm : Bool := false
  far : Nat := 0
  near : Nat := 0
  /-- Systems excluded, each with the tick of its return (R198). -/
  excluded : List (Nat × Nat) := []
  isb : List Isb := [{}, {}, {}, {}]
  jam : Bool := false
  spoof : Bool := false
  /-- Tick at which the antenna supply was cut on SHORT (R197). -/
  antCut : Option Nat := none
  /-- Seconds solved or found without a solution, as closed ranges, the latest first (R54, R188), and the whole second that the last forward
  step skipped to (R53). -/
  solved : List (Nat × Nat) := []
  skipped : Option Nat := none
  /-- Offset and rate of the last solution (R192). -/
  lastX : Int := 0
  lastD : Int := 0
  /-- Marks of the latest whole second. -/
  secMark : Nat × Mark := (0, {})
  /-- GNSSPPS edges selected, oldest first: the tick that launches each and whether it is squelched (R192, R193). -/
  ppsNext : List (Nat × Bool) := []
  snap : Snap := {}
  deriving DecidableEq, Repr

/-- A frame in reception on a port (R213, R214): `MAX_FRAME` at its first byte, its corrected stamp and bound, and the frame of the
switch core it fills. -/
structure RxCur where
  frame : Frame
  maxFrame : Nat
  ts : Nat
  bound : Int
  /-- Tick at which the stamp was taken. -/
  tick : Nat := 0
  core : Option Nat := none
  /-- What was decided at its head: its VLAN, whether `PORT_TAG_MODE` refuses it (R216), its row of "Classification" (R231) with the live
  service address it is for. -/
  vlan : Nat := 0
  refused : Bool := false
  row : Nat := 11
  svc : Option Nat := none
  deriving DecidableEq, Repr

/-- A frame an engine has queued (R219): bytes, queue, tick. -/
structure EngFrame where
  frame : Frame
  len : Nat
  queue : Nat
  tick : Nat
  /-- Instance whose message it is; the ingress stamp of the request that a Pdelay_Resp answers; a session. -/
  inst : Nat := 0
  tReq : Nat := 0
  corrReq : Int := 0
  sess : Option Nat := none
  /-- VLAN whose tag action the frame takes (R217); 0 where its tags are as given. -/
  vlan : Nat := 0
  deriving DecidableEq, Repr

/-- What a frame in transmission is (R219, R220, R261). -/
inductive TxKind where
  | copy (frame : Nat)
  | engine
  | ctrl
  | launch (slot : Nat)
  deriving DecidableEq, Repr

/-- A frame in transmission. Instants are in ps of the TCLK count. -/
structure TxCur where
  kind : TxKind
  len : Nat
  startAt : Nat
  endAt : Nat
  freeAt : Nat
  /-- Sent cut-through (R223). -/
  cut : Bool := false
  /-- Counts in `CT_CLEAN_RUN` when sent whole (R226). -/
  clean : Bool := false
  /-- Ended with a stomped FCS (R224). -/
  stomped : Bool := false
  frame : Frame := { dst := 0, src := 0, etherType := 0 }
  deriving DecidableEq, Repr

/-- Back-pressure of a port (R236): tick of the last PAUSE (mode 1) or PFC (mode 2), and its classes. -/
structure XoffState where
  mode : Nat := 1
  sent : Nat
  classes : List Nat
  deriving DecidableEq, Repr

/-- A received PTP message on its way to the engine (R231, R207). -/
structure PtpRx where
  port : Nat
  frame : Frame
  msg : PtpMsg
  vlan : Nat
  svc : Option Nat := none
  ts : Nat
  bound : Int
  tick : Nat
  /-- The instance that has accepted the message, while negotiation TLVs of it wait for the cores (R301). -/
  taken : Option Nat := none
  deriving DecidableEq, Repr

/-- A received NTP request on its way to its parser (R318). -/
structure NtpRx where
  port : Nat
  frame : Frame
  req : NtpReq
  len : Nat
  vlan : Nat
  svc : Nat
  ts : Nat
  bound : Int
  /-- UTC count of the ingress stamp (R319). -/
  utc : Int
  /-- Tick of the last byte (t of R333). -/
  tick : Nat
  deriving DecidableEq, Repr

/-- What an NTP response answers (R319–R327): 0 a served or unserved response, 1 a RATE KoD, 2 an NTS NAK; new cookies; whether it
carries the bound field; whether its port had its close order (R338); its exchange context. -/
structure NtpJob where
  rx : NtpRx
  form : Nat := 0
  nts : Bool := false
  cookies : Nat := 0
  /-- The cookies as sealed, and the S2C key, once the request is verified. -/
  sealed : List (List Byte) := []
  s2c : List Byte := []
  askBound : Bool := false
  shut : Bool := false
  ctx : Option Nat := none
  deriving DecidableEq, Repr

/-- A frame for the Sill (R255–R262): kind 0 NTP, 1 PTP, 2 transit copy. -/
structure SillFrame where
  kind : Nat
  frame : Frame
  len : Nat
  queue : Nat
  attempt : Nat := 0
  /-- Tick at which it arrived (R262), and order of its first choice instant (R259). -/
  arrived : Nat
  /-- SA whose key seals it; `none` needs no authentication. NTS: it is sealed under the cookie's keys. -/
  sa : Option Nat := none
  sealing : Bool := false
  /-- What an NTP response answers; the frame as written for the chosen L. -/
  ntp : Option NtpJob := none
  launch : Option Frame := none
  /-- Ingress stamp and step mark (transit copy or Pdelay_Resp, R251, R279), correctionField before writing. -/
  tIn : Nat := 0
  stepIn : Int := 0
  corr0 : Int := 0
  inst : Nat := 0
  sess : Option Nat := none
  deriving DecidableEq, Repr

/-- A held launch slot (R262). Instants L and c in 2⁻⁴⁸ ns of MTS. -/
structure Slot where
  num : Nat
  sf : SillFrame
  l : Nat
  c : Nat
  /-- k of T_w with its whole second (R258). -/
  tw : Nat × Nat := (0, 0)
  /-- Egress offsets in force at c (R260). -/
  txOfs : Int := 0
  /-- Instant of MTS at which it became READY, in 2⁻⁴⁸ ns. -/
  ready : Option Nat := none
  /-- Its preamble has started (R268). -/
  started : Bool := false
  /-- A step tick announced after c lies in (c, L]; an open-loop increment write took effect since c (R266). -/
  stepped : Bool := false
  incred : Bool := false
  /-- Steps applied since c, in 2⁻⁴⁸ ns: the time scale now reads L + shift where the one it was sealed in would read L (R266). -/
  shift : Int := 0
  deriving DecidableEq, Repr

/-- A port (R204–R230, R255–R271); 16 is MGMT. -/
structure Port where
  id : Nat
  /-- Mode and FEC in force on the lane, whether the lane has started, and how often the link has come up. -/
  mode : Nat := 0
  fec : Nat := 0
  lane : Bool := false
  linkSeq : Nat := 0
  rx : Option RxCur := none
  tx : Option TxCur := none
  /-- Instant in ps at which the wire is free after the last frame's gap. -/
  free : Nat := 0
  /-- Copy granted to the port: the cells of its frame flow into the transmit FIFO (R239). -/
  locked : Option Nat := none
  lockAge : Nat := 0
  fifo : Nat := 0
  /-- Frames of the engines, and MAC control frames that wait (R219, R220). -/
  eng : List EngFrame := []
  ctrl : List Frame := []
  /-- Per queue, the instant in ps at which its pause ends (R222). -/
  paused : List Nat := [0, 0, 0, 0, 0, 0, 0, 0]
  xoff : Option XoffState := none
  /-- The port has its close order's close behind it: a shutter holds it (R229). -/
  shut : Bool := false
  /-- Launch slots in order of L, frames that wait for a slot, and frames that wait for a step tick, each with the slot that
  its late launch freed, if any (R259, R262). -/
  slots : List Slot := []
  sillWait : List SillFrame := []
  sillStep : List (SillFrame × Option Nat) := []
  /-- Instants L of late slots: the wire stays idle for their guard time (R267). -/
  guardL : List Nat := []
  /-- Lead adaptation window (R264): tick of its start, frames launched, a late SEAL, least slack in ns. -/
  winFrom : Nat := 0
  winLaunched : Nat := 0
  winLate : Bool := false
  winSlack : Nat := 4294967295
  deriving DecidableEq, Repr

/-- One destination of an admitted frame: output and tag action. -/
structure Dest where
  port : Nat
  action : Nat
  deriving DecidableEq, Repr

/-- A cell committed to a frame: its bank, and whether it belongs to the ingress port's reserve (R232, R234). -/
structure Cell where
  bank : Nat
  reserve : Bool
  deriving DecidableEq, Repr

/-- A frame in the switch core (R231–R254). -/
structure CoreFrame where
  id : Nat
  port : Nat
  frame : Frame
  cls : Nat
  vlan : Nat
  ts : Nat
  bound : Int
  /-- Tick at which the ingress stamp was taken. -/
  stampTick : Nat := 0
  /-- Steps up to the head (Σ of R251), and generations of the two tables at the head (R246). -/
  stepMark : Int
  fdbGen : Nat
  vlanGen : Nat
  cells : List Cell
  /-- Its row of "Classification", and `MAX_FRAME` at its first byte. -/
  row : Nat := 11
  maxFrame : Nat := 1522
  /-- Cells written, bytes received so far, and the whole length once received and accepted. -/
  written : Nat := 0
  got : Nat := 0
  len : Option Nat := none
  /-- The frame was found bad after its head (R248), and its transit PTP message goes to the Sill (R253). -/
  bad : Bool := false
  dests : List Dest
  deriving DecidableEq, Repr

/-- A descriptor in a VOQ (R237), or one whose frame is in progress. -/
structure Copy where
  frame : Nat
  out : Nat
  inp : Nat
  cls : Nat
  action : Nat
  tick : Nat
  read : Nat := 0
  /-- The egress MAC has started it; it went cut-through. -/
  started : Bool := false
  cut : Bool := false
  deriving DecidableEq, Repr

/-- An FDB entry (R243–R245). -/
structure FdbEntry where
  mac : Nat
  vid : Nat
  mask : Nat
  static : Bool
  drop : Bool
  /-- Tick of the last hit. -/
  hit : Nat
  deriving DecidableEq, Repr

/-- A VLAN entry. -/
structure VlanEntry where
  vid : Nat
  learn : Bool
  members : Nat
  actions : Nat
  deriving DecidableEq, Repr

/-- A table write that has committed and not returned, or one that waits (R247). -/
structure TableWrite where
  req : Req
  key : Nat
  value : List Byte
  /-- Tick and generation of the commit; `none` while it waits for the write before it. -/
  commit : Option (Nat × Nat) := none
  flushed : Nat := 0
  deriving DecidableEq, Repr

/-- The switch core. -/
structure SwCore where
  nextId : Nat := 0
  frames : List CoreFrame := []
  /-- Frames that wait for the replicator, in arrival order. -/
  backlog : List Nat := []
  copies : List Copy := []
  /-- Grant pointers by output × 8 + class, accept pointers by input, next bank to borrow from by port, and the port that is served
  first at the borrow ports. -/
  grant : List Nat := List.replicate 128 0
  accept : List Nat := List.replicate 16 0
  nextBank : List Nat := List.replicate 16 0
  borrower : Nat := 0
  nextLock : Nat := 0
  fdb : List FdbEntry := []
  vlans : List VlanEntry := [{ vid := 1, learn := true, members := 65535, actions := 0 }]
  fdbWrites : List TableWrite := []
  vlanWrites : List TableWrite := []
  deriving DecidableEq, Repr

/-- What a crypto operation serves (R25, R335): a cookie of an exchange, its request check, the seal of a launch slot. -/
inductive CryptoKind where
  | cookie (ctx : Nat)
  | verify (ctx : Nat)
  | sealSlot (port slot : Nat)
  deriving DecidableEq, Repr

/-- A crypto operation: its tag and class, and whether the block has started it (R25). -/
structure CryptoOp where
  tag : Nat
  cls : Nat
  kind : CryptoKind
  started : Bool := false
  deriving DecidableEq, Repr

/-- The crypto block: operations in arrival order, and lanes in service. -/
structure Crypto where
  ops : List CryptoOp := []
  next : Nat := 0
  /-- AES lanes in service (R336); half of them, at least one, are SHA-256 lanes. -/
  lanes : Nat := 0
  deriving DecidableEq, Repr

/-- A foreign time transmitter (R286): its latest Announce and the ticks of its Announces, newest first. -/
structure Foreign where
  src : List Byte
  peer : List Byte
  ann : AnnounceData
  log : Int
  ticks : List Nat
  bound : Option BoundTlv := none
  deriving DecidableEq, Repr

/-- A two-step Sync or Pdelay_Resp that waits for its follow-up: sequenceId, receive stamp, its bound, correctionField and the
receipt time the response states. -/
structure TwoStep where
  seq : Nat
  t : Nat
  bound : Int
  corr : Int
  t2 : Nat := 0
  deriving DecidableEq, Repr

/-- A Delay_Req or Pdelay_Req sent: sequenceId, egress stamp once committed, and whether it left within the present run. -/
structure ReqSent where
  seq : Nat
  t : Option (Nat × Int) := none
  inRun : Bool := true
  deriving DecidableEq, Repr

/-- A Sync of a run (R308): receive instant, a_i, and the marks of that instant. -/
structure RunSync where
  t : Nat
  a : Int
  mark : Mark := {}
  deriving DecidableEq, Repr

/-- A PTP port of an instance, 16 × instance + port (R272). -/
structure PtpPort where
  id : Nat
  /-- Tick from which it listens, and end of PRE_TIME_TRANSMITTER. -/
  listenFrom : Nat := 0
  preUntil : Nat := 0
  syncSeq : Nat := 0
  annSeq : Nat := 0
  reqSeq : Nat := 0
  sigSeq : Nat := 0
  /-- Next due instants of the L2 port in 2⁻¹⁶ ns (R281, R278). -/
  nextSync : Option Nat := none
  nextAnn : Option Nat := none
  nextReq : Option Nat := none
  sync : Option TwoStep := none
  pdresp : Option TwoStep := none
  req : Option ReqSent := none
  /-- The run of R308: receive instants with a_i, values b_j, least bound pair seen in its messages. -/
  run : List RunSync := []
  delays : List Int := []
  pair : Option (Nat × Nat) := none
  /-- Tick at which the parent's Announce times out (R287). -/
  annUntil : Option Nat := none
  foreign : List Foreign := []
  /-- Token bucket of R300 in 1/200,000,000 of a message, and the tick of its last refill. -/
  tokens : Nat := 0
  tokenTick : Nat := 0
  /-- Replay window of the parent's sequenceNo (R293). -/
  high : Nat := 0
  seen : List Nat := []
  /-- t3 and t4 of the last peer delay exchange of a GPTP port, and neighborRateRatio as a fraction (R277). -/
  lastPd : Option (Int × Nat) := none
  rateNum : Nat := 1
  rateDen : Nat := 1
  deriving DecidableEq, Repr

/-- A unicast session ("Session entry"). Expiries are MTS seconds, due instants counts of 2⁻¹⁶ ns. -/
structure PtpSession where
  index : Nat
  state : Nat := 1
  inst : Nat
  port : Nat
  v6 : Bool
  tags : List Tag
  vlan : Nat
  mac : Nat
  addr : List Byte
  peerId : List Byte
  svc : Nat
  sa : Nat
  logSync : Int := 0
  logAnn : Int := 0
  logDresp : Int := 0
  syncG : Bool := false
  annG : Bool := false
  drespG : Bool := false
  two : Bool := false
  syncExp : Nat := 0
  annExp : Nat := 0
  drespExp : Nat := 0
  seqSync : Nat := 0
  seqAnn : Nat := 0
  nextSync : Nat := 0
  nextAnn : Nat := 0
  syncSent : Nat := 0
  annSent : Nat := 0
  dreqRx : Nat := 0
  drespTx : Nat := 0
  policed : Nat := 0
  lastDreq : Nat := 0
  gen : Nat := 0
  /-- Sync and Delay_Req counted for shedding (R307), and the tick of the previous accepted Delay_Req (R300). -/
  shedSync : Nat := 0
  shedDreq : Nat := 0
  dreqTick : Option Nat := none
  deriving DecidableEq, Repr

/-- A security association beside its objects: the previous key while it overlaps (R295): slot, keyID, tick of its end; and the
`SA_ROLL_AT` whose roll has been made or missed. -/
structure Sa where
  id : Nat
  prev : Option (Nat × Nat × Nat) := none
  rolledAt : Nat := 0
  deriving DecidableEq, Repr

/-- A grant that a time receiver port holds from an upstream, or has asked for (R302). -/
structure UcGrant where
  inst : Nat
  port : Nat
  peer : List Byte
  v6 : Bool
  typ : Nat
  log : Int
  /-- Duration granted in s and tick of the grant; 0 while only requested. -/
  dur : Nat := 0
  tick : Nat
  deriving DecidableEq, Repr

/-- The PTP engine. -/
structure Ptp where
  ports : List PtpPort := (List.range 64).map (fun n => { id := n })
  sessions : List PtpSession := []
  sas : List Sa := (List.range 32).map (fun n => { id := n })
  /-- Per instance: sourcePortIdentity and address of the parent, and its port. -/
  parents : List (Option (List Byte × List Byte × Nat)) := [none, none, none, none]
  grants : List UcGrant := []
  /-- Shedding factor f (R307). -/
  f : Nat := 1
  /-- Event messages of the present second of R305: its tick and count. -/
  second : Nat := 0
  events : Nat := 0
  deriving DecidableEq, Repr

/-- An exchange context (R335) and what it will answer. -/
structure NtpCtx where
  id : Nat
  job : NtpJob
  deriving DecidableEq, Repr

/-- A Louvre bucket (R333). -/
structure Bucket where
  index : Nat
  tag : Nat
  tokens : Nat
  last : Nat
  kodLast : Nat
  deriving DecidableEq, Repr

/-- The NTP/NTS engine. -/
structure Ntp where
  /-- Requests in the parser queues, oldest first, and per port the tick of the last acceptance (R318). -/
  queue : List NtpRx := []
  taken : List (Option Nat) := List.replicate 16 none
  ctxs : List NtpCtx := []
  nextCtx : Nat := 0
  /-- Crypto budget of R336 in 1/50 of a lane-cycle, and the tick of its last refill. -/
  budget : Nat := 0
  budgetTick : Nat := 0
  buckets : List Bucket := []
  hashKey : Nat := 0
  /-- `NTS_REVOKE` waits for the epoch boundary (R331). -/
  revoke : Bool := false
  /-- Millisecond of MTS of the last rotation: one is made per epoch boundary (R330). -/
  rotatedMs : Option Nat := none
  deriving DecidableEq, Repr

/-- An active entry of the remap table ("Remap entry", R440). -/
structure RemapEntry where
  entry : Nat
  cause : Nat
  address : Nat
  since : Nat
  deriving DecidableEq, Repr

/-- A copy to a spare page or row, or back from it (R440, R441). -/
structure RemapCopy where
  entry : Nat
  cause : Nat
  address : Nat
  back : Bool := false
  deriving DecidableEq, Repr

/-- Correctable errors of a page or row since the start (R440). -/
structure PageErr where
  address : Nat
  count : Nat
  /-- Its replacement has been asked for. -/
  tried : Bool := false
  deriving DecidableEq, Repr

/-- The scrubber on one memory (R439): 0 DDR0, 1 DDR1, 2 the working SRAM, 3 the boot ROM. -/
structure Scrub where
  id : Nat
  line : Nat := 0
  lapFrom : Nat := 0
  last : Nat := 0
  /-- This channel's part of the DRAM lap is covered. -/
  covered : Bool := false
  deriving DecidableEq, Repr

/-- A DMA descriptor in execution ("DMA descriptor", R430): its own IOVA and fields, bytes read so far and bytes done. -/
structure DmaXfer where
  at_ : Nat
  last : Bool
  notify : Bool
  fill : Bool
  len : Nat
  src : Nat
  dst : Nat
  next : Nat
  done : Nat := 0
  deriving DecidableEq, Repr

/-- A DMA channel (R430–R434). -/
structure Dma where
  id : Nat
  windows : List IommuWindow := []
  /-- IOVA of the descriptor to fetch next. -/
  next : Option Nat := none
  cur : Option DmaXfer := none
  deriving DecidableEq, Repr

/-- DRAM, working SRAM, the remap table, the scrubber and the DMA channels (R423–R441). -/
structure Mem where
  /-- Bytes by system address in canonical form: addresses strictly rising, no entry 0; an unlisted byte reads 0 (R424). The working
  SRAM stands at its address under `REMAP_BIT` 1. -/
  cells : List Host.Cell := []
  /-- Poisoned lines, by address ÷ 64 (R436). -/
  poisoned : List Nat := []
  /-- The fill of R424 is complete. -/
  filled : Bool := false
  remap : List RemapEntry := []
  copies : List RemapCopy := []
  /-- Error counts of pages, by channel the page least recently hit last, and of SRAM rows. -/
  pages : List PageErr := []
  scrub : List Scrub := [{ id := 0 }, { id := 1 }, { id := 2 }, { id := 3 }]
  dmas : List Dma := (List.range 8).map (fun n => { id := n })
  /-- Tick from which the present leak period of a region's bucket runs (R437). -/
  leakFrom : List Nat := List.replicate 10 0
  deriving DecidableEq, Repr

/-- A programmable counter (R450): its value at the tick from which it counts. -/
structure Pmc where
  value : Nat := 0
  since : Nat := 0
  deriving DecidableEq, Repr

/-- A core (R442–R454): cycles counted so far in half cycles, and the tick from which the clock has run; `none` while it is parked or
halted. -/
structure CoreUnit where
  id : Nat
  half : Nat := 0
  runFrom : Option Nat := none
  pmcs : List Pmc := List.replicate 8 {}
  deriving DecidableEq, Repr

/-- The cores, the scheduler's frame, the sampling ring of region 6 by position, and entries that await their write (R452). -/
structure Cores where
  units : List CoreUnit := (List.range 5).map (fun n => { id := n })
  frameAt : Nat := 0
  awaiting : List (Nat × List Byte) := []
  ring : List (Nat × List Byte) := []
  deriving DecidableEq, Repr

/-- A snapshot of every counter (R419–R421), and the blocks lost from the region. -/
structure StatSnap where
  seq : Nat
  takenAt : Nat
  unknown : Bool
  restarting : List Nat
  counters : List (Nat × Int)
  lost : List Nat := []
  deriving DecidableEq, Repr

/-- A handover that waits for its instant or its arbiter (R485, R486): this module requested it, or accepted it; S in seconds of MTS; whether S
has been acted on. -/
structure Handover where
  mine : Bool
  sec : Nat
  /-- The request has been accepted. -/
  accepted : Bool := false
  /-- Tick of S, once acted on. -/
  acted : Option Nat := none
  deriving DecidableEq, Repr

/-- The Hinge and the pair (R471–R486). -/
structure Hinge where
  /-- The lane has started (R502). -/
  lane : Bool := false
  /-- Ticks of the last valid frame and of the first of an unbroken run, and of the last frame sent of each clock. -/
  lastValid : Nat := 0
  validFrom : Option Nat := none
  beatTick : Nat := 0
  exchTick : Nat := 0
  measTick : Nat := 0
  keysTick : Nat := 0
  /-- Tick of the last transition of `HINGE_STATE`. -/
  settled : Nat := 0
  /-- (t4 − t3) − (t2 − t1) of the last eight exchanges in 2⁻¹⁶ ns, newest first, and the active's epoch bound. -/
  exch : List Int := []
  activeBound : Int := 1208925819614629174706175
  /-- Consecutive measurements within and beyond 100 ps; PHASE_LOCKED. -/
  within : Nat := 0
  beyond : Nat := 0
  locked : Bool := false
  sessionsSynced : Bool := false
  /-- A table copy runs (R476). -/
  copying : Bool := false
  /-- SEQ of the active's last mirrored entry, and the tick of its last jump (R477). -/
  peerSeq : Option Nat := none
  gapTick : Option Nat := none
  /-- The active's `NTS_EPOCH` and `NTS_NEXT_ROTATE`, and those last sent (R478). -/
  peerKeys : Option (Nat × Nat) := none
  sentKeys : Option (Nat × Nat × Nat) := none
  /-- Tick of the last self-test failure and of the last tests (R479). -/
  testFail : Option Nat := none
  katTick : Nat := 0
  prbsTick : List Nat := List.replicate 16 0
  /-- Level of ACTIVE_IN as taken (R482), the start role is decided (R484), ACTIVE_IN low is ignored until this tick (R486). -/
  activeIn : Bool := false
  started : Bool := false
  ignoreLow : Option Nat := none
  handover : Option Handover := none
  /-- Whole second of MTS of the last count of `PAIR_WTR_LEFT`; tick of the last home conflict. -/
  wtrSec : Nat := 0
  conflictTick : Option Nat := none
  /-- `PAIR_HOME` of the peer, as its heartbeat carries it. -/
  peerHome : Bool := false
  /-- Level of PEER_HEALTH_IN. -/
  peerPin : Bool := false
  /-- Session entries as last sent to the standby, and SEQ of the next journal entry to send (R476, R477). -/
  sentSessions : List PtpSession := []
  sentSeq : Nat := 0
  /-- Tick of the last change of the role. -/
  roleTick : Nat := 0
  deriving DecidableEq, Repr

/-- A component in a bank ("Component entry"). -/
structure Comp where
  id : Nat
  version : Nat
  minPeer : List Nat
  build : Nat
  digest : List Byte
  data : List Byte
  /-- The source container's digest D. -/
  source : List Byte
  deriving DecidableEq, Repr

/-- A NOR bank: its components and the records of their source containers (header, table and signature block, R511). -/
structure Bank where
  comps : List Comp := []
  records : List (List Byte) := []
  deriving DecidableEq, Repr

/-- A trial (R516): tick at which it runs from, third-raise and start counts, the bank before it. -/
structure Trial where
  since : Nat
  coreRaises : Nat := 0
  starts : Nat := 0
  before : Nat
  deriving DecidableEq, Repr

/-- An activation that waits for AT (R513): AT in seconds of MTS, the bank it takes; `none` as AT for a rollback of a failed trial, at the next
boundary. -/
structure Activation where
  sec : Option Nat
  bank : Nat
  rollback : Bool := false
  deriving DecidableEq, Repr

/-- Staging slots, banks and activation (R503–R516). -/
structure Update where
  /-- Bytes of the staging slots; received bytes of an unfinished Transom write count from 0. -/
  staged : List (List Byte) := [[], []]
  /-- A copy of the SD card runs since this tick. -/
  sdSince : Option Nat := none
  /-- The two banks; `none` holds what production installed. -/
  banks : List (Option Bank) := [none, none]
  trial : Option Trial := none
  /-- Slot from which an install runs; 2 once that slot has been lost. -/
  installing : Option Nat := none
  /-- The install is followed by an activation with AT 0 (R509). -/
  autoActivate : Bool := false
  schedule : Option Activation := none
  /-- Banks that failed their verification at this start (R511). -/
  bankFailed : List Bool := [false, false]
  deriving DecidableEq, Repr

/-- The state of the block. -/
structure State where
  /-- The variant (R1). DESIGN CHOICE at reset: -A, which holds every unit. -/
  variant : Variant := .a
  /-- The object store: values that differ from their default, by key, strictly rising (R398, R402). -/
  nums : List (Nat × Int) := []
  /-- OCTETS, STR and DOMAIN values that have been written or formed, by key. -/
  blobs : List (Nat × List Byte) := []
  /-- The numbers in force in the TIME island: those of the last epoch boundary (R24). -/
  inForce : List (Nat × Int) := []
  /-- Mode of the module as a whole. -/
  mode : Mode := .unpowered
  /-- TCLK ticks since the TIME island left reset (R28); timers count them, 200,000 to the millisecond. -/
  now : Nat := 0
  /-- The free-value counter: the MODEL's own field (a free value is an opaque function applied to it). -/
  freeCtr : Nat := 0
  /-- What left the module, newest first: the MODEL's own field. -/
  out : List Out := []
  journal : Journal := {}
  faults : List FaultSrc := []
  restarts : List Restart := []
  /-- Units whose restart has begun and takes effect within 2 µs (R456). -/
  restartsDue : List Nat := []
  keep : Keep := {}
  pins : Pins := {}
  /-- Sessions 1 to 16. -/
  sessions : List Session := List.replicate 16 {}
  latch : Latch := {}
  groups : List Group := []
  /-- Next group ID to try, and the count of commits so far (R384, R387). -/
  nextGroup : Nat := 1
  commits : Nat := 0
  ts : TimeScale := {}
  bound : BoundUnit := {}
  /-- Replicas: CORE, GNSS and the ports (R15). -/
  replicas : List Replica := { id := 0 } :: { id := 1 } :: (List.range 16).map (fun p => { id := 16 + p })
  /-- Measurements that wait for the bound unit, oldest first. -/
  meas : List Meas := []
  keys : Keys := {}
  tamper : Tamper := {}
  nor : Nor := {}
  power : Power := {}
  host : HostLink := {}
  enrol : Option Enrolment := none
  sensors : Sensors := {}
  /-- The resource table's claims (R414); the permanent ones stand from reset. -/
  claims : List Claim :=
    { cls := 0x1103, num := 0, kind := 12, knum := 0, permanent := true } ::
    { cls := 0x110A, num := 0, kind := 8, knum := 0, permanent := true } ::
    (List.range 3).map (fun i => { cls := 0x1103, num := i + 1, kind := 7, knum := i + 1, permanent := true }) ++
    (List.range 12).map (fun i => { cls := 0x1105, num := i, kind := 3, knum := i, permanent := true }) ++
    (List.range 2).map (fun i => { cls := 0x1108, num := i, kind := 6, knum := i, permanent := true }) ++
    (List.range 8).map (fun i => { cls := 0x1107, num := i, kind := 5, knum := i, permanent := true }) ++
    [{ cls := 0x1106, num := 0, kind := 4, knum := 0, index := 0x3C00, sub := 1 }]
  tdcs : List Tdc := (List.range 16).map (fun n => { id := n })
  sel : Selector := {}
  atom : Atom := {}
  esmc : List Esmc := (List.range 16).map (fun n => { port := n })
  pulseWait : List PulseWait := []
  synth : Synth := {}
  gnss : Gnss := {}
  /-- Ports P0–P15 and MGMT (16). -/
  ports : List Port := (List.range 17).map (fun n => { id := n })
  sw : SwCore := {}
  crypto : Crypto := {}
  /-- PTP messages and NTP requests handed on by the classifier, oldest first. -/
  ptpIn : List PtpRx := []
  ntpIn : List NtpRx := []
  ptp : Ptp := {}
  ntp : Ntp := {}
  mem : Mem := {}
  cores : Cores := {}
  /-- Statistics history, newest first, at most 64 (R421). -/
  stats : List StatSnap := []
  /-- Seconds whose snapshot has been taken: runs (first, last, period) (R54). -/
  statsDone : List (Nat × Nat × Nat) := []
  hinge : Hinge := {}
  update : Update := {}
  /-- Commands that wait, first in, first out. -/
  pending : List Instr := []
  deriving DecidableEq, Repr

/-- The machine right after reset: unpowered, every field at its reset value, no command waiting. -/
def State.reset : State := {}

/-- Why the machine stops. No rule of the spec stops the block: the type is empty. -/
inductive Fault where
  /-- Raised by nobody: the spec gives every command of the table an effect, and an internal failure is the safe state (R468),
  which is a next state. Safe. -/
  | none
  deriving DecidableEq, Repr

/-- Why a command has no meaning. -/
inductive Refusal where
  /-- An arm of `exec` whose command has no meaning yet. Safe. -/
  | notModelled (mnemonic : String)
  deriving DecidableEq, Repr

end Sys2Proof.Machine
end

