-- ==== Sys2Proof/Machine/Ops.lean ====
section
/-! DEFINITION. Machine/Ops.lean: the named operations that every meaning is written with: the object store, byte orders, time and
its units, free values, and the change journal. -/
namespace Sys2Proof.Machine

/-! ### The object store -/

/-- Look a key up in a list of pairs. -/
def lookupKV {α : Type} (k : Nat) : List (Nat × α) → Option α
  | [] => none
  | (k', v) :: r => if k' = k then some v else lookupKV k r

/-- Write a key, keeping the keys strictly rising. -/
def insertKV {α : Type} (k : Nat) (v : α) : List (Nat × α) → List (Nat × α)
  | [] => [(k, v)]
  | (k', v') :: r =>
    if k < k' then (k, v) :: (k', v') :: r
    else if k = k' then (k, v) :: r
    else (k', v') :: insertKV k v r

/-- Remove a key. -/
def eraseKV {α : Type} (k : Nat) : List (Nat × α) → List (Nat × α)
  | [] => []
  | (k', v) :: r => if k' = k then eraseKV k r else (k', v) :: eraseKV k r

/-- A number object's value (R402, R405). -/
def getN (s : State) (k : Nat) : Int := (lookupKV k s.nums).getD (dfltNum s.variant k)

/-- The same as a natural number. -/
def getNat (s : State) (k : Nat) : Nat := (getN s k).toNat

/-- A number object's value in force in the TIME island since the last epoch boundary (R24). -/
def getF (s : State) (k : Nat) : Int := (lookupKV k s.inForce).getD (dfltNum s.variant k)

/-- Write a number object. -/
def setN (k : Nat) (v : Int) (s : State) : State := { s with nums := insertKV k v s.nums }

/-- A MAC address with a number added to its last byte (R276, R417). -/
def macPlus (m : List Byte) (n : Nat) : List Byte := m.take 5 ++ [BitVec.ofNat 8 (((m.getD 5 0).toNat + n) % 256)]

/-- The Default column of an OCTETS, STR or DOMAIN object that is not empty (R276, R402, R417). -/
def dfltBytes (k : Nat) : List Byte :=
  let i := k / 256
  let sub := k % 256
  let zero (n : Nat) : List Byte := List.replicate n 0
  let mac := Config.production Obj.BASE_MAC
  if k = Obj.GNSS_TIMING_MSG then zero 80
  else if 0x6010 ≤ i ∧ i < 0x6014 ∧ sub = 9 then
    mac.take 3 ++ [0xFF, 0xFE] ++ (macPlus mac (i - 0x6010)).drop 3
  else if 0x6010 ≤ i ∧ i < 0x6014 ∧ sub = 14 then zero 10
  else if 0x6810 ≤ i ∧ i < 0x6830 ∧ sub = 2 then zero 16
  else if 0x6810 ≤ i ∧ i < 0x6830 ∧ sub = 5 then mac
  else if k = Obj.PAIR_PEER_FP then zero 8
  else if k = Obj.MGMT_IPV4 ∨ k = Obj.MGMT_IPV4_GW then zero 4
  else if k = Obj.MGMT_IPV6 then zero 16
  else if k = Obj.MGMT_MAC then macPlus mac 16
  else if k = Obj.LAST_C4 then zero 56
  else if (i = 0x9410 ∨ i = 0x9411) ∧ sub = 3 then zero 48
  else if k = Obj.VENDOR_NAME then
    [0x55, 0x7A, 0x6F, 0x67, 0x61, 0x20, 0x53, 0x65, 0x6D, 0x69, 0x63, 0x6F, 0x6E, 0x64, 0x75, 0x63, 0x74, 0x6F, 0x72]
  else if k = Obj.XO_COMP_TABLE ∨ k = Obj.DEVICE_CERT ∨ k = Obj.DEVICE_SERIAL ∨ k = Obj.BASE_MAC ∨ k = Obj.DICT_CATALOGUE ∨
    (0x5010 ≤ i ∧ i < 0x5020 ∧ sub = 8) then Config.production k
  else []

/-- A byte object's value; without a stored value, its default. -/
def getB (s : State) (k : Nat) : List Byte := (lookupKV k s.blobs).getD (dfltBytes k)

def setB (k : Nat) (b : List Byte) (s : State) : State := { s with blobs := insertKV k b s.blobs }

/-- The modulus of a counter (R406). -/
def counterMod (k : Nat) : Int :=
  match objInfo (k / 256) (k % 256) with
  | some o => o.typ.hi + 1
  | none => 4294967296

/-- Add to a counter, modulo 2 to the power of its width (R406). -/
def bumpBy (k : Nat) (n : Int) (s : State) : State := setN k ((getN s k + n) % counterMod k) s

def bump (k : Nat) (s : State) : State := bumpBy k 1 s

/-- Raise a number object that keeps a largest value. -/
def setMax (k : Nat) (v : Int) (s : State) : State := if getN s k < v then setN k v s else s

/-- The canonical form of a store: keys strictly rising, no entry equal to its default. -/
def canonNums (v : Variant) (l : List (Nat × Int)) : List (Nat × Int) :=
  (l.foldr (fun p a => insertKV p.1 p.2 a) []).filter (fun p => p.2 ≠ dfltNum v p.1)

/-- Replace element n of a list by its image. -/
def modAt {α : Type} (n : Nat) (f : α → α) (l : List α) : List α := l.modify n f

/-! ### Bytes (R8) -/

/-- `n` bytes of a number, most significant first. -/
def be (n v : Nat) : List Byte := (List.range n).map (fun i => BitVec.ofNat 8 (v / 256 ^ (n - 1 - i)))

/-- The number a list of bytes spells, most significant first. -/
def ofBe (b : List Byte) : Nat := b.foldl (fun a x => a * 256 + x.toNat) 0

/-- 2⁻¹⁶ ns in a second. -/
def sec96 : Nat := 65536000000000

/-- The 12 bytes of a TIME96 (R9, "TIME96 field map"). -/
def t96Bytes (t : Nat) : List Byte :=
  be 6 (t / sec96) ++ be 4 (t / 65536 % 1000000000) ++ be 2 (t % 65536)

/-- A TIME96 from its bytes; nanoseconds above 999,999,999 are invalid (R9). -/
def t96OfBytes (b : List Byte) : Option Nat :=
  let ns := ofBe ((b.drop 6).take 4)
  if ns ≤ 999999999 then some (ofBe (b.take 6) * sec96 + ns * 65536 + ofBe (b.drop 10)) else none

/-- Bytes of a number of a type (R398, "Data types"). -/
def encodeNum (t : DType) (v : Int) : List Byte :=
  match t with
  | .time96 => t96Bytes v.toNat
  | _ => be t.bytes (v % (256 ^ t.bytes : Nat)).toNat

/-- A number of a type from its bytes; `none` where the encoding is invalid (R9, R400). -/
def decodeNum (t : DType) (b : List Byte) : Option Int :=
  match t with
  | .time96 => (t96OfBytes b).map (fun n => (n : Int))
  | .bool => if ofBe b ≤ 1 then some (ofBe b) else none
  | .i8 | .i16 | .i32 | .i64 =>
    let n : Int := ofBe b
    some (if t.hi < n then n - (256 ^ t.bytes : Nat) else n)
  | _ => some (ofBe b)

/-! ### Time -/

/-- TCLK ticks in a microsecond, a millisecond and a second (200 MHz). -/
def usT : Nat := 200
def msT : Nat := 200000
def sT : Nat := 200000000

/-- 2⁻⁴⁸ ns in a nanosecond, a microsecond, a millisecond and a second. -/
def ns48 : Nat := 281474976710656
def us48 : Nat := 1000 * ns48
def ms48 : Nat := 1000000 * ns48
def sec48 : Nat := 1000000000 * ns48

/-- The modulus of the counter: seconds count modulo 2⁴⁸ (R28). -/
def mts48Mod : Nat := 281474976710656 * sec48

/-- MTS as a TIME96: the counter truncated to 2⁻¹⁶ ns (R29). -/
def t96Of (m : Nat) : Nat := m / 4294967296

/-- MTS now as a TIME96 count. -/
def mts96 (s : State) : Nat := t96Of s.ts.mts

/-- A TIME96 count as an instant of the counter. -/
def of96 (t : Nat) : Nat := t * 4294967296

/-- Whole seconds of MTS. -/
def mtsSec (s : State) : Nat := s.ts.mts / sec48

/-- The counter moved by a signed number of 2⁻⁴⁸ ns (R28). -/
def addMts (m : Nat) (d : Int) : Nat := (((m : Int) + d) % (mts48Mod : Int)).toNat

/-- The module runs: every unit is powered, none is held in the absent-state. -/
def up (s : State) : Bool := s.mode = .running

/-- The present tick is that of an epoch boundary (R68). -/
def atBoundary (s : State) : Bool := decide (s.ts.epochTick = some s.now)

/-- An instant among those already acted on, held as closed ranges (R54). -/
def wasDone (n : Nat) (l : List (Nat × Nat)) : Bool := l.any (fun i => decide (i.1 ≤ n ∧ n ≤ i.2))

/-- One more instant is acted on. -/
def markDone (n : Nat) (l : List (Nat × Nat)) : List (Nat × Nat) :=
  if wasDone n l then l
  else match l with
    | (a, b) :: r => if a ≤ n ∧ b + 1 = n then (a, n) :: r else (n, n) :: l
    | [] => [(n, n)]

/-- A start-up milestone is complete (R496). -/
def milestone (s : State) (n : Nat) : Bool := n ≤ getNat s Obj.START_MILESTONE

/-- MTS has reached or passed a whole millisecond whose boundary was not taken yet (R68), in a module whose configuration is
loaded. -/
def boundaryDue (s : State) : Bool := milestone s 6 && decide (s.ts.mts / ms48 ≠ s.ts.lastEpoch)

/-! ### Free values -/

def nextFree (s : State) : State := { s with freeCtr := s.freeCtr + 1 }

/-- A quotient whose rounding no rule fixes: the floor, or the next integer where the free bit says so. -/
def divFree (num : Int) (den : Nat) (s : State) : Int × State :=
  let q := num / (den : Int)
  if num % (den : Int) ≠ 0 ∧ Config.freeBit s.freeCtr then (q + 1, nextFree s) else (q, nextFree s)

/-- Ceiling of a quotient (R66, R97, R118). -/
def cdiv (n d : Nat) : Nat := (n + d - 1) / d

/-- Ceiling of a signed quotient. -/
def cdivInt (n : Int) (d : Nat) : Int := -((-n) / (d : Int))

/-- Clamp to a range. -/
def clampInt (lo hi v : Int) : Int := if v < lo then lo else if hi < v then hi else v

/-- 10ⁿ. -/
def ten (n : Nat) : Nat := 10 ^ n

/-! ### The bound as served (R67, R90) -/

/-- Half code of "unbounded" (R10). -/
def halfUnb : Nat := 1099511627775

/-- A BOUND80 code from its halves in ps. -/
def bound80 (m p : Nat) : Int := ((m * 1099511627776 + p : Nat) : Int)

/-- BOUND80 unbounded on both sides. -/
def unbounded80 : Int := bound80 halfUnb halfUnb

def boundM (c : Int) : Nat := c.toNat / 1099511627776
def boundP (c : Int) : Nat := c.toNat % 1099511627776

def boundFinite (c : Int) : Bool := boundM c ≠ halfUnb && boundP c ≠ halfUnb

/-- One half plus a budget, published by R67. -/
def addHalf (h b : Nat) : Nat := if h + b ≤ halfUnb - 1 then h + b else halfUnb

/-- A served pair: the epoch bound plus a budget per side; unbounded where either half is (R90). -/
def servedPair (c : Int) (bm bp : Nat) : Int :=
  if boundFinite c then bound80 (addHalf (boundM c) bm) (addHalf (boundP c) bp) else unbounded80

/-- The larger half. -/
def largerHalf (c : Int) : Nat := max (boundM c) (boundP c)

/-! ### The change journal (R391–R397) -/

/-- What an entry is asked for; the rest is formed at the append. -/
structure JReq where
  kind : Nat
  result : Nat := 0
  origin : Origin := .module
  key : Nat := 0
  flags : Nat := 0
  group : Nat := 0
  old : List Byte := []
  new : List Byte := []
  /-- SESSION and CREDENTIAL of a mirrored entry, and the true lengths of its values, which are as stored (R477). -/
  mirror : Option (Nat × Nat × Nat × Nat) := none
  /-- TIME in 2⁻¹⁶ ns of MTS, where the change took effect earlier (R358). -/
  time : Option Nat := none

/-- A stored value: in full up to 64 bytes, else its SHA-256 digest (R392). -/
def storedValue (b : List Byte) : List Byte := if b.length ≤ 64 then b else be 32 (Config.sha256 b)

/-- Length of an entry: 56 bytes, the values, zero padding to a multiple of 16, CHAIN (R391). -/
def entryLength (e : JEntry) : Nat := (56 + e.old.length + e.new.length + 15) / 16 * 16 + 16

/-- Bytes 0 to LENGTH − 17 of an entry ("Journal entry"). -/
def entryBody (e : JEntry) : List Byte :=
  let b := be 2 (entryLength e) ++ be 1 e.kind ++ be 1 e.result ++ be 8 e.seq ++ be 4 e.epoch ++ t96Bytes e.time ++
    be 10 e.bound ++ be 1 e.iface ++ be 1 e.port ++ be 2 e.session ++ be 4 e.credential ++ be 2 e.index ++ be 1 e.sub ++
    be 1 e.flags ++ be 2 e.group ++ be 2 e.oldLen ++ be 2 e.newLen ++ e.old ++ e.new
  b ++ List.replicate (entryLength e - 16 - b.length) 0

def entryBytes (e : JEntry) : List Byte := entryBody e ++ be 16 e.chain

/-- Key of a chain epoch (R393): the KDF over the journal chain root (slot 3). -/
def epochKey (root epoch : Nat) : Nat := Config.kdf root [0x46, 0x4E, 0x4A, 0x43, 0x48] (be 4 epoch) / 2 ^ 128

/-- INTERFACE, PORT, SESSION and CREDENTIAL of an origin. -/
def originFields (s : State) : Origin → Nat × Nat × Nat × Nat
  | .module | .gnss => (0, 0xFF, 0, 0)
  | .hinge => (4, 0xFF, 0, 0)
  | .session n =>
    let x := s.sessions.getD (n - 1) {}
    (x.iface, if x.iface = 2 then x.port else 0xFF, n, x.keyId)

/-- The ring holds 256 MiB and overwrites its oldest entries (R395). -/
def trimRing (head : Nat) (l : List JEntry) : List JEntry := l.filter (fun e => decide (head ≤ e.pos + 268435456))

/-- Append one entry: SEQ adds 1, CHAIN covers the entry before it and this one (R391–R393); from S3 on the entry goes to NOR
at once (R396). -/
def journal (r : JReq) (s : State) : State :=
  let (iface, port, sess0, cred0) := originFields s r.origin
  let sess := match r.mirror with | some m => m.1 | none => sess0
  let cred := match r.mirror with | some m => m.2.1 | none => cred0
  let old := match r.mirror with | some _ => r.old | none => storedValue r.old
  let new := match r.mirror with | some _ => r.new | none => storedValue r.new
  let oldLen := match r.mirror with | some m => m.2.2.1 | none => r.old.length
  let newLen := match r.mirror with | some m => m.2.2.2 | none => r.new.length
  let digests := match r.mirror with
    | some _ => 0
    | none => (if 64 < r.old.length then 1 else 0) + (if 64 < r.new.length then 2 else 0)
  let c := getN s Obj.BOUND
  let e0 : JEntry :=
    { kind := r.kind, result := r.result, seq := s.journal.next, epoch := s.journal.epoch, time := r.time.getD (mts96 s),
      bound := (servedPair c (getNat s Obj.READ_BUDGET) (getNat s Obj.READ_BUDGET)).toNat,
      iface := iface, port := port, session := sess, credential := cred,
      index := r.key / 256, sub := r.key % 256,
      flags := r.flags + digests, group := r.group, old := old, oldLen := oldLen, new := new, newLen := newLen,
      chain := 0, origin := r.origin, pos := s.journal.head }
  let ch := Config.cmac (epochKey (s.keys.root 3) s.journal.epoch) (be 16 s.journal.chain ++ entryBody e0)
  let e := { e0 with chain := ch }
  let head := s.journal.head + entryLength e
  let ring := trimRing head (e :: s.journal.ring)
  { s with journal :=
    { s.journal with
      ring := ring, head := head, next := s.journal.next + 1, chain := ch,
      oldest := (ring.getLast?.map (·.seq)).getD s.journal.next,
      tail := if 3 ≤ s.power.closed then e :: s.journal.tail else s.journal.tail } }

/-- Bytes of a number object for the journal. -/
def numBytes (k : Nat) (v : Int) : List Byte :=
  match objInfo (k / 256) (k % 256) with
  | some o => encodeNum o.typ v
  | none => be 8 v.toNat

/-- Write a number object whose changes are journalled: a MODULE entry for a change (R391). -/
def setJ (k : Nat) (v : Int) (s : State) : State :=
  if getN s k = v then s
  else journal { kind := 2, key := k, old := numBytes k (getN s k), new := numBytes k v } (setN k v s)

/-- Record something that leaves the module. -/
def emit (o : Out) (s : State) : State := { s with out := o :: s.out }

end Sys2Proof.Machine
end

