-- ==== Sys2Proof/Machine/Collector.lean ====
section
/-! DEFINITION. Machine/Collector.lean: the fault collector's shared operation (R456–R470), the absent-state (R494), and the keep
record (R62). -/
namespace Sys2Proof.Machine

/-- What "Fault sources" and its companions in spec/19, spec/20 and spec/21 state of a source. -/
structure SrcInfo where
  stickyOnly : Bool := false
  cap : Option Nat := none
  present : Bool := true

/-- The table of sources: `none` is a code absent from it (R460, R462, R465). -/
def srcInfo (v : Variant) (code : Nat) : Option SrcInfo :=
  let n := code % 256
  let port (cap : Option Nat) : Option SrcInfo := if n < 16 then some { cap := cap, present := n < nPorts v } else none
  match code / 256 with
  | 0x00 => if n = 0 then some { stickyOnly := true } else none
  | 0x01 => if n < 8 then some { stickyOnly := true, present := n ≠ 5 || hasGnss v } else none
  | 0x02 => if n < 8 then some { stickyOnly := true } else none
  | 0x03 => if n = 0 then some { stickyOnly := true } else none
  | 0x04 => if n = 0 then some { cap := some 1 } else none
  | 0x05 => if n = 0 then some { cap := some 3 } else none
  | 0x06 => if n = 0 then some { cap := some 1 } else none
  | 0x08 => if n = 0 then some {} else none
  | 0x09 => if n < 4 then some { cap := some 3 } else none
  | 0x0A => if n < 2 then some { cap := some 2 } else none
  | 0x0B => if n = 0 then some {} else none
  | 0x10 =>
    if n = 0 then some { cap := some 2 } else if n = 1 then some { cap := some 2, present := hasGnss v }
    else if 0x10 ≤ n ∧ n < 0x20 then some { cap := some 2, present := n - 0x10 < nPorts v } else none
  | 0x11 =>
    if n < 0x1E then
      some { cap := some 1, present := if n = 8 then hasGnss v else if 14 ≤ n then decide (n - 14 < nPorts v) else true }
    else none
  | 0x12 => if n < 16 then some { cap := some 2, present := n < nTdcs v } else none
  | 0x13 => if n = 0 then some { cap := some 2, present := hasGnss v } else none
  | 0x14 => port (some 2)
  | 0x15 => port (some 1)
  | 0x16 => if n = 0 then some { cap := some 3 } else none
  | 0x17 => if n = 0 then some { cap := some 3 } else none
  | 0x18 => if n < 32 then some { cap := some 1 } else none
  | 0x19 => if n = 0 then some { cap := some 3 } else none
  | 0x1A => if n = 0 then some { cap := some 3 } else none
  | 0x1B => if n = 0 then some { cap := some 2 } else none
  | 0x1C => if n = 0 then some { cap := some 3 } else none
  | 0x20 => if n < 10 then some { cap := some 1 } else none
  | 0x21 => if n < 2 ∨ (0x10 ≤ n ∧ n < 0x30) then some { cap := some 1 } else none
  | 0x22 => if n < 5 ∨ (0x10 ≤ n ∧ n < 0x18) ∨ (0x20 ≤ n ∧ n < 0x25) then some { cap := some 2 } else none
  | 0x23 => if n < 5 ∨ (0x10 ≤ n ∧ n < 0x18) ∨ (0x20 ≤ n ∧ n < 0x25) then some { cap := some 1 } else none
  | 0x24 => if n < 8 then some { cap := some 1 } else none
  | 0x25 => if n < 5 then some { cap := some 3 } else none
  | 0x30 => if n = 0 then some { cap := some 2 } else none
  | 0x31 => port (some 1)
  | 0x32 | 0x33 => if n = 0 then some { cap := some 1 } else none
  | 0x34 => if n = 0 then some {} else none
  | 0x35 => if n = 0 then some { cap := some 1 } else none
  | 0x38 | 0x39 | 0x3A | 0x3B => if n = 0 then some { cap := some 1 } else none
  | _ => none

/-- The unit a C2 raise of a source restarts ("A C2 raise on a source without a unit of its own", spec/18). -/
def unitOf (code : Nat) : Nat :=
  let n := code % 256
  match code / 256 with
  | 0x01 => if n = 5 then 0x1300 else 0
  | 0x10 => if n = 0 then 0x1B00 else if n = 1 then 0x1300 else 0x1400 + (n - 0x10)
  | 0x20 => if n = 7 ∨ n = 8 then code else 0
  | 0x22 | 0x23 =>
    if n < 5 then 0x2500 + n else if 0x10 ≤ n ∧ n < 0x18 then 0x2400 + (n - 0x10)
    else if n = 0x20 then 0x1700 else if n = 0x21 then 0x1300 else if n = 0x23 then 0x1C00
    else if n = 0x24 then 0x1B00 else 0
  | 0x05 | 0x09 | 0x12 | 0x13 | 0x14 | 0x16 | 0x17 | 0x19 | 0x1A | 0x1B | 0x1C | 0x24 | 0x25 | 0x30 => code
  | _ => 0

/-- What the collector holds for a source. -/
def faultOf (s : State) (code : Nat) : FaultSrc := (s.faults.find? (fun f => f.code = code)).getD { code := code }

/-- Insert or replace a source's record, in ascending order of the code (R458). -/
def insertFault (f : FaultSrc) : List FaultSrc → List FaultSrc
  | [] => [f]
  | g :: r => if f.code < g.code then f :: g :: r else if f.code = g.code then f :: r else g :: insertFault f r

def putFault (f : FaultSrc) (s : State) : State := { s with faults := insertFault f s.faults }

/-- N and W for a window that opens now: an entry of `FAULT_OVERRIDES` for the instance, else one with instance 0xFF, else the
defaults (R461, R462). -/
def overrideOf (code : Nat) : List Byte → Option (Nat × Nat)
  | a :: b :: n :: _ :: w1 :: w0 :: r =>
    if a.toNat * 256 + b.toNat = code then some (n.toNat, w1.toNat * 256 + w0.toNat) else overrideOf code r
  | _ => none

def faultNW (s : State) (code : Nat) : Nat × Nat :=
  match overrideOf code (getB s Obj.FAULT_OVERRIDES) with
  | some x => x
  | none =>
    match overrideOf (code / 256 * 256 + 0xFF) (getB s Obj.FAULT_OVERRIDES) with
    | some x => x
    | none => (getNat s Obj.FAULT_N, getNat s Obj.FAULT_W)

/-- The 56 bytes of a fault record ("Fault record"). -/
def faultRecord (v : Variant) (f : FaultSrc) (stickyBit : Bool) : List Byte :=
  let si := (srcInfo v f.code).getD {}
  let flags := (if f.live then 1 else 0) + (if stickyBit then 2 else 0) + (if f.capture.isSome then 4 else 0) +
    (if si.stickyOnly then 8 else 0) + (if (f.capture.map (·.info.suspect)).getD false then 16 else 0)
  let i := (f.capture.map (·.info)).getD {}
  be 2 f.code ++ be 1 flags ++ be 1 (f.classSticky.getD 0xFF) ++ be 1 ((f.capture.map (·.base)).getD f.lastBase) ++
    be 1 f.level ++ be 1 ((f.window.map (·.count)).getD 0) ++ be 1 (si.cap.getD 0xFF) ++ be 4 f.raises ++ be 1 i.master ++
    be 1 i.access ++ be 2 0 ++ be 8 i.address ++ be 4 i.detail ++ t96Bytes ((f.capture.map (·.firstAt)).getD 0) ++
    t96Bytes f.lastAt ++ be 4 0

/-- The sticky bit of a source: in the KEEP island for a sticky-only one (R460). -/
def stickyBit (s : State) (code : Nat) : Bool :=
  if ((srcInfo s.variant code).getD {}).stickyOnly then s.keep.stickyOnly.any (fun p => p.1 = code)
  else (faultOf s code).sticky

/-! ### The keep record and the absent-state -/

/-- The keep counter has run on (R62): U48. -/
def keepAdvance (n : Nat) (s : State) : State :=
  let c := (s.keep.count + n) % 281474976710656
  setN Obj.KEEP_COUNT c { s with keep := { s.keep with count := c, tick := s.now } }

/-- Keep ticks in a number of TCLK ticks at 32.768 kHz, and the most that an oscillator 1×10⁻³ away and an unknown phase move them. -/
def keepTicks (d : Nat) : Nat × Nat := (d * 32768 / sT, d * 32768 / (1000 * sT) + 1)

/-- The keep count at this tick where no event tells it: a free value within the oscillator's range (R62, R64). -/
def keepToNow (s : State) : State :=
  let e := keepTicks (s.now - s.keep.tick)
  keepAdvance (e.1 - e.2 + Config.freeNat s.freeCtr % (2 * e.2 + 1)) (nextFree s)

/-- Write a keep record into the copy that is not the last complete one (R62). The bound it holds is the epoch bound, which no later
instant of the epoch exceeds. -/
def writeKeep (s : State) : State :=
  let r : KeepRecord :=
    { mts := s.ts.mts, keepCount := s.keep.count, bound := (getN s Obj.BOUND).toNat,
      utcOffset := getN s Obj.CURRENT_UTC_OFFSET, leapPending := getN s Obj.LEAP_PENDING,
      leapInstant := getN s Obj.LEAP_INSTANT }
  { setN Obj.KEEP_VALID 1 s with keep :=
    if s.keep.lastIsB then { s.keep with recA := some r, lastIsB := false, written := markDone (mtsSec s) s.keep.written }
    else { s.keep with recB := some r, lastIsB := true, written := markDone (mtsSec s) s.keep.written } }

/-- The final record, of this tick's MTS and keep count, while `TS_STATE` is not UNKNOWN (R62, R492). -/
def finalKeep (s : State) : State := if getN s Obj.TS_STATE = 0 then s else writeKeep (keepToNow s)

/-- The last record complete with a valid CRC (R62). -/
def keepRecord (s : State) : Option KeepRecord :=
  if s.keep.lastIsB then (match s.keep.recB with | some r => some r | none => s.keep.recA)
  else (match s.keep.recA with | some r => some r | none => s.keep.recB)

/-- Take the absent-state in a mode: every output that runs is cut short, key RAM is cleared where the supply stops, committed
groups are discarded (R389, R494, spec/13 "Shutters"). -/
def goAbsent (m : Mode) (s : State) : State :=
  { s with
    mode := m, groups := [], restarts := [], restartsDue := [],
    keys := if m = .resetHeld then s.keys else { s.keys with ram := false },
    power := { s.power with ddrOn := decide (m = .resetHeld), queue := [], notices := [], gnssOn := false } }

/-- R468: HEALTH_OUT low, the last-C4 record, the keep record ended, the absent-state. -/
def safeState (f : FaultSrc) (withCapture : Bool) (s : State) : State :=
  let rec0 := faultRecord s.variant (if withCapture then f else { f with capture := none }) true
  let s1 := { s with keep := { s.keep with lastC4 := some rec0, lastC4Journalled := false } }
  let s2 :=
    if f.code = 0x0800 ∨ f.code = 0x0900 ∨ f.code = 0x0000 then
      { setN Obj.KEEP_VALID 0 s1 with keep := { s1.keep with recA := none, recB := none } }
    else finalKeep s1
  goAbsent .safe s2

/-! ### Raises -/

/-- A unit restart runs already for a source's unit (R457). -/
def restarting (s : State) (unit : Nat) : Bool := s.restarts.any (fun r => r.unit = unit)

/-- The reaction of a class other than C4 (R456): C2 and above restart the unit; C3 sets CLASS_STICKY 3, which holds the role
(R466). -/
def react (effects : Nat → State → State) (code base cls : Nat) (s : State) : State :=
  let u := unitOf code
  if 2 ≤ cls ∧ u ≠ 0 ∧ restarting s u = false then
    effects u { s with restarts := { source := code, unit := u, began := s.now, base := base } :: s.restarts }
  else s

/-- A window still open now (R461). -/
def openWindow (s : State) (f : FaultSrc) : Option Window :=
  match f.window with
  | some w => if s.now < w.openedAt + w.w * sT then some w else none
  | none => none

/-- Counter of a class (R456). -/
def classCounter : Nat → Nat
  | 0 => Obj.FAULTS_C0 | 1 => Obj.FAULTS_C1 | 2 => Obj.FAULTS_C2 | _ => Obj.FAULTS_C3

/-- The replica of the island where a source's faults are detected: CORE, GNSS or a port; the TIME and SWITCH islands hold none (R15). -/
def replicaOf (code : Nat) : Option Nat :=
  let n := code % 256
  match code / 256 with
  | 0x08 | 0x09 | 0x0A | 0x0B | 0x11 | 0x12 | 0x16 | 0x33 => none
  | 0x13 => some 1
  | 0x14 | 0x15 | 0x31 => some (16 + n)
  | 0x10 => some n
  | _ => some 0

/-- A capture's timestamp from a stale replica sets TIME_SUSPECT (R463). -/
def withSuspect (s : State) (code : Nat) (i : FaultInfo) : FaultInfo :=
  match replicaOf code with
  | some r => { i with suspect := decide (getN s (Obj.REPLICA_STATE r) ≠ 0) }
  | none => i

/-- A raise of a source at a base class: counting and escalation (R461), the capture (R463), the reaction (R456).
`effects` is what a restart does to a unit. -/
def raiseWith (effects : Nat → State → State) (code base : Nat) (info : FaultInfo) (s : State) : State :=
  match srcInfo s.variant code with
  | none => s
  | some si =>
    if s.mode = .safe ∨ s.mode = .unpowered ∨ si.present = false then s
    else if base = 0 then
      let f := faultOf s code
      bump Obj.FAULTS_C0 (putFault { f with raises := (f.raises + 1) % 4294967296, lastAt := mts96 s } s)
    else
      let f0 := faultOf s code
      let f := { f0 with raises := (f0.raises + 1) % 4294967296, lastAt := mts96 s, decayFrom := s.now, lastBase := base }
      if si.stickyOnly then
        let old := ((s.keep.stickyOnly.find? (fun p => p.1 = code)).map (·.2)).getD 0
        let s1 := { s with keep := { s.keep with
          stickyOnly := (code, max old base) :: s.keep.stickyOnly.filter (fun p => p.1 ≠ code) } }
        let s2 := putFault { f with classSticky := some (max base (f.classSticky.getD 0)) } s1
        if base = 4 then safeState f (code ≠ 0) s2
        else react effects code base base (bump (classCounter base) s2)
      else
        let cap := si.cap.getD base
        let counted := base = 1 ∨ base = 2
        let win := openWindow s f0
        let nw := faultNW s code
        let w : Window := match win with
          | some w => { w with count := w.count + 1 }
          | none => { count := 1, openedAt := s.now, n := nw.1, w := nw.2 }
        let esc := decide (counted ∧ w.n < w.count)
        let cls := if counted then max base (min cap (base + f0.level + (if esc then 1 else 0))) else base
        let f1 := { f with
          window := if counted then (if esc then none else some w) else f0.window,
          level := if esc then min 3 (f0.level + 1) else f0.level,
          live := f0.live || (decide (2 ≤ cls) && decide (unitOf code ≠ 0)),
          sticky := true,
          capture := if f0.sticky then f0.capture
            else some { base := base, info := withSuspect s code info, firstAt := mts96 s },
          classSticky := some (max cls (f0.classSticky.getD 0)) }
        let s1 := putFault f1 s
        let s2 := if esc then bump Obj.ESCALATIONS s1 else s1
        if cls = 4 then safeState f1 true s2
        else
          let s3 := bump (classCounter cls) s2
          let s4 :=
            if f0.sticky = false ∨ esc ∨ f0.classSticky.getD 0 < cls then
              journal { kind := 7, key := Obj.FAULT_RECORD, new := faultRecord s.variant f1 true } s3
            else bump Obj.RAISES_UNJOURNALLED s3
          react effects code base cls s4

/-- Set or end the live bit of a source whose cause is a condition (R464). -/
def setLive (code : Nat) (b : Bool) (s : State) : State :=
  if (faultOf s code).live = b then s else putFault { faultOf s code with live := b } s

end Sys2Proof.Machine
end

