-- ==== Sys2Proof/Machine/Flags.lean ====
section
/-! DEFINITION. Machine/Flags.lean: the status flags and pins that the module derives from its state at all times (R366, R384, R412,
R456, R466, R481, R494, R495), and the last act of every command, which sets them. -/
namespace Sys2Proof.Machine

/-! ### What every step leaves derived -/

/-- Highest of a list of classes. -/
def maxClass (l : List Nat) : Int := ((l.foldl (fun a x => max a (x + 1)) 0 : Nat) : Int) - 1

/-- Some source has CLASS_STICKY 3 (R466); a sticky-only bit left set from an earlier run holds the role only at C3 (R470). -/
def roleHold (s : State) : Bool :=
  s.faults.any (fun f => f.classSticky = some 3) || s.keep.stickyOnly.any (fun p => p.2 = 3)

/-- FIT (R481). -/
def fit (s : State) : Bool :=
  up s && decide (9 ≤ getNat s Obj.START_MILESTONE) && !roleHold s && decide (getN s Obj.TAMPER_STATE = 0) &&
    decide (s.power.closed ≤ 1) && decide (getN s Obj.BOUND_GRADE ≤ getN s Obj.PAIR_HEALTH_MAX_GRADE) &&
    decide (getN s Obj.PAIR_ROLE ≠ 3)

/-- The outputs show the absent-state: in every mode but `running`, before milestone 7, and in TAMPER_REVIEW (R363, R494,
R497). -/
def outputsAbsent (s : State) : Bool :=
  !up s || decide (getNat s Obj.START_MILESTONE < 7) || decide (getN s Obj.TAMPER_STATE ≠ 0)

/-- The antenna supply is on: the unit runs, the owner has not switched it off, and no short has cut it (R197). -/
def antBiasOn (s : State) : Bool :=
  s.power.gnssOn && up s && decide (getN s Obj.GNSS_ANT_SUPPLY ≠ 0) && s.gnss.antCut.isNone

/-- The parked state of a land whose unit the variant lacks; it holds from the application of VIN (R520). -/
def parkedLevel (v : Variant) : Land → Option Level
  | .portTx p => if nPorts v ≤ p then some .parkedTx else none
  | .portRx p => if nPorts v ≤ p then some .parkedRx else none
  | .rfin => if hasGnss v then none else some .parkedRf
  | .antBias => if hasGnss v then none else some .off
  | .gnssPps => if hasGnss v then none else some .low
  | _ => none

/-- The state of a land in the absent-state of a powered module (R518, third column). -/
def absentLevel (m : Mode) : Land → Level
  | .portTx _ | .mgmtTx | .hingeTx => .squelched
  | .ddr => .low
  | .ddrSupply => if m = .resetHeld then .on else .off
  | .atomTx | .todout _ | .shutterStat => .high
  | .atomDac => .held
  | .clkout _ => .biased
  | .ppsout _ | .gnssPps | .healthOut | .pgOut => .low
  | .antBias => .off
  | .hspiIo | .hostIrqN | .tdo => .highZ
  | .sdClk => if m = .recovery then .signal else .low
  | .sdIo => if m = .recovery then .signal else .highZ
  | .tamper | .tmesh => .signal
  | _ => .input

/-- What the transmitter of a port shows: squelched while its lane has not started (R206, R229); with the link down, remote fault ordered
sets at 10G and 25G (R227), and in 1000BASE-X the Clause 37 advertisement of full duplex and of PAUSE where `PORT_PAUSE` heeds it (R205). -/
def portLine (s : State) (p : Nat) (pause : Bool) : Level :=
  let x := s.ports.getD p { id := p }
  if x.lane = false ∨ x.mode = 0 ∨ x.shut then .squelched
  else if getN s (Obj.PORT_LINK p) = 1 then .signal
  else match x.mode with
    | 1 => .autoNeg true pause
    | 3 | 4 => .remoteFault
    | _ => .signal

/-- The state of a land while the outputs operate (R167, R173, R197, R518, R530). -/
def operatingLevel (s : State) : Land → Level
  | .portTx p => portLine s p (getN s (Obj.PORT_PAUSE p) = 1)
  | .mgmtTx => portLine s 16 false
  | .clkout c =>
    if getN s (Obj.CLK_STATE c) = 1 then .signal
    else if getN s (Obj.CLK_STATE c) = 2 ∧ getN s (Obj.CLK_SQUELCH_LEVEL c) = 0 then .staticPair else .biased
  | .ppsout n =>
    if getN s (Obj.PPS_STATE n) = 0 then .low
    else if getN s (Obj.PPS_STATE n) = 3 then (if getN s (Obj.PPS_POLARITY n) = 0 then .low else .high) else .signal
  | .gnssPps => if s.power.gnssOn ∧ getN s Obj.GNSSPPS_ENABLE = 1 then .signal else .low
  | .rfin => if s.power.gnssOn then .signal else .input
  | .antBias => if antBiasOn s then .on else .off
  | .ddrSupply => .on
  | .atomDac => if milestone s 6 then .signal else .highZ
  | _ => .signal

/-- The lands that show the absent-state while the module runs before milestone 7 and in TAMPER_REVIEW (R363, R497). -/
def outputLand : Land → Bool
  | .portTx _ | .clkout _ | .ppsout _ | .gnssPps | .todout _ | .healthOut => true
  | _ => false

/-- What a land shows. The KEEP bank runs unless VKEEP was lost with VIN. -/
def levelOf (s : State) (l : Land) : Level :=
  if s.mode = .unpowered then
    (if (l = .tamper ∨ l = .tmesh) ∧ s.keep.afresh = false then .signal else unpoweredLevel l)
  else match parkedLevel s.variant l with
    | some x => x
    | none =>
      if up s = false ∨ (outputsAbsent s ∧ outputLand l) then absentLevel s.mode l else operatingLevel s l

/-- The levels the module drives (R368, R481, R494, R495, R518). -/
def pinsOf (s : State) : Pins :=
  { healthOut := fit s
    pgOut := (up s || decide (s.mode = .recovery)) && decide (1 ≤ getNat s Obj.START_MILESTONE)
    shutterStat := match s.mode with
      | .running => min 3 s.power.closed
      | .unpowered | .recovery => 0
      | _ => 3
    hostIrqN := !(up s && !s.host.read.isEmpty)
    outputsAbsent := outputsAbsent s
    antBias := antBiasOn s
    levels := lands.map (fun l => (l, levelOf s l)) }

/-- The summary objects of the collector, the sessions, the groups, the key store and the start queue (R384, R412, R456, R466,
R347, R502). -/
def deriveObjects (s : State) : State :=
  let stickyAll := s.faults.filterMap (fun f => if f.sticky then f.classSticky else none) ++ s.keep.stickyOnly.map (·.2)
  let liveAll := s.faults.filterMap (fun f => if f.live then some f.lastBase else none)
  let w := maxClass stickyAll
  let l := maxClass liveAll
  s |> setN Obj.FAULT_WORST_STICKY (if w < 0 then 255 else w)
    |> setN Obj.FAULT_WORST_LIVE (if l < 0 then 255 else l)
    |> setN Obj.FAULT_STICKY_COUNT stickyAll.length
    |> setJ Obj.FAULT_ROLE_HOLD (if roleHold s then 1 else 0)
    |> setN Obj.SESSIONS_OPEN (s.sessions.countP (fun x => x.state = 2))
    |> setN Obj.GROUPS_HELD s.groups.length
    |> setN Obj.KEY_BAD_COUNT (s.keys.slots.countP (fun k => k.bad))
    |> setN Obj.INRUSH_QUEUE s.power.queue.length

/-- Store the derived objects, drive the lands and keep the object store canonical: the last act of every step. -/
def settle (s : State) : State :=
  let d := deriveObjects s
  { d with pins := pinsOf d, nums := canonNums d.variant d.nums }

/-- A command's outcome: the settled next state. -/
def finish (s : State) : Host.Outcome State Fault Refusal := .next (settle s)

/-- An event of a unit of a module that does not run has no effect (R494). -/
def ifUp (f : State → State) (s : State) : State := if up s then f s else s

end Sys2Proof.Machine
end

