-- ==== Sys2Proof/Machine/Units.lean ====
section
/-! DEFINITION. Machine/Units.lean: raises of the units: the restart that a raise begins takes effect within 2 µs (R456). -/
namespace Sys2Proof.Machine

/-- A restart that has begun: its effect on the unit is due. -/
def dueRestart (u : Nat) (s : State) : State := { s with restartsDue := s.restartsDue ++ [u] }

/-- A raise by a unit (R456). -/
def raise (code base : Nat) (info : FaultInfo) (s : State) : State := raiseWith dueRestart code base info s

end Sys2Proof.Machine
end

