-- ==== Sys2Proof/Machine/Operands.lean ====
section
/-! DEFINITION. Machine/Operands.lean: the operand forms of the requests: the frame tests of R369 and R370, the ordered tests of
R408, the encodings of R399 and R400, responses, and the shared course of a WRITE or COMMAND (R391, R404). -/
namespace Sys2Proof.Machine

/-! ### Status codes (R407) -/
def stOk : Nat := 0x00
def stPending : Nat := 0x01
def stUnitAbsent : Nat := 0x10
def stAccessDenied : Nat := 0x11
def stNotOwner : Nat := 0x12
def stLifecycle : Nat := 0x13
def stResourceHeld : Nat := 0x14
def stRange : Nat := 0x15
def stLength : Nat := 0x16
def stBusy : Nat := 0x17
def stConflict : Nat := 0x18

/-! ### Sessions -/

def session (s : State) (n : Nat) : Session := if n = 0 then {} else s.sessions.getD (n - 1) {}

def setSession (n : Nat) (x : Session) (s : State) : State := { s with sessions := s.sessions.set (n - 1) x }

/-- The key slot that holds a credential's key: VALID, type 6, USAGE TRANSOM, bound to the present life-cycle state (R343,
R371). -/
def slotOf (s : State) (n : Nat) : Option KeySlot := s.keys.slots.find? (fun k => k.id = n)

/-- A slot is usable for a USAGE bit (R343). -/
def slotUsable (s : State) (k : KeySlot) (bit : Nat) : Bool :=
  !k.bad && k.usage.testBit bit &&
    (if getN s Obj.LC_STATE = 1 then k.bindP else if getN s Obj.LC_STATE = 2 then k.bindD else false)

def credUsable (s : State) (n : Nat) : Bool :=
  match slotOf s n with
  | some k => k.typ = 6 && slotUsable s k 2
  | none => false

def ownerCapable (s : State) (slot : Nat) : Bool := credUsable s slot && getN s (Obj.CRED_ROLE slot) = 1

/-- The effective read mask (R377). -/
def readMask (s : State) (sess : Nat) : Nat :=
  let x := session s sess
  if ownerCapable s x.slot then 0xFFFFFFFFFFFFFFFF else getNat s (Obj.CRED_READ_MASK x.slot) ||| 16

/-! ### Frames (R369, R370) -/

/-! ### The module's own addresses (R313, R365) -/

/-- A service-address entry is live on a port for a VLAN (R313). -/
def svcLive (s : State) (a p vlan : Nat) : Bool :=
  decide (getN s (Obj.SVC_ENABLE a) = 1) && (getNat s (Obj.SVC_PORTS a)).testBit p &&
    decide (getNat s (Obj.SVC_VLAN a) = vlan)

/-- An OCTETS object of 16 bytes, all 0 by default. -/
def octets (s : State) (k n : Nat) : List Byte := let b := getB s k; if b.isEmpty then List.replicate n 0 else b

/-- The live entry with an address (R313). -/
def svcOf (s : State) (p vlan : Nat) (v6 : Bool) (addr : List Byte) : Option Nat :=
  ((List.range 16).map (fun i => if v6 then 16 + i else i)).find?
    (fun a => svcLive s a p vlan && decide (octets s (Obj.SVC_ADDR a) 16 = addr))

/-- A MAC address object as a number; `SVC_MAC` is the base MAC address by default. -/
def svcMac (s : State) (a : Nat) : Nat :=
  let b := getB s (Obj.SVC_MAC a)
  ofBe (if b.isEmpty then Config.production Obj.BASE_MAC else b)

/-- An IPv4 address as 16 bytes. -/
def isV4 (a : List Byte) : Bool := (a.take 12).all (· = 0)

/-- The IPv6 link-local address of MGMT, by modified EUI-64 from `MGMT_MAC`. -/
def mgmtLinkLocal (s : State) : List Byte :=
  let m := getB s Obj.MGMT_MAC
  be 8 0xFE80000000000000 ++ [(m.getD 0 0) ^^^ 2] ++ (m.drop 1).take 2 ++ [0xFF, 0xFE] ++ m.drop 3

/-- An address of MGMT: `MGMT_IPV4`, `MGMT_IPV6`, each where it is not 0, or the link-local one (R365). -/
def mgmtAddr (s : State) (a : List Byte) : Bool :=
  decide (a ≠ be 16 0 ∧ a = List.replicate 12 0 ++ octets s Obj.MGMT_IPV4 4) || decide (a ≠ be 16 0 ∧ a = octets s Obj.MGMT_IPV6 16) ||
    decide (a = mgmtLinkLocal s)

/-- The frame reaches the Pane's front end on its transport (R365–R367): MGMT by `MGMT_VLAN` at an address of its own, a data port by
`TRANSOM_VLAN` at a live service address. -/
def transportOk (s : State) (h : FrameHdr) : Bool :=
  match h.iface with
  | 1 => decide (getNat s Obj.MGMT_VLAN = h.vlan) && mgmtAddr s h.own
  | 2 => decide (getNat s Obj.TRANSOM_VLAN ≠ 0 ∧ getNat s Obj.TRANSOM_VLAN = h.vlan ∧ h.port < nPorts s.variant) &&
      (svcOf s h.port h.vlan (!isV4 h.own) h.own).isSome
  | 3 => true
  | _ => false

/-- The frame at the front end leaves the buffer that it waited in: the host link's write buffer, or what a port has handed on (R231, R368). -/
def takeFrame (h : FrameHdr) (s : State) : State :=
  if h.iface = 3 then { s with host := { s.host with written := s.host.written.drop 1 } }
  else
    let p := if h.iface = 1 then 16 else h.port
    { s with host := { s.host with netRx := s.host.netRx.eraseP (fun x => x.1 = p) } }

/-- A frame counts and is dropped, or is accepted and leaves the session's window and instants updated. A frame from the host
link leaves the write buffer. -/
def acceptFrame (h : FrameHdr) (sess : Nat) (s0 : State) : Option State × State :=
  let s := takeFrame h s0
  if transportOk s h = false then (none, s)
  else if !h.udpOk || decide (1408 < h.bytes) || h.version ≠ 1 || !h.lengthOk then (none, bump Obj.TRANSOM_LEN_DROP s)
  else
    let x := session s sess
    if x.state = 0 ∨ x.iface ≠ h.iface ∨ (h.iface ≠ 3 ∧ (x.peer ≠ h.peer ∨ x.port ≠ h.port)) ∨ h.tagOk = false then
      (none, bump Obj.FRAME_AUTH_FAIL s)
    else if h.seq + 64 ≤ x.rxHigh ∨ x.rxSeen.contains h.seq then (none, bump Obj.FRAME_REPLAY s)
    else
      let high := max x.rxHigh h.seq
      (some (setSession sess
        { x with
          rxHigh := high, rxSeen := (h.seq :: x.rxSeen).filter (fun q => high < q + 64), lastAccepted := s.now } s), s)

/-- An accepted REQUEST makes a PENDING session OPEN, counts in SESS_REQUESTS and renews the holder's lease (R374, R381). -/
def acceptRequest (sess : Nat) (s : State) : State :=
  let x := session s sess
  let s0 := if x.state = 1 then
      journal { kind := 4, origin := .session sess, key := Obj.SESS_STATE sess, old := be 1 1, new := be 1 2 } s else s
  let s1 := setSession sess { x with state := 2, requests := (x.requests + 1) % 18446744073709551616 } s0
  if s.latch.holder = sess then { s1 with latch := { s1.latch with leaseFrom := s.now } } else s1

/-- Bytes of a response record ("Response record"). -/
def responseBytes (op status tag index sub flags offset total : Nat) (value : List Byte) : List Byte :=
  be 1 op ++ be 1 status ++ be 2 tag ++ be 2 index ++ be 1 sub ++ be 1 flags ++ be 4 offset ++ be 4 total ++
    be 2 value.length ++ be 2 0 ++ value

/-- The 64 bytes of R373 for a session with ID n: from the credential's base key, `KEY_ID`, the two nonces and the ID. -/
def sessionKdf (s : State) (x : Session) (n : Nat) : Nat :=
  Config.kdf (((slotOf s x.slot).map (·.material)).getD 0) [0x46, 0x4E, 0x54, 0x52, 0x53]
    (be 4 x.keyId ++ be 16 x.clientNonce ++ be 16 x.serverNonce ++ be 2 n)

/-- A Transom frame of the module: header, BODY, TAG under the module-to-client key, bytes 16 to 31 (R370, R373). -/
def taggedFrame (s : State) (x : Session) (kind n seq : Nat) (body : List Byte) : List Byte :=
  let h := be 1 1 ++ be 1 kind ++ be 2 n ++ be 4 seq ++ be 2 body.length ++ be 2 0 ++ body
  h ++ be 16 (Config.cmac (sessionKdf s x n / 2 ^ 256 % 2 ^ 128) h)

/-- The next frame of a session. -/
def frameBytes (s : State) (kind sess : Nat) (body : List Byte) : List Byte :=
  taggedFrame s (session s sess) kind sess ((session s sess).txSeq + 1) body

/-- Queue a frame for the host: a response waits while the read queue of 16 is full, a NOTIFY is discarded (R368). -/
def hostQueue (isNotify : Bool) (f : List Byte) (s : State) : State :=
  if s.host.read.length < 16 then { s with host := { s.host with read := s.host.read ++ [f] } }
  else if isNotify then bump Obj.NOTIFY_DROP s
  else { s with host := { s.host with waiting := s.host.waiting ++ [f] } }

/-- A Transom frame as a UDP datagram to a session's peer (R365, R366): from the address it runs on, with the tag of `MGMT_VLAN` on MGMT. -/
def netFrame (s : State) (x : Session) (f : List Byte) : Frame :=
  let v6 := !isV4 x.peer
  { dst := Config.nextHopMac x.peer
    src := if x.iface = 1 then ofBe (getB s Obj.MGMT_MAC) else svcMac s ((svcOf s x.port x.vlan v6 x.own).getD 0)
    tags := if x.iface = 1 ∧ x.vlan ≠ 0 then [{ pcp := 0, vid := x.vlan }] else []
    etherType := if v6 then 0x86DD else 0x0800
    ip := some { v6 := v6, src := x.own, dst := x.peer.take 16, udp := some (getNat s Obj.TRANSOM_UDP_PORT, ofBe (x.peer.drop 16)), csum := 1 }
    body := .bytes f }

/-- Hand a frame to the port of its session: MGMT is port 16. -/
def netQueue (x : Session) (f : List Byte) (s : State) : State :=
  let g := netFrame s x f
  let len := max 64 (14 + 4 * g.tags.length + (if isV4 x.peer then 28 else 48) + f.length + 4)
  let n : NetFrame := { port := if x.iface = 1 then 16 else x.port, frame := g, len := len, vlan := if x.iface = 1 then 0 else x.vlan }
  { s with host := { s.host with netTx := s.host.netTx ++ [n] } }

/-- Send a frame to a peer on its transport; on the host link a response waits for room and a NOTIFY does not (R368). -/
def sendOn (x : Session) (isNotify : Bool) (f : List Byte) (s : State) : State :=
  if x.iface = 3 then hostQueue isNotify f s else netQueue x f s

/-- Send a frame on a session's transport. -/
def sendFrame (kind sess : Nat) (isNotify : Bool) (body : List Byte) (s : State) : State :=
  let x := session s sess
  let f := frameBytes s kind sess body
  let s1 := setSession sess { x with txSeq := x.txSeq + 1 } s
  if x.state = 0 then s else sendOn x isNotify f s1

/-- Answer a request (R375, R379). -/
def respond (q : Req) (op status index sub flags total : Nat) (value : List Byte) (s : State) : State :=
  sendFrame 3 q.sess false (responseBytes op status q.tag index sub flags q.offset total value)
    (if (session s q.sess).state = 0 then s else emit (.response q.sess op status q.tag index sub flags q.offset total value) s)

/-- NOTIFY to one session ("NOTIFY body"). -/
def notify (sess event arg status object : Nat) (s : State) : State :=
  sendFrame 4 sess true (be 1 event ++ be 1 0 ++ be 2 arg ++ be 1 status ++ be 3 object)
    (emit (.notify sess event arg status object) s)

/-- NOTIFY to every OPEN session (R383). -/
def notifyAll (event arg : Nat) (s : State) : State :=
  (List.range 16).foldl (fun a i => if (session a (i + 1)).state = 2 then notify (i + 1) event arg 0 0 a else a) s

/-! ### Objects: definition, presence, access (R398, R401, R413) -/

/-- Resource classes (R414): instances of an index. -/
def resourceCount : Nat → Nat
  | 0x1100 => 16 | 0x1101 => 8 | 0x1102 => 2 | 0x1103 => 4 | 0x1104 => 14 | 0x1105 => 12 | 0x1106 => 4
  | 0x1107 => 8 | 0x1108 => 2 | 0x1109 => 2 | 0x110A => 1
  | n => if 0x1110 ≤ n ∧ n < 0x1120 then 64 else 0

/-- The index whose counters a statistics block holds (R420). -/
def statSource (b : Nat) : Option Nat :=
  if 0xA300 ≤ b ∧ b < 0xA400 then some (0x1000 + (b - 0xA300))
  else if 0xB100 ≤ b ∧ b < 0xB140 then some (0x6200 + (b - 0xB100))
  else if 0xB500 ≤ b ∧ b < 0xB600 then some (0x7100 + (b - 0xB500))
  else if 0xA000 ≤ b ∧ b < 0xC000 then
    let x := 0x2000 + (b - 0xA000) / 0x100 * 0x400 + b % 0x100
    if (0x2C00 ≤ x ∧ x < 0x3000) ∨ (0x6400 ≤ x ∧ x < 0x6500) ∨ (0x7400 ≤ x ∧ x < 0x7500) then none else some x
  else none

/-- Counters of an index, by ascending subindex (R406, R420). -/
def countersOf (index : Nat) : List Nat :=
  ((objRows (index / 1024)).filter (fun o => o.counter && decide (o.base ≤ index ∧ index < o.base + o.count))).flatMap
    (fun o => (List.range o.nsub).map (fun i => o.sub + i))

/-- Highest subindex defined at an index; 0 where the index is undefined (R398). -/
def subCount (index : Nat) : Nat :=
  if 0 < resourceCount index then resourceCount index
  else if 0xA000 ≤ index then
    (match statSource index with | some x => if (countersOf x).isEmpty then 0 else 3 | none => 0)
  else ((objRows (index / 1024)).filter (fun o => decide (o.base ≤ index ∧ index < o.base + o.count))).foldl
    (fun a o => max a (o.sub + o.nsub - 1)) 0

/-- The object is defined (R398). -/
def defined (index sub : Nat) : Bool :=
  if sub = 0 then 0 < subCount index
  else if 0 < resourceCount index then sub ≤ resourceCount index
  else if 0xA000 ≤ index then sub ≤ subCount index
  else (objInfo index sub).isSome

/-- The index belongs to data port p (R413). -/
def portOfIndex (i : Nat) : Option Nat :=
  let f (b : Nat) : Option Nat := if b ≤ i ∧ i < b + 16 then some (i - b) else none
  [0x2020, 0x244E, 0x301E, 0x3050, 0x5010, 0x5030, 0x5810, 0x6830, 0x6C10, 0x6C30, 0x1110].findSome? f |>.orElse
    (fun _ => if (0x6100 ≤ i ∧ i < 0x6140) ∨ (0x6200 ≤ i ∧ i < 0x6240) then some (i % 16) else none)

/-- The object belongs to an absent unit or instance (R3, R5, R413). -/
def absentObj (v : Variant) (index sub : Nat) : Bool :=
  let i := if 0xA000 ≤ index then (statSource index).getD index else index
  let gnss := i = 0x2011 ∨ i = 0x2448 ∨ i = 0x3018 ∨ (0x4000 ≤ i ∧ i < 0x4040) ∨ i = 0x110A ∨ (i = 0x9010 ∧ sub = 6)
  (decide gnss && !hasGnss v) ||
    (match portOfIndex i with | some p => decide (nPorts v ≤ p) | none => false) ||
    (decide (0x3410 ≤ i ∧ i < 0x3420) && decide (nTdcs v ≤ i - 0x3410)) ||
    (decide (i = 0x1100 ∧ 0 < sub) && decide (nTdcs v ≤ sub - 1))

/-- What an object is, for access and encoding: the catalogue row, or that of SUB_COUNT, a claimant record or a statistics
object (R398, R414, R420). -/
def objKind (index sub : Nat) : ObjInfo :=
  if sub = 0 then ot index 0 1 1 .u8 .ro true false false 0
  else if 0 < resourceCount index then ot index sub 1 1 .oct .ro true false false 0
  else if 0xA000 ≤ index then
    (if sub = 1 then ot index 1 1 1 .oct .ro true false false 0
     else if sub = 2 then ot index 2 1 1 .dom .ro false false false 0
     else ot index 3 1 1 .u16 .ro true false false (((statSource index).getD 0 : Nat) : Int))
  else (objInfo index sub).getD (ot index sub 1 1 .u8 .ro false false false 0)

/-- Operations of a request record. -/
inductive ReqOp where
  | read | write | command | groupAdd
  deriving DecidableEq, Repr

def ReqOp.code : ReqOp → Nat
  | .read => 1 | .write => 2 | .command => 3 | .groupAdd => 5

/-- "Operations by access code" (R401, R11). -/
def admits (a : Access) (op : ReqOp) : Bool :=
  match op, a with
  | .read, .ro | .read, .rw | .read, .rwc | .read, .prv => true
  | .write, .rw | .write, .wo | .write, .prv => true
  | .command, .cmd => true
  | .groupAdd, .rw | .groupAdd, .rwc | .groupAdd, .prv => true
  | _, _ => false

/-- In DEPLOYED a write that weakens a tamper source (R359): a life-cycle rule, so step 9 of R408. -/
def tamperWeaker (s : State) (k v : Nat) : Bool :=
  decide (getN s Obj.LC_STATE = 2) &&
    (if k = Obj.TAMPER_ENABLE then (List.range 8).any (fun n => (getNat s k).testBit n && !v.testBit n)
     else if k = Obj.TAMPER_POLARITY then decide (v ≠ getNat s k)
     else if k = Obj.TAMPER_DEBOUNCE then decide (getNat s k < v)
     else (List.range 8).any (fun n => decide (k = Obj.TAMPER_ACTION n) && decide (v < getNat s k)))

/-- Steps 1 to 9 of R408: the status of the first that fails, else OK. -/
def tests1to9 (q : Req) (op : ReqOp) (index sub : Nat) (s : State) : Nat :=
  let x := session s q.sess
  let o := objKind index sub
  if 64 ≤ x.inFlight.length then stBusy
  else if x.inFlight.contains q.tag then stConflict
  else if q.value.length < q.valueLen then stLength
  else if q.reservedOk = false then stRange
  else if op ≠ .read ∧ s.latch.holder ≠ q.sess then stNotOwner
  else if op = .read ∧ (readMask s q.sess).testBit (index / 1024) = false then stAccessDenied
  else if defined index sub = false then stRange
  else if absentObj s.variant index sub then stUnitAbsent
  else if admits o.acc op = false then stAccessDenied
  else if op ≠ .read ∧ o.acc = .prv ∧ getN s Obj.LC_STATE ≠ 1 then stLifecycle
  else if op ≠ .read ∧ q.valueLen = 1 ∧ tamperWeaker s (index * 256 + sub) (ofBe (q.value.take 1)) then stLifecycle
  else stOk

/-- Length an OCTETS object states for a write (R399). -/
def octLen (k : Nat) : Option Nat :=
  if k = Obj.KEY_GENERATE then some 6
  else if k = Obj.LC_TRANSITION ∨ k = Obj.PAIR_PEER_FP ∨ (k % 256 = 9 ∧ 0x6010 ≤ k / 256 ∧ k / 256 < 0x6014) then some 8
  else if k = Obj.MGMT_IPV4 ∨ k = Obj.MGMT_IPV4_GW then some 4
  else if k = Obj.MGMT_IPV6 ∨ (k % 256 = 2 ∧ 0x6810 ≤ k / 256 ∧ k / 256 < 0x6830) then some 16
  else if k % 256 = 5 ∧ 0x6810 ≤ k / 256 ∧ k / 256 < 0x6830 then some 6
  else if k = Obj.UPD_INSTALL then some 48
  else none

/-- Length, encoding and the stated range of a value (R399, R400): a status and the value. -/
def decodeVal (k : Nat) (o : ObjInfo) (b : List Byte) : Nat × Val :=
  match o.typ with
  | .oct => match octLen k with
    | some n => if b.length = n then (stOk, .oct b) else (stLength, .oct b)
    | none => (stOk, .oct b)
  | .dom => (stOk, .oct b)
  | .str => if 64 < b.length then (stLength, .oct b)
    else if b.all (fun c => decide (0x20 ≤ c.toNat ∧ c.toNat ≤ 0x7E)) then (stOk, .oct b) else (stRange, .oct b)
  | t =>
    if b.length ≠ t.bytes then (stLength, .num 0)
    else match decodeNum t b with
      | none => (stRange, .num 0)
      | some v => if o.lo ≤ v ∧ v ≤ o.hi then (stOk, .num v) else (stRange, .num v)

/-- The present value of an object as bytes, for OLD of an entry and for R404. -/
def heldBytes (s : State) (k : Nat) : List Byte :=
  match objInfo (k / 256) (k % 256) with
  | some o => (match o.typ with | .oct | .dom | .str => getB s k | _ => numBytes k (getN s k))
  | none => []

def Val.int : Val → Int
  | .num v => v
  | .oct b => ofBe b

def Val.nat (v : Val) : Nat := v.int.toNat

def Val.bytes : Val → List Byte
  | .num _ => []
  | .oct b => b

/-- Store a value. A stored change of a configuration object is due in NOR within 1 s (R403). -/
def storeVal (k : Nat) (v : Val) (s : State) : State :=
  let s1 := match v with
    | .num n => setN k n s
    | .oct b => setB k b s
  { s1 with nor := { s1.nor with dirtySince := some (s1.nor.dirtySince.getD s1.now) } }

/-- An object's own rules (step 10 of R408 beyond the encoding) and its effect once its value is stored. `chk` answers a
status, and the detail that goes into VALUE. A command stores nothing. -/
structure Rule where
  chk : State → Val → Nat × List Byte := fun _ _ => (0, [])
  eff : Val → State → State := fun _ s => s
  /-- Status of acceptance: OK, or PENDING where the result is deferred. -/
  status : Nat := 0
  /-- Bytes returned with the acceptance. -/
  result : State → Val → List Byte := fun _ _ => []
  /-- What the journal entry records as NEW: the value, except where a chapter withholds it (R344). -/
  jnew : List Byte → List Byte := fun b => b
  /-- Where the response waits for a later event: what acceptance does instead of storing and answering. -/
  defer : Option (Req → Val → State → State) := none
  /-- What a value that `chk` refuses does all the same: what counts it. -/
  refused : Val → State → State := fun _ s => s
  /-- An accepted command that its chapter says is not journalled (R332). -/
  unlogged : Bool := false

/-- A write applied: stored, then its effect. -/
def applyWrite (r : Rule) (k : Nat) (v : Val) (s : State) : State := r.eff v (storeVal k v s)

/-- One entry for a WRITE or COMMAND, accepted or rejected (R391), and its response. -/
def answer (q : Req) (op : ReqOp) (k status : Nat) (old new detail : List Byte) (s : State) : State :=
  respond q op.code status (k / 256) (k % 256) 1 detail.length detail
    (journal { kind := if op = .command then 1 else 0, result := status, origin := .session q.sess, key := k,
               old := old, new := new } s)

/-- The entry and the response of a GROUP_ADD, accepted or rejected (R385, R391). -/
def answerAdd (q : Req) (k status : Nat) (s : State) : State :=
  respond q 5 status (k / 256) (k % 256) 1 0 []
    (journal { kind := 0, result := status, origin := .session q.sess, key := k, flags := 4, group := q.group % 65536,
               old := heldBytes s k, new := q.value.take q.valueLen } s)

/-- A request past 64 in flight counts (R375). -/
def countBusy (t : Nat) (s : State) : State := if t = stBusy then bump Obj.REQ_BUSY s else s

/-- The response of a request that waited: it is no longer in flight (R375). -/
def answerLate (q : Req) (op : ReqOp) (k status : Nat) (old new detail : List Byte) (s : State) : State :=
  let x := session s q.sess
  answer q op k status old new detail (setSession q.sess { x with inFlight := x.inFlight.erase q.tag } s)

/-- The segment of a DOMAIN write (R378): the status, and the whole value at the segment with LAST. -/
def domainSegment (q : Req) (k : Nat) (s : State) : Nat × Option (List Byte) × State :=
  let x := session s q.sess
  let v := q.value.take q.valueLen
  let put (b : SegBuf) : State := setSession q.sess { x with seg := b } s
  let held : Option (List Byte) := if q.offset = 0 then some [] else
    match x.seg with
    | .writing k' b => if k' = k ∧ b.length = q.offset then some b else none
    | _ => none
  match held with
  | none => (stRange, none, put .empty)
  | some b =>
    if 65536 < b.length + v.length then (stLength, none, put .empty)
    else if q.last then (stOk, some (b ++ v), put .empty)
    else (stOk, none, put (.writing k (b ++ v)))

/-- The request passes to the agent (R409). -/
def agentCount (s : State) : State := bump Obj.AGENT_REQUESTS s

/-- The shared course of a WRITE (R369–R379, R391, R399–R408) of the object with key k under its rule. -/
def ownerWrite (q : Req) (k : Nat) (r : Rule) (s0 : State) : State :=
  match acceptFrame q.hdr q.sess s0 with
  | (none, s) => s
  | (some s1, _) =>
    let s := agentCount (acceptRequest q.sess s1)
    let v := q.value.take q.valueLen
    let old := heldBytes s k
    let t := tests1to9 q .write (k / 256) (k % 256) s
    if t ≠ stOk then answer q .write k t old v [] (countBusy t s)
    else
      let o := objKind (k / 256) (k % 256)
      let seg := if o.typ = .dom then domainSegment q k s else (stOk, some v, s)
      match seg with
      | (st, whole, s2) =>
        if st ≠ stOk then answer q .write k st old v [] s2
        else match whole with
          | none => respond q 2 stOk (k / 256) (k % 256) 0 0 [] s2
          | some b =>
            let d := decodeVal k o b
            if d.1 ≠ stOk then answer q .write k d.1 old b [] s2
            else if o.acc ≠ .wo ∧ b = old then answer q .write k stOk old b [] s2
            else
              let c := r.chk s2 d.2
              if c.1 ≠ stOk then answer q .write k c.1 old b c.2 (r.refused d.2 s2)
              else match r.defer with
                | some f => f q d.2 (setSession q.sess
                    { session s2 q.sess with inFlight := q.tag :: (session s2 q.sess).inFlight } s2)
                | none => answer q .write k r.status old b [] (applyWrite r k d.2 s2)

/-- The shared course of a COMMAND of the object with key k under its rule: nothing is stored. -/
def ownerCommand (q : Req) (k : Nat) (r : Rule) (s0 : State) : State :=
  match acceptFrame q.hdr q.sess s0 with
  | (none, s) => s
  | (some s1, _) =>
    let s := agentCount (acceptRequest q.sess s1)
    let v := q.value.take q.valueLen
    let t := tests1to9 q .command (k / 256) (k % 256) s
    if t ≠ stOk then answer q .command k t [] (r.jnew v) [] (countBusy t s)
    else
      let o := objKind (k / 256) (k % 256)
      let seg := if o.typ = .dom then domainSegment q k s else (stOk, some v, s)
      match seg with
      | (st, whole, s2) =>
        if st ≠ stOk then answer q .command k st [] (r.jnew v) [] s2
        else match whole with
          | none => respond q 3 stOk (k / 256) (k % 256) 0 0 [] s2
          | some b =>
            let d := decodeVal k o b
            if d.1 ≠ stOk then answer q .command k d.1 [] (r.jnew b) [] s2
            else
              let c := r.chk s2 d.2
              if c.1 ≠ stOk then answer q .command k c.1 [] (r.jnew b) c.2 (r.refused d.2 s2)
              else match r.defer with
                | some f => f q d.2 (setSession q.sess
                    { session s2 q.sess with inFlight := q.tag :: (session s2 q.sess).inFlight } s2)
                | none =>
                  if r.unlogged then
                    respond q 3 r.status (k / 256) (k % 256) 1 (r.result s2 d.2).length (r.result s2 d.2) (r.eff d.2 s2)
                  else answer q .command k r.status [] (r.jnew b) (r.result s2 d.2) (r.eff d.2 s2)

end Sys2Proof.Machine
end

