-- ==== Sys2Proof/Machine/Claims.lean ====
section
/-! DEFINITION. Machine/Claims.lean: the resource table (R414–R416) and the arithmetic helpers of the measuring units. -/
namespace Sys2Proof.Machine

/-- Claimant kinds ("Claimant kinds"). -/
def kindRef : Nat := 1
def kindMonitor : Nat := 2
def kindPpsNative : Nat := 4
def kindPg : Nat := 5

/-- Who holds a resource (R414). -/
def claimOf (s : State) (cls num : Nat) : Option Claim := s.claims.find? (fun c => c.cls = cls && c.num = num)

/-- Record a claim at the present instant, unless the claimant holds the resource already; it replaces any other claim of the
resource (R415). -/
def claim (c : Claim) (s : State) : State :=
  if (claimOf s c.cls c.num).any (fun x => x.kind = c.kind && x.knum = c.knum && x.index = c.index && x.sub = c.sub) then s
  else { s with claims := { c with since := mts96 s } :: s.claims.filter (fun x => !(x.cls = c.cls && x.num = c.num)) }

/-- Release a resource, unless the claim is permanent (R414). -/
def release (cls num : Nat) (s : State) : State :=
  { s with claims := s.claims.filter (fun x => !(x.cls = cls && x.num = num && !x.permanent)) }

/-- Release what a claimant holds of a class (R415). -/
def releaseAll (cls kind knum : Nat) (s : State) : State :=
  { s with claims := s.claims.filter (fun x => !(x.cls = cls && x.kind = kind && x.knum = knum && !x.permanent)) }

/-- The 20 bytes of a claimant record ("Claimant record"). -/
def claimBytes (cls num : Nat) (c : Option Claim) : List Byte :=
  let k : Nat := if 0x1110 ≤ cls then 0x10 else cls - 0x1100
  let n : Nat := if 0x1110 ≤ cls then cls - 0x1110 else num
  match c with
  | none => be 1 k ++ be 1 n ++ List.replicate 18 0
  | some c => be 1 k ++ be 1 n ++ be 1 c.kind ++ be 1 c.knum ++ be 2 c.index ++ be 1 c.sub ++
      be 1 (if c.permanent then 1 else 0) ++ t96Bytes c.since

/-- RESOURCE_HELD with the claimant record of another holder; OK where the resource is free or held by the claimant itself
(R379, R415). -/
def heldByOther (s : State) (cls num kind knum : Nat) : Nat × List Byte :=
  match claimOf s cls num with
  | none => (stOk, [])
  | some c => if c.kind = kind ∧ c.knum = knum then (stOk, []) else (stResourceHeld, claimBytes cls num (some c))

/-! ### Conduct of a standby (R480, R497) -/

/-- STANDBY and YIELDING. -/
def standby (s : State) : Bool := getN s Obj.PAIR_ROLE = 1 || getN s Obj.PAIR_ROLE = 3

/-- From milestone 7 until service opens a module alone follows the protocol and switch rules of a standby (R497). -/
def opening (s : State) : Bool := decide (getN s Obj.PAIR_ENABLE = 0) && decide (getNat s Obj.START_MILESTONE < 9)

/-- Protocols and switch as on a standby (R480, R497). -/
def quiet (s : State) : Bool := standby s || opening s

/-- Outputs held silent by `PAIR_STANDBY_OUTPUTS` (R480). -/
def silentOutputs (s : State) : Bool := standby s && decide (getN s Obj.PAIR_STANDBY_OUTPUTS = 0)

/-! ### Rounding -/

/-- Nearest integer to a quotient; no rule fixes an exact tie. -/
def nearFree (num : Int) (den : Nat) (s : State) : Int × State :=
  let q := num / (den : Int)
  let r := num % (den : Int)
  if 2 * r < den then (q, s) else if (den : Int) < 2 * r then (q + 1, s)
  else if Config.freeBit s.freeCtr then (q + 1, nextFree s) else (q, nextFree s)

/-- Integer square root, bit by bit from `b` bits down. -/
def isqrtGo (n : Nat) : Nat → Nat → Nat
  | 0, r => r
  | b + 1, r => if (r + 2 ^ b) * (r + 2 ^ b) ≤ n then isqrtGo n b (r + 2 ^ b) else isqrtGo n b r

def isqrt (n : Nat) : Nat := isqrtGo n 160 0

/-- Least integer whose square is at least n. -/
def ceilSqrt (n : Nat) : Nat := let r := isqrt n; if r * r = n then r else r + 1

/-- Ceiling of the square root of a quotient. -/
def ceilSqrtDiv (a b : Nat) : Nat := ceilSqrt (cdiv a b)

/-- Picoseconds as 2⁻¹⁶ ns; the rounding is free. -/
def ps96 (d : Int) (s : State) : Int × State := divFree (d * 65536) 1000 s

end Sys2Proof.Machine
end

