-- ==== Sys2Proof/Machine/Bytes.lean ====
section
/-! DEFINITION. Machine/Bytes.lean: byte formats that several units use: CRC-32, ASCII digits, sublists. -/
namespace Sys2Proof.Machine

/-- One bit of CRC-32, polynomial of IEEE 802.3 reflected. -/
def crcBit : Nat → Nat → Nat
  | 0, c => c
  | n + 1, c => crcBit n (if c % 2 = 1 then (c / 2).xor 0xEDB88320 else c / 2)

/-- CRC-32 computed as the IEEE 802.3 frame check sequence. -/
def crc32 (b : List Byte) : Nat :=
  (b.foldl (fun c x => crcBit 8 (c.xor x.toNat)) 0xFFFFFFFF).xor 0xFFFFFFFF

/-- ASCII of a digit below 16. -/
def hexChar (d : Nat) : Byte := BitVec.ofNat 8 (if d < 10 then 0x30 + d else 0x37 + d)

/-- n hex digits of a number, most significant first. -/
def hexDigits (n v : Nat) : List Byte := (List.range n).map (fun i => hexChar (v / 16 ^ (n - 1 - i) % 16))

/-- n decimal digits of a number, most significant first. -/
def decDigits (n v : Nat) : List Byte := (List.range n).map (fun i => hexChar (v / 10 ^ (n - 1 - i) % 10))

/-- Number of decimal digits, at least 1. -/
def decLen : Nat → Nat → Nat
  | 0, _ => 1
  | f + 1, v => if v < 10 then 1 else decLen f (v / 10) + 1

/-- Signed ASCII decimal. -/
def asciiInt (v : Int) : List Byte :=
  (if v < 0 then [0x2D] else []) ++ decDigits (decLen 20 v.natAbs) v.natAbs

/-- XOR of bytes. -/
def xorBytes (b : List Byte) : Nat := b.foldl (fun a x => a.xor x.toNat) 0

/-- The bytes contain a pattern. -/
def containsBytes (pat : List Byte) : List Byte → Bool
  | [] => pat.isEmpty
  | x :: r => pat.isPrefixOf (x :: r) || containsBytes pat r

/-- A slice of bytes. -/
def slice (b : List Byte) (off len : Nat) : List Byte := (b.drop off).take len

/-- Unsigned and signed fields, most significant byte first (R8). -/
def fieldU (b : List Byte) (off len : Nat) : Nat := ofBe (slice b off len)
def fieldI (b : List Byte) (off len : Nat) : Int :=
  let n := fieldU b off len
  if 2 * n < 256 ^ len then n else (n : Int) - (256 ^ len : Nat)

end Sys2Proof.Machine
end

