-- ==== Sys2Proof/Machine/TimeOps.lean ====
section
/-! DEFINITION. Machine/TimeOps.lean: the shared operations of the time scale and the bound unit: the tick (R28), the compensated
base of the loop, growth, reset, translation and publication of the bound (R66–R91), and the time-scale states (R33–R47). -/
namespace Sys2Proof.Machine

/-! ### The counter -/

/-- One TCLK tick (R28): the master counter and its shadow add the increment (R23), and with it go the elapsed time and the steering
phase (R74). -/
def tickCounter (step : Int) (s : State) : State :=
  let d : Int := (s.ts.incr : Int) - (s.bound.refIncr : Int)
  { s with
    now := s.now + 1
    ts := { s.ts with
      mts := addMts s.ts.mts ((s.ts.incr : Int) + step), shadow := addMts s.ts.shadow ((s.ts.incr : Int) + step)
      run := s.ts.run + s.ts.incr }
    bound := { s.bound with steer := s.bound.steer + d, steerTotal := s.bound.steerTotal + d,
                            stepTotal := s.bound.stepTotal + step } }

/-- The marks of the present instant (R80). -/
def markNow (s : State) : Mark := { run := s.ts.run, steer := s.bound.steerTotal, step := s.bound.stepTotal }

/-! ### Increments -/

def incrMin : Nat := 0x0004000000000000
def incrMax : Nat := 0x0006000000000000

/-- Clamp to 4.000 to 6.000 ns (R30, R38). -/
def clampIncr (v : Int) : Nat := (clampInt incrMin incrMax v).toNat

/-- base × num / den with base = 5 ns ÷ (1 + f_xo) (R38, "The time loop"); the rounding is free. -/
def baseTimes (num : Int) (den : Nat) (s : State) : Int × State :=
  divFree (5 * (ns48 : Int) * (ten 15 : Int) * num) (((ten 15 : Int) + getN s Obj.XO_FREQ_COMP).toNat * den) s

/-- The increment of a filter output y in 2⁻⁶⁴: clamp(base × (1 − y)). -/
def incrOfY (y : Int) (s : State) : Nat × State :=
  let r := baseTimes ((2 : Int) ^ 64 - y) (2 ^ 64) s
  (clampIncr r.1, r.2)

/-- The integrator whose output equals an increment (R41, R44): 1 − incr ÷ base, in 2⁻⁶⁴. -/
def integOfIncr (incr : Nat) (s : State) : Int × State :=
  let d := 5 * ns48 * ten 15
  divFree (((d : Int) - (incr : Int) * ((ten 15 : Int) + getN s Obj.XO_FREQ_COMP)) * (2 : Int) ^ 64) d s

/-- The increment that R38 applies: from the rate in force of the active frequency reference in 10⁻¹⁸, else base itself. -/
def holdIncr (rate : Int) (s : State) : Nat × State :=
  let r := baseTimes ((ten 18 : Int) + rate) (ten 18) s
  (clampIncr r.1, r.2)

/-- The loop mode in force is CLOSED (R42). -/
def loopClosed (s : State) : Bool := getN s Obj.LOOP_MODE_NOW = 0

/-- Whether `CURRENT_UTC_OFFSET` is valid: the owner's value, or that of a receiver that has decoded it (R58). -/
def utcValidNow (s : State) : Bool := decide (getN s Obj.UTC_SOURCE = 1) || s.ts.utcDecoded

/-- The Hinge takes the place of the ACTIVE time reference (R474). -/
def hingeRef (s : State) : Bool := decide (getN s Obj.PAIR_ROLE = 1 ∧ getN s Obj.HINGE_STATE = 1)

/-- The reference increment of R74: the loop's own, the one in force where R38 has applied it, else the one that R38 would apply. -/
def refIncrOf (s : State) : Nat × State :=
  let st := getN s Obj.TS_STATE
  if loopClosed s then (if st = 1 ∨ st = 2 ∨ st = 4 then incrOfY s.ts.integ s else (s.ts.incr, nextFree s))
  else holdIncr s.ts.holdRate s

def setRefIncr (s : State) : State :=
  let r := refIncrOf s
  { r.2 with bound := { r.2.bound with refIncr := r.1 } }

/-! ### Growth and steering (R66, R72–R74) -/

/-- Largest internal value that is published as finite (R67). -/
def finiteMax : Nat := 1099511627774 * 4294967296

/-- Growth over an update of length d that ends t after the anchor, in 2⁻³² ps, rounded up (R72). Lengths are in 2⁻⁴⁸ ns of
MTS, the deviation in 1/16 K. -/
def growth (f a c dtemp t d : Nat) : Nat :=
  let k := 2 * ten 12 * 2 ^ 48
  cdiv (f * d * k + a * (2 * t * d - d * d) + c * dtemp * d * (k / 16)) (2 * ten 24 * 2 ^ 64)

/-- A steering phase in 2⁻⁴⁸ ns as 2⁻³² ps, rounded up (R66). -/
def steerUp (s : Int) : Int := cdivInt (s * 1000) 65536

/-- A half moved: clamped at zero, held at unbounded above the largest finite value (R66, R67). -/
def moveHalf (h : Nat) (u : Bool) (d : Int) : Nat × Bool :=
  if u then (h, true)
  else
    let v := ((h : Int) + d).toNat
    if finiteMax < v then (v, true) else (v, false)

/-- Both halves grown by g and moved by a steering phase (R72). -/
def movePair (p : Pair) (g : Nat) (steer : Int) : Pair :=
  let m := moveHalf p.m p.mU ((g : Int) + steerUp steer)
  let q := moveHalf p.p p.pU ((g : Int) + steerUp (-steer))
  { m := m.1, p := q.1, mU := m.2, pU := q.2 }

/-- A pair translated by a step in 2⁻⁴⁸ ns (R75). -/
def translatePair (p : Pair) (step : Int) : Pair :=
  let m := moveHalf p.m p.mU (steerUp step)
  let q := moveHalf p.p p.pU (steerUp (-step))
  { m := m.1, p := q.1, mU := m.2, pU := q.2 }

def grow (s : State) (p : Pair) (t d : Nat) (steer : Int) : Pair :=
  movePair p (growth s.bound.fUnc s.bound.aUnc s.bound.tUnc s.bound.dtemp t d) steer

/-- Bring the bound and the shadow pairs up to the present tick (R68, R72, R76). -/
def updateBound (s : State) : State :=
  let b := s.bound
  let d := s.ts.run - b.lastRun
  let t := s.ts.run - b.anchorRun
  { s with bound :=
    { b with
      cur := grow s b.cur t d b.steer
      gFreq := b.gFreq + growth b.fUnc 0 0 0 t d
      gAge := b.gAge + growth 0 b.aUnc 0 0 t d
      gTemp := b.gTemp + growth 0 0 b.tUnc b.dtemp t d
      lastRun := s.ts.run
      steerAnchor := b.steerAnchor + b.steer
      steer := 0
      shadows := b.shadows.map (fun x => { x with pair := grow s x.pair (s.ts.run - x.anchorRun) d b.steer }) } }

/-- A half as it is published (R67). -/
def publishHalf (h : Nat) (u : Bool) : Nat := if u ∨ finiteMax < h then halfUnb else cdiv h 4294967296

/-- Time left in the present epoch, in 2⁻⁴⁸ ns. -/
def epochLeft (s : State) : Nat := ms48 - s.ts.mts % ms48

/-- Steering over d of MTS at the present rate. -/
def steerRate (s : State) (d : Nat) : Int :=
  cdivInt (((s.ts.incr : Int) - (s.bound.refIncr : Int)) * d) s.ts.incr

/-- The pair projected by the drift model and a steering phase over d (R89). -/
def projectPair (s : State) (d : Nat) (steer : Int) : Pair := grow s s.bound.cur (s.ts.run - s.bound.anchorRun + d) d steer

/-- The epoch bound: per half the larger of now and the end of the epoch, published (R67, R89). -/
def epochBound (s : State) : Int :=
  let d := epochLeft s
  let q := projectPair s d (steerRate s d)
  let c := s.bound.cur
  bound80 (publishHalf (max c.m q.m) (c.mU || q.mU)) (publishHalf (max c.p q.p) (c.pU || q.pU))

/-- Elapsed time of the earliest instant that a measurement still on its way describes. -/
def oldestRun (s : State) : Nat :=
  let a := s.meas.foldl (fun a m => min a m.mark.run) s.ts.run
  let b := s.pulseWait.foldl (fun a p => match p.meas with | some m => min a m.mark.run | none => a) a
  let c := s.tdcs.foldl (fun a t => match t.window with | some w => min a w.markFirst.run | none => a) b
  let d := s.ptp.ports.foldl (fun a x => x.run.foldl (fun e r => min e r.mark.run) a) c
  min d s.gnss.secMark.2.run

/-- The updates that reach back to an elapsed time: those later than it, and the one before them. -/
def keepPoints (run : Nat) : List BoundPoint → List BoundPoint
  | [] => []
  | p :: r => if p.run < run then [p] else p :: keepPoints run r

/-- The present update as a point of the history (R80, R82). -/
def pointNow (s : State) : BoundPoint :=
  { run := s.ts.run, pair := s.bound.cur, anchorRun := s.bound.anchorRun, fUnc := s.bound.fUnc, aUnc := s.bound.aUnc, tUnc := s.bound.tUnc
    dtemp := s.bound.dtemp, xo := s.sensors.xo, die := s.sensors.die, xoFailed := s.sensors.xoFailed, dieFailed := s.sensors.dieFailed
    steer := s.bound.steerTotal, step := s.bound.stepTotal }

/-- Publish the bound objects (R89), `STEER_PHASE` in whole picoseconds, rounded down, and keep the point of this update for measurements
that are still on their way (R80, R82). -/
def publishBound (s0 : State) : State :=
  let s := { s0 with bound := { s0.bound with history := keepPoints (oldestRun s0) (pointNow s0 :: s0.bound.history) } }
  let b := s.bound
  s |> setN Obj.BOUND (epochBound s)
    |> setN Obj.GROWTH_FREQ (cdiv b.gFreq 4294967296)
    |> setN Obj.GROWTH_AGE (cdiv b.gAge 4294967296)
    |> setN Obj.GROWTH_TEMP (cdiv b.gTemp 4294967296)
    |> setN Obj.STEER_PHASE ((b.steerAnchor + b.steer) * 1000 / (ns48 : Int))
    |> setN Obj.TEMP_DEV b.dtemp
    |> setN Obj.FREQ_UNC_EFF b.fUnc

/-- Both halves held at unbounded (R52, R65). -/
def makeUnbounded (s : State) : State :=
  { s with bound := { s.bound with cur := { s.bound.cur with mU := true, pU := true } } }

/-- Deviation of one sensor since the anchor, rounded up to 1/16 K; 16 K while it is failed (R73, R121). -/
def devOf (failed : Bool) (cur anchor : Int) : Nat := if failed then 256 else cdiv (cur - anchor).natAbs 64

/-- The deviation of R73 at an update, from readings latched at an anchor. -/
def devAt (q : BoundPoint) (tXo tDie : Int) : Nat := max (devOf q.xoFailed q.xo tXo) (devOf q.dieFailed q.die tDie)

/-- The update in force at an instant: the last one before it, else the earliest held. -/
def pointAt (s : State) (run : Nat) : BoundPoint :=
  (s.bound.history.find? (fun q => decide (q.run < run))).getD (s.bound.history.getLast?.getD (pointNow s))

/-- A pair carried over one interval that ends at a point, by the parameters in force since the point before it: growth since an anchor,
steering, then steps (R68, R72–R75). -/
def carryOver (anchor : Nat) (tXo tDie : Int) (a : Pair × Mark × BoundPoint) (q : BoundPoint) : Pair × Mark × BoundPoint :=
  let w := a.2.2
  let g := growth w.fUnc w.aUnc w.tUnc (devAt w tXo tDie) (q.run - anchor) (q.run - a.2.1.run)
  (translatePair (movePair a.1 g (q.steer - a.2.1.steer)) (q.step - a.2.1.step), { run := q.run, steer := q.steer, step := q.step }, q)

/-- The reset of R79 and, with it, the carry from the measurement instant to now through every update in between (R80). -/
def resetPair (s : State) (m : Meas) (uM uP : Nat) : Pair :=
  let x := m.x * 65536000
  let p0 : Pair := { m := (x + (uM : Int) * 4294967296).toNat, p := ((uP : Int) * 4294967296 - x).toNat, mU := false, pU := false }
  let at0 := pointAt s m.mark.run
  let later := (s.bound.history.filter (fun q => decide (m.mark.run ≤ q.run))).reverse ++ [pointNow s]
  (later.foldl (carryOver m.mark.run at0.xo at0.die) (p0, m.mark, at0)).1

/-- Larger of two pairs, half by half. -/
def maxPair (a b : Pair) : Pair :=
  { m := max a.m b.m, p := max a.p b.p, mU := a.mU || b.mU, pU := a.pU || b.pU }

/-- The shadow pairs that widen a reset by a disputant: those of its opponents taken at most `AGREE_AGE` before the anchor (R76). -/
def usableShadows (s : State) (m : Meas) : List ShadowPair :=
  s.bound.shadows.filter (fun x =>
    s.bound.widen.any (fun d => decide (d = (x.ref, m.ref) ∨ d = (m.ref, x.ref))) &&
      decide (m.atI ≤ x.atI + (getF s Obj.AGREE_AGE).toNat * ms48))

/-- Reset the bound by a measurement (R77, R79, R80). The readings latched at the anchor are those in force at the measurement instant. -/
def resetBound (m : Meas) (uM uP : Nat) (s : State) : State :=
  let p := (usableShadows s m).foldl (fun a x => maxPair a x.pair) (resetPair s m uM uP)
  let d := s.ts.run - m.mark.run
  let at0 := pointAt s m.mark.run
  let s1 := { s with bound :=
    { s.bound with
      cur := p, anchorRun := m.mark.run, lastRun := s.ts.run, anchorAt := m.atI,
      tXo := at0.xo, tDie := at0.die, dtemp := devAt (pointNow s) at0.xo at0.die, steer := 0,
      steerAnchor := s.bound.steerTotal - m.mark.steer,
      gFreq := growth s.bound.fUnc 0 0 0 d d, gAge := growth 0 s.bound.aUnc 0 0 d d,
      gTemp := growth 0 0 s.bound.tUnc s.bound.dtemp d d } }
  s1 |> setN Obj.BOUND_ANCHOR_AT (t96Of m.atI) |> setN Obj.BOUND_ANCHOR_REF m.ref |> publishBound

/-! ### The time-scale states (R33–R47) -/

/-- The phase clamp in force, in 10⁻⁹ (R91, R140). -/
def slopeNow (s : State) : Nat :=
  let slew := (getF s Obj.SLEW_LIMIT).toNat
  if getN s Obj.SWITCH_STATE = 1 then min slew (getF s Obj.SWITCH_SLOPE).toNat else slew

/-- The epoch bound for an instant L: that in force where L lies in this epoch, else that bound grown from the end of this epoch to the end
of L's, with a steering allowance up to `stampAt` (R91, R170). Instants in 2⁻⁴⁸ ns. -/
def sealedBound (s : State) (l stampAt : Nat) : Int :=
  let c := getN s Obj.BOUND
  if l / ms48 ≤ s.ts.mts / ms48 then c
  else
    let d := (l / ms48 - s.ts.mts / ms48) * ms48
    let g := growth s.bound.fUnc s.bound.aUnc s.bound.tUnc s.bound.dtemp (s.ts.run - s.bound.anchorRun + epochLeft s + d) d
    let add := publishHalf g false + cdiv (slopeNow s * (stampAt - s.ts.mts)) (ten 6 * ns48)
    let half (h : Nat) : Nat := if h = halfUnb then halfUnb else addHalf h add
    bound80 (half (boundM c)) (half (boundP c))

/-- Enter a state at the present epoch boundary (R33); into ACQUIRING or RECOVERING with the loop closed the integrator is
loaded (R41). -/
def enterTs (st : Int) (s : State) : State :=
  let s0 := { s with ts :=
    { s.ts with measured := false, acqDone := false, recDone := false, since := s.ts.mts,
                lastBig := s.ts.mts } }
  let s1 := s0 |> setN Obj.TS_STATE st |> setN Obj.TS_STATE_SINCE (mts96 s)
  let s2 :=
    if (st = 1 ∨ st = 4) ∧ loopClosed s1 then
      let r := integOfIncr s1.ts.incr s1
      { r.2 with ts := { r.2.ts with integ := r.1, prevMeas := none } }
    else s1
  setRefIncr s2

/-- The increment in force changes: the bound is brought up to this tick first (R68). -/
def applyIncr (v : Nat) (s : State) : State :=
  if s.ts.incr = v then setRefIncr s
  else publishBound (setRefIncr (let u := updateBound s; { u with ts := { u.ts with incr := v } }))

/-- MTS at the tick that first reaches or passes an instant, at the increment in force. -/
def tickReaching (s : State) (m : Nat) : Nat :=
  if m ≤ s.ts.mts then s.ts.mts else s.ts.mts + cdiv (m - s.ts.mts) (max s.ts.incr 1) * s.ts.incr

/-- The instant of the first strobe tick, a whole microsecond, at or after an instant (R48, R49). -/
def strobeAt (m : Nat) : Nat := (m + us48 - 1) / us48 * us48

/-- Announce a step at a strobe tick at least 8 µs ahead (R48). -/
def announceStep (p : PendingStep) (s : State) : State :=
  emit (.strobe (t96Of p.atI) p.offset) (setN Obj.STEP_STATUS 1 { s with ts := { s.ts with step := some { p with told := s.ts.mts } } })

/-- A step that the module itself makes, of −x (R45, R46). -/
def moduleStep (x : Int) (s : State) : State :=
  announceStep { offset := -x, atI := strobeAt (s.ts.mts + 8 * us48), owner := false, session := 0, setTime := false } s

/-- The loop filter on an accepted offset x in 2⁻¹⁶ ns (R40, R41, "The time loop"). `tau0` is tau where no
earlier measurement is known: the period of the reference's measurements. -/
def loopFilter (x : Int) (atI tau0 : Nat) (s : State) : State :=
  let acq := getN s Obj.TS_STATE = 1
  let bwSet := (getF s (if hingeRef s then Obj.HINGE_LOOP_BW else if acq then Obj.TL_ACQ_BANDWIDTH else Obj.TL_BANDWIDTH)).toNat
  let buildOut := getN s Obj.SWITCH_STATE = 1
  let slew := (getF s Obj.SLEW_LIMIT).toNat
  let slope := if buildOut then min slew (getF s Obj.SWITCH_SLOPE).toNat else slew
  let zeta := (getF s Obj.TL_DAMPING).toNat
  let pull := (getF s Obj.TL_PULL_RANGE).toNat
  -- tau in 2⁻⁴⁸ ns; the limit 1 / (20 tau) in µHz is 10⁶ × 10⁹ × 2⁴⁸ / (20 tau)
  let tau := match s.ts.prevMeas with
    | some p => if p < atI then atI - p else tau0
    | none => tau0
  -- bandwidth as a quotient in µHz: the smaller of bwSet / 1 and (10⁶ × sec48) / (20 tau)
  let bw : Nat × Nat := if bwSet * (20 * tau) ≤ ten 6 * sec48 then (bwSet, 1) else (ten 6 * sec48, 20 * tau)
  -- wn = 2 pi bw; pi to 30 digits over 10³⁰
  let pi2 : Nat := 2 * 3141592653589793238462643383279
  let wn : Nat × Nat := (pi2 * bw.1, ten 36 * bw.2)
  -- p = 2 zeta wn x, in 2⁻⁶⁴; x in 2⁻¹⁶ ns is x / (65536 × 10⁹) s
  let r1 := divFree (2 * (zeta : Int) * wn.1 * x * (2 : Int) ^ 64) (1000 * wn.2 * (65536 * ten 9)) s
  let lim : Int := (slope : Int) * 2 ^ 64 / (ten 9 : Int)
  let s1 := r1.2
  if lim < r1.1 ∨ r1.1 < -lim then
    let p := if 0 < r1.1 then lim else -lim
    let i := incrOfY (s1.ts.integ + p) s1
    { i.2 with ts := { i.2.ts with nextIncr := some i.1, prevMeas := some atI } }
  else
    let r2 := divFree ((wn.1 : Int) * wn.1 * x * (tau : Int) * (2 : Int) ^ 64)
      (wn.2 * wn.2 * (65536 * ten 9) * sec48) s1
    let lo : Int := (pull : Int) * 2 ^ 64 / (ten 12 : Int)
    let integ := clampInt (-lo) lo (r2.2.ts.integ + r2.1)
    let i := incrOfY (integ + r1.1) r2.2
    { i.2 with ts := { i.2.ts with integ := integ, nextIncr := some i.1, prevMeas := some atI } }

end Sys2Proof.Machine
end

