-- ==== Sys2Proof/Machine/Wire.lean ====
section
/-! DEFINITION. Machine/Wire.lean: the octets that frames and messages spell on the wire, every field most significant byte first (R8):
Ethernet with its tags, ARP and Neighbor Discovery, PTP with the TLVs of R277, R289 and "AUTHENTICATION TLV as sent", NTP with the bound
field of R327, and the ESMC PDU. -/
namespace Sys2Proof.Machine

/-- A signed number in n bytes. -/
def beI (n : Nat) (v : Int) : List Byte := be n (v % (256 ^ n : Nat)).toNat

/-- A timestamp of PTP: seconds and whole nanoseconds. -/
def ptpStampBytes (t : Nat) : List Byte := be 6 (t / sec96) ++ be 4 (t % sec96 / 65536)

/-- "Bound TLV". -/
def boundTlvBytes (b : BoundTlv) : List Byte :=
  be 2 3 ++ be 2 20 ++ be 3 0x5AC371 ++ be 3 1 ++ be 1 b.version ++ be 1 ((if b.scope then 1 else 0) + (if b.unb then 2 else 0)) ++
    be 5 b.m ++ be 5 b.p ++ be 1 b.grade ++ be 1 b.ts

/-- "AUTHENTICATION TLV as sent", without and with its ICV. -/
def authTlvHead (a : AuthTlv) : List Byte :=
  be 2 0x8009 ++ be 2 26 ++ be 1 a.spp ++ be 1 2 ++ be 4 a.keyId ++ be 4 (a.seq.getD 0)
def authTlvBytes (a : AuthTlv) : List Byte := authTlvHead a ++ a.icv

/-- The TLVs of unicast negotiation. -/
def ucBytes : UcTlv → List Byte
  | .request t l d => be 2 4 ++ be 2 6 ++ be 1 (16 * t) ++ beI 1 l ++ be 4 d
  | .grant t l d => be 2 5 ++ be 2 8 ++ be 1 (16 * t) ++ beI 1 l ++ be 4 d ++ be 1 0 ++ be 1 1
  | .cancel t => be 2 6 ++ be 2 2 ++ be 1 (16 * t) ++ be 1 0
  | .ack t => be 2 7 ++ be 2 2 ++ be 1 (16 * t) ++ be 1 0
  | .other => []

/-- The Follow_Up information TLV (R277): its scaled rate offset; the module is the grandmaster, whose other fields are 0. -/
def infoBytes (rate : Int) : List Byte :=
  be 2 3 ++ be 2 28 ++ be 3 0x0080C2 ++ be 3 1 ++ beI 4 rate ++ be 2 0 ++ be 12 0 ++ be 4 0

/-- The body of an Announce after its originTimestamp. -/
def announceBytes (a : AnnounceData) : List Byte :=
  beI 2 a.utcOffset ++ be 1 0 ++ be 1 a.p1 ++ be 1 a.cls ++ be 1 a.acc ++ be 2 a.var ++ be 1 a.p2 ++ a.gm ++ be 2 a.steps ++ be 1 a.src

/-- flagField of a message. -/
def ptpFlags (m : PtpMsg) : List Byte :=
  let b (x : Bool) (n : Nat) : Nat := if x then 2 ^ n else 0
  be 1 (b m.two 1 + b m.unicast 2) ++
    be 1 (match m.ann with
      | some a => b a.leap61 0 + b a.leap59 1 + b a.utcValid 2 + b a.ptpScale 3 + b a.timeTrace 4 + b a.freqTrace 5
      | none => 0)

/-- controlField of a message type. -/
def ptpControl : Nat → Nat
  | 0 => 0 | 1 => 1 | 8 => 2 | 9 => 3 | 13 => 4 | _ => 5

/-- The 34 bytes of the header. -/
def ptpHeader (m : PtpMsg) : List Byte :=
  be 1 (16 * m.sdo + m.typ) ++ be 1 (16 * m.minor + m.version) ++ be 2 m.len ++ be 1 m.domain ++ be 1 0 ++ ptpFlags m ++ beI 8 m.corr ++
    be 4 0 ++ m.src ++ be 2 m.seq ++ be 1 (ptpControl m.typ) ++ beI 1 m.log

/-- What follows the header, up to the TLVs. -/
def ptpBody (m : PtpMsg) : List Byte :=
  match m.typ with
  | 2 => ptpStampBytes m.ts ++ be 10 0
  | 3 | 9 | 10 => ptpStampBytes m.ts ++ m.req
  | 11 => ptpStampBytes m.ts ++ (m.ann.map announceBytes).getD []
  | 12 => m.req
  | _ => ptpStampBytes m.ts

/-- The message up to its AUTHENTICATION TLV: each other TLV precedes it (R289). -/
def ptpPlain (m : PtpMsg) : List Byte :=
  ptpHeader m ++ ptpBody m ++ m.uc.flatMap ucBytes ++ (m.info.map infoBytes).getD [] ++ (m.bound.map boundTlvBytes).getD []

/-- What the ICV covers: the message from its first byte to the byte before the ICV, correctionField as sent (R292). -/
def ptpCovered (m : PtpMsg) : List Byte := ptpPlain m ++ (m.auth.map authTlvHead).getD []

def ptpBytes (m : PtpMsg) : List Byte := ptpPlain m ++ (m.auth.map authTlvBytes).getD []

/-- "Response header", and the bound field of R327 as it stands in the plaintext of the authenticator. -/
def ntpHeader (r : NtpResp) : List Byte :=
  be 1 (64 * r.li + 8 * r.vn + 4) ++ be 1 r.stratum ++ be 1 r.poll ++ be 1 0xE2 ++ be 4 0 ++ be 4 r.disp ++ be 4 r.refId ++ be 8 r.ref ++
    be 8 r.org ++ be 8 r.rcv ++ be 8 r.xmt
def boundField (f : Nat × Nat × Nat × Int × Int) : List Byte :=
  let w (b : Int) : List Byte := be 5 (boundM b) ++ be 5 (boundP b)
  be 2 0xF053 ++ be 2 28 ++ be 1 1 ++ be 1 f.1 ++ be 1 f.2.1 ++ be 1 f.2.2.1 ++ w f.2.2.2.1 ++ w f.2.2.2.2


/-- An extension field of NTP: type, length, body. -/
def extBytes (typ : Nat) (body : List Byte) : List Byte := be 2 typ ++ be 2 (4 + body.length) ++ body

/-- The Unique Identifier field of a response, unchanged from the request's (R326). -/
def uidField (r : NtpResp) : List Byte := (r.uid.map (extBytes 0x0104)).getD []

/-- The plaintext that the authenticator seals: new cookies, each in its field, then the bound field (R326, R327). -/
def ntsPlain (r : NtpResp) : List Byte := r.cookies.flatMap (extBytes 0x0204) ++ (r.bound.map boundField).getD []

/-- The NTS Authenticator and Encrypted Extension Fields field: lengths, nonce, ciphertext, padding to a whole word. -/
def authField (a : List Byte × List Byte) : List Byte :=
  extBytes 0x0404 (be 2 a.1.length ++ be 2 a.2.length ++ a.1 ++ a.2 ++ be ((4 - a.2.length % 4) % 4) 0)

/-- A response after the UDP header. -/
def ntpBytes (r : NtpResp) : List Byte := ntpHeader r ++ uidField r ++ (r.auth.map authField).getD []

/-- A response sealed under S2C with a nonce (R326): the associated data are the header and the Unique Identifier field. -/
def sealNts (s2c nonce : List Byte) (r : NtpResp) : NtpResp :=
  let p := ntsPlain r
  { r with auth := some (nonce, be (16 + p.length) (ofBe (Config.sivSeal (ofBe s2c) (ntpHeader r ++ uidField r ++ nonce) p))) }

/-- The ESMC PDU after its EtherType (R154): subtype, OUI, version with the event flag, the QL TLV and the extended QL TLV. -/
def esmcBytes (ql ecode cascade : Nat) (event : Bool) (clock : List Byte) : List Byte :=
  be 1 0x0A ++ be 3 0x0019A7 ++ be 2 1 ++ be 1 (16 + (if event then 8 else 0)) ++ be 3 0 ++ be 1 1 ++ be 2 4 ++ be 1 ql ++
    be 1 2 ++ be 2 20 ++ be 1 ecode ++ clock ++ be 1 0 ++ be 1 cascade ++ be 1 0 ++ be 5 0

/-- A tag: TPID, PCP and VID (R216, R217). -/
def tagBytes (t : Tag) : List Byte := be 2 (if t.s then 0x88A8 else 0x8100) ++ be 2 (8192 * t.pcp + t.vid)

/-- What a body spells; nothing where the record does not hold it. -/
def bodyBytes : Body → List Byte
  | .ptp m => ptpBytes m
  | .ntp r => ntpBytes r
  | .pause q => be 2 1 ++ be 2 q
  | .pfc l => be 2 0x0101 ++ be 2 ((l.map (fun c => 2 ^ c.1)).sum) ++
      (List.range 8).flatMap (fun c => be 2 (((l.find? (fun x => x.1 = c)).map (·.2)).getD 0))
  | .macCtrl o => be 2 o
  | .tell false t mac => be 2 1 ++ be 2 0x0800 ++ be 1 6 ++ be 1 4 ++ be 2 2 ++ be 6 mac ++ t.drop 12
  | .bytes b => b
  | _ => []

/-- The octets of a frame before its body: addresses, tags outermost first, Length/Type, and the first octets of an IP packet. -/
def headBytes (f : Frame) : List Byte :=
  be 6 f.dst ++ be 6 f.src ++ f.tags.flatMap tagBytes ++ be 2 f.etherType

/-- The first n octets of a frame on the wire; what the record does not hold is free. -/
def frameOctets (f : Frame) (n : Nat) : List Byte :=
  let h := headBytes f
  let b := bodyBytes f.body
  match f.ip with
  | none => let o := h ++ b; o.take n ++ (List.range (n - o.length)).map (Config.dataOctet o)
  | some i =>
    let head := h ++ (if i.v6 then [] else be 1 0x45)
    let size := (if i.v6 then 40 else 20) + 8
    let udp := be 2 ((i.udp.map (·.1)).getD 0) ++ be 2 ((i.udp.map (·.2)).getD 0) ++ be 2 (8 + b.length) ++ be 2 i.csum
    let gap := (List.range (h.length + size - 8 - head.length)).map (Config.dataOctet head)
    let o := head ++ gap ++ udp ++ b
    o.take n ++ (List.range (n - o.length)).map (Config.dataOctet o)

/-- The stomped FCS after the first n octets of a frame: the bitwise inverse of the FCS that is correct for them (R224). -/
def stompFcs (f : Frame) (n : Nat) : Nat := 0xFFFFFFFF - crc32 (frameOctets f n)

/-- A 16-bit one's complement sum of the words of a field (RFC 1624). -/
def onesSum (l : List Nat) : Nat := l.foldl (fun a w => let t := a + w; t % 65536 + t / 65536) 0

/-- A UDP checksum after a field changed: 0 stays 0 over IPv4, any other is updated incrementally by RFC 1624 (R251). -/
def csumUpdate (v6 : Bool) (c : Nat) (old new : List Byte) : Nat :=
  let words (b : List Byte) : List Nat := (List.range (b.length / 2)).map (fun i => ofBe (slice b (2 * i) 2))
  if c = 0 ∧ v6 = false then 0
  else
    let n := 65535 - onesSum ((65535 - c) :: ((words old).map (fun w => 65535 - w) ++ words new))
    if n = 0 then 65535 else n

end Sys2Proof.Machine
end

