-- ==== Sys2Proof/Machine/PortOps.lean ====
section
/-! DEFINITION. Machine/PortOps.lean: shared operations of the ports and the switch core (R204–R254): replicas, timestamps,
classification, the buffer, the queues, and what ends a link. -/
namespace Sys2Proof.Machine

/-! ### Replicas (R15–R22) -/

/-- The number of a replica in `Obj.REPLICA_STATE` and its fellows. -/
def repNum : ReplicaId → Nat
  | .core => 0 | .gnss => 1 | .port p => 16 + p.val

/-- Collector source of a replica. -/
def replicaFault (id : Nat) : Nat := if id < 2 then 0x1000 + id else 0x1010 + (id - 16)

def replica (s : State) (id : Nat) : Replica := (s.replicas.find? (fun r => r.id = id)).getD { id := id }
def setReplica (id : Nat) (f : Replica → Replica) (s : State) : State :=
  { s with replicas := s.replicas.map (fun r => if r.id = id then f r else r) }

/-- The island of a replica is present. -/
def replicaPresent (v : Variant) (id : Nat) : Bool :=
  if id = 0 then true else if id = 1 then hasGnss v else decide (id - 16 < nPorts v)

/-- Timestamps of this replica carry the epoch bound (R19). -/
def replicaFresh (s : State) (id : Nat) : Bool := getN s (Obj.REPLICA_STATE id) = 0

/-- A timestamp taken in an island carries this epoch bound (R19, R89). -/
def stampBound (s : State) (id : Nat) : Int := if replicaFresh s id then (replica s id).bound else unbounded80

/-! ### UTC (R56–R61) -/

/-- UTC as it is in force at a second of MTS near the present one (R56, R60, R319): the offset, the pending leap, and the second of its
instant. A pending leap is in force from its instant on, and one just applied is pending before it. -/
def utcAt (s : State) (sec : Nat) : Int × Int × Nat :=
  let off := getN s Obj.CURRENT_UTC_OFFSET
  let p := getN s Obj.LEAP_PENDING
  let l := getNat s Obj.LEAP_INSTANT / sec96
  match s.ts.lastLeap.filter (fun q => decide (sec < q.1 ∧ mtsSec s = q.1)) with
  | some (k, c) => (off - c, if c = 1 then 1 else 2, k)
  | none => if p ≠ 0 ∧ l ≤ sec then (off + (if p = 1 then 1 else -1), 0, l) else (off, p, l)

def utcOffsetAt (s : State) (sec : Nat) : Int := (utcAt s sec).1

/-- The second before an inserted leap (R61). -/
def inLeapAt (s : State) (sec : Nat) : Bool := decide ((utcAt s sec).2.1 = 1) && decide (sec + 1 = (utcAt s sec).2.2)

def inLeap (s : State) : Bool := inLeapAt s (mtsSec s)

/-- UTC count of a second of MTS (R56, R61). -/
def utcSecAt (s : State) (sec : Nat) : Int := (sec : Int) - utcOffsetAt s sec - (if inLeapAt s sec then 1 else 0)

def utcSec (s : State) : Int := utcSecAt s (mtsSec s)

/-- `UTC_FLAGS` at a second ("UTC_FLAGS field map"): the pending leap stands at the end of the current UTC day. -/
def utcFlagsAt (s : State) (sec : Nat) : Nat :=
  let u := utcAt s sec
  let newOff : Int := u.1 + (if u.2.1 = 1 then 1 else -1)
  let day := decide (utcSecAt s sec / 86400 = ((u.2.2 : Int) - newOff - 1) / 86400)
  (if u.2.1 = 1 ∧ day then 1 else 0) + (if u.2.1 = 2 ∧ day then 2 else 0) + (if inLeapAt s sec then 4 else 0)

def utcFlags (s : State) : Nat := utcFlagsAt s (mtsSec s)

/-! ### Ports -/

def port (s : State) (p : Nat) : Port := s.ports.getD p { id := p }
def setPort (p : Nat) (f : Port → Port) (s : State) : State := { s with ports := modAt p f s.ports }
def setSw (f : SwCore → SwCore) (s : State) : State := { s with sw := f s.sw }

/-- The port's link is up and its receive CDR locked (R134). MGMT is port 16. -/
def portUp (s : State) (p : Nat) : Bool := getN s (Obj.PORT_LINK p) = 1

def portFault (p : Nat) : Nat := 0x1400 + p

/-- Time of an octet in ps ("Port modes"). -/
def octPs : Nat → Nat
  | 1 | 2 => 8000 | 3 => 800 | 4 => 320 | _ => 0

/-- Octet time of a port in 2⁻⁴⁸ ns. -/
def oct48 (s : State) (p : Nat) : Nat := octPs (port s p).mode * ns48 / 1000

/-- The instant now in ps of the TCLK count. -/
def psNow (s : State) : Nat := s.now * 5000

/-- A length in ps as 2⁻⁴⁸ ns, rounded up. -/
def ps48 (d : Nat) : Nat := cdiv (d * ns48) 1000

/-- Calibration block of a mode and FEC (R212). -/
def modeBlock (m fec : Nat) : Nat := if m = 4 then 3 + fec else m - 1

/-- A port's calibration table. -/
def portCal (s : State) (p : Nat) : List Byte :=
  (lookupKV (Obj.PORT_CAL_TABLE p) s.blobs).getD (Config.production (Obj.PORT_CAL_TABLE p))

/-- The checks of R212. -/
def portCalOk (s : State) (p : Nat) : Bool :=
  let b := portCal s p
  decide (fieldU b 0 4 = 0x464E5043) && decide (fieldU b 4 2 = 1) && decide (fieldU b 6 1 = p) &&
    decide (fieldU b 656 4 = crc32 (b.take 656))

/-- P of the block in force (R210). -/
def setPortP (p : Nat) (s : State) : State :=
  let x := port s p
  if x.mode = 0 ∨ getN s (Obj.PORT_CAL_STATE p) = 1 then s
  else setN (Obj.PORT_P p) (fieldU (portCal s p) (10 + 108 * modeBlock x.mode x.fec) 2) s

/-- 1/64 UI of a mode as a fraction in 2⁻¹⁶ ns ("Port modes": 1.25, 10.3125 and 25.78125 GBd). -/
def ui64 : Nat → Nat × Nat
  | 1 | 2 => (4096, 5) | 3 => (16384, 165) | 4 => (32768, 825) | _ => (0, 1)

/-- The raw stamp of a frame (R208): the boundary of its block, plus the bit at which its SFD has ended and the phase of the word clock, with
the latencies that vary from frame to frame removed. Held at 2⁻¹⁶ ns; the direction of that rounding is free. -/
def rawStamp (p : Nat) (x : PcsStamp) (egress : Bool) (s : State) : Nat × State :=
  let u := ui64 (port s p).mode
  let v : Int := 64 * ((x.place.gearbox : Int) + x.place.codeword + x.place.marker)
  let n : Int := 64 * x.place.bit + x.place.phase + (if egress then v else -v)
  let d := divFree (n * u.1) u.2 s
  (((x.block : Int) + d.1).toNat, d.2)

/-- RX_OFS (0) or TX_OFS (4) at `TEMP_DIE`, which is in 1/16 °C: linear between 13 points 15 K apart, nearest, ties toward zero; the
end points outside (R209). -/
def calOfs (s : State) (p off : Nat) : Int :=
  let b := portCal s p
  let at_ (j : Nat) : Int := fieldI b (12 + off + 108 * modeBlock (port s p).mode (port s p).fec + 8 * j) 4
  let d := getN s Obj.TEMP_DIE + 880
  if d ≤ 0 then at_ 0
  else
    let j := d.toNat / 240
    if 12 ≤ j then at_ 12
    else
      let num : Int := at_ j * 240 + (at_ (j + 1) - at_ j) * (d.toNat % 240 : Nat)
      if 0 ≤ num then cdivInt (2 * num - 240) 480 else -(cdivInt (2 * (-num) - 240) 480)

/-- The offsets of the coming epoch (R209). -/
def portOffsets (p : Nat) (s : State) : State :=
  if (port s p).mode = 0 ∨ getN s (Obj.PORT_CAL_STATE p) = 1 then s
  else s |> setN (Obj.PORT_RX_OFFSET_NOW p) (calOfs s p 0) |> setN (Obj.PORT_TX_OFFSET_NOW p) (calOfs s p 4)

/-- A delay in ps as 2⁻¹⁶ ns, to the nearest (R209). -/
def ext96 (d : Int) : Int := (d * 8192 * 2 + 125) / 250

/-- The corrected ingress timestamp of a raw stamp (R209), and the epoch bound it carries (R19, R212). -/
def stampIn (s : State) (p raw : Nat) : Nat × Int :=
  (((raw : Int) - getN s (Obj.PORT_RX_OFFSET_NOW p) - ext96 (getN s (Obj.PORT_EXT_DELAY_RX p))).toNat,
    if getN s (Obj.PORT_CAL_STATE p) = 1 then unbounded80 else stampBound s (16 + p))

/-- The egress correction in force (R209). -/
def txOffset (s : State) (p : Nat) : Int := getN s (Obj.PORT_TX_OFFSET_NOW p) + ext96 (getN s (Obj.PORT_EXT_DELAY_TX p))

def stampOut (s : State) (p raw : Nat) : Nat × Int :=
  (((raw : Int) + txOffset s p).toNat,
    if getN s (Obj.PORT_CAL_STATE p) = 1 then unbounded80 else stampBound s (16 + p))

/-- The served pair of a port timestamp (R90). -/
def portPair (s : State) (p : Nat) (b : Int) : Int := servedPair b (getNat s (Obj.PORT_P p)) (getNat s (Obj.PORT_P p))

/-- A timestamp that a replica gives now is handed on (R20). -/
def handOnBy (id : Nat) (s : State) : State := setReplica id (fun r => { r with handedOn := r.handedOn + 1 }) s

def handOn (p : Nat) (s : State) : State := handOnBy (16 + p) s

/-- An ingress timestamp is handed on; it counts where it was taken in the present strobe interval (R20). -/
def handIn (p tick : Nat) (s : State) : State := if (replica s (16 + p)).lastStrobe ≤ tick then handOn p s else s

/-! ### The queue of starts (R502) -/

/-- Cost in mW and class of a start ("Start costs"): 0 Hinge, 1 MGMT, 2 + p a data port, 20 GNSS, 30 + n a crypto lane, 40 + n a
core. -/
def startCost (s : State) (u : Nat) : Nat × Nat :=
  if u = 0 ∨ u = 1 then (600, 1)
  else if u < 20 then (600, if (getNat s Obj.KEEP_PORTS).testBit (u - 2) then 1 else 2)
  else if u < 30 then (1200, 2) else if u < 40 then (400, 3) else (500, 3)

/-- Put a start into the queue in class and unit order. -/
def insertStart (r : StartReq) : List StartReq → List StartReq
  | [] => [r]
  | x :: l =>
    if r.unit = x.unit then x :: l
    else if r.cls < x.cls ∨ (r.cls = x.cls ∧ r.unit < x.unit) then r :: x :: l else x :: insertStart r l

def queueStart (u : Nat) (s : State) : State :=
  let c := startCost s u
  { s with power := { s.power with queue := insertStart { unit := u, cost := c.1, cls := c.2, since := s.now } s.power.queue } }

/-- A unit that a shutter closes leaves the queue (R502). -/
def dropStart (u : Nat) (s : State) : State :=
  { s with power := { s.power with queue := s.power.queue.filter (fun x => x.unit ≠ u) } }

/-! ### Classification (R231) -/

/-- The VLAN of a frame (R216, R242). -/
def vlanOf (s : State) (p : Nat) (f : Frame) : Nat :=
  match f.tags with
  | t :: _ => if t.vid = 0 then getNat s (Obj.PORT_PVID p) else t.vid
  | [] => getNat s (Obj.PORT_PVID p)

/-- The class of a frame (R237). -/
def classOf (s : State) (p : Nat) (f : Frame) : Nat :=
  match f.tags with
  | t :: _ => t.pcp % 8
  | [] => getNat s (Obj.PORT_PCP p)

/-- `PORT_TAG_MODE` refuses the frame (R216). -/
def tagRefused (s : State) (p : Nat) (f : Frame) : Bool :=
  let vid := (f.tags.head?.map (·.vid)).getD 0
  match getNat s (Obj.PORT_TAG_MODE p) with
  | 1 => decide (vid = 0)
  | 2 => decide (vid ≠ 0)
  | _ => false

/-- An instance's PTP port on a data port runs (R272). -/
def ptpPortRuns (s : State) (k p : Nat) : Bool :=
  decide (getN s (Obj.INST_ENABLE k) = 1) && decide (getN s (Obj.PTPP_MODE (16 * k + p)) ≠ 0)

/-- The profile measures peer delay ("Profiles"). -/
def isP2P (s : State) (k : Nat) : Bool := getN s (Obj.INST_PROFILE k) = 1 || getN s (Obj.INST_PROFILE k) = 4

def anyInst (f : Nat → Bool) : Bool := (List.range 4).any f

/-- UDP destination port of a datagram that is no fragment. -/
def udpPort (f : Frame) : Option Nat :=
  match f.ip with
  | some h => if h.fragment then none else h.udp.map (·.2)
  | none => none

/-- A frame as the classifier sees it: it looks past two tags, and what follows a third is no type it reads (R231). -/
def seen (f : Frame) : Frame :=
  match f.tags with
  | _ :: _ :: t :: _ => { f with etherType := if t.s then 0x88A8 else 0x8100, ip := none, body := .other }
  | _ => f

def isEsmc : Body → Bool
  | .esmc .. => true
  | _ => false

/-- The live service address that a frame is for (R313). -/
def svcFor (s : State) (p : Nat) (f : Frame) : Option Nat :=
  (seen f).ip.bind (fun h => svcOf s p (vlanOf s p f) h.v6 h.dst)

/-- The row of "Classification" that a frame on a port takes. -/
def classify (s : State) (p : Nat) (f0 : Frame) : Nat :=
  let f := seen f0
  let vlan := vlanOf s p f
  let svc := svcFor s p f
  let asked := match f.body with | .ask v6 t => (svcOf s p vlan v6 t).isSome | _ => false
  let dom := match f.body with | .ptp m => some m.domain | _ => none
  if f.dst = 0x0180C2000002 ∧ f.etherType = 0x8809 ∧ isEsmc f.body then 1
  else if f.dst = 0x0180C200000E then 2
  else if 0x0180C2000000 ≤ f.dst ∧ f.dst ≤ 0x0180C200000F then 3
  else if asked then 4
  else if svc.isSome ∧ udpPort f = some 123 ∧ (svc.map (fun a => getN s (Obj.SVC_NTP a))).getD 0 ≠ 0 then 5
  else if svc.isSome ∧ (udpPort f = some 319 ∨ udpPort f = some 320) then 6
  else if svc.isSome ∧ getN s Obj.TRANSOM_VLAN ≠ 0 ∧ getN s Obj.TRANSOM_VLAN = vlan ∧
    udpPort f = some (getNat s Obj.TRANSOM_UDP_PORT) then 7
  else if svc.isSome then 8
  else if f.etherType = 0x88F7 ∧ f.dst = 0x011B19000000 ∧
    anyInst (fun k => ptpPortRuns s k p && decide (dom = some (getNat s (Obj.INST_DOMAIN k)))) then 9
  else if f.etherType = 0x88F7 ∨ (f.ip.isSome ∧ (udpPort f = some 319 ∨ udpPort f = some 320)) then 10
  else 11

/-! ### The buffer (R232–R236) -/

/-- Cells of a frame still held: all while a destination is still to be replicated, else from the cell that its slowest copy reads; none
once every copy has read it or has been discarded (R233). -/
def heldCells (s : State) (f : CoreFrame) : List Cell :=
  if !f.dests.isEmpty then f.cells
  else
    let reads := (s.sw.copies.filter (fun c => c.frame = f.id)).map (·.read)
    f.cells.drop (reads.foldl min f.cells.length)

def cellCount (s : State) (p : CoreFrame → Bool) (q : Cell → Bool) : Nat :=
  ((s.sw.frames.filter p).map (fun f => (heldCells s f).countP q)).sum

def sharedHeld (s : State) (p : Nat) : Nat := cellCount s (fun f => f.port = p) (fun c => !c.reserve)
def reserveHeld (s : State) (p : Nat) : Nat := cellCount s (fun f => f.port = p) (fun c => c.reserve)
def sharedFree (s : State) : Nat := getNat s Obj.SW_SHARED_SIZE - cellCount s (fun _ => true) (fun c => !c.reserve)
def backlogOf (s : State) (p : Nat) : Nat :=
  s.sw.backlog.countP (fun i => s.sw.frames.any (fun f => f.id = i && f.port = p))

/-- Free shared cells per bank. -/
def bankFree (s : State) : List Nat :=
  (List.range 16).map (fun b =>
    3072 - (if b < nPorts s.variant then getNat s Obj.SW_BANK_RESERVE else 0) -
      cellCount s (fun _ => true) (fun c => c.bank = b && !c.reserve))

/-- Take n shared cells: the own bank first, then one from each other bank in turn (R232). Answers the cells and the next bank. -/
def takeShared (own : Nat) : Nat → Nat → Nat → List Nat → List Cell → List Cell × Nat
  | _, 0, ptr, _, acc => (acc.reverse, ptr)
  | 0, _, ptr, _, acc => (acc.reverse, ptr)
  | fuel + 1, n + 1, ptr, free, acc =>
    if 0 < free.getD own 0 then takeShared own fuel n ptr (free.modify own (· - 1)) ({ bank := own, reserve := false } :: acc)
    else if ptr ≠ own ∧ 0 < free.getD ptr 0 then
      takeShared own fuel n ((ptr + 1) % 16) (free.modify ptr (· - 1)) ({ bank := ptr, reserve := false } :: acc)
    else takeShared own fuel (n + 1) ((ptr + 1) % 16) free acc

/-- The objects that mirror the buffer. -/
def swDerive (s : State) : State :=
  (List.range (nPorts s.variant)).foldl (fun a p =>
    a |> setN (Obj.SW_SHARED_HELD p) (sharedHeld s p) |> setN (Obj.SW_RESERVE_HELD p) (reserveHeld s p)
      |> setN (Obj.SW_REPL_BACKLOG p) (backlogOf s p))
    (setN Obj.SW_SHARED_FREE (sharedFree s) s)

/-- Frames that nothing refers to any longer leave the core (R233). -/
def coreGc (s : State) : State :=
  setSw (fun w => { w with frames := w.frames.filter (fun f =>
    !f.dests.isEmpty || w.copies.any (fun c => c.frame = f.id) || s.ports.any (fun x =>
      (match x.rx with | some r => decide (r.core = some f.id) | none => false))) }) s

/-! ### Queues -/

def coreFrame (s : State) (i : Nat) : Option CoreFrame := s.sw.frames.find? (fun f => f.id = i)
def setCore (i : Nat) (f : CoreFrame → CoreFrame) (s : State) : State :=
  setSw (fun w => { w with frames := w.frames.map (fun x => if x.id = i then f x else x) }) s

/-- Cells queued for an output and class (R235). -/
def queuedCells (s : State) (o c : Nat) : Nat :=
  ((s.sw.copies.filter (fun x => x.out = o && x.cls = c && !x.started)).map (fun x =>
    ((coreFrame s x.frame).map (·.cells.length)).getD 0)).sum

/-- A queue is paused (R222). -/
def queuePaused (s : State) (p q : Nat) : Bool := psNow s < (port s p).paused.getD q 0

/-- Drop the copies that satisfy a test, and release the frames they alone held. -/
def dropCopies (t : Copy → Bool) (s : State) : State :=
  coreGc (setSw (fun w => { w with copies := w.copies.filter (fun c => !t c) }) s)

/-- A frame from an engine enters its queue (R219). -/
def enqueue (p : Nat) (f : EngFrame) (s : State) : State := setPort p (fun x => { x with eng := x.eng ++ [f] }) s

/-- The engine queue of a port: `PORT_ENGINE_Q`; MGMT has one queue (R230). -/
def engineQ (s : State) (p : Nat) : Nat := if p = 16 then 0 else getNat s (Obj.PORT_ENGINE_Q p)

/-- A Sill frame has been sent: its slot is free, and the window of R264 sees its slack (R262, R263); a re-sealed transit copy counts (R251,
R253). -/
def launchSent (p n : Nat) (s0 : State) : State :=
  let slot := (port s0 p).slots.find? (fun q => q.num = n)
  let slack := match slot with
    | some q => ((q.l - 500 * ns48) - q.ready.getD q.l) / ns48
    | none => 0
  let s := if (slot.map (·.sf.kind)).getD 0 = 2 then bump (Obj.TC_AUTH_RESEALED p) (bump (Obj.TC_CORRECTED p) s0) else s0
  let s1 := setPort p (fun x =>
    { x with slots := x.slots.filter (fun q => q.num ≠ n), winLaunched := x.winLaunched + 1, winSlack := min x.winSlack slack })
    (bump (Obj.SILL_LAUNCHED p) s)
  setN (Obj.SLOTS_HELD p) (port s1 p).slots.length s1

/-- Bytes of a frame that have been on the wire by now, its last four apart. -/
def sentBytes (s : State) (p : Nat) (t : TxCur) : Nat := min (t.len - 4) ((psNow s - t.startAt) / octPs (port s p).mode - 8)

/-- A frame that has been sent whole or ended leaves the port: TX_OK counts a whole one, and PAUSE_TX a MAC control frame (R219, R222,
R224). -/
def endTx (p : Nat) (s : State) : State :=
  match (port s p).tx with
  | none => s
  | some t =>
    let s1 := setPort p (fun x => { x with tx := none, free := if t.stomped then psNow s + 12 * octPs x.mode else t.freeAt }) s
    let sent := sentBytes s p t
    let s2 := if t.stomped then emit (.stomp p sent (stompFcs t.frame sent)) s1
      else if t.kind = .ctrl then bumpBy (Obj.TX_OCTETS p) t.len (bump (Obj.TX_OK p) (bump (Obj.PAUSE_TX p) s1))
      else bumpBy (Obj.TX_OCTETS p) t.len (bump (Obj.TX_OK p)
        (if t.clean then setN (Obj.CT_CLEAN_RUN p) (getN s1 (Obj.CT_CLEAN_RUN p) + 1) s1 else s1))
    match t.kind with
    | .copy i =>
      dropCopies (fun c => c.frame = i && c.out = p && c.started)
        (setPort p (fun x => { x with locked := none, fifo := 0 }) s2)
    | .launch n => if t.stomped then s2 else launchSent p n s2
    | _ => s2

/-- A cut-through copy whose frame still arrives when `MAX_FRAME` − 4 bytes have left: the frame is a GIANT (R248). -/
def openCut (s : State) (t : TxCur) : Bool :=
  match t.kind with
  | .copy i => t.cut && !t.stomped && (match coreFrame s i with | some f => f.len.isNone | none => false)
  | _ => false

/-- A transmission whose last byte has left is over; a cut-through copy that the frame has outrun is ended by a stomped FCS. -/
def finishTx (p : Nat) (s : State) : State :=
  match (port s p).tx with
  | some t =>
    if psNow s < t.endAt then s
    else if openCut s t then
      endTx p (bump (Obj.STOMPED p) (setPort p (fun x => { x with tx := some { t with stomped := true } }) s))
    else endTx p s
  | none => s

/-- A copy on the wire is to end after n bytes and a stomped FCS (R248). -/
def stompAfter (p n : Nat) (s : State) : State :=
  let b := octPs (port s p).mode
  setPort p (fun x => { x with tx := x.tx.map (fun t =>
    { t with stomped := true, len := n + 4, endAt := t.startAt + (12 + n) * b, freeAt := t.startAt + (24 + n) * b }) }) s

/-- End the frame in transmission early with a stomped FCS (R224). -/
def stompTx (p : Nat) (s : State) : State :=
  endTx p (setPort p (fun x => { x with tx := x.tx.map (fun t => { t with stomped := true }) }) s)

/-- Transom frames of the CORE island enter their port's queue (R219, R230): on MGMT its single queue, with the tag of `MGMT_VLAN`; on a data
port `PORT_ENGINE_Q`, on `TRANSOM_VLAN`. -/
def takeNet (p : Nat) (s : State) : State :=
  let l := s.host.netTx.filter (fun x => x.port = p)
  l.foldl (fun a x => enqueue p { frame := x.frame, len := x.len, queue := engineQ a p, tick := a.now, vlan := x.vlan } a)
    (if l.isEmpty then s else { s with host := { s.host with netTx := s.host.netTx.filter (fun x => x.port ≠ p) } })

/-- Discard Q0–Q7 and count each frame (R227, R229). -/
def discardQueues (p counter : Nat) (s0 : State) : State :=
  let s := takeNet p s0
  let n := (port s p).eng.length + s.sw.copies.countP (fun c => c.out = p && !c.started)
  dropCopies (fun c => c.out = p && !c.started)
    (setPort p (fun x => { x with eng := [], ctrl := [], locked := none, fifo := 0 }) (bumpBy counter n s))

end Sys2Proof.Machine
end

