-- ==== Sys2Proof/Machine/TdcOps.lean ====
section
/-! DEFINITION. Machine/TdcOps.lean: the shared operations of the TDC channels (R99–R120): φ, timestamps, windows and their
statistics, calibration states. -/
namespace Sys2Proof.Machine

def tdc (s : State) (c : Nat) : Tdc := s.tdcs.getD c { id := c }
def setTdc (c : Nat) (f : Tdc → Tdc) (s : State) : State := { s with tdcs := modAt c f s.tdcs }

/-- Collector source of a channel. -/
def tdcFault (c : Nat) : Nat := 0x1200 + c

/-- The channel measures: it is present, has a source, and its restart does not run (R106, "Shutters and faults"). -/
def tdcRuns (s : State) (c : Nat) : Bool :=
  up s && decide (c < nTdcs s.variant) && decide ((tdc s c).source ≠ 0) && !restarting s (tdcFault c)

/-- φ(k) of the measuring core in 2⁻²⁵ of a tick: the cumulative share of hits at the bin's centre, or the production table
(R102, R104). -/
def phi (s : State) (c k : Nat) : Nat :=
  match (tdc s c).table with
  | none => Config.productionPhi c k % 33554432
  | some h => (2 * (h.take k).sum + h.getD k 0) % 33554433

/-- The increment that the counter adds at the first tick after an edge (R99). -/
def edgeIncr (s : State) : Nat := s.ts.nextIncr.getD s.ts.incr

/-- Denominator of an exact timestamp: 2⁻²⁵ of a tick and thousandths, in 2⁻⁴⁸ ns (R99). -/
def edgeDen : Nat := 33554432 * 1000

/-- t of R99 in 2⁻⁴⁸ ns over `edgeDen`. -/
def edgeNum (s : State) (c k : Nat) : Int :=
  (((s.ts.mts * 33554432 + (33554432 - phi s c k) * edgeIncr s) * 1000 : Nat) : Int)
    - ((getNat s (Obj.TDC_PATH_DELAY c) * ns48 * 33554432 : Nat) : Int)

/-- The timestamp in 2⁻¹⁶ ns: t rounded to 2⁻⁹ ns, ties toward the earlier value (R99). -/
def edgeStamp (s : State) (c k : Nat) : Nat :=
  let den : Nat := edgeDen * 549755813888
  let q := cdivInt (2 * edgeNum s c k - den) (2 * den)
  ((q % ((281474976710656 * 512000000000 : Nat) : Int)) * 128).toNat

/-- Denominator of a position in ticks (R101). -/
def posDen : Nat := 33554432 * 5000 * ten 15

/-- Position of an edge in TCLK ticks over `posDen` (R101). -/
def edgePos (s : State) (c k : Nat) : Int :=
  ((s.now * posDen + (33554432 - phi s c k) * 5000 * ten 15 : Nat) : Int)
    - (getNat s (Obj.TDC_PATH_DELAY c) : Int) * ((ten 15 : Int) + getN s Obj.XO_FREQ_COMP) * 33554432

/-- Marks of an edge's instant. -/
def edgeMark (s : State) (ts : Nat) : Mark :=
  { markNow s with run := ((s.ts.run : Int) + ((of96 ts : Int) - (s.ts.mts : Int))).toNat }

/-- Table state as a bias class: 0 LIVE, 1 FACTORY or AGED, 2 FAILED. -/
def calClass (s : State) (c : Nat) : Nat :=
  match getNat s (Obj.TDC_CAL_STATE c) with
  | 1 => 0 | 3 => 2 | _ => 1

/-- Bias sum B in ps of a source under a table class ("Per-edge bias terms", R117). -/
def biasPs (source cal : Nat) : Nat := 1 + (if cal = 0 then 2 else 8) + (if 16 ≤ source then 6 else 10)

/-- Phase of a timestamp on the grid of the window, wrapped into [−T/2, T/2), in 2⁻⁴⁸ ns ("Windows and statistics"). -/
def edgePhase (tnom anchorSec ts : Nat) : Int :=
  let d : Int := ((of96 ts : Int) - ((anchorSec * sec48 : Nat) : Int)) % (max tnom 1 : Nat)
  if (tnom : Int) ≤ 2 * d then d - tnom else d

/-- n² times the population variance of the window's phases, in 2⁻⁹⁶ ns². -/
def winVar (w : TdcWindow) : Nat := ((w.n * w.sumSq : Nat) - w.sum * w.sum).toNat

/-- K × max(4 ps, s) ÷ √d rounded up, in ps (R118). -/
def randomPs (s : State) (w : TdcWindow) (d : Nat) : Nat :=
  let k := (getF s Obj.TDC_SIGMA_MULT).toNat
  max (ceilSqrtDiv (k * k * 16) (100 * d)) (ceilSqrtDiv (k * k * winVar w * ten 6) (100 * w.n * w.n * d * 2 ^ 96))

/-- U of R118 over n edges in ps; `none` where the window saw FAILED. -/
def winUnc (s : State) (c : Nat) (w : TdcWindow) (d : Nat) : Option Nat :=
  if w.cal = 2 then none else some (biasPs (tdc s c).source w.cal + randomPs s w d)

/-- U₁ with s = 0 (R120). -/
def edgeUnc (s : State) (c : Nat) : Nat :=
  let k := (getF s Obj.TDC_SIGMA_MULT).toNat
  biasPs (tdc s c).source (calClass s c) + cdiv (k * 4) 10

/-- A discarded window (R113, R116). -/
def discardWindow (c : Nat) (s : State) : State :=
  if (tdc s c).window.isSome then bump (Obj.WIN_DISCARD c) (setTdc c (fun t => { t with window := none }) s) else s

/-- Publish the statistics of a window at its close (R114, R115, R118, R119). -/
def publishWindow (c : Nat) (w : TdcWindow) (s : State) : State :=
  let t := tdc s c
  let mean := nearFree w.sum (w.n * 4294967296) s
  let sd := if w.n ≤ 1 then 0 else cdiv (ceilSqrt (winVar w)) (w.n * 4294967296)
  let lo := divFree w.min 4294967296 mean.2
  let hi := divFree w.max 4294967296 lo.2
  let m : Nat := w.iLast - w.iFirst
  let dts : Int := (w.last : Int) - w.first
  let dp := w.pLast - w.pFirst
  let ok := decide (2 ≤ w.n) && decide (0 < dts) && decide (0 < dp)
  let fm := if ok then
      nearFree (((m * t.tnom : Nat) - dts * 4294967296) * ten 15) (dts * 4294967296).toNat hi.2
    else (0, hi.2)
  let ft := if ok then
      nearFree (((m * t.tnom * posDen : Nat) - dp * 5 * ns48) * ten 15) (dp * 5 * ns48).toNat fm.2
    else (0, fm.2)
  let u := winUnc s c w w.n
  let fu : Nat := if ok then
      (match winUnc s c w 1 with
       | some u1 => cdiv (2 * u1 * ten 12 * 65536) dts.toNat
       | none => 18446744073709551615)
    else 0
  let short := decide (w.n < w.n0)
  let flags : Nat := (if ok then 1 else 0) + (if 1 ≤ w.cal then 2 else 0) + (if short then 4 else 0)
  ft.2 |> setN (Obj.WIN_COUNT c) w.n |> setN (Obj.WIN_MEAN c) mean.1 |> setN (Obj.WIN_SD c) sd
    |> setN (Obj.WIN_MIN c) lo.1 |> setN (Obj.WIN_MAX c) hi.1
    |> setN (Obj.WIN_FREQ_MTS c) fm.1 |> setN (Obj.WIN_FREQ_TCLK c) ft.1
    |> setN (Obj.WIN_FREQ_UNC c) (min fu 18446744073709551615 : Nat)
    |> setN (Obj.WIN_UNC c) (match u with | some v => (min v 4294967294 : Nat) | none => 4294967295)
    |> setN (Obj.WIN_FIRST_AT c) w.first |> setN (Obj.WIN_LAST_AT c) w.last |> setN (Obj.WIN_FLAGS c) flags
    |> setN (Obj.WIN_SEQ c) ((getN s (Obj.WIN_SEQ c) + 1) % 4294967296)
    |> setTdc c (fun x => { x with window := none })

/-- A window that opens at an accepted edge (R114). -/
def openTdcWindow (s : State) (c ts : Nat) (pos : Int) (mk : Mark) : TdcWindow :=
  let t := tdc s c
  let anchor := ts / sec96
  let ph := edgePhase t.tnom anchor ts
  { n := 1, sum := ph, sumSq := (ph * ph).toNat, min := ph, max := ph, anchorSec := anchor, first := ts, last := ts,
    pFirst := pos, pLast := pos, iFirst := t.index, iLast := t.index, firstMts := of96 ts, markFirst := mk, markLast := mk,
    cal := calClass s c, missed := t.missed, n0 := getNat s (Obj.TDC_WIN_N c), max0 := getNat s (Obj.TDC_WIN_MAX c) }

/-- An accepted edge enters an open window; the worse table state counts (R116). -/
def addEdge (s : State) (c ts : Nat) (pos : Int) (mk : Mark) (w : TdcWindow) : TdcWindow :=
  let t := tdc s c
  let ph := edgePhase t.tnom w.anchorSec ts
  { w with
    n := w.n + 1, sum := w.sum + ph, sumSq := w.sumSq + (ph * ph).toNat, min := min w.min ph, max := max w.max ph,
    last := ts, pLast := pos, iLast := t.index, markLast := mk, cal := max w.cal (calClass s c),
    missed := w.missed || t.missed }

/-! ### Calibration (R102–R105) -/

/-- A histogram of 2²⁴ hits is accepted: no empty bin, none above four times the mean, and all on-die conversions since it began within
1 K of each other (R102). -/
def tableOk (h : List Nat) (range : Option (Int × Int)) : Bool :=
  h.length = 2560 && h.all (fun x => decide (0 < x ∧ 2560 * x ≤ 4 * 16777216)) &&
    (match range with | some (lo, hi) => decide (hi - lo ≤ 1024) | none => true)

/-- An on-die conversion falls into the histogram that each calibrating core accumulates (R102). -/
def rangeWith (die : Int) : Option (Int × Int) → Option (Int × Int)
  | some (lo, hi) => some (min lo die, max hi die)
  | none => some (die, die)

/-- Swap the roles of the cores at a tick at which the measuring core does not convert (R103). -/
def swapCores (c : Nat) (s : State) : State :=
  setTdc c (fun t => match t.ready with
    | some h =>
      { t with table := some h, ready := none, tableTick := t.acceptedTick, tableTemp := t.readyTemp, calRange := none, converting := false }
    | none => t) s

/-- The restart of a channel: production table, no window, no edges (R105). FACTORY begins at once, or where the channel is FAILED at the
next boundary: the state found at a boundary holds for the whole epoch (R104). -/
def restartTdc (c : Nat) (s : State) : State :=
  let s1 := setTdc c (fun t =>
    { t with table := none, ready := none, calRange := none, acceptedTick := s.now, window := none, missed := false, converting := false }) s
  if getN s (Obj.TDC_CAL_STATE c) = 3 then s1 else setN (Obj.TDC_CAL_STATE c) 0 s1

/-- Entry into FAILED: the window is discarded, `WIN_UNC` is unbounded and a C2 raised, whose restart begins again in FACTORY (R105, R116,
R118). -/
def tdcFail (c : Nat) (s : State) : State :=
  raise (tdcFault c) 2 { detail := 3 }
    (setN (Obj.WIN_UNC c) 4294967295 (discardWindow c (setN (Obj.TDC_CAL_STATE c) 3 s)))

/-- 120 s without an accepted table, after FACTORY or AGED (R104). -/
def tdcFailDue (s : State) (c : Nat) : Bool :=
  decide (getN s (Obj.TDC_CAL_STATE c) ≠ 1 ∧ getN s (Obj.TDC_CAL_STATE c) ≠ 3) && decide ((tdc s c).acceptedTick + 120 * sT ≤ s.now)

/-- The calibration state of a channel at an epoch boundary (R104). -/
def evalCal (c : Nat) (s : State) : State :=
  let t := tdc s c
  let st : Int := match t.table with
    | none => 0
    | some _ =>
      if s.now ≤ t.tableTick + 60 * sT ∧ (s.sensors.die - t.tableTemp).natAbs ≤ 2048 then 1 else 2
  let s1 := setN (Obj.TDC_CAL_STATE c) st s
  if tdcFailDue s1 c then tdcFail c s1 else s1

/-- A written configuration takes effect at the boundary: the prescaler is reset and an open window discarded (R113). -/
def applyTdcConfig (c : Nat) (s : State) : State :=
  let t := tdc s c
  let src := getNat s (Obj.TDC_SOURCE c)
  let edge := getNat s (Obj.TDC_EDGE c)
  let nom := getNat s (Obj.TDC_NOM_FREQ c)
  let d := getNat s (Obj.TDC_DECIM c)
  if src = t.source ∧ edge = t.edge ∧ nom = t.nom ∧ d = t.decim then s
  else
    let s1 := discardWindow c s
    let q := divFree ((d * ten 15 * 281474976710656 : Nat) : Int) (max nom 1) s1
    setTdc c (fun x =>
      { x with source := src, edge := edge, nom := nom, decim := d, tnom := q.1.toNat, index := 0, missed := false,
               seenTick := s.now }) q.2

/-- The path delay of the source in force at the latched on-die reading (R109). -/
def setPathDelay (c : Nat) (s : State) : State :=
  let t := tdc s c
  setN (Obj.TDC_PATH_DELAY c)
    (if t.source = 0 then 0 else (Config.tdcPathDelay c t.source s.sensors.die % 4294967296 : Nat)) s

/-- `TDC_WIN_MAX` has passed since the timestamp of the window's first edge (R114). -/
def winMaxDue (s : State) (c : Nat) : Bool :=
  match (tdc s c).window with
  | some w => decide (w.firstMts + w.max0 * ms48 ≤ s.ts.mts)
  | none => false

/-! ### The configuration by the owner (R106–R112) -/

/-- Codes of `TDC_SOURCE` that are not reserved on the variant (R108). -/
def sourceOk (v : Variant) (n : Nat) : Bool :=
  n ≤ 10 || (16 ≤ n && n ≤ 27) || (32 ≤ n && n ≤ 35) || (n = 36 && hasGnss v) || (40 ≤ n && n ≤ 47)

/-- Nominal frequency and decimation fit (R112): at most 200 MHz, at most 250,000 decimated edges per second. -/
def rateOk (nom d : Nat) : Bool := nom ≤ 200000000000000 && nom ≤ 250000000000 * d

/-- Channels that observe a source, by their written configuration (R108). -/
def observers (s : State) (src c : Nat) : Nat :=
  (List.range 16).countP (fun d => decide (d ≠ c) && decide (getNat s (Obj.TDC_SOURCE d) = src))

/-- The tests of a write of a channel's configuration: RANGE_ERROR, RESOURCE_HELD, CONFLICT (R106, R108, R112). -/
def tdcCheck (c src nom d : Nat) (s : State) : Nat × List Byte :=
  if sourceOk s.variant src = false ∨ rateOk nom d = false then (stRange, [])
  else
    let h := heldByOther s 0x1100 c kindMonitor c
    if h.1 ≠ stOk then h
    else if src ≠ 0 ∧ 4 ≤ observers s src c then (stConflict, []) else (stOk, [])

/-- The TDC monitor claims the channel while its source is not 0 (R106). -/
def monitorClaim (c : Nat) (s : State) : State :=
  if getNat s (Obj.TDC_SOURCE c) = 0 then release 0x1100 c s
  else if (claimOf s 0x1100 c).isSome then s
  else claim { cls := 0x1100, num := c, kind := kindMonitor, knum := c, index := 0x3410 + c, sub := 1 } s

def ruleTdcSource (c : Nat) : Rule :=
  { chk := fun s v => tdcCheck c v.nat (getNat s (Obj.TDC_NOM_FREQ c)) (getNat s (Obj.TDC_DECIM c)) s
    eff := fun _ => monitorClaim c }

/-- `TDC_EDGE`, `TDC_WIN_N`, `TDC_WIN_MAX`: held by a reference or free (R106). -/
def ruleTdcField (c : Nat) : Rule := { chk := fun s _ => heldByOther s 0x1100 c kindMonitor c }

def ruleTdcNom (c : Nat) : Rule :=
  { chk := fun s v => tdcCheck c (getNat s (Obj.TDC_SOURCE c)) v.nat (getNat s (Obj.TDC_DECIM c)) s }

def ruleTdcDecim (c : Nat) : Rule :=
  { chk := fun s v => tdcCheck c (getNat s (Obj.TDC_SOURCE c)) (getNat s (Obj.TDC_NOM_FREQ c)) v.nat s }

/-- `TDC_DECIM` of a reference's channel for a nominal frequency in µHz (R127). -/
def refDecim (nom : Nat) : Nat :=
  if nom ≤ 1000000000 then 1 else ([64, 128, 256, 512, 1024].find? (fun d => decide (nom ≤ 250000000000 * d))).getD 1024

/-- Program a channel for a reference (R127); the changes are journalled (R391). -/
def programChannel (c src nom n : Nat) (s : State) : State :=
  let d := refDecim nom
  s |> setJ (Obj.TDC_SOURCE c) src |> setJ (Obj.TDC_EDGE c) 0 |> setJ (Obj.TDC_NOM_FREQ c) nom
    |> setJ (Obj.TDC_DECIM c) d |> setJ (Obj.TDC_WIN_N c) n
    |> setJ (Obj.TDC_WIN_MAX c) (if nom = 1000000 then 1100 else 1000)

/-- The bytes of the edge log, oldest first (R125). -/
def edgeLogBytes (s : State) (c : Nat) : List Byte :=
  ((tdc s c).log.reverse).flatMap (fun e => t96Bytes e.ts ++ be 2 (e.index % 65536) ++ be 1 e.flags ++ be 1 0)

end Sys2Proof.Machine
end

