-- ==== Sys2Proof/Machine/RefOps.lean ====
section
/-! DEFINITION. Machine/RefOps.lean: the reference selector's shared operations (R126–R149): measurements, quality numbers,
qualification, transitions, disputes, selection and learning. -/
namespace Sys2Proof.Machine

def ref (s : State) (r : Nat) : Ref := s.sel.refs.getD r { id := r }
def setRef (r : Nat) (f : Ref → Ref) (s : State) : State := { s with sel := { s.sel with refs := modAt r f s.sel.refs } }
def setSel (f : Selector → Selector) (s : State) : State := { s with sel := f s.sel }

def isRefin (r : Nat) : Bool := decide (r < 8)
def isAtom (r : Nat) : Bool := decide (r = 9)
def isPtpRx (r : Nat) : Bool := decide (10 ≤ r ∧ r < 14)
def isSyncE (r : Nat) : Bool := decide (14 ≤ r)

/-- Collector source of a reference. -/
def refFault (r : Nat) : Nat := 0x1100 + r

def useTime (s : State) (r : Nat) : Bool := (getNat s (Obj.REF_USE r)).testBit 0
def useFreq (s : State) (r : Nat) : Bool := (getNat s (Obj.REF_USE r)).testBit 1
def refState (s : State) (r : Nat) : Nat := getNat s (Obj.REF_STATE r)
def refQn (s : State) (r : Nat) : Nat := getNat s (Obj.REF_QN r)
def activeTime (s : State) : Nat := getNat s Obj.ACTIVE_TIME_REF
def activeFreq (s : State) : Nat := getNat s Obj.ACTIVE_FREQ_REF

/-- The reference is present on the variant (R3, R5). -/
def refPresent (v : Variant) (r : Nat) : Bool :=
  if r = 8 then hasGnss v else if 14 ≤ r then decide (r - 14 < nPorts v) else true

/-- States in which a reference counts as QUALIFIED or ACTIVE (R132). -/
def refGood (s : State) (r : Nat) : Bool := refState s r = 3 || refState s r = 4 || refState s r = 5

/-- Enter a state at the present instant; the entry is journalled (R135). -/
def moveRef (r st : Nat) (s : State) : State := s |> setJ (Obj.REF_STATE r) st |> setN (Obj.REF_STATE_SINCE r) (mts96 s)

/-- Enter a state for which the table of R135 names a cause. -/
def enterRef (r st cause : Nat) (s : State) : State := setN (Obj.REF_DISQ_CAUSE r) cause (moveRef r st s)

/-! ### Quality numbers (R131) -/

/-- a of the PTP rows. -/
def accStep (acc : Nat) : Nat := if acc ≤ 0x1B then 0 else if acc ≤ 0x29 then acc - 0x1B else 15

def qnPtp (cls acc : Nat) : Nat :=
  let a := accStep acc
  match cls with
  | 6 => 20 + a | 7 => 60 + a | 13 => 40 + a | 14 => 70 + a
  | 135 | 140 => 80 + a | 150 => 90 + a | 160 => 100 + a | 165 => 110 + a
  | 52 | 58 | 187 | 193 => 200 | 248 => 220 | 255 => 255 | _ => 230

/-- QN of a received SSM code under option 1 or 2, and of an enhanced code. Enhanced codes of ITU-T G.8264: ePRTC 0x21,
ePRC 0x23, PRTC 0x20, eEEC 0x22. -/
def qnSsm (opt ql ecode : Nat) : Nat :=
  match ecode with
  | 0x21 => 8 | 0x23 => 18 | 0x20 => 20 | 0x22 => 150
  | _ =>
    if opt = 2 then
      (match ql with
       | 0x1 => 24 | 0x7 => 100 | 0x4 => 110 | 0xD => 130 | 0xA => 150 | 0xC => 170 | 0x0 | 0xE => 200 | _ => 255)
    else
      (match ql with | 0x2 => 24 | 0x4 => 100 | 0x8 => 120 | 0xB => 160 | _ => 255)

def esmcOf (s : State) (p : Nat) : Esmc := s.esmc.getD p { port := p }
def setEsmc (p : Nat) (f : Esmc → Esmc) (s : State) : State := { s with esmc := modAt p f s.esmc }

def qnOf (s : State) (r : Nat) : Nat :=
  if isRefin r then getNat s (Obj.REF_QN_DECLARED r)
  else if r = 8 then (ref s 8).engineQn
  else if isAtom r then
    (match getNat s Obj.ATOM_LOCK_STATE with
     | 1 => getNat s (Obj.REF_QN_DECLARED 9)
     | 2 => max 200 (getNat s (Obj.REF_QN_DECLARED 9))
     | _ => 255)
  else if isPtpRx r then
    (match (ref s r).parentClass with | some c => qnPtp c.1 c.2 | none => 255)
  else
    let p := r - 14
    if getN s (Obj.SSM_ENABLE p) = 0 then getNat s (Obj.SSM_QN_DISABLED p)
    else if (esmcOf s p).failed then 255
    else qnSsm (getNat s (Obj.SSM_OPTION p)) (getNat s (Obj.SSM_RX_QL p)) (getNat s (Obj.SSM_RX_ECODE p))

/-! ### Measurements (R129, R133, R134) -/

def refChanTime (s : State) (r : Nat) : Nat := getNat s (Obj.REF_TDC_TIME r)
def refChanFreq (s : State) (r : Nat) : Nat :=
  if isAtom r then getNat s (Obj.REF_TDC_FREQ r) else getNat s (Obj.REF_TDC_TIME r)

/-- |REF_FREQ| is at most REF_PULL_RANGE. -/
def inPull (s : State) (r : Nat) : Bool :=
  decide ((getN s (Obj.REF_FREQ r)).natAbs ≤ (getF s (Obj.REF_PULL_RANGE r)).toNat * 1000)

/-- Whether a measurement passes as a qualification step but for its quality number (R133). `agree` is `none` where the
measurement is not tested. -/
def stepPasses (s : State) (r : Nat) (agree : Option Bool) : Bool :=
  let x := ref s r
  inPull s r && !x.windowShort && !x.edgeMissed && (agree.getD true || !useTime s r)

/-- A failed qualification step: a new run starts at the next passing step (R133). -/
def failStep (r : Nat) (s : State) : State :=
  bump (Obj.QUAL_FAIL r) (setRef r (fun x => { x with runStart := none, runCount := 0 }) s)

def passStep (r : Nat) (s : State) : State :=
  setRef r (fun x => { x with runStart := some (x.runStart.getD s.now), runCount := x.runCount + 1 }) s

/-- A measurement has arrived (R133, R134): a step of a QUALIFYING reference, or the one that requalifies. -/
def measArrived (r : Nat) (accepted : Bool) (agree : Option Bool) (s : State) : State :=
  let pass := stepPasses s r agree
  let s1 := setRef r (fun x =>
    { x with lastAccepted := if accepted then s.now else x.lastAccepted, arrived := true, stepPassed := pass,
             edgeMissed := false, windowShort := false, dueFrom := some s.now }) s
  if refState s r = 2 then (if pass ∧ refQn s r < 255 then passStep r s1 else failStep r s1) else s1

/-- A measurement fell due and was missed (R133): a failed step at the next boundary. -/
def measMissed (r : Nat) (s : State) : State := setRef r (fun x => { x with missedDue := true }) s

/-- What the arrival of a measurement may vary beyond `REF_INTERVAL`, in ms: one Sync interval of a PTP run, and 1 ms. -/
def dueMargin (s : State) (r : Nat) : Nat :=
  if isPtpRx r then getNat s (Obj.REF_INTERVAL r) / max (getF s (Obj.RX_MEAS_N (r - 10))).toNat 1 + 1 else 1

/-- A measurement of an edge-measured or PTP reference is overdue (R133): later than `REF_INTERVAL` and the margin since the last one,
unless its pulse waits for a sentence. -/
def overdue (s : State) (r : Nat) : Bool :=
  (isRefin r || isAtom r || isPtpRx r) && s.pulseWait.all (fun p => p.ref ≠ r || p.meas.isNone) &&
    (match (ref s r).dueFrom with
     | some t => decide (t + (getNat s (Obj.REF_INTERVAL r) + dueMargin s r) * msT ≤ s.now)
     | none => false)

/-- The missed measurement of an overdue reference; the next falls due one interval later. -/
def checkDue (r : Nat) (s : State) : State :=
  if overdue s r then
    let i := getNat s (Obj.REF_INTERVAL r) * msT
    measMissed r (setRef r (fun x => { x with dueFrom := x.dueFrom.map (fun t => max (t + i) (s.now - i)) }) s)
  else s

/-- Queue a time measurement for the bound unit. -/
def queueMeas (m : Meas) (s : State) : State := { s with meas := s.meas ++ [m] }

/-- A frequency measurement: fractional frequency against TCLK combined with f_xo (R129), in 10⁻¹⁵. -/
def combineFreq (f : Int) (s : State) : Int × State :=
  nearFree (((ten 15 : Int) + f) * ((ten 15 : Int) + getN s Obj.XO_FREQ_COMP) - (ten 30 : Int)) (ten 15) s

/-- Store a frequency measurement. -/
def setFreq (r : Nat) (f : Int) (u : Nat) (s : State) : State :=
  setRef r (fun x => { x with freqAt := some s.ts.mts, newFreq := true })
    (setN (Obj.REF_FREQ_UNC r) u (setN (Obj.REF_FREQ r) f s))

/-- A time measurement with its second as a sentence gives it (R130, R180): x moves by the whole seconds between the two. -/
def saidMeas (m : Meas) (sec said : Nat) : Meas := { m with x := m.x + ((sec : Int) - said) * sec96 }

/-- An accepted pulse of a REFIN time reference waits for the sentence of its second (R130, R180). -/
def notePulse (c ts : Nat) (s : State) : State :=
  match claimOf s 0x1100 c with
  | none => s
  | some cl =>
    let r := cl.knum
    let tod := getNat s (Obj.REF_TOD_SOURCE r)
    if cl.kind = kindRef ∧ isRefin r ∧ tod ≤ 1 ∧ (ref s r).mode ≠ 0 ∧ refChanTime s r = c ∧ getF s (Obj.REF_NOM_FREQ r) = 1000000 then
      { s with pulseWait := s.pulseWait ++ [{ todin := tod, ref := r, sec := (ts + sec96 / 2) / sec96, tick := s.now }] }
    else s

/-- A window's measurement takes its second from the sentence of its last pulse: at once where that has come, else when it comes
(R130, R180). -/
def pulseMeas (r : Nat) (m : Meas) (s : State) : State :=
  match (s.pulseWait.filter (fun p => p.ref = r)).getLast? with
  | none => s
  | some p =>
    match p.said with
    | some sec => queueMeas (saidMeas m p.sec sec) s
    | none => { s with pulseWait := s.pulseWait.map (fun y => if y = p then { y with meas := some m } else y) }

/-- A closed window of a reference's channel yields its measurements (R129, R130). `w` is the window that closed. -/
def deliverWindow (c : Nat) (w : TdcWindow) (s : State) : State :=
  match claimOf s 0x1100 c with
  | none => s
  | some cl =>
    let r := cl.knum
    if cl.kind ≠ kindRef ∨ (ref s r).mode = 0 ∨ refState s r = 0 then s
    else
      let s0 := setRef r (fun x =>
        { x with windowShort := decide (w.n < w.n0), edgeMissed := x.edgeMissed || w.missed }) s
      let fOk := decide (refChanFreq s r = c) && (getNat s (Obj.WIN_FLAGS c)).testBit 0
      let s1 := if fOk then
          let f := combineFreq (getN s0 (Obj.WIN_FREQ_TCLK c)) s0
          setFreq r f.1 (getNat s (Obj.WIN_FREQ_UNC c)) f.2
        else s0
      let tOk := decide (refChanTime s r = c) && (isAtom r || getF s (Obj.REF_NOM_FREQ r) = 1000000)
      if tOk then
        let d := ps96 (getF s (Obj.REF_DELAY r)) s1
        let half (acc asym : Nat) : Option Nat :=
          if getN s (Obj.WIN_UNC c) = 4294967295 then none
          else some (acc + getNat s (Obj.WIN_UNC c) + (getF s (Obj.DELAY_UNC r)).toNat + asym)
        let m : Meas :=
          { ref := r, x := getN d.2 (Obj.WIN_MEAN c) - d.1,
            uM := half ((getF s (Obj.REF_ACC_NEG r)).toNat) ((getF s (Obj.ASYM_NEG r)).toNat),
            uP := half ((getF s (Obj.REF_ACC_POS r)).toNat) ((getF s (Obj.ASYM_POS r)).toNat),
            atI := (w.first + w.last) * 2147483648,
            mark := { run := (w.markFirst.run + w.markLast.run) / 2, steer := (w.markFirst.steer + w.markLast.steer) / 2,
                      step := w.markLast.step } }
        let tod := getNat s (Obj.REF_TOD_SOURCE r)
        if isRefin r ∧ tod ≤ 1 then pulseMeas r m d.2 else queueMeas m d.2
      else if fOk then
        -- where a time channel gives the measurements their interval, a frequency window makes none of them fall due later
        let s2 := measArrived r (decide (getNat s (Obj.WIN_FREQ_UNC c) ≠ 18446744073709551615)) none s1
        if refChanTime s r < 16 ∧ refChanTime s r ≠ c then setRef r (fun x => { x with dueFrom := (ref s1 r).dueFrom }) s2 else s2
      else s1

/-- Close a channel's window: publish, then deliver to the reference that holds the channel (R114, R136). -/
def closeWindow (c : Nat) (s : State) : State :=
  match (tdc s c).window with
  | some w => deliverWindow c w (publishWindow c w s)
  | none => s

/-! ### Loss (R134) -/

/-- No edge at the channel's input for two nominal input periods; of a decimated channel the prescaler tells, and a decimated edge that
stays out for D + 2 periods. -/
def noEdges (s : State) (c : Nat) : Bool :=
  let t := tdc s c
  let per := t.tnom / (max t.decim 1)
  let lim := if t.decim = 1 then 2 * t.tnom else t.tnom + 2 * per
  (t.silent && decide (1 < t.decim)) || decide (lim < (s.now - t.seenTick) * 5 * ns48)

def channelLost (s : State) (c : Nat) : Bool :=
  decide (c < 16) && (noEdges s c || getN s (Obj.TDC_CAL_STATE c) = 3 || restarting s (tdcFault c))

/-- The loss indications of a reference (R134). -/
def lossIndication (s : State) (r : Nat) : Bool :=
  if isRefin r then channelLost s (refChanTime s r)
  else if r = 8 then !(ref s 8).solved || restarting s 0x1300
  else if isAtom r then
    channelLost s (refChanTime s 9) || channelLost s (refChanFreq s 9)
  else if isPtpRx r then
    (match getNat s (Obj.INST_TR_PORT (r - 10)) with
     | 0xFF => false
     | p => !portUp s p)
  else !portUp s (r - 14)

/-- Lost at this boundary (R134). -/
def lostDue (s : State) (r : Nat) : Bool :=
  let x := ref s r
  let hold := (getF s (Obj.REF_HOLDOFF r)).toNat * msT
  decide (x.lastAccepted + getNat s (Obj.REF_INTERVAL r) * msT + hold ≤ s.now) ||
    (match x.lossSince with | some t => decide (t + hold ≤ s.now) | none => false)

/-! ### Transitions (R135) -/

/-- Claimed channels and TODIN of a REFIN or ATOM reference: resource class and number (R126, R181). -/
def refResources (s : State) (r : Nat) : List (Nat × Nat) :=
  let t := refChanTime s r
  if isRefin r then
    (if t < 16 then [(0x1100, t)] else []) ++ [(0x1101, r)] ++
      (let d := getNat s (Obj.REF_TOD_SOURCE r); if d ≤ 1 then [(0x1109, d)] else [])
  else if isAtom r then
    (if t < 16 then [(0x1100, t)] else []) ++ [(0x1102, 0), (0x1102, 1)] ++
      (let f := refChanFreq s r; if f < 16 ∧ f ≠ t then [(0x1100, f)] else [])
  else []

/-- Release what a reference holds (R126): a released channel is idle. -/
def releaseRef (r : Nat) (s : State) : State :=
  s.claims.foldl (fun a c =>
    if c.kind = kindRef ∧ c.knum = r then
      (if c.cls = 0x1100 then setJ (Obj.TDC_SOURCE c.num) 0 (release c.cls c.num a) else release c.cls c.num a)
    else a) { s with pulseWait := s.pulseWait.filter (fun p => p.ref ≠ r) }

/-- Enter DISQUALIFIED (R135). -/
def disqualify (r cause : Nat) (s : State) : State :=
  let s1 := enterRef r 6 cause (setRef r (fun x =>
    { x with disqTick := s.now, runStart := none, runCount := 0, violated := false, outvoted := false, shut := false,
             wtrFrom := none }) s)
  if cause = 1 then bump (Obj.REF_LOST r) s1 else s1

/-- Enter QUALIFIED: `REF_WTR_LEFT` is loaded (R139). -/
def qualify (r : Nat) (s : State) : State :=
  let w := getF s (Obj.REF_WTR r)
  setN (Obj.REF_WTR_LEFT r) w (setRef r (fun x => { x with wtrFrom := some s.now, wtrLoad := w.toNat }) (moveRef r 3 s))

/-- R133 is satisfied: `REF_QUAL_TIME` since the first step of a run of at least two. -/
def qualDue (s : State) (r : Nat) : Bool :=
  match (ref s r).runStart with
  | some t => decide (t + (getF s (Obj.REF_QUAL_TIME r)).toNat * sT ≤ s.now) && decide (2 ≤ (ref s r).runCount)
  | none => false

/-- A DISQUALIFIED reference may return (R135). -/
def requalDue (s : State) (r : Nat) : Bool :=
  let x := ref s r
  match getNat s (Obj.REF_DISQ_CAUSE r) with
  | 1 | 6 => x.arrived && !lossIndication s r
  | 4 => decide (refQn s r < 255)
  | 2 | 3 | 5 => x.arrived && decide (x.disqTick + (getF s Obj.DISQUAL_HOLD).toNat * sT ≤ s.now)
  | _ => false

/-- Back to QUALIFYING; the measurement that arrived is the first step of the run (R133, R135). -/
def requalify (r : Nat) (s : State) : State :=
  let s1 := moveRef r 2 s
  if (ref s r).arrived then
    (if (ref s r).stepPassed ∧ refQn s r < 255 then passStep r s1 else failStep r s1)
  else s1

/-- Entry into QUALIFYING from DISABLED or MONITOR. -/
def startQualifying (r : Nat) (s : State) : State :=
  moveRef r 2 (setRef r (fun x =>
    { x with runStart := none, runCount := 0, lastAccepted := s.now, lossSince := none }) s)

/-- The cause of disqualification recorded at a boundary: the first in the order of R135; 0 where none holds. -/
def disqCause (s : State) (r : Nat) : Nat :=
  let x := ref s r
  let good := refGood s r
  if good ∧ x.violated then 2
  else if refState s r = 5 ∧ x.outvoted then 3
  else if good ∧ !inPull s r then 5
  else if x.shut then 6
  else if lostDue s r then 1
  else if refQn s r = 255 then 4
  else 0

/-- The transition of one reference at a boundary (R133, R135); a DISABLED one holds nothing (R126, R181), and the last verdict of a
MONITOR one reads UNTESTED (R132). -/
def transition (r : Nat) (s : State) : State :=
  let mode := getNat s (Obj.REF_MODE r)
  let st := refState s r
  let s0 := setRef r (fun x => { x with mode := mode }) s
  if mode = 0 then releaseRef r (if st = 0 then s0 else enterRef r 0 0 (setRef r (fun x => { x with dueFrom := none }) s0))
  else if mode = 1 then (if st = 1 then s0 else setN (Obj.LAST_VERDICT r) 0 (enterRef r 1 0 s0))
  else if st = 0 ∨ st = 1 then startQualifying r s0
  else
    let s1 := if st = 2 ∧ (ref s0 r).missedDue then failStep r s0 else s0
    if st = 6 then (if requalDue s1 r then requalify r s1 else s1)
    else
      let c := disqCause s1 r
      if c ≠ 0 then disqualify r c s1
      else if st = 2 ∧ qualDue s1 r then qualify r s1
      else s1

/-- `REF_WTR_LEFT` counts down in whole seconds (R139). -/
def countWtr (r : Nat) (s : State) : State :=
  match (ref s r).wtrFrom with
  | none => s
  | some t =>
    let left := (ref s r).wtrLoad - (s.now - t) / sT
    let s1 := setN (Obj.REF_WTR_LEFT r) (left : Nat) s
    if left = 0 then setRef r (fun x => { x with wtrFrom := none }) s1 else s1

/-- Clear what a boundary has used of a reference's measurements. -/
def clearArrived (r : Nat) (s : State) : State :=
  setRef r (fun x => { x with arrived := false, missedDue := false, newFreq := false, violated := false, outvoted := false,
                              shut := false }) s

/-- Quality number and loss indication of a reference at a boundary (R131, R134). -/
def updateQn (r : Nat) (s0 : State) : State :=
  let s := checkDue r s0
  let s1 := setN (Obj.REF_QN r) (qnOf s r : Nat) s
  let l := lossIndication s1 r
  setRef r (fun x => { x with lossSince := if l then some (x.lossSince.getD s.now) else none }) s1

def foldRefs (f : Nat → State → State) (s : State) : State :=
  (List.range 30).foldl (fun a r => if refPresent a.variant r then f r a else a) s

/-! ### Disputes (R144, R145) -/

def equalRank (s : State) (a b : Nat) : Bool :=
  refQn s a = refQn s b && getF s (Obj.REF_PRIORITY a) = getF s (Obj.REF_PRIORITY b)

/-- The pair meets the conditions of a comparison. -/
def comparable (s : State) (a b : Nat) : Bool :=
  equalRank s a b && useFreq s a && useFreq s b && refGood s a && refGood s b

def freqFresh (s : State) (r : Nat) : Bool :=
  match (ref s r).freqAt with
  | some t => decide (s.ts.mts ≤ t + (getF s Obj.AGREE_AGE).toNat * ms48)
  | none => false

def freqDiff (s : State) (a b : Nat) : Nat := (getN s (Obj.REF_FREQ a) - getN s (Obj.REF_FREQ b)).natAbs

/-- |f_a − f_b| − (u_a + u_b) > `DISPUTE_THRESHOLD`. -/
def disagrees (s : State) (a b : Nat) : Bool :=
  decide ((getF s Obj.DISPUTE_THRESHOLD).toNat + getNat s (Obj.REF_FREQ_UNC a) + getNat s (Obj.REF_FREQ_UNC b) < freqDiff s a b)

def disputeOf (s : State) (a b : Nat) : Dispute :=
  (s.sel.disputes.find? (fun d => d.a = a && d.b = b)).getD { a := a, b := b }

def putDispute (d : Dispute) (s : State) : State :=
  setSel (fun x => { x with disputes := d :: x.disputes.filter (fun e => !(e.a = d.a && e.b = d.b)) }) s

def dropDispute (a b : Nat) (s : State) : State :=
  setSel (fun x => { x with disputes := x.disputes.filter (fun e => !(e.a = a && e.b = b)) }) s

/-- Named by a role (R132). -/
def named (s : State) (r : Nat) : Bool := activeTime s = r || activeFreq s = r

/-- A dispute of a reference is in progress. -/
def inDispute (s : State) (r : Nat) : Bool := s.sel.disputes.any (fun d => d.begun && (d.a = r || d.b = r))

/-- The dispute begins: both become DISPUTED (R144). -/
def beginDispute (a b : Nat) (s : State) : State :=
  let one (r o : Nat) (t : State) : State :=
    bump (Obj.REF_DISPUTES r) (setN (Obj.REF_DISPUTE_WITH r) o
      (if refState t r = 3 ∨ refState t r = 4 then moveRef r 5 t else t))
  one b a (one a b (putDispute { disputeOf s a b with begun := true, agree := 0 } s))

/-- The dispute ends: each still DISPUTED and in no other dispute returns (R135, R144). -/
def endDispute (a b : Nat) (s : State) : State :=
  let s1 := dropDispute a b s
  let one (r : Nat) (t : State) : State :=
    if inDispute t r then t
    else
      let t1 := setN (Obj.REF_DISPUTE_WITH r) 255 t
      if refState t r = 5 then (if named t r then moveRef r 4 t1 else qualify r t1) else t1
  one b (one a s1)

/-- One comparison of a pair (R144). -/
def compare (a b : Nat) (s : State) : State :=
  let d := disputeOf s a b
  let persist := (getF s Obj.DISPUTE_PERSIST).toNat
  if comparable s a b = false then
    (if d.begun then endDispute a b s else if d.disagree = 0 ∧ d.agree = 0 then s else dropDispute a b s)
  else if !((ref s a).newFreq || (ref s b).newFreq) || !(freqFresh s a && freqFresh s b) then s
  else
    let d1 := if disagrees s a b then { d with disagree := d.disagree + 1, agree := 0 }
      else { d with agree := d.agree + 1, disagree := 0 }
    let s1 := if d1.begun = false ∧ d1.disagree = 0 then dropDispute a b s else putDispute d1 s
    if d1.begun = false ∧ persist ≤ d1.disagree then beginDispute a b s1
    else if d1.begun ∧ persist ≤ d1.agree then endDispute a b s1
    else s1

/-- Votes for each disputant (R145). -/
def votes (s : State) (a b : Nat) : Nat × Nat :=
  let voters := (List.range 30).filter (fun v =>
    decide (v ≠ a ∧ v ≠ b) && refPresent s.variant v && refGood s v && useFreq s v && freqFresh s v)
  (voters.countP (fun v => !disagrees s v a), voters.countP (fun v => !disagrees s v b))

/-- The C0 event of an unresolved dispute, once per hour of MTS (R145). -/
def unresolved (a b : Nat) (s : State) : State :=
  let d := disputeOf s a b
  let now := mtsSec s
  let due := match d.eventSec with | some t => decide (t + 3600 ≤ now) | none => true
  if due then
    journal { kind := 7, key := Obj.FAULT_RECORD, new := be 2 (refFault (min a b)) ++ be 4 (max a b) }
      (raise (refFault (min a b)) 0 { detail := max a b } (putDispute { d with eventSec := some now } s))
  else s

/-- The disputant that the votes of a boundary leave outvoted (R145). -/
def outvotedIn (s : State) (d : Dispute) : Option Nat :=
  let v := votes s d.a d.b
  if d.begun = false then none else if v.2 < v.1 then some d.b else if v.1 < v.2 then some d.a else none

/-- Disputes whose pair no longer meets the conditions of a comparison end at this boundary (R144). -/
def endLapsed (s : State) : State :=
  s.sel.disputes.foldl (fun a d => if d.begun ∧ comparable a d.a d.b = false then endDispute d.a d.b a else a) s

/-- Votes on some disputes: all are counted before any reference leaves, then the outvoted are disqualified, the disputes that end with it
end, and those that go on unresolved are told (R144, R145). -/
def voteOn (l : List Dispute) (s : State) : State :=
  let s1 := endLapsed (((l.filterMap (outvotedIn s)).eraseDups).foldl (fun a r => disqualify r 3 a) s)
  l.foldl (fun a d => if (disputeOf a d.a d.b).begun then unresolved d.a d.b a else a) s1

/-- The vote on one dispute (R145). -/
def vote (a b : Nat) (s : State) : State :=
  if (disputeOf s a b).begun = false then s else voteOn [disputeOf s a b] s

/-- All pairs. -/
def pairs : List (Nat × Nat) := (List.range 30).flatMap (fun a => (List.range a).map (fun b => (b, a)))

/-- Disputes and votes at a boundary; a reference in two disputes is outvoted if either outvotes it (R144, R145). -/
def evalDisputes (s : State) : State :=
  let s1 := pairs.foldl (fun a p =>
    if refGood a p.1 ∨ refGood a p.2 ∨ a.sel.disputes.any (fun d => d.a = p.1 && d.b = p.2) then compare p.1 p.2 a else a) s
  voteOn (s1.sel.disputes.filter (·.begun)) s1

/-! ### Selection (R137–R143) -/

/-- Rank on (QN, priority, index) as one number; the lowest wins (R137). -/
def rank (s : State) (r : Nat) : Nat := (refQn s r * 16 + (getF s (Obj.REF_PRIORITY r)).toNat) * 32 + r

def candTime (s : State) (r : Nat) : Bool :=
  refPresent s.variant r && getN s (Obj.REF_MODE r) = 2 && useTime s r && refGood s r &&
    !(isRefin r && decide (1 < getNat s (Obj.REF_TOD_SOURCE r)) && getN s Obj.TS_STATE = 0)

def candFreq (s : State) (r : Nat) : Bool :=
  refPresent s.variant r && getN s (Obj.REF_MODE r) = 2 && useFreq s r && refGood s r

/-- The best of a list of candidates. -/
def bestOf (s : State) (l : List Nat) : Option Nat :=
  l.foldl (fun b r => match b with | none => some r | some q => if rank s r < rank s q then some r else some q) none

/-- R138 for one role: the reference it names, 0xFF for none. -/
def selectRole (s : State) (cand : Nat → Bool) (holder : Nat) (busy : Bool) : Nat :=
  match bestOf s ((List.range 30).filter cand) with
  | none => 0xFF
  | some b =>
    if holder = 0xFF ∨ cand holder = false then b
    else if getF s Obj.REVERTIVE = 1 ∧ rank s b / 32 < rank s holder / 32 ∧ getN s (Obj.REF_WTR_LEFT b) = 0 ∧ busy = false
    then b else holder

/-- ACTIVE and QUALIFIED by the roles (R135). -/
def nameActive (r : Nat) (s : State) : State :=
  if refState s r = 3 ∧ named s r then moveRef r 4 s
  else if refState s r = 4 ∧ !named s r then qualify r s
  else s

/-- End build-out (R140). -/
def endBuildOut (s : State) : State := setN Obj.SWITCH_STATE 0 s

/-- The time role (R138, R140, R141). -/
def selectTime (s : State) : State :=
  let h := activeTime s
  let n := selectRole s (candTime s) h (s.sel.buildOutBusy || decide (getN s Obj.SWITCH_STATE = 1))
  if n = h then s
  else
    let s1 := setJ Obj.ACTIVE_TIME_REF n { s with ts := { s.ts with prevMeas := none } }
    if h = 0xFF ∨ n = 0xFF ∨ hingeRef s then endBuildOut s1
    else setSel (fun x => { x with buildOutFrom := s.now }) (bump Obj.SWITCH_COUNT (setN Obj.SWITCH_STATE 1 s1))

/-- The frequency role; its change begins a switch (R138, R143). -/
def selectFreq (s : State) : State :=
  let h := activeFreq s
  let n := selectRole s (candFreq s) h s.sel.freqSwitch
  if n = h then s
  else
    let s1 := setSel (fun x => { x with freqSwitch := decide (n ≠ 0xFF) }) (setJ Obj.ACTIVE_FREQ_REF n s)
    { s1 with
      ts := { s1.ts with holdSlewing := true },
      synth := { s1.synth with dplls := s1.synth.dplls.map (fun d => if d.mode = 2 then { d with switching := true } else d) } }

/-- R38 applies: HOLDOVER or UNKNOWN with the loop closed. -/
def r38Applies (s : State) : Bool := loopClosed s && (getN s Obj.TS_STATE = 0 || getN s Obj.TS_STATE = 3)

/-- Target of R38 in 10⁻¹⁸: the active frequency reference, else 0. -/
def holdTarget (s : State) : Int :=
  if activeFreq s = 0xFF then 0 else getN s (Obj.REF_FREQ (activeFreq s)) * 1000

/-- Move a rate toward a target by at most a step. -/
def slewTo (cur target step : Int) : Int := if cur < target then min target (cur + step) else max target (cur - step)

/-- Every rate that follows the frequency role has arrived (R143). -/
def freqSwitchOver (s : State) : Bool :=
  !(r38Applies s && s.ts.holdSlewing) && !s.synth.dplls.any (fun d => d.mode = 2 && d.switching)

/-- The R38 increment at a boundary (R38, R143). -/
def applyHoldRate (s : State) : State :=
  let t := holdTarget s
  let step := getF s Obj.FREQ_SWITCH_SLOPE
  let r := if s.ts.holdSlewing ∧ r38Applies s then slewTo s.ts.holdRate t step else t
  let s1 := { s with ts := { s.ts with holdRate := r, holdSlewing := s.ts.holdSlewing && decide (r ≠ t) } }
  if r38Applies s1 then
    let i := holdIncr r s1
    applyIncr i.1 i.2
  else if loopClosed s1 then s1 else setRefIncr s1

/-! ### Learning (R147–R149) -/

/-- An interval counts (R147). -/
def learning (s : State) : Bool :=
  getN s Obj.TS_STATE = 2 && loopClosed s && getN s Obj.SWITCH_STATE = 0 && !inDispute s (activeTime s) &&
    !inDispute s (activeFreq s) && s.ts.step.isNone

/-- One boundary of the interval in progress: samples of the integrator and of the free-running oscillator. -/
def learnTick (s : State) : State :=
  let on := learning s
  let s1 := setN Obj.LEARN_STATE (if on then 0 else 1) s
  if on = false then setSel (fun x => { x with interval := none }) s1
  else
    let atomOn := activeFreq s = 9
    let a := if atomOn then getN s (Obj.REF_FREQ 9) - getN s Obj.ATOM_STEER_NOW else 0
    setSel (fun x =>
      match x.interval with
      | none => { x with interval := some s.now, intSum := s.ts.integ, intCount := 1, uncSum := 0, uncCount := 0,
                         atomSum := a, atomCount := if atomOn then 1 else 0 }
      | some _ => { x with intSum := x.intSum + s.ts.integ, intCount := x.intCount + 1, atomSum := x.atomSum + a,
                           atomCount := if atomOn then x.atomCount + 1 else x.atomCount }) s1

/-- A step or the end of the conditions freezes the interval (R147). -/
def freezeLearning (s : State) : State :=
  setN Obj.LEARN_STATE 1 (setSel (fun x => { x with interval := none }) s)

/-- Sums of a least-squares fit: n, Σt, Σv, Σt², Σtv, Σv², t in ticks. -/
structure Fit where
  n : Int
  st : Int
  sv : Int
  stt : Int
  stv : Int
  svv : Int

def fitSums (l : List (Nat × Int)) : Fit :=
  let t0 := (l.map (·.1)).foldl min ((l.map (·.1)).headD 0)
  l.foldl (fun f p =>
    let t : Int := (p.1 : Int) - t0
    { n := f.n + 1, st := f.st + t, sv := f.sv + p.2, stt := f.stt + t * t, stv := f.stv + t * p.2, svv := f.svv + p.2 * p.2 })
    { n := 0, st := 0, sv := 0, stt := 0, stv := 0, svv := 0 }

/-- Slope in 10⁻¹⁸ per s of values in 10⁻¹⁵ over ticks (R148); 0 where it is not defined. -/
def fitSlope (l : List (Nat × Int)) (s : State) : Int × State :=
  let f := fitSums l
  let a := f.n * f.stt - f.st * f.st
  if a ≤ 0 then (0, s) else divFree ((f.n * f.stv - f.st * f.sv) * 1000 * sT) a.toNat s

/-- R149: three times the rms of the residuals about the fitted line plus 2 × U ÷ 64 s, rounded up, in 10⁻¹⁵. -/
def learnedUnc (l : List (Nat × Int)) (uSum uCount : Nat) : Nat :=
  let f := fitSums l
  let a := f.n * f.stt - f.st * f.st
  let b := f.n * f.stv - f.st * f.sv
  let c := f.n * f.svv - f.sv * f.sv
  let p : Nat := if 0 < a then (9 * (c * a - b * b)).toNat else (9 * c).toNat
  let q : Nat := if 0 < a then (a * f.n * f.n).toNat else (f.n * f.n).toNat
  let un := uSum * 1000
  let ud := 32 * max uCount 1
  let m := ceilSqrtDiv p (max q 1) + cdiv un ud
  let m' := m - 1
  if un ≤ m' * ud ∧ p * (ud * ud) ≤ (m' * ud - un) * (m' * ud - un) * (max q 1) then m' else m

/-- A learned uncertainty takes effect; for 86,400 s after a module-level violation no lower value is written (R149). -/
def setLearned (k : Nat) (v : Nat) (s : State) : State :=
  let guard := match s.bound.violTick with | some t => decide (s.now < t + 86400 * sT) | none => false
  let v := min v 4294967295
  if guard && decide (v < getNat s k) then s else setN k v s

end Sys2Proof.Machine
end

