-- ==== Sys2Proof/Machine/Atom.lean ====
section
/-! DEFINITION. Machine/Atom.lean: the atomic oscillator interface (R150–R153) and SyncE with ESMC (R154, R155). -/
namespace Sys2Proof.Machine

def setAtom (f : Atom → Atom) (s : State) : State := { s with atom := f s.atom }

/-! ### The steering profile ("Steering profile", R153) -/

/-- Every 0x1B is followed by a code byte. -/
def tplOk : List Byte → Bool
  | [] => true
  | c :: r =>
    if c = 0x1B then
      match r with
      | [] => false
      | d :: r' => (d = 0x01 || d = 0x02 || d = 0x03 || d = 0x04 || d = 0x1B) && tplOk r'
    else tplOk r

/-- A template sent for a value; `sent` are the bytes sent so far. -/
def expandTpl (val : Int) : List Byte → List Byte → List Byte
  | [], sent => sent
  | c :: r, sent =>
    if c = 0x1B then
      match r with
      | [] => sent
      | d :: r' =>
        let x : List Byte :=
          if d = 0x01 then asciiInt val
          else if d = 0x02 then hexDigits 8 (val % 4294967296).toNat
          else if d = 0x03 then be 4 (val % 4294967296).toNat
          else if d = 0x04 then hexDigits 2 (xorBytes sent)
          else [0x1B]
        expandTpl val r' (sent ++ x)
    else expandTpl val r (sent ++ [c])

def inside (total off len : Nat) : Bool := off + len ≤ total

/-- The tests of R153 after the length. -/
def profileOk (b : List Byte) : Bool :=
  let u := fieldU b
  let total := u 6 2
  let mode := u 8 1
  decide (u 0 4 = 0x53505246 ∧ u 4 2 = 1 ∧ 56 ≤ total ∧ total ≤ 512) &&
  decide (u 52 4 = crc32 (slice b 0 52 ++ [0, 0, 0, 0] ++ b.drop 56)) &&
  decide (1 ≤ mode ∧ mode ≤ 3 ∧ u 9 1 ≤ 1 ∧ u 10 2 = 0 ∧ u 50 2 = 0) &&
  decide (u 12 4 ≤ 1048575 ∧ u 16 4 ≠ 0 ∧ 1200 ≤ u 20 4 ∧ u 20 4 ≤ 115200) &&
  decide (u 24 1 < 8 ∧ u 24 1 % 4 ≠ 3 ∧ -18 ≤ fieldI b 25 1 ∧ fieldI b 25 1 ≤ -9) &&
  decide (100 ≤ u 26 2 ∧ u 26 2 ≤ 60000 ∧ fieldI b 28 4 ≤ fieldI b 32 4) &&
  decide (1 ≤ u 38 2 ∧ u 38 2 ≤ 128 ∧ u 42 2 ≤ 128 ∧ u 46 2 ≤ 32) &&
  decide (10 ≤ u 48 2 ∧ u 48 2 ≤ 10000 ∧ u 48 2 < u 26 2) &&
  inside total (u 36 2) (u 38 2) && inside total (u 40 2) (u 42 2) && inside total (u 44 2) (u 46 2) &&
  tplOk (slice b (u 36 2) (u 38 2)) && tplOk (slice b (u 40 2) (u 42 2))

/-- The rule of `ATOM_PROFILE`: in force at the next boundary (R153). -/
def ruleAtomProfile : Rule :=
  { chk := fun _ v =>
      let b := v.bytes
      if b.length < 8 ∨ fieldU b 6 2 ≠ b.length then (stLength, [])
      else if profileOk b then (stOk, []) else (stRange, [])
    eff := fun v => setAtom (fun a => { a with pending := some v.bytes }) }

/-- A pending profile takes effect at a boundary, S unchanged (R153). -/
def applyProfile (s : State) : State :=
  match s.atom.pending with
  | none => s
  | some b =>
    setN Obj.ATOM_PROFILE_STATE 1 (setAtom (fun a =>
      { a with profile := some b, pending := none, lastZero := fieldU b 12 4, lastUart := none, lastSend := none,
               lastPoll := none, awaiting := none, lastMatch := none }) s)

def execAtomProfile (q : Req) (s : State) : Host.Outcome State Fault Refusal :=
  finish (ifUp (ownerWrite q Obj.ATOM_PROFILE ruleAtomProfile) s)

/-! ### Steering (R150, R151) -/

/-- Nearest to a signed quotient. -/
def nearInt (num : Int) (den : Int) (s : State) : Int × State :=
  if den < 0 then nearFree (-num) den.natAbs s else nearFree num den.natAbs s

/-- e of this second: `REF_FREQ` of ATOM minus the fractional rate of MTS against the compensated crystal, in 10⁻¹⁵. -/
def atomError (s : State) : Int × State :=
  let r := nearFree ((s.ts.incr : Int) * ((ten 15 : Int) + getN s Obj.XO_FREQ_COMP) - 5 * ns48 * (ten 15 : Int)) (5 * ns48) s
  (getN s (Obj.REF_FREQ 9) - r.1, r.2)

/-- S after one second of the mode in force, in 10⁻¹⁸ (R150). -/
def nextSteer (s : State) : Int × State :=
  match getNat s Obj.ATOM_STEER_MODE with
  | 1 => (s.atom.steer, s)
  | 2 => (getN s Obj.ATOM_STEER_SET * 1000, s)
  | _ =>
    if activeFreq s = 9 ∧ getN s Obj.TS_STATE = 2 ∧ loopClosed s then
      let sum := s.atom.errors.sum
      let n := max s.atom.errors.length 1
      let d := divFree (-sum * 1000) (n * getNat s Obj.ATOM_STEER_TAU) s
      let lim := getN s Obj.ATOM_STEER_MAX * 1000
      (s.atom.steer + clampInt (-lim) lim d.1, d.2)
    else if getN s Obj.ATOM_DRIFT_COMP = 1 then (s.atom.steer - getN s Obj.ATOM_DRIFT_LEARNED, s)
    else (s.atom.steer, s)

/-- Store S. -/
def putSteer (v : Int) (s : State) : State :=
  let r := nearFree v 1000 (setAtom (fun a => { a with steer := v }) s)
  setN Obj.ATOM_STEER_NOW r.1 r.2

/-- S is set back to the value that a clamped output represents, the one nearer to 0 where both clamps act (R151). -/
def setBack : List Int → State → State
  | [], s => s
  | v :: r, s => bump Obj.ATOM_STEER_CLAMP (putSteer (r.foldl (fun a x => if x.natAbs < a.natAbs then x else a) v) s)

/-- The DAC output, with the value that it represents where its clamp acts (R151). -/
def dacOut (b : List Byte) (s : State) : List Int × State :=
  if (fieldU b 8 1).testBit 0 = false then ([], s)
  else
    let gain := fieldI b 16 4
    let zero : Int := fieldU b 12 4
    let r := nearInt s.atom.steer gain s
    let code := zero + r.1
    let c := clampInt 0 1048575 code
    let s1 := emit (.dac c.toNat) (setN Obj.ATOM_DAC_CODE c r.2)
    (if c = code then [] else [(c - zero) * gain], s1)

/-- One step of `uart_val` in 10⁻¹⁸. -/
def uartUnit (b : List Byte) : Nat := ten (18 + fieldI b 25 1).toNat

/-- `uart_val` before its clamp (R151). -/
def uartRaw (b : List Byte) (s : State) : Int × State := nearFree s.atom.steer (uartUnit b) s

def uartClamp (b : List Byte) (v : Int) : Int := clampInt (fieldI b 28 4) (fieldI b 32 4) v

/-- The UART output, with the value that it represents where its clamp acts: the steering template when the value changes, at most once per
`POLL_INTERVAL` (R151). -/
def uartOut (b : List Byte) (s : State) : List Int × State :=
  if (fieldU b 8 1).testBit 1 = false then ([], s)
  else
    let r := uartRaw b s
    let v := uartClamp b r.1
    let s1 := r.2
    let ready := match s.atom.lastSend with | some t => decide (t + fieldU b 26 2 * msT ≤ s.now) | none => true
    (if v = r.1 then [] else [v * uartUnit b],
      if s.atom.lastUart = some v ∨ ready = false then s1
      else
        emit (.uart (expandTpl v (slice b (fieldU b 36 2) (fieldU b 38 2)) []))
          (setAtom (fun a => { a with lastUart := some v, lastSend := some s.now }) s1))

/-- The profile in force while the oscillator is fitted (R153). -/
def atomProfile (s : State) : Option (List Byte) := if getN s Obj.ATOM_FITTED = 1 then s.atom.profile else none

/-- Once per second (R150, R151). -/
def atomSteer (s : State) : State :=
  if s.now < s.atom.lastSteer + sT then s
  else
    let e := atomError s
    let s1 := setAtom (fun a => { a with errors := (e.1 :: a.errors).take 64, lastSteer := s.now }) e.2
    let n := nextSteer s1
    let s2 := putSteer n.1 n.2
    match atomProfile s with
    | none => emit (.dac s.atom.lastZero) (setN Obj.ATOM_DAC_CODE (s.atom.lastZero : Nat) s2)
    | some b =>
      let d := dacOut b s2
      let u := uartOut b d.2
      setBack (d.1 ++ u.1) u.2

def execAtomSteerUpdate (s : State) : Host.Outcome State Fault Refusal := finish (ifUp atomSteer s)

/-- The status template, once per `POLL_INTERVAL`; its codes stand for the present `uart_val` (R151, R153). -/
def atomPoll (s : State) : State :=
  match atomProfile s with
  | none => s
  | some b =>
    let ready := match s.atom.lastPoll with | some t => decide (t + fieldU b 26 2 * msT ≤ s.now) | none => true
    if (fieldU b 8 1).testBit 1 = false ∨ fieldU b 42 2 = 0 ∨ ready = false then s
    else
      let r := uartRaw b s
      emit (.uart (expandTpl (uartClamp b r.1) (slice b (fieldU b 40 2) (fieldU b 42 2)) []))
        (setAtom (fun a => { a with lastPoll := some s.now, awaiting := some s.now }) r.2)

def execAtomStatusPoll (s : State) : Host.Outcome State Fault Refusal := finish (ifUp atomPoll s)

/-- `ATOM_LOCK_STATE` (R152). -/
def atomLock (s : State) : Nat :=
  match s.atom.profile with
  | none => if s.atom.lockHigh then 1 else 0
  | some b =>
    if s.atom.lockHigh = decide (fieldU b 9 1 = 1) then 0
    else if (fieldU b 8 1).testBit 1 = false then 1
    else match s.atom.lastMatch with
      | some t => if s.now ≤ t + 3 * fieldU b 26 2 * msT then 1 else 2
      | none => 2

def evalAtomLock (s : State) : State := setN Obj.ATOM_LOCK_STATE (atomLock s : Nat) s

/-- A status response is matched against `LOCK_MATCH` (R152). -/
def atomResponse (bytes : List Byte) (s : State) : State :=
  match s.atom.profile with
  | none => s
  | some b =>
    let hit := containsBytes (slice b (fieldU b 44 2) (fieldU b 46 2)) bytes
    evalAtomLock (setAtom (fun a =>
      { a with awaiting := none, lastMatch := if hit then some s.now else a.lastMatch }) s)

def execAtomStatusResponse (bytes : List Byte) (s : State) : Host.Outcome State Fault Refusal :=
  finish (ifUp (atomResponse bytes) s)

/-- No response within `RESP_TIMEOUT` (R151). -/
def atomTimeout (s : State) : State :=
  match s.atom.awaiting, s.atom.profile with
  | some t, some b =>
    if t + fieldU b 48 2 * msT ≤ s.now then bump Obj.ATOM_NO_RESP (setAtom (fun a => { a with awaiting := none }) s) else s
  | _, _ => s

def execAtomRespTimeout (s : State) : Host.Outcome State Fault Refusal := finish (ifUp atomTimeout s)

/-- The ATOM_LOCK input changes level (R152). -/
def atomLockChange (high : Bool) (s : State) : State := evalAtomLock (setAtom (fun a => { a with lockHigh := high }) s)

def execAtomLockChange (high : Bool) (s : State) : Host.Outcome State Fault Refusal := finish (ifUp (atomLockChange high) s)

/-! ### ESMC (R154, R155) -/

/-- The QL, enhanced code and cascade count that port p sends (R155); QL-DNU or QL-DUS on a standby (R480). -/
def txQl (s : State) (p : Nat) : Nat × Nat × Nat :=
  let opt2 := getN s (Obj.SSM_OPTION p) = 2
  let r := activeFreq s
  let hold := getNat s Obj.SSM_HOLDOVER_QL
  if quiet s ∨ r = 14 + p then (0x0F, 0, 0)
  else if 14 ≤ r ∧ r < 30 then
    (getNat s (Obj.SSM_RX_QL (r - 14)), getNat s (Obj.SSM_RX_ECODE (r - 14)), (esmcOf s (r - 14)).rxCascade + 1)
  else if r = 0xFF then (hold, 0, 0)
  else
    let qn := refQn s r
    if qn ≤ 24 then (if opt2 then 0x1 else 0x2, 0, 0)
    else if qn ≤ 100 then (if opt2 then 0x7 else 0x4, 0, 0)
    else if qn ≤ 120 then (if opt2 then 0x4 else 0x8, 0, 0)
    else (hold, 0, 0)

/-- Send one PDU. -/
def sendEsmc (p : Nat) (event : Bool) (s : State) : State :=
  let q := txQl s p
  let s1 := setEsmc p (fun e => { e with sentQl := q.1, sentE := q.2.1, cascade := q.2.2, lastTx := if event then e.lastTx else some s.now }) s
  emit (.esmc p q.1 q.2.1 event) (bump (Obj.ESMC_TX p) (setN (Obj.SSM_TX_QL p) q.1 s1))

/-- The port's lanes carry frames. -/
def esmcPort (s : State) (p : Nat) : Bool := decide (p < nPorts s.variant) && portUp s p

/-- An event PDU after a change of the transmitted QL (R154). -/
def esmcEvent (p : Nat) (s : State) : State :=
  let q := txQl s p
  let e := esmcOf s p
  if esmcPort s p = false ∨ (e.sentQl = q.1 ∧ e.sentE = q.2.1) then s else sendEsmc p true s

def esmcEvents (s : State) : State := (List.range (nPorts s.variant)).foldl (fun a p => esmcEvent p a) s

/-- A received PDU (R154). -/
def esmcRx (p : Nat) (valid : Bool) (ql ecode cascade : Nat) (s : State) : State :=
  if nPorts s.variant ≤ p then s
  else if valid = false then bump (Obj.ESMC_BAD p) s
  else
    esmcEvents (bump (Obj.ESMC_RX p) (setN (Obj.SSM_RX_ECODE p) ecode (setN (Obj.SSM_RX_QL p) ql
      (setEsmc p (fun e => { e with lastRx := some s.now, failed := false, rxCascade := cascade }) s))))

def execEsmcPduRx (p : Fin 16) (valid : Bool) (ql : Fin 16) (ecode cascade : Fin 256) (s : State) :
    Host.Outcome State Fault Refusal :=
  finish (ifUp (esmcRx p.val valid ql.val ecode.val cascade.val) s)

/-- The information PDU, once per second (R154). -/
def esmcInfo (p : Nat) (s : State) : State :=
  let due := match (esmcOf s p).lastTx with | some t => decide (t + sT ≤ s.now) | none => true
  if esmcPort s p && due then sendEsmc p false s else s

def execEsmcInfoTx (p : Fin 16) (s : State) : Host.Outcome State Fault Refusal := finish (ifUp (esmcInfo p.val) s)

/-- 5 s without a valid PDU (R154). -/
def esmcFailed (p : Nat) (s : State) : State :=
  let e := esmcOf s p
  if p < nPorts s.variant ∧ e.failed = false ∧ e.lastRx.getD s.power.started + 5 * sT ≤ s.now then
    esmcEvents (bump (Obj.QL_FAILED p) (setEsmc p (fun x => { x with failed := true }) s))
  else s

def execEsmcQlFailed (p : Fin 16) (s : State) : Host.Outcome State Fault Refusal := finish (ifUp (esmcFailed p.val) s)

end Sys2Proof.Machine
end

