-- ==== Sys2Proof/Machine/KeyOps.lean ====
section
/-! DEFINITION. Machine/KeyOps.lean: what the engines ask of the key store and the DRBG (R343, R348). -/
namespace Sys2Proof.Machine

/-- USAGE bits ("SLOT_HEADER field map"). -/
def usePtp : Nat := 0
def useNts : Nat := 1
def useTransom : Nat := 2
def useJournal : Nat := 3
def useUpdate : Nat := 4
def usePairing : Nat := 5
def useIdentity : Nat := 6

/-- A request of an engine for a slot (R343): whether it may be used; a refused one counts. -/
def useKey (n bit : Nat) (s : State) : Bool × State :=
  match slotOf s n with
  | some k => if slotUsable s k bit then (true, s) else (false, bump (Obj.KEY_USE_FAIL n) s)
  | none => (false, bump (Obj.KEY_USE_FAIL n) s)

/-- Material of a slot. -/
def keyOf (s : State) (n : Nat) : Nat := s.keys.root n

/-- The DRBG restarts: every request fails (R348). -/
def drbgDown (s : State) : Bool := s.keys.drbgRestart.isSome

/-- A request for random bytes that fails (R348). -/
def starved (s : State) : State := bump Obj.DRBG_STARVED s

/-- A value drawn from the DRBG (R348). -/
def draw (s : State) : Nat × State :=
  (Config.drbg s.freeCtr, { s with freeCtr := s.freeCtr + 1, keys := { s.keys with drbgRequests := s.keys.drbgRequests + 1 } })

/-- Labels of the KDF (R341). -/
def label (l : List Nat) : List Byte := l.map (fun c => BitVec.ofNat 8 c)

end Sys2Proof.Machine
end

