-- ==== Sys2Proof/Machine/SillOps.lean ====
section
/-! DEFINITION. Machine/SillOps.lean: the launch slots (R255–R271): the choice of L, what is written for it, sealing, and what becomes
of a frame that is late. -/
namespace Sys2Proof.Machine

def sealFault (p : Nat) : Nat := 0x1500 + p

/-- The LINK condition of R266. -/
def linkCond (s : State) (p : Nat) : Bool := !portUp s p || decide (getN s (Obj.PORT_MODE p) = 0) || (port s p).shut

/-- An exchange context is released (R335). -/
def releaseCtx (c : Option Nat) (s : State) : State :=
  match c with
  | none => s
  | some i =>
    let l := s.ntp.ctxs.filter (fun x => x.id ≠ i)
    setN Obj.NTS_CONTEXTS_HELD l.length { s with ntp := { s.ntp with ctxs := l } }

def releaseJob (sf : SillFrame) (s : State) : State :=
  match sf.ntp with | some j => releaseCtx j.ctx s | none => s

/-- `SLOTS_HELD`. -/
def countSlots (p : Nat) (s : State) : State := setN (Obj.SLOTS_HELD p) (port s p).slots.length s

/-! ### What a response says (R319–R327) -/

/-- Seconds of the NTP era of a second of MTS (R319). -/
def ntpSec (u : Int) : Nat := ((u + 2208988800) % 4294967296).toNat

/-- A stamp of 2⁻¹⁶ ns as an NTP timestamp, its fraction truncated (R319). -/
def ntpStamp (u : Int) (t : Nat) : Nat := ntpSec u * 4294967296 + t % sec96 * 4294967296 / sec96

/-- "Reference ID". -/
def refId (s : State) : Nat :=
  let r := getNat s Obj.ACTIVE_TIME_REF
  if r = 8 then 0x474E5353 else if r = 9 then 0x41544F4D else if r < 8 then 0x50505300
  else if r < 14 then 0x50545000 else 0x484F4C44

/-- LI of R320. -/
def ntpLi (s : State) : Nat :=
  let f := utcFlags s
  if f.testBit 0 ∨ f.testBit 2 then 1 else if f.testBit 1 then 2 else 0

/-- Stratum of a served response (R320). -/
def ntpStratum (s : State) : Nat := if getNat s Obj.BOUND_GRADE ≤ 1 then 1 else getNat s Obj.NTP_DEGRADED_STRATUM

/-- The module serves no NTP time now, whatever the response's pairs (R322). -/
def ntpUnserved (s : State) : Bool :=
  let g := getN s Obj.BOUND_GRADE
  decide (g = 4) || (decide (g = 3) && decide (getN s Obj.NTP_SERVE_EARLY = 0)) || !utcValidNow s

/-- Receive pair and transmit pair (R321, R90, R261). -/
def rxPair (s : State) (j : NtpRx) : Int := servedPair j.bound (getNat s (Obj.PORT_P j.port)) (getNat s (Obj.PORT_P j.port) + 233)
def txPair (s : State) (p l : Nat) (extra : Nat) : Int :=
  let b := getNat s (Obj.PORT_P p) + extra
  servedPair (if getN s (Obj.PORT_CAL_STATE p) = 1 then unbounded80 else sealedBound s l (l + oct48 s p)) b b

/-- Root Dispersion of the larger of four halves in ps (R97). -/
def rootDisp (b : Nat) : Nat := max 1 (cdiv (b * 16) 244140625)

/-- The Unique Identifier field of a request: its bytes, and its body. -/
def uidLen (r : NtpReq) : Option Nat := (r.ext.find? (fun e => e.typ = 0x0104)).map (·.len)
def uidOf (r : NtpReq) : Option (List Byte) :=
  (r.ext.find? (fun e => e.typ = 0x0104)).map (fun e => match e.body with | .uid b => b | _ => [])

/-- The response of a job for launch at l with T_w (R319–R327). `none` is silence (R322). -/
def ntpFill (s : State) (p : Nat) (j : NtpJob) (l : Nat) (tw : Nat × Nat) : Option NtpResp :=
  let rx := rxPair s j.rx
  let tx := txPair s p l 20
  let un := j.shut || ntpUnserved s || !boundFinite rx || !boundFinite tx
  let anchor := getNat s Obj.BOUND_ANCHOR_AT
  let base : NtpResp :=
    { li := 3, vn := j.rx.req.vn, stratum := 0, poll := j.rx.req.poll, disp := 4294967295, refId := 0x58424E44,
      ref := if getN s Obj.BOUND_ANCHOR_REF = 0xFF then 0 else ntpStamp (utcSecAt s (anchor / sec96)) anchor,
      org := j.rx.req.xmt, rcv := ntpStamp j.rx.utc j.rx.ts,
      xmt := ntpSec (utcSecAt s tw.1) * 4294967296 + tw.2 }
  let nts : NtpResp → NtpResp := fun r =>
    if j.nts then
      { r with
        uid := uidOf j.rx.req, cookies := j.sealed
        bound := if j.askBound then some ((if inLeap s then 1 else 0), getNat s Obj.BOUND_GRADE, getNat s Obj.TS_STATE, rx, tx) else none }
    else r
  if j.form = 1 then some { base with refId := 0x52415445 }
  else if j.form = 2 then some { base with refId := 0x4E54534E, uid := uidOf j.rx.req }
  else if un then (if getN s Obj.NTP_UNSERVED_POLICY = 0 then none else some (nts base))
  else
    let b := max (max (boundM rx) (boundP rx)) (max (boundM tx) (boundP tx))
    some (nts { base with li := ntpLi s, stratum := ntpStratum s, disp := rootDisp b, refId := refId s })

/-- Bytes of the response's extension fields (R326). -/
def respExt (j : NtpJob) : Nat :=
  let uid := (uidLen j.rx.req).getD 0
  if j.form = 2 then uid
  else if j.nts then uid + (4 + 4 + 16 + ((16 + j.cookies * 108 + (if j.askBound then 28 else 0)) + 3) / 4 * 4) else 0

/-- Length of the response's frame. -/
def respLen (j : NtpJob) : Nat :=
  let f := j.rx.frame
  14 + 4 * f.tags.length + (if (f.ip.map (·.v6)).getD false then 40 else 20) + 8 + 48 + respExt j + 4

/-- The frame of an answer from a service address to a request's source (R322). -/
def answerFrame (s : State) (svc : Nat) (f : Frame) (sport dport : Nat) (body : Body) : Frame :=
  { f with
    dst := f.src, src := svcMac s svc, body := body
    ip := f.ip.map (fun h => { h with src := h.dst, dst := h.src, udp := some (sport, dport), csum := if h.v6 then 1 else 0 }) }

/-- What a response's decision counts, once (R316, R322, R327). -/
def countResp (p : Nat) (j : NtpJob) (r : NtpResp) (s : State) : State :=
  let s1 := if r.bound.isSome then bump (Obj.BOUND_FIELD_TX p) s else s
  if j.form ≠ 0 then s1
  else if r.refId = 0x58424E44 then bump (Obj.KOD_XBND p) s1
  else if j.nts then bump (Obj.NTS_SERVED p) s1 else bump (Obj.NTP_SERVED p) s1

/-! ### The choice of L (R257–R260) -/

/-- The wire-free instant that the port reports (R221), in 2⁻⁴⁸ ns of MTS. -/
def wireFree (s : State) (p : Nat) : Nat :=
  match (port s p).tx with
  | some t => s.ts.mts + ps48 (t.freeAt - psNow s)
  | none => s.ts.mts + ps48 ((port s p).free - psNow s)

/-- The end of a pause in force on the queue, as an instant of MTS. -/
def pauseEnd (s : State) (p q : Nat) : Nat := s.ts.mts + ps48 ((port s p).paused.getD q 0 - psNow s)

/-- Bits of a period of a port's code stream: an even code-group position, a 64b/66b block, a Clause 74 block, a Clause 108 codeword (R256). -/
def gridPeriod (mode fec : Nat) : Nat :=
  match mode with
  | 1 | 2 => 20
  | 3 => 66
  | _ => match fec with | 0 => 66 | 1 => 2112 | _ => 5280

/-- The bits of period n at which an SFD can start (R256): lanes 0 and 4 of each block, after the sync header or the transcoding bit; 32
blocks of 65 bits before the parity of a Clause 74 block; 20 groups of four blocks before the parity of a Clause 108 codeword, whose first
group is the alignment markers in one codeword of 1,024. -/
def gridSlots (mode fec n : Nat) : List Nat :=
  match mode with
  | 1 | 2 => [0]
  | 3 => [2, 34]
  | _ => match fec with
    | 0 => [2, 34]
    | 1 => (List.range 32).flatMap (fun i => [65 * i + 1, 65 * i + 33])
    | _ => ((List.range 20).filter (fun g => g ≠ 0 ∨ n % 1024 ≠ 0)).flatMap (fun g =>
        (List.range 4).flatMap (fun j => [257 * g + 1 + 64 * j, 257 * g + 33 + 64 * j]))

/-- The first bit from b on at which an SFD can start. -/
def nextBit (mode fec b : Nat) : Nat :=
  let w := gridPeriod mode fec
  match (gridSlots mode fec (b / w)).find? (fun x => decide (b % w ≤ x)) with
  | some x => b / w * w + x
  | none => (b / w + 1) * w + ((gridSlots mode fec (b / w + 1)).head?).getD 0

/-- 1/64 UI of a port's transmit clock in 2⁻⁴⁸ ns of MTS, as a fraction: the clock runs at the rate of DPLL1, MTS at its increment (R38,
R169). -/
def lineUi (s : State) (p : Nat) : Nat × Nat :=
  let u := ui64 (port s p).mode
  let rate := (s.synth.dplls.getD 1 { id := 1, mode := 2 }).rate
  (u.1 * 4294967296 * s.ts.incr * ((ten 15 : Int) + getN s Obj.XO_FREQ_COMP).toNat * ten 18,
    u.2 * (5 * ns48) * ten 15 * ((ten 18 : Int) + rate).toNat)

/-- Where the layout stands (R256): an instant of MTS at the reference plane, by the last strobe and the egress offsets of R209, and the place
of the serialiser in it then, in 1/64 UI. -/
def gridAnchor (s : State) (p : Nat) : Int × Nat :=
  let x := port s p
  let r := replica s (16 + p)
  ((of96 r.strobeAt : Int) + txOffset s p * 4294967296,
    Config.serialPhase p x.linkSeq r.lastStrobe % (64 * 1024 * gridPeriod x.mode x.fec))

/-- The grid point of a bit of the layout, predicted to 2⁻¹⁶ ns, upwards. -/
def gridInstant (s : State) (p b : Nat) : Nat :=
  let a := gridAnchor s p
  let u := lineUi s p
  of96 (cdiv (a.1 + (cdiv ((64 * b - a.2) * u.1) u.2 : Nat)).toNat 4294967296)

/-- The bit of the first grid point at or after an instant of MTS. -/
def gridFrom (s : State) (p e : Nat) : Nat :=
  let x := port s p
  let a := gridAnchor s p
  let u := lineUi s p
  nextBit x.mode x.fec (cdiv (a.2 + cdiv (((e : Int) - a.1).toNat * u.2) u.1) 64)

/-- The launch instant of a PTP frame or transit copy: the first grid point at or after E (R258). -/
def gridPoint (s : State) (p e : Nat) : Nat := gridInstant s p (gridFrom s p e)

/-- Octets that the stream carries from one SFD position to the next. -/
def slotOctets (mode : Nat) : Nat := match mode with | 1 | 2 => 2 | _ => 4

def slotsOn (mode fec : Nat) : Nat → Nat → Nat
  | 0, b => b
  | n + 1, b => slotsOn mode fec n (nextBit mode fec (b + 1))

/-- The term a of R221 for n octets from an instant of MTS on, in 2⁻⁴⁸ ns: by how much markers, parity and block-start alignment put the position
after them beyond n × b. -/
def termA (s : State) (p i n : Nat) : Nat :=
  let x := port s p
  gridInstant s p (slotsOn x.mode x.fec (cdiv n (slotOctets x.mode)) (gridFrom s p i)) - (i + n * oct48 s p)

/-- E of R257 for the choice instant c. -/
def earliestL (s : State) (p : Nat) (sf : SillFrame) (c : Nat) : Nat :=
  let x := port s p
  let b := oct48 s p
  let e1 := c + getNat s (Obj.LEAD_NOW p) * ns48
  let e2 := wireFree s p + 7 * b
  let e3 := match x.slots.getLast? with
    | some q => q.l + (q.sf.len + 20) * b + termA s p q.l (q.sf.len + 20)
    | none => 0
  let e4 := if getN s (Obj.SILL_PAUSE_MODE p) = 0 ∧ queuePaused s p sf.queue then pauseEnd s p sf.queue + 7 * b else 0
  max (max e1 e2) (max e3 e4)

/-- 2⁻³² s in 2⁻⁴⁸ ns. -/
def ntpUnit : Nat := 65536000000000

/-- From a grid point on, the first one whose L + b lies within 20 ps of an NTP instant: L and the number of that instant. -/
def latticeFrom (s : State) (p last : Nat) : Nat → Nat → Option (Nat × Nat)
  | 0, _ => none
  | n + 1, b =>
    let l := gridInstant s p b
    let t := l + oct48 s p
    let k := (t + ntpUnit / 2) / ntpUnit
    if ((t : Int) - (k * ntpUnit : Nat)).natAbs * 1000 ≤ 20 * ns48 then some (l, k)
    else if last < l then none
    else latticeFrom s p last n (nextBit (port s p).mode (port s p).fec (b + 1))

/-- The launch instant of an NTP response with its T_w: the first grid point at or after E whose L + b lies within 20 ps of an NTP instant.
R258 guarantees one within 1 µs, where the 1,000 points searched end at the latest. -/
def latticePoint (s : State) (p e : Nat) : Nat × Nat × Nat :=
  let b := gridFrom s p e
  let q := (latticeFrom s p (e + us48) 1000 b).getD
    (gridInstant s p b, (gridInstant s p b + oct48 s p + ntpUnit / 2) / ntpUnit)
  (q.1, q.2 / 4294967296, q.2 % 4294967296)

/-- Residence time of a copy that leaves with egress stamp te (R251). -/
def residence (s : State) (tIn : Nat) (stepIn : Int) (te : Nat) : Int :=
  (te : Int) - (tIn : Int) - (s.bound.stepTotal - stepIn) / 4294967296

/-- A correctionField after an addition (R251). -/
def addCorr (c r : Int) : Int :=
  if c = 0x7FFFFFFFFFFFFFFF ∨ 0x7FFFFFFFFFFFFFFF < c + r then 0x7FFFFFFFFFFFFFFF else c + r

/-- The bound TLV of a served pair (R289). -/
def boundTlv (s : State) (scope : Bool) (pair : Int) : BoundTlv :=
  { version := 1, scope := scope, unb := !boundFinite pair, m := boundM pair, p := boundP pair,
    grade := getNat s Obj.BOUND_GRADE, ts := getNat s Obj.TS_STATE }

/-- Write a PTP event message for the egress stamp te (R279, R280, R260): a Sync, or a Pdelay_Resp that answers a request of ingress
stamp tReq. -/
def writePtp (m : PtpMsg) (corr0 : Int) (tReq te : Nat) : PtpMsg :=
  if m.typ = 0 then { m with ts := te / 65536 * 65536, corr := corr0 + (te % 65536 : Nat) }
  else if m.typ = 3 then { m with ts := 0, corr := corr0 + (te : Int) - (tReq : Int) }
  else m

def mapPtp (f : PtpMsg → PtpMsg) (fr : Frame) : Frame :=
  match fr.body with | .ptp m => { fr with body := .ptp (f m) } | _ => fr

/-- Rewrite a PTP message in transit: its UDP checksum follows (R251). -/
def rewritePtp (f : PtpMsg → PtpMsg) (fr : Frame) : Frame :=
  match fr.body with
  | .ptp m =>
    { fr with body := .ptp (f m), ip := fr.ip.map (fun h => { h with csum := csumUpdate h.v6 h.csum (ptpBytes m) (ptpBytes (f m)) }) }
  | _ => fr

def ptpOf (fr : Frame) : Option PtpMsg := match fr.body with | .ptp m => some m | _ => none

/-- One more message under an SA (R292): its sequenceNo, or `none` where the count is exhausted. -/
def nextSeq (a : Nat) (s : State) : Option Nat × State :=
  let n := getNat s (Obj.SA_TX_SEQ a)
  if 0xFFFFFFFF ≤ n then (none, raise (0x1800 + a) 1 {} (bump (Obj.SEQNO_EXHAUSTED a) s))
  else (some (n + 1), setN (Obj.SA_TX_SEQ a) (n + 1) s)

/-- The AUTHENTICATION TLV as sent, but for its ICV. -/
def authTlv (s : State) (a seq : Nat) : AuthTlv :=
  { spp := getNat s (Obj.SA_SPP a), keyId := getNat s (Obj.SA_KEY_ID a), seq := some seq }

/-- The key slot that a keyID names: the current key, or the previous one within its overlap (R295). -/
def saSlot (s : State) (a keyId : Nat) : Option Nat :=
  if getNat s (Obj.SA_KEY_ID a) = keyId then some (getNat s (Obj.SA_KEY_SLOT a))
  else match (s.ptp.sas.getD a { id := a }).prev with
    | some (slot, id, till) => if id = keyId ∧ s.now < till then some slot else none
    | none => none

/-- The ICV of a message under an SA, by the key that its keyID names (R292): the first 16 bytes of the HMAC, or the GMAC with
clockIdentity and sequenceNo as its IV. -/
def icvOf (s : State) (a : Nat) (m : PtpMsg) : List Byte :=
  let key := (((m.auth.bind (fun t => saSlot s a t.keyId)).bind (slotOf s)).map (·.material)).getD 0
  if getN s (Obj.SA_ALG a) = 1 then (Config.hmac256 key (ptpCovered m)).take 16
  else Config.gmac key (m.src.take 8 ++ be 4 ((m.auth.bind (·.seq)).getD 0)) (ptpCovered m)

/-- The message with the ICV of its present content. -/
def withIcv (s : State) (a : Nat) (m : PtpMsg) : PtpMsg := { m with auth := m.auth.map (fun t => { t with icv := icvOf s a m }) }

/-- messageLength of a message the module sends: its fixed part, bound TLV (24), AUTHENTICATION TLV (30), Follow_Up information TLV (32),
negotiation TLVs (12 each at most). -/
def ptpLen (m : PtpMsg) : Nat :=
  let base := match m.typ with | 2 | 3 | 9 | 10 => 54 | 11 => 64 | _ => 44
  base + (if m.bound.isSome then 24 else 0) + (if m.auth.isSome then 30 else 0) + (if m.info.isSome then 32 else 0) +
    (m.uc.map (fun u => match u with | .request _ _ _ => 10 | .grant _ _ _ => 12 | _ => 6)).sum

def sized (m : PtpMsg) : PtpMsg := { m with len := ptpLen m, present := ptpLen m }

/-- The message as sealed under an SA with a sequenceNo (R292). -/
def sealAs (s : State) (a seq : Nat) (m : PtpMsg) : PtpMsg := withIcv s a (sized { m with auth := some (authTlv s a seq) })

/-- The operation that the block starts next: of the first class that has one waiting, the oldest (R25). -/
def nextOp (l : List CryptoOp) : Option CryptoOp :=
  (List.range 3).findSome? (fun c => l.find? (fun o => o.cls = c && !o.started))

/-- Start waiting operations while a lane has room: each AES lane interleaves 64 (R25, R335). -/
def startOps (lanes : Nat) : Nat → List CryptoOp → List CryptoOp
  | 0, l => l
  | n + 1, l =>
    if 64 * lanes ≤ l.countP (·.started) then l
    else match nextOp l with
      | some o => startOps lanes n (l.map (fun x => if x.tag = o.tag then { x with started := true } else x))
      | none => l

def serveOps (s : State) : State :=
  { s with crypto := { s.crypto with ops := startOps s.crypto.lanes s.crypto.ops.length s.crypto.ops } }

/-- Issue an operation to the crypto block (R25). -/
def issue (cls : Nat) (k : CryptoKind) (s : State) : State :=
  serveOps { s with crypto :=
    { s.crypto with ops := s.crypto.ops ++ [{ tag := s.crypto.next, cls := cls, kind := k }], next := s.crypto.next + 1 } }

/-- A frame becomes READY (R262, R335). -/
def makeReady (p num : Nat) (s : State) : State :=
  match (port s p).slots.find? (fun q => q.num = num) with
  | none => s
  | some q =>
    releaseJob q.sf (setPort p (fun x =>
      { x with slots := x.slots.map (fun y => if y.num = num then { y with ready := some s.ts.mts } else y) }) s)

/-- The frame as written for L, before its seal (R260). -/
def writeFor (s : State) (p l : Nat) (sf : SillFrame) (seq : Option Nat) : Frame :=
  let te := t96Of (l + oct48 s p)
  let au (m : PtpMsg) : PtpMsg := match sf.sa, seq with
    | some a, some n => sealAs s a n m
    | _, _ => m
  if sf.kind = 2 then
    rewritePtp (fun m => withIcv s (sf.sa.getD 0) { m with corr := addCorr sf.corr0 (residence s sf.tIn sf.stepIn te) }) sf.frame
  else
    mapPtp (fun m =>
      let m1 := writePtp m sf.corr0 sf.tIn te
      au (if m1.bound.isSome then { m1 with bound := some (boundTlv s true (txPair s p l 0)) } else m1)) sf.frame

/-- Slots that no other frame may take: those held, and those that a re-sealed frame keeps while it waits for a step tick (R262). -/
def slotsTaken (s : State) (p : Nat) : List Nat := (port s p).slots.map (·.num) ++ (port s p).sillStep.filterMap (·.2)

/-- Lowest free slot number. -/
def freeSlot (s : State) (p : Nat) : Nat := ((List.range 64).find? (fun n => !(slotsTaken s p).contains n)).getD 0

/-- Whether the frame must wait for an announced step (R259). -/
def afterStep (s : State) (t : Nat) : Bool := match s.ts.step with | some st => decide (st.atI < t) | none => false

/-- Choose L at the choice instant c = now, write the frame, reserve a slot and issue the seal (R257–R260). A frame that a step
keeps waiting goes to the port's list of R259. -/
def chooseL (p : Nat) (sf : SillFrame) (num : Option Nat) (s : State) : State :=
  let c := s.ts.mts
  let e := earliestL s p sf c
  if sf.sealing ∧ sf.kind = 0 ∧ drbgDown s then releaseJob sf (starved s) else
  let lt : Nat × Nat × Nat := if sf.kind = 0 then latticePoint s p e else (gridPoint s p e, 0, 0)
  if afterStep s lt.1 then setPort p (fun x => { x with sillStep := x.sillStep ++ [(sf, num)] }) s
  else
    let job : Option (NtpJob × Option NtpResp) := sf.ntp.map (fun j => (j, ntpFill s p j lt.1 lt.2))
    match job with
    | some (_, none) => releaseJob sf (bump (Obj.UNSERVED_DROP p) s)
    | _ =>
      let sq : Option Nat × State := match sf.sa with
        | some a => if sf.kind = 1 then nextSeq a s else (some 0, s)
        | none => (some 0, s)
      match sq.1 with
      | none => sq.2
      | some n =>
        let s1 := match job with
          | some (j, some r) => if sf.attempt = 0 then countResp p j r sq.2 else sq.2
          | _ => sq.2
        let d : Nat × State := if sf.sealing ∧ sf.kind = 0 then draw s1 else (0, s1)
        let fr := match job with
          | some (j, some r) =>
            answerFrame s j.rx.svc sf.frame 123 ((sf.frame.ip.bind (·.udp)).map (·.1) |>.getD 0)
              (.ntp (if sf.sealing then sealNts j.s2c (be 16 d.1) r else r))
          | _ => writeFor s p lt.1 sf (some n)
        let q : Slot :=
          { num := num.getD (freeSlot s p), sf := sf, l := lt.1, c := c, tw := lt.2, txOfs := txOffset s p }
        let q1 := { q with sf := { sf with launch := some fr } }
        let s2 := countSlots p (setPort p (fun x => { x with slots := x.slots ++ [q1] }) d.2)
        if sf.sealing then issue 0 (.sealSlot p q.num) s2 else makeReady p q.num s2

/-- A frame for the Sill arrives at its choice instant (R262). -/
def toSill (p : Nat) (sf : SillFrame) (s : State) : State :=
  if linkCond s p then releaseJob sf (bump (Obj.SLOT_WAIT_DROP p) s)
  else if 64 ≤ (slotsTaken s p).length ∨ !(port s p).sillWait.isEmpty then
    bump (Obj.SLOT_FULL p) (setPort p (fun x => { x with sillWait := x.sillWait ++ [sf] }) s)
  else chooseL p sf none s

/-- Slots that became free take the frames that wait, in arrival order (R262). -/
def serveWait : Nat → Nat → State → State
  | 0, _, s => s
  | n + 1, p, s =>
    match (port s p).sillWait with
    | sf :: r =>
      if (slotsTaken s p).length < 64 then serveWait n p (chooseL p sf none (setPort p (fun x => { x with sillWait := r }) s)) else s
    | [] => s

/-- A frame that waited for a step tick: L is chosen now, in its own slot where it has kept one; without a free slot it waits again, in order. -/
def sillAgain (p : Nat) (x : SillFrame × Option Nat) (s : State) : State :=
  match x.2 with
  | some n => chooseL p x.1 (some n) s
  | none => toSill p x.1 s

/-- Frames that waited for a step tick choose their L, in the order of their first choice instants and ahead of every later frame (R259). -/
def sillStepped (p : Nat) (s : State) : State :=
  let x := port s p
  let l := x.sillStep
  if l.isEmpty then s
  else
    let kept := l.filter (·.2.isSome)
    let s1 := setPort p (fun y => { y with sillStep := kept, sillWait := [] }) s
    let s2 := l.foldl (fun a q => sillAgain p q (setPort p (fun y => { y with sillStep := y.sillStep.erase q }) a)) s1
    setPort p (fun y => { y with sillWait := y.sillWait ++ x.sillWait }) s2

/-- The frames of every port that waited for a step tick. -/
def sillReleased (s : State) : State := (List.range (nPorts s.variant)).foldl (fun a p => sillStepped p a) s

/-- Free a slot. -/
def freeSlotNum (p num : Nat) (s : State) : State :=
  countSlots p (setPort p (fun x => { x with slots := x.slots.filter (fun q => q.num ≠ num) })
    { s with crypto := { s.crypto with ops := s.crypto.ops.filter (fun o => o.kind ≠ .sealSlot p num) } })

/-- Frames that wait for a slot are dropped while a LINK condition holds (R262). -/
def dropWaiting (p : Nat) (s : State) : State :=
  let x := port s p
  let l := x.sillWait ++ x.sillStep.map (·.1)
  l.foldl (fun a sf => releaseJob sf a)
    (bumpBy (Obj.SLOT_WAIT_DROP p) l.length (setPort p (fun y => { y with sillWait := [], sillStep := [] }) s))

/-! ### Late frames (R264–R268) -/

/-- "Late reasons", in order. -/
inductive Late where
  | link | replica | step | incr | pause | seal
  deriving DecidableEq, Repr

def Late.counter (p : Nat) : Late → Nat
  | .link => Obj.LATE_LINK p | .replica => Obj.LATE_REPLICA p | .step => Obj.LATE_STEP p
  | .incr => Obj.LATE_INCR p | .pause => Obj.LATE_PAUSE p | .seal => Obj.LATE_SEAL p

/-- Owner's policy for a frame's kind is RESEAL (R267). -/
def resealPolicy (s : State) (kind : Nat) : Bool :=
  getN s (match kind with | 0 => Obj.LATE_POLICY_NTP | 1 => Obj.LATE_POLICY_PTP | _ => Obj.LATE_POLICY_TC) = 1

/-- `LEAD_MAX` in force (R265). -/
def leadMax (s : State) (p : Nat) : Nat := (getF s (Obj.LEAD_MAX p)).toNat

/-- A late SEAL raises the lead (R264). -/
def leadUp (p : Nat) (s : State) : State :=
  if getN s (Obj.LEAD_ADAPT p) = 0 then s
  else
    let l := getNat s (Obj.LEAD_NOW p)
    let m := leadMax s p
    let s1 := if m ≤ l then raise (sealFault p) 1 { detail := l } s else s
    setN (Obj.LEAD_NOW p) (min m (l + max 1000 (l / 4))) s1

/-- A step tick announced after c lies in (c, L] (R266): after one announced before c the engine chooses no L (R259). -/
def stepLater (st : PendingStep) (q : Slot) : Bool :=
  decide (q.c < st.atI) && (decide (st.atI < q.l) || (decide (st.atI = q.l) && decide (q.c < st.told)))

/-- The first reason that holds for a slot (R266); SEAL counts at the ready deadline only. -/
def lateReason (s : State) (p : Nat) (q : Slot) (deadline : Bool) : Option Late :=
  if linkCond s p then some .link
  else if !replicaFresh s (16 + p) then some .replica
  else if q.stepped || (match s.ts.step with | some st => stepLater st q | none => false) then some .step
  else if q.incred then some .incr
  else if getN s (Obj.SILL_PAUSE_MODE p) = 0 ∧ queuePaused s p q.sf.queue ∧ q.l < pauseEnd s p q.sf.queue then some .pause
  else if deadline ∧ q.ready.isNone then some .seal
  else none

/-- An instant before or at L, as MTS reads it after the steps since c (R266). -/
def slotAt (q : Slot) (back : Nat) : Nat := ((q.l : Int) + q.shift - back).toNat

/-- What becomes of a late frame (R267): the wire stays idle for the guard time of its L; the frame is dropped, or sealed again in its slot. -/
def lateSlot (p : Nat) (q : Slot) (r : Late) (s0 : State) : State :=
  let s := setPort p (fun x => { x with guardL := slotAt q 0 :: x.guardL.filter (fun l => decide (s0.ts.mts < l)) }) s0
  let s1 := freeSlotNum p q.num (bump (r.counter p) s)
  let s2 := if r = .seal then leadUp p (setPort p (fun x => { x with winLate := true }) s1) else s1
  if resealPolicy s q.sf.kind ∧ r ≠ .link ∧ q.sf.attempt < 2 then
    chooseL p { q.sf with attempt := q.sf.attempt + 1, launch := none } (some q.num) (bump (Obj.RESEALED p) s2)
  else serveWait 64 p (releaseJob q.sf (bump (Obj.LATE_DROP p) s2))

/-- A slot whose ready deadline or preamble has come is tested (R263, R266). -/
def testSlot (p : Nat) (q : Slot) (deadline : Bool) (s : State) : State :=
  match lateReason s p q deadline with
  | some r => lateSlot p q r s
  | none => s

/-- End a launch on the wire where a test of its L + b holds (R268): stomped, and late with reason REPLICA. -/
def abortIf (t : Nat → Bool) (p : Nat) (s0 : State) : State :=
  let s := finishTx p s0
  match (port s p).slots.find? (fun q => q.started) with
  | some q =>
    if t (q.l + oct48 s p) then lateSlot p q .replica (stompTx p (bump (Obj.LAUNCH_ABORT p) s)) else s
  | none => s

/-- The replica goes stale before L + b (R268). -/
def abortLaunch (p : Nat) (s : State) : State := abortIf (fun i => decide (s.ts.mts < i)) p s

/-- R20 marks a strobe interval, which began at an instant, while a frame whose L + b it contains is still being sent (R268). -/
def abortMarked (p since : Nat) (s : State) : State :=
  abortIf (fun i => decide (since ≤ i) && decide (i ≤ s.ts.mts)) p s

end Sys2Proof.Machine
end

