-- ==== Sys2Proof/Machine/SynthOps.lean ====
section
/-! DEFINITION. Machine/SynthOps.lean: the shared operations of the synthesis block (R156–R182). -/
namespace Sys2Proof.Machine

def setSynth (f : Synth → Synth) (s : State) : State := { s with synth := f s.synth }
def dpll (s : State) (n : Nat) : Dpll := s.synth.dplls.getD n { id := n, mode := 0 }
def setDpll (n : Nat) (f : Dpll → Dpll) (s : State) : State := setSynth (fun x => { x with dplls := modAt n f x.dplls }) s
def apll (s : State) (n : Nat) : Apll := s.synth.aplls.getD n { id := n }
def setApll (n : Nat) (f : Apll → Apll) (s : State) : State := setSynth (fun x => { x with aplls := modAt n f x.aplls }) s
def clkOut (s : State) (c : Nat) : ClkOut := s.synth.clks.getD c { id := c }
def setClk (c : Nat) (f : ClkOut → ClkOut) (s : State) : State := setSynth (fun x => { x with clks := modAt c f x.clks }) s
def pps (s : State) (n : Nat) : Pps := s.synth.pps.getD n { id := n }
def setPps (n : Nat) (f : Pps → Pps) (s : State) : State := setSynth (fun x => { x with pps := modAt n f x.pps }) s
def pg (s : State) (g : Nat) : Pg := s.synth.pgs.getD g { id := g }
def setPg (g : Nat) (f : Pg → Pg) (s : State) : State := setSynth (fun x => { x with pgs := modAt g f x.pgs }) s
def tod (s : State) (t : Nat) : TodOut := s.synth.tods.getD t { id := t }
def setTod (t : Nat) (f : TodOut → TodOut) (s : State) : State := setSynth (fun x => { x with tods := modAt t f x.tods }) s

/-! ### Digital PLLs -/

/-- Bandwidth of R157 and R159 in µHz: DPLL1 is at most 50 mHz with `EEC_TYPE` 1 or 3, and meets the 0.1 Hz maximum of option 2. -/
def dpllBandwidth (s : State) (n : Nat) : Nat :=
  let b := (getF s (Obj.DPLL_BANDWIDTH n)).toNat
  let b1 := if n = 1 then min b (if getF s Obj.EEC_TYPE = 2 then 100000 else 50000) else b
  let r := activeFreq s
  if r = 0xFF then b1 else min b1 (50000000 / max (getNat s (Obj.REF_INTERVAL r)) 1)

/-- Gain per millisecond, in 2⁻⁶⁴, of a first-order low-pass filter of a bandwidth in µHz (R157). With a = 2π × bandwidth × 1 ms it lies from
a ÷ (1 + a), the implicit form, to a, the explicit one; the exact response 1 − e⁻ᵃ lies between them. -/
def lowPass (bw : Nat) : Nat :=
  let hi := 2 * 3141592653589793238462643383279 * bw * 2 ^ 64 / ten 39
  let lo := hi * 2 ^ 64 / (2 ^ 64 + hi)
  lo + Config.lowPassGain bw % (hi - lo + 1)

/-- Fractional rate of MTS against the compensated crystal, in 10⁻¹⁸. -/
def mtsRate (s : State) : Int × State :=
  nearFree (((s.ts.incr : Int) * ((ten 15 : Int) + getN s Obj.XO_FREQ_COMP) - 5 * ns48 * (ten 15 : Int)) * 1000) (5 * ns48) s

/-- Target rate in 10⁻¹⁸ and the filter's new output (R156, R157, R160). -/
def dpllTarget (n : Nat) (s : State) : Int × Option Int × State :=
  let d := dpll s n
  match d.mode with
  | 2 =>
    if activeFreq s = 0xFF then (0, none, s)
    else
      let x := getN s (Obj.REF_FREQ (activeFreq s)) * 1000
      let y := d.filt.getD d.rate
      let r := divFree ((x - y) * (lowPass (dpllBandwidth s n) : Nat)) (2 ^ 64) s
      (y + r.1, some (y + r.1), r.2)
  | 3 => let r := mtsRate s; (r.1, none, r.2)
  | _ => (0, none, s)

/-- A written mode takes effect at the boundary (R156); entry into MTS mode opens a phase error that no rule states (R160). -/
def applyDpllMode (n : Nat) (s : State) : State :=
  let m := getNat s (Obj.DPLL_MODE n)
  if m = (dpll s n).mode then s
  else
    let s1 := setDpll n (fun d => { d with mode := m, switching := true, filt := none }) s
    if m = 3 then
      setDpll n (fun d => { d with phase := ((Config.freeNat s1.freeCtr % (20 * ns48) : Nat) : Int) - 10 * ns48 }) (nextFree s1)
    else s1

/-- Phase in 2⁻⁴⁸ ns that a rate in 10⁻¹⁸ gains over 1 ms. -/
def phaseOfRate (rate : Int) (s : State) : Int × State := divFree (rate * (ns48 : Int)) (ten 12) s

/-- Rate in 10⁻¹⁸ that closes a phase in 2⁻⁴⁸ ns over 1 ms, at most `DPLL_PHASE_SLOPE` (R160). -/
def closingRate (n : Nat) (phase : Int) (s : State) : Int × State :=
  let slope := getF s (Obj.DPLL_PHASE_SLOPE n) * (ten 9 : Int)
  let r := divFree (phase * (ten 12 : Int)) ns48 s
  (clampInt (-slope) slope r.1, r.2)

/-- The phase error reads above 1 ps (R160). -/
def phaseOpen (phase : Int) : Bool := decide (ns48 < phase.natAbs * 1000)

/-- One boundary of a DPLL (R156–R160). The rate followed and the rate that closes the phase together stay within the pull range; the phase
error at the next boundary follows from the rate of MTS and the rate so limited. -/
def dpllTick (n : Nat) (s : State) : State :=
  let s0 := applyDpllMode n s
  let d := dpll s0 n
  if d.mode = 0 then setN (Obj.DPLL_STATE n) 0 s0
  else
    let t := dpllTarget n s0
    let lim := getF t.2.2 (Obj.DPLL_PULL_RANGE n) * 1000000
    let goal := clampInt (-lim) lim t.1
    let rate := clampInt (-lim) lim (if d.switching then slewTo d.rate goal (getF t.2.2 Obj.FREQ_SWITCH_SLOPE) else goal)
    let c := if d.mode = 3 then closingRate n d.phase t.2.2 else (0, t.2.2)
    let total := clampInt (-lim) lim (rate + c.1)
    let g := if d.mode = 3 then phaseOfRate (t.1 - total) c.2 else (0, c.2)
    let next := if d.mode ≠ 3 ∨ (rate = t.1 ∧ total = rate + c.1 ∧ phaseOpen (d.phase + g.1) = false) then 0 else d.phase + g.1
    let sw := d.switching && decide (rate ≠ goal)
    let st : Int :=
      if goal ≠ t.1 ∧ sw = false then 5
      else if sw ∨ (d.mode = 3 ∧ phaseOpen d.phase) then 4
      else if d.mode = 1 then 1
      else if d.mode = 2 ∧ activeFreq s = 0xFF then 3
      else 2
    let s1 := setDpll n (fun x => { x with rate := rate, filt := t.2.1, switching := sw, phase := next }) g.2
    let s2 := if st = 5 ∧ getN s (Obj.DPLL_STATE n) ≠ 5 then bump (Obj.DPLL_CLAMP n) s1 else s1
    let f := nearFree total 1000 s2
    let e := divFree (if d.mode = 3 then d.phase else 0) 4294967296 f.2
    e.2 |> setN (Obj.DPLL_STATE n) st |> setN (Obj.DPLL_FREQ_NOW n) f.1 |> setN (Obj.DPLL_PHASE_ERR n) e.1

/-! ### Clock outputs -/

/-- APLL whose divider a CLK_SOURCE code names, with the divider's resource number (R165). -/
def clkDivider (code : Nat) : Option (Nat × Nat) :=
  if code = 0x10 ∨ code = 0x11 then some (0, code - 0x10)
  else if 0x20 ≤ code ∧ code < 0x24 then some (1, code - 0x20 + 2)
  else if 0x30 ≤ code ∧ code < 0x34 then some (2, code - 0x30 + 6)
  else if 0x40 ≤ code ∧ code < 0x44 then some (3, code - 0x40 + 10)
  else none

/-- DPLL that a code draws on directly. -/
def clkDirect (code : Nat) : Option Nat := if 0x80 ≤ code ∧ code < 0x84 then some (code - 0x80) else none

/-- DPLL behind a source; none for APLL0. -/
def clkDpll (code : Nat) : Option Nat :=
  match clkDirect code with
  | some n => some n
  | none => match clkDivider code with
    | some (0, _) => none
    | some (n, _) => some n
    | none => none

/-- The DPLLs on which an output draws directly: in force, and as written where an enable waits for its boundary (R165, R166, R182). -/
def clkTaps (s : State) (c : Nat) : List Nat :=
  ((if (clkOut s c).enabled then (clkDirect (clkOut s c).source).toList else []) ++
    (if getN s (Obj.CLK_ENABLE c) = 1 then (clkDirect (getNat s (Obj.CLK_SOURCE c))).toList else [])).dedup

/-- The squelch conditions of an output (R167). -/
def squelched (s : State) (c : Nat) : Bool :=
  let code := (clkOut s c).source
  let on := getNat s (Obj.CLK_SQUELCH_ON c)
  let a := match clkDivider code with | some (n, _) => decide (getN s (Obj.APLL_STATE n) ≠ 2) | none => false
  let d := match clkDpll code with
    | some n =>
      let st := getN s (Obj.DPLL_STATE n)
      decide ((dpll s n).mode = 0) || (on.testBit 0 && decide (st = 3)) || (on.testBit 1 && decide (st = 5))
    | none => false
  a || d || silentOutputs s || (decide (3 ≤ s.power.closed) && decide (getN s (Obj.CLK_S3_KEEP c) = 0))

/-- The state of an output, with the count at each start of a squelch (R165, R167). -/
def evalClk (c : Nat) (s : State) : State :=
  if (clkOut s c).enabled = false then setN (Obj.CLK_STATE c) 0 s
  else if squelched s c then
    (if getN s (Obj.CLK_STATE c) = 2 then s else bump (Obj.CLK_SQUELCHES c) (setN (Obj.CLK_STATE c) 2 s))
  else setN (Obj.CLK_STATE c) 1 s

def evalClks (s : State) : State := (List.range 12).foldl (fun a c => evalClk c a) s

/-- A written enable or disable takes effect at the boundary (R165); a disabled output holds no divider. -/
def applyClkEnable (c : Nat) (s : State) : State :=
  if getN s (Obj.CLK_ENABLE c) = 1 then
    setClk c (fun x =>
      { x with enabled := true, source := getNat s (Obj.CLK_SOURCE c),
               synced := x.synced && decide (x.source = getNat s (Obj.CLK_SOURCE c)) }) s
  else releaseAll 0x1104 3 c (setClk c (fun x => { x with enabled := false, source := 0xFF, synced := false }) s)

/-- The rising edge k of a second on an output in MTS mode, in 2⁻⁴⁸ ns of MTS: second + k ÷ f, late by what the phase error still lacks
(R160, R168). None where the output gives no edge, or none tied to MTS. -/
def clkEdge (s : State) (c sec k : Nat) : Option Int :=
  let f := getNat s (Obj.CLK_FREQ c)
  match clkDpll (clkOut s c).source with
  | some n =>
    if getN s (Obj.CLK_STATE c) = 1 ∧ (dpll s n).mode = 3 ∧ f % 1000000 = 0 ∧ f ≠ 0 ∧
      ((clkDirect (clkOut s c).source).isSome ∨ (clkOut s c).synced) then
      some (((sec * sec48 + k * sec48 / (f / 1000000) : Nat) : Int) + (dpll s n).phase)
    else none
  | none => none

/-! ### Analog PLLs -/

/-- Half cycles of a core per tick: 1.0 GHz, and 500 MHz for the time core; 200 MHz of the bypass clock while APLL2 is not LOCKED
(R164, R449). -/
def halfRate (s : State) (n : Nat) : Nat := if getN s (Obj.APLL_STATE 2) ≠ 2 then 2 else if n = 4 then 5 else 10

/-- Half cycles of a core up to now (R449). -/
def coreHalf (s : State) (u : CoreUnit) : Nat :=
  u.half + (match u.runFrom with | some t => (s.now - t) * halfRate s u.id | none => 0)

/-- An APLL takes a state; the cores' cycles so far are counted at the clock they had (R164). -/
def setApllState (n : Nat) (v : Int) (s : State) : State :=
  setN (Obj.APLL_STATE n) v
    { s with cores := { s.cores with units := s.cores.units.map (fun u => { u with half := coreHalf s u, runFrom := u.runFrom.map (fun _ => s.now) }) } }

/-- Begin a band search (R161, R162). -/
def startSearch (n : Nat) (s : State) : State :=
  setApllState n 0 (setApll n (fun a => { a with steps := 0, lo := 0, size := 64, good := 0, windows := 0 }) s)

/-! ### Pulse edges (R170–R177) -/

/-- Earliest and latest native second whose instant lies above a and at most at b, by the offset in force (2⁻⁴⁸ ns). -/
def lastNative (off : Int) (b : Nat) : Int := ((b : Int) - off * 4294967296) / (sec48 : Int)
def nativeAt (off : Int) (sec : Int) : Int := sec * (sec48 : Int) + off * 4294967296

/-- The PPSOUT a generator is routed to (R177). -/
def pgRouteOf (s : State) (g : Nat) : Option Nat :=
  match getNat s (Obj.PG_ROUTE g) with
  | 0 => none
  | n => some (n - 1)

/-- The served pair fixed at commit (R90, R170). -/
def edgePair (s : State) (atI : Nat) : Int :=
  let b := getNat s Obj.PPS_BUDGET
  servedPair (sealedBound s atI atI) b b

/-- What the sentences say of an instant (R178, R179): UTC and its flags as they are in force at that instant. -/
def sentenceOf (src edge : Nat) (omitted : Bool) (pair : Int) (s : State) : Sentence :=
  let sec := edge / sec48
  { edge := t96Of edge, omitted := omitted, pair := pair, source := src, utcOffset := utcOffsetAt s sec, utcFlags := utcFlagsAt s sec,
    tsState := getNat s Obj.TS_STATE, grade := getNat s Obj.BOUND_GRADE, timeRef := activeTime s, utcSec := utcSecAt s sec }

/-- A TODOUT describes a PPSOUT (R178, R182). -/
def todTaps (s : State) (t n : Nat) : Bool := decide (getN s (Obj.TOD_ENABLE t) = 1) && decide (getNat s (Obj.TOD_PPS t) = n)

/-- Schedule the sentences of a described instant (R178). `src` is bits 4 to 0 of SOURCE. -/
def describe (n src edge : Nat) (omitted : Bool) (pair : Int) (s : State) : State :=
  let x := sentenceOf src edge omitted pair s
  (List.range 2).foldl (fun a t => if todTaps a t n then setTod t (fun y => { y with due := y.due ++ [x] }) a else a) s

/-- Schedule the sentences of k instants that a forward step to `new` skips, the first at `at0` and one `per` apart (R176, R178). Of those
whose sentences should have begun by the step tick, the first begins then; the others find it being sent, and count in TOD_SKIPPED. -/
def describeSkipped (n src at0 per k new : Nat) (s : State) : State :=
  (List.range 2).foldl (fun a t =>
    if k ≠ 0 ∧ todTaps a t n then
      let gone := min k (if at0 + getNat a (Obj.TOD_DELAY t) * us48 ≤ new
        then (new - at0 - getNat a (Obj.TOD_DELAY t) * us48) / max per 1 + 1 else 0)
      let l := (if gone = 0 then [] else [at0]) ++ (List.range (k - gone)).map (fun i => at0 + (gone + i) * per)
      setTod t (fun y => { y with due := y.due ++ l.map (fun e => sentenceOf src e true unbounded80 a) })
        (bumpBy (Obj.TOD_SKIPPED t) ((gone - 1 : Nat) : Int) a)
    else a) s

/-- A missed native edge (R172, R176). -/
def ppsMiss (n : Nat) (atI : Nat) (s : State) : State :=
  describe n n atI true unbounded80 (bump (Obj.PPS_MISSED n) s)

/-- k missed instants of a generator, `per` apart, at a step to `new` (R176); the described PPSOUT is the routed one. -/
def pgMiss (g at0 per k new : Nat) (s : State) : State :=
  let s1 := bumpBy (Obj.PG_MISSED g) (k : Nat) s
  match pgRouteOf s g with
  | some n => describeSkipped n (16 + g) at0 per k new s1
  | none => s1

/-- A pending step that comes before an instant, which lies beyond the old value of the step tick: the edge waits until the step is applied
(R48, R53, R170). -/
def stepBefore (s : State) (atI : Nat) : Bool :=
  match s.ts.step with | some p => decide (tickReaching s p.atI < atI) | none => false

/-- Within 2 µs of an instant not yet passed (R170). -/
def commitDue (s : State) (atI : Nat) : Bool :=
  decide (atI ≤ s.ts.mts + 2 * us48) && decide (s.ts.mts ≤ atI) && !stepBefore s atI

/-- Fix an edge of a polarity and width (R170, R171, R173). -/
def makeEdge (s : State) (route : Option Nat) (pol : Int) (width atI : Nat) : Edge :=
  let sq := match route with
    | some n => decide (getN s (Obj.PPS_MAX_GRADE n) < getN s Obj.BOUND_GRADE) || silentOutputs s
    | none => false
  { atI := atI, route := route, squelched := sq, pair := edgePair s atI, rising := decide (pol = 0), width := width }

/-- The previous on-time edge of an output: the last one committed and not squelched, else the last emitted (R172). -/
def prevEdge (x : Pps) : Option Nat :=
  match (x.edges.filter (fun e => !e.squelched)).getLast? with
  | some e => some e.atI
  | none => x.lastEdge

/-- Count a squelched edge of its output (R173). -/
def countSquelch (e : Edge) (s : State) : State :=
  match e.route with
  | some n => if e.squelched then bump (Obj.PPS_SQUELCHED n) (setN (Obj.PPS_STATE n) 3 s) else s
  | none => s

/-- Commit the next native edge of PPSOUT n (R170, R172). -/
def commitNative (n : Nat) (s : State) : State :=
  let x := pps s n
  if x.enabled = false then s
  else
    let sec := lastNative x.offset (s.ts.mts + 2 * us48)
    let at0 := nativeAt x.offset sec
    let atI := at0.toNat
    let fresh := match x.lastAt with | some l => decide (l < atI) | none => true
    if at0 < 0 ∨ fresh = false ∨ commitDue s atI = false then s
    else
      let short := x.changed && (match prevEdge x with
        | some l => decide (atI < l + (getNat s (Obj.PPS_WIDTH n) + 100) * ns48)
        | none => false)
      let s1 := setPps n (fun y => { y with lastAt := some atI, changed := false }) s
      if short then ppsMiss n atI s1
      else
        let e := makeEdge s (some n) (getN s (Obj.PPS_POLARITY n)) (getNat s (Obj.PPS_WIDTH n)) atI
        countSquelch e (setPps n (fun y => { y with edges := y.edges ++ [e] }) s1)

/-- Instant k of a TIMED generator, in 2⁻⁴⁸ ns (R174). -/
def pgTimed (s : State) (g k : Nat) : Nat := of96 (getNat s (Obj.PG_START g) + k * getNat s (Obj.PG_PERIOD g))

/-- Publish `PG_NEXT`. -/
def pgPublish (g : Nat) (s : State) : State :=
  match (pg s g).due with
  | d :: _ => setN (Obj.PG_NEXT g) (t96Of d) s
  | [] => s

/-- A TIMED generator moves to instant k; after the last one nothing is due (R174). -/
def pgAdvance (g k : Nat) (s : State) : State :=
  let n := getNat s (Obj.PG_COUNT g)
  pgPublish g (setPg g (fun x => { x with k := k, due := if n ≠ 0 ∧ n ≤ k then [] else [pgTimed s g k] }) s)

/-- Commit the next edge of a generator (R170, R174, R175). -/
def commitPg (g : Nat) (s : State) : State :=
  let x := pg s g
  match x.due with
  | [] => s
  | d :: rest =>
    if commitDue s d = false then s
    else
      let e := makeEdge s (pgRouteOf s g) (getN s (Obj.PG_POLARITY g)) (getNat s (Obj.PG_WIDTH g)) d
      let s1 := countSquelch e (setPg g (fun y => { y with edges := y.edges ++ [e], due := rest }) s)
      if getN s (Obj.PG_MODE g) = 1 then
        pgAdvance g (x.k + 1) (if getN s (Obj.PG_STATE g) = 1 then setN (Obj.PG_STATE g) 2 s1 else s1)
      else pgPublish g s1

/-- Record an edge on a land (R171). -/
def recordEdge (n : Nat) (e : Edge) (s : State) : State :=
  emit (.ppsEdge n (t96Of e.atI) e.rising e.width) (s |> setN (Obj.PPS_LAST_EDGE n) (t96Of e.atI) |> setN (Obj.PPS_LAST_BOUND n) e.pair
    |> bump (Obj.PPS_EMITTED n))

/-- An edge does not show: it is squelched, or the lands hold the absent-state (R173, R494). -/
def edgeHidden (s : State) (e : Edge) : Bool := e.squelched || outputsAbsent s

/-- The native edge reaches its instant, with MTS at `m` (R171, R173). -/
def emitNative (n m : Nat) (s : State) : State :=
  match (pps s n).edges with
  | [] => s
  | e :: rest =>
    if m < e.atI then s
    else
      let s1 := setPps n (fun y => { y with edges := rest, lastEdge := if edgeHidden s e then y.lastEdge else some e.atI }) s
      let s2 := if edgeHidden s e then s1 else setN (Obj.PPS_STATE n) 1 (recordEdge n e s1)
      describe n n e.atI (edgeHidden s e) e.pair s2

/-- A generator's edge reaches its instant, with MTS at `m`; after the last one of a TIMED sequence it is DONE (R171, R174). -/
def emitPg (g m : Nat) (s : State) : State :=
  match (pg s g).edges with
  | [] => s
  | e :: rest =>
    if m < e.atI then s
    else
      let s1 := setPg g (fun y => { y with edges := rest }) s
      let s2 := if edgeHidden s e then s1 else bump (Obj.PG_EMITTED g) s1
      let s3 := match e.route with
        | some n =>
          describe n (16 + g) e.atI (edgeHidden s e) e.pair
            (if edgeHidden s e then s2 else setN (Obj.PPS_STATE n) 2 (recordEdge n e s2))
        | none => s2
      if getN s3 (Obj.PG_MODE g) = 1 ∧ (pg s3 g).due.isEmpty ∧ rest.isEmpty then setN (Obj.PG_STATE g) 4 s3 else s3

/-! ### ALIGNED generators (R175) -/

/-- Place the next output from an input edge. -/
def alignPlace (g ts : Nat) (s : State) : State :=
  let o : Int := (ts : Int) + getN s (Obj.PG_PERIOD g) + getN s (Obj.PG_ALIGN_OFFSET g)
  let at48 := of96 o.toNat
  pgPublish g (setN (Obj.PG_STATE g) 2 (setPg g (fun x =>
    { x with anchor := some ts, misses := 0, due := x.due ++ [at48], lastOut := at48 }) s))

/-- An accepted edge of a channel reaches a generator aligned to it. -/
def alignEdge (c ts : Nat) (s : State) : State :=
  (List.range 8).foldl (fun a g =>
    if getN a (Obj.PG_MODE g) ≠ 2 ∨ getNat a (Obj.PG_ALIGN_CH g) ≠ c then a
    else
      let p := getNat a (Obj.PG_PERIOD g)
      match getNat a (Obj.PG_STATE g), (pg a g).anchor with
      | 1, _ => alignPlace g ts a
      | 5, _ => alignPlace g ts a
      | 2, some t | 3, some t =>
        if 8 * t + 7 * p ≤ 8 * ts ∧ 8 * ts ≤ 8 * t + 9 * p then alignPlace g ts a else bump (Obj.ALIGN_STRAY g) a
      | _, _ => a) s

/-- A window closes empty: flywheel, or ALIGN_LOST after `PG_ALIGN_HOLD` in a row. -/
def alignMiss (g : Nat) (s : State) : State :=
  let x := pg s g
  let p := getNat s (Obj.PG_PERIOD g)
  match x.anchor with
  | none => s
  | some t =>
    if (getN s (Obj.PG_STATE g) = 2 ∨ getN s (Obj.PG_STATE g) = 3) ∧ 8 * of96 t + 9 * of96 p < 8 * s.ts.mts then
      let s1 := bump (Obj.ALIGN_MISS g) s
      let n := x.misses + 1
      if getNat s (Obj.PG_ALIGN_HOLD g) ≤ n then
        setN (Obj.PG_STATE g) 5 (setPg g (fun y => { y with misses := n, due := [], anchor := none }) s1)
      else
        let at48 := x.lastOut + of96 p
        pgPublish g (setN (Obj.PG_STATE g) 3 (setPg g (fun y =>
          { y with misses := n, anchor := some (t + p), due := y.due ++ [at48], lastOut := at48 }) s1))
    else s

/-! ### Steps (R53, R54, R176) -/

/-- Instants of a PPSOUT that a forward step from the step tick `atI` to `new` skips: every one not committed (R53, R172, R176). -/
def skipNative (n atI new : Nat) (s : State) : State :=
  let x := pps s n
  if x.enabled = false then s
  else
    let hi := lastNative x.offset new
    let from0 := lastNative x.offset (atI - 1)
    let lo := max from0 ((x.lastAt.map (lastNative x.offset)).getD from0)
    let k := (hi - lo).toNat
    if k = 0 then s
    else
      let s1 := setPps n (fun y => { y with lastAt := some (nativeAt x.offset hi).toNat, changed := false }) s
      describeSkipped n n (nativeAt x.offset (lo + 1)).toNat sec48 k new (bumpBy (Obj.PPS_MISSED n) k s1)

/-- Instants of a generator that a forward step skips: a TIMED one counts them toward `PG_COUNT` (R176). -/
def skipPg (g new : Nat) (s : State) : State :=
  let x := pg s g
  if getN s (Obj.PG_MODE g) = 1 then
    match x.due with
    | [] => s
    | d :: _ =>
      if new < d then s
      else
        let p := max (of96 (getNat s (Obj.PG_PERIOD g))) 1
        let skipped := (new - d) / p + 1
        let cnt := getNat s (Obj.PG_COUNT g)
        let k := if cnt = 0 then skipped else min skipped (cnt - x.k)
        let s1 := pgAdvance g (x.k + k) (pgMiss g d p k new s)
        if (pg s1 g).due.isEmpty ∧ x.edges.isEmpty then setN (Obj.PG_STATE g) 4 s1 else s1
  else
    (x.due.filter (fun d => decide (d ≤ new))).foldl (fun a d => pgMiss g d 1 1 new a)
      (pgPublish g (setPg g (fun y => { y with due := y.due.filter (fun d => decide (new < d)) }) s))

/-- The edges committed for an instant up to the old value of the step tick leave before the step (R48, R170). -/
def emitBefore (old : Nat) (s : State) : State :=
  let s1 := (List.range 4).foldl (fun a n => (pps a n).edges.foldl (fun b _ => emitNative n old b) a) s
  (List.range 8).foldl (fun a g => (pg a g).edges.foldl (fun b _ => emitPg g old b) a) s1

/-- RESYNC at the step tick: every output that draws directly on DPLL0 is squelched, and released with the new phase (R160, R167). -/
def resyncDpll0 (s : State) : State :=
  (List.range 12).foldl (fun b c =>
    if clkDirect (clkOut b c).source = some 0 ∧ getN b (Obj.CLK_STATE c) = 1 then bump (Obj.CLK_SQUELCHES c) b else b)
    (setN (Obj.DPLL_PHASE_ERR 0) 0 (setDpll 0 (fun d => { d with phase := 0 }) s))

/-- The step opens a phase error (R160). -/
def openPhase (n : Nat) (delta : Int) (s : State) : State :=
  let p := (dpll s n).phase + delta
  let e := divFree p 4294967296 (setDpll n (fun d => { d with phase := p }) s)
  setN (Obj.DPLL_PHASE_ERR n) e.1
    (if phaseOpen p ∧ getN s (Obj.DPLL_STATE n) ≠ 5 then setN (Obj.DPLL_STATE n) 4 e.2 else e.2)

/-- A step from the step tick `atI`, with its old and new value, reaches the synthesis block (R53, R160, R176). -/
def synthStep (atI old new : Nat) (delta : Int) (s0 : State) : State :=
  let s := emitBefore old s0
  let s1 := if old < new then
      let t := (List.range 4).foldl (fun a n => skipNative n atI new a) s
      (List.range 8).foldl (fun a g => skipPg g new a) t
    else s
  (List.range 4).foldl (fun a n =>
    if (dpll a n).mode ≠ 3 then a
    else if n = 0 ∧ getN a (Obj.DPLL_STEP_ACTION 0) = 1 then resyncDpll0 a
    else openPhase n delta a) s1

/-! ### Boundary -/

/-- Native generators at a boundary: enable and offset take effect (R170, R172), path delay (R171). -/
def ppsTick (n : Nat) (s : State) : State :=
  let e := decide (getN s (Obj.PPS_ENABLE n) = 1)
  let o := getN s (Obj.PPS_OFFSET n)
  let x := pps s n
  let s1 := setPps n (fun y => { y with enabled := e, offset := o, changed := y.changed || decide (o ≠ x.offset) }) s
  let routed := (List.range 8).any (fun g => pgRouteOf s g = some n)
  let st : Int := if e then (if getN s (Obj.PPS_STATE n) = 3 then 3 else 1)
    else if routed then (if getN s (Obj.PPS_STATE n) = 3 then 3 else 2) else 0
  s1 |> setN (Obj.PPS_STATE n) st
    |> setN (Obj.PPS_PATH_DELAY n) (Config.ppsPathDelay n s.sensors.die % 4294967296 : Nat)

/-- The synthesis block at an epoch boundary. -/
def synthTick (s : State) : State :=
  let s1 := (List.range 4).foldl (fun a n => dpllTick n a) s
  let s2 := (List.range 12).foldl (fun a c => applyClkEnable c a) s1
  (List.range 4).foldl (fun a n => ppsTick n a) (evalClks s2)

/-! ### Taps (R416) -/

def tapEntry (k n tk tgt idx sub : Nat) : List Byte := be 1 k ++ be 1 n ++ be 1 tk ++ be 1 tgt ++ be 2 idx ++ be 1 sub ++ be 1 0

/-- Entries of `TAP_LIST`, by OBSERVER_KIND and OBSERVER_NUM. -/
def tapList (s : State) : List Byte :=
  let tdcs := (List.range 16).flatMap (fun c =>
    match claimOf s 0x1100 c with
    | some cl => if cl.kind = kindMonitor then tapEntry 2 c 0 (getNat s (Obj.TDC_SOURCE c)) (0x3410 + c) 1 else []
    | none => [])
  let clks := (List.range 12).flatMap (fun c => (clkTaps s c).flatMap (fun d => tapEntry 3 c 3 d (0x3820 + c) 2))
  let pgs := (List.range 8).flatMap (fun g =>
    if getN s (Obj.PG_MODE g) = 2 ∧ getNat s (Obj.PG_ALIGN_CH g) < 16 then
      tapEntry 5 g 2 (getNat s (Obj.PG_ALIGN_CH g)) (0x3C10 + g) 7 else [])
  let tods := (List.range 2).flatMap (fun t =>
    if getN s (Obj.TOD_ENABLE t) = 1 then tapEntry 6 t 1 (getNat s (Obj.TOD_PPS t)) (0x3C20 + t) 2 else [])
  tdcs ++ clks ++ pgs ++ tods

end Sys2Proof.Machine
end

