-- ==== Sys2Proof/Machine/TimeScale.lean ====
section
/-! DEFINITION. Machine/TimeScale.lean: the commands and events of the replicas, the time scale and the error bound (R14–R98) that need
no later unit; what needs one is in Epoch.lean. -/
namespace Sys2Proof.Machine

/-! ### Replicas (R15–R22) -/

/-- The GNSS replica is stale during a capture (R202). -/
def markSnap (s : State) : State := { s with gnss := { s.gnss with snap := { s.gnss.snap with stale := true } } }

/-- The replica becomes stale: a transition from FRESH counts and is a C1 fault (R18, R22). -/
def goStale (id : Nat) (corr : Int) (s : State) : State :=
  let was := getN s (Obj.REPLICA_STATE id)
  let s1 := setN (Obj.REPLICA_STATE id) 1 (setReplica id (fun r => { r with returning := none, good := 0 }) s)
  let s2 := if 16 ≤ id then abortLaunch (id - 16) s1 else if id = 1 then markSnap s1 else s1
  if was = 0 then
    raise (replicaFault id) 1 { detail := (corr % 4294967296).toNat }
      (setLive (replicaFault id) true (bump (Obj.REPLICA_STALE id) s2))
  else s2

/-- A fault's capture was stamped by a replica in its present strobe interval (R20, R463). -/
def stampedBy (id since : Nat) (f : FaultSrc) : Bool :=
  decide (replicaOf f.code = some id) && (match f.capture with | some c => decide (since ≤ c.firstAt) | none => false)

/-- Timestamps of the present strobe interval that are still held in the island become unbounded (R20): of a port, the stamp of the frame in
reception; of GNSS, that of a running capture; of CORE, those of the collector's captures, as TIME_SUSPECT (R463). -/
def markHeld (id : Nat) (s : State) : State :=
  let r := replica s id
  if 16 ≤ id then
    abortMarked (id - 16) (of96 r.strobeAt) <| setPort (id - 16) (fun x => { x with rx := x.rx.map (fun c => if r.lastStrobe ≤ c.tick then { c with bound := unbounded80 } else c) })
      (setSw (fun w => { w with frames := w.frames.map (fun f =>
        if f.port = id - 16 ∧ f.len.isNone ∧ r.lastStrobe ≤ f.stampTick then { f with bound := unbounded80 } else f) }) s)
  else if id = 1 then (if s.gnss.snap.slot.isSome ∧ r.lastStrobe ≤ s.gnss.snap.began then markSnap s else s)
  else { s with faults := s.faults.map (fun f => if stampedBy 0 r.strobeAt f then
    { f with capture := f.capture.map (fun c => { c with info := { c.info with suspect := true } }) } else f) }

/-- Timestamps of the present strobe interval already handed on (R20): those counted as they left, and a port's or the receiver's fault
captures, which the collector holds in another island. -/
def handedOnOf (s : State) (id : Nat) : Nat :=
  let r := replica s id
  r.handedOn + (if id = 0 then 0 else s.faults.countP (stampedBy id r.strobeAt))

/-- R22: not fresh within 100 ms of the first returning strobe. -/
def replicaLate (id : Nat) (s : State) : State :=
  let r := replica s id
  match r.returning with
  | some t =>
    if getN s (Obj.REPLICA_STATE id) ≠ 0 ∧ t + 100 * msT ≤ s.now ∧ r.raisedC2 = false then
      raise (replicaFault id) 2 { detail := (getN s (Obj.REPLICA_LAST_CORR id) % 4294967296).toNat }
        (setReplica id (fun x => { x with raisedC2 := true }) s)
    else s
  | none => s

/-- A strobe is accepted: the interval's timestamps begin anew and the epoch bound arrives (R20, R89). -/
def acceptStrobe (id : Nat) (s : State) : State :=
  setReplica id (fun r =>
    { r with lastStrobe := s.now, strobeAt := mts96 s, held := 0, handedOn := 0, bound := (getN s Obj.BOUND).toNat }) s

/-- A strobe reaches a replica (R18, R20, R21). -/
def strobe (id : Nat) (corr : Int) (s : State) : State :=
  if replicaPresent s.variant id = false ∨ (16 ≤ id ∧ portUp s (id - 16) = false) then s
  else
    let s0 := setN (Obj.REPLICA_LAST_CORR id) corr s
    let big := decide (8 < corr.natAbs)
    match getNat s (Obj.REPLICA_STATE id) with
    | 0 =>
      if big then
        let s1 := markHeld id (bumpBy (Obj.REPLICA_SLIP id) (handedOnOf s id : Nat) s0)
        goStale id corr (setReplica id (fun x => { x with handedOn := 0, lastStrobe := s.now, strobeAt := mts96 s }) s1)
      else acceptStrobe id s0
    | 1 =>
      setN (Obj.REPLICA_STATE id) 2 (setReplica id (fun r =>
        { r with returning := some (r.returning.getD s.now), good := 0, raisedC2 := false }) (acceptStrobe id s0))
    | _ =>
      let good := if big then 0 else (replica s id).good + 1
      let s1 := setReplica id (fun r => { r with good := good }) (acceptStrobe id s0)
      if 2 ≤ good then
        setLive (replicaFault id) false (setN (Obj.REPLICA_STATE id) 0 (setReplica id (fun r => { r with returning := none }) s1))
      else replicaLate id s1

def execSyncStrobe (r : ReplicaId) (corr : Int) (s : State) : Host.Outcome State Fault Refusal :=
  finish (ifUp (strobe (repNum r) corr) s)

/-- 1.25 µs without a strobe (R18). -/
def strobeTimeout (id : Nat) (s : State) : State :=
  if replicaPresent s.variant id ∧ getN s (Obj.REPLICA_STATE id) ≠ 1 ∧ (replica s id).lastStrobe + 250 ≤ s.now then
    goStale id 0 s
  else s

def execReplicaStrobeTimeout (r : ReplicaId) (s : State) : Host.Outcome State Fault Refusal :=
  finish (ifUp (strobeTimeout (repNum r)) s)

/-- A strobe path delay is due: never measured, 60 s old, or more than 5 K away (R16). -/
def remeasureDue (s : State) (id : Nat) : Bool :=
  let r := replica s id
  !r.measured || decide (r.measuredTick + 60 * sT ≤ s.now) || decide (5 * 1024 < (s.sensors.die - r.measuredTemp).natAbs)

def remeasure (id delay : Nat) (s : State) : State :=
  if replicaPresent s.variant id ∧ remeasureDue s id then
    s |> setReplica id (fun r => { r with measured := true, measuredTick := s.now, measuredTemp := s.sensors.die })
      |> setN (Obj.STROBE_DELAY id) (delay % 4294967296 : Nat) |> setN (Obj.STROBE_DELAY_AT id) (mts96 s)
  else s

def execStrobeRemeasure (r : ReplicaId) (delay : Nat) (s : State) : Host.Outcome State Fault Refusal :=
  finish (ifUp (remeasure (repNum r) delay) s)

/-! ### Loop mode, steps, capture -/

/-- A write of `LOOP_MODE` waits for the boundary (R42, R44). -/
def execLoopMode (q : Req) (s : State) : Host.Outcome State Fault Refusal := finish (ifUp (ownerWrite q Obj.LOOP_MODE {}) s)

/-- The completed filter's increment takes effect (R40). -/
def loopApply (s : State) : State :=
  match s.ts.nextIncr with
  | some v => applyIncr v { s with ts := { s.ts with nextIncr := none } }
  | none => s

def execLoopIncrApply (s : State) : Host.Outcome State Fault Refusal := finish (ifUp loopApply s)

/-- The earliest instant a step accepted now may take (R49). -/
def stepEarliest (s : State) : Nat := s.ts.mts + 10 * us48

/-- The whole microsecond of the step tick (R49): the first whose strobe tick has reached `STEP_AT` and lies 10 µs after acceptance. -/
def stepTick (s : State) : Nat :=
  let x := max (of96 (getNat s Obj.STEP_AT)) (stepEarliest s)
  let w := x / us48 * us48
  if x ≤ tickReaching s w then w else w + us48

/-- RANGE_ERROR, BUSY, CONFLICT (R49, R51). -/
def stepCheck (s : State) : Nat × List Byte :=
  if getN s Obj.STEP_AT ≠ 0 ∧ of96 (getNat s Obj.STEP_AT) < stepEarliest s then (stRange, [])
  else if s.ts.step.isSome then (stBusy, [])
  else if loopClosed s ∧ getN s Obj.TS_STATE ≠ 0 then (stConflict, [])
  else (stOk, [])

def ruleStepApply (sess : Nat) : Rule :=
  { chk := fun s _ => stepCheck s
    eff := fun _ s => announceStep
      { offset := getN s Obj.STEP_OFFSET, atI := stepTick s, owner := true, session := sess, setTime := false } s }

/-- The reference instant is `STEP_AT` if non-zero, else the whole microsecond of the step tick (R50). -/
def ruleSetTime (sess : Nat) : Rule :=
  { chk := fun s _ => stepCheck s
    eff := fun v s =>
      let r := if getN s Obj.STEP_AT ≠ 0 then getN s Obj.STEP_AT else (t96Of (stepTick s) : Int)
      announceStep { offset := v.int - r, atI := stepTick s, owner := true, session := sess, setTime := true } s }

def execStepApply (q : Req) (s : State) : Host.Outcome State Fault Refusal :=
  finish (ifUp (ownerCommand q Obj.STEP_APPLY (ruleStepApply q.sess)) s)

def execSetTime (q : Req) (s : State) : Host.Outcome State Fault Refusal :=
  finish (ifUp (ownerCommand q Obj.SET_TIME (ruleSetTime q.sess)) s)

/-- A pending owner step whose conditions no longer hold (R51). -/
def cancelStep (s : State) : State :=
  match s.ts.step with
  | some p =>
    if p.owner ∧ loopClosed s ∧ getN s Obj.TS_STATE ≠ 0 then
      journal { kind := 2, key := Obj.STEP_STATUS, old := [1], new := [3], origin := .session p.session }
        (setN Obj.STEP_STATUS 3 { s with ts := { s.ts with step := none } })
    else s
  | none => s

/-- Where the announced step is cancelled, the frames that waited for its tick wait no longer (R51, R259). -/
def cancelAnnounced (s : State) : State :=
  let t := cancelStep s
  if s.ts.step.isSome && t.ts.step.isNone then sillReleased t else t

/-- One tick's values are latched together (R32). -/
def ruleCapture (keep : Nat) : Rule :=
  { eff := fun _ s0 =>
      let s := updateBound (keepAdvance keep s0)
      let b := s.bound.cur
      s |> setN Obj.CAP_MTS (mts96 s) |> setN Obj.CAP_BOUND (bound80 (publishHalf b.m b.mU) (publishHalf b.p b.pU))
        |> setN Obj.CAP_INCR s.ts.incr |> setN Obj.CAP_TCLK_TICKS s.now |> setN Obj.CAP_KEEP_COUNT s.keep.count
        |> setN Obj.CAP_UTC_OFFSET (getN s Obj.CURRENT_UTC_OFFSET)
        |> setN Obj.CAP_SEQ ((getN s Obj.CAP_SEQ + 1) % 4294967296) }

def execCapture (q : Req) (keep : Nat) (s : State) : Host.Outcome State Fault Refusal :=
  finish (ifUp (ownerCommand q Obj.CAPTURE (ruleCapture keep)) s)

/-! ### UTC and leap seconds (R56–R61) -/

/-- MTS has reached `LEAP_INSTANT` (R60). -/
def leapReached (s : State) : State :=
  let p := getN s Obj.LEAP_PENDING
  if p ≠ 0 ∧ getNat s Obj.LEAP_INSTANT ≤ mts96 s then
    let c : Int := if p = 1 then 1 else -1
    let s1 := { s with ts := { s.ts with lastLeap := some (getNat s Obj.LEAP_INSTANT / sec96, c) } }
    setJ Obj.CURRENT_UTC_OFFSET (getN s Obj.CURRENT_UTC_OFFSET + c) (setJ Obj.LEAP_PENDING 0 s1)
  else s

def execLeapInstantReached (s : State) : Host.Outcome State Fault Refusal := finish (ifUp leapReached s)

/-- Owner writes of the UTC objects while the source is GNSS (R57). -/
def ruleUtcOwner : Rule := { chk := fun s _ => if getN s Obj.UTC_SOURCE = 0 then (stConflict, []) else (stOk, []) }

/-- GNSS as the source needs the unit (R57). -/
def ruleUtcSource : Rule :=
  { chk := fun s v => if v.int = 0 ∧ hasGnss s.variant = false then (stRange, []) else (stOk, []) }

/-- The values of a leap announcement, against the offset in force (R59). -/
def leapOk (s : State) (pending : Int) (instant : Nat) : Bool :=
  if pending = 0 then true
  else
    let off : Int := getN s Obj.CURRENT_UTC_OFFSET + (if pending = 1 then 1 else -1)
    decide (instant % sec96 = 0) && decide ((((instant / sec96 : Nat) : Int) - off) % 86400 = 0) &&
      decide (mts96 s + 2 * sec96 ≤ instant)

/-! ### The keep counter (R62, R63) -/

/-- The first keep tick after a whole second of MTS (R62): it lies within a keep period of the second, of which no record was written
(R54). -/
def keepRecordDue (s : State) : Bool :=
  decide (getN s Obj.TS_STATE ≠ 0 ∧ s.ts.mts % sec48 < 30550 * ns48) && !wasDone (mtsSec s) s.keep.written

def keepWrite (keep : Nat) (s0 : State) : State :=
  let s := keepAdvance keep s0
  if keepRecordDue s then writeKeep s else s

def execKeepRecordWrite (keep : Nat) (s : State) : Host.Outcome State Fault Refusal := finish (ifUp (keepWrite keep) s)

/-- VIN lies in its operating range ("Supply ratings"). -/
def vinInRange (s : State) : Bool := decide (6000 ≤ getN s Obj.VIN_NOW ∧ getN s Obj.VIN_NOW ≤ 40000)

/-- The keep oscillator against MTS, every 64 s while VIN is in range, in 10⁻¹² (R63, R64): n ticks of 30,517,578.125 ps against the
elapsed time. -/
def keepLearn (keep : Nat) (s0 : State) : State :=
  let s := keepAdvance keep s0
  if s.now < s.ts.keepLearnTick + 64 * sT then s
  else if vinInRange s = false then { s with ts := { s.ts with keepLearnTick := s.now, keepMark := (s.keep.count, s.ts.run) } }
  else
    let n := (s.keep.count + 281474976710656 - s.ts.keepMark.1) % 281474976710656
    let dt := s.ts.run - s.ts.keepMark.2
    let s1 := { s with ts := { s.ts with keepLearnTick := s.now, keepMark := (s.keep.count, s.ts.run) } }
    if dt = 0 then s1
    else
      -- 30,517.578125 ns per tick; elapsed time in 2⁻⁴⁸ ns
      let num : Int := ((n * 30517578125 * ns48 : Nat) : Int) - ((dt * 1000000 : Nat) : Int)
      let r := nearFree (num * (ten 12 : Int)) (dt * 1000000) s1
      setN Obj.KEEP_FREQ_LEARNED r.1 r.2

def execKeepFreqLearn (keep : Nat) (s : State) : Host.Outcome State Fault Refusal := finish (ifUp (keepLearn keep) s)

/-! ### Time-scale states (R33–R47) -/

/-- |x| above `TS_LOCK_THRESHOLD`; x in 2⁻¹⁶ ns. -/
def aboveLock (s : State) (x : Int) : Bool := decide ((getF s Obj.TS_LOCK_THRESHOLD).toNat * 65536 < x.natAbs * 1000)

/-- The lock criterion of R34. -/
def lockDue (s : State) : Bool :=
  s.ts.measured && decide (max s.ts.since s.ts.lastBig + (getF s Obj.TS_LOCK_DWELL).toNat * sec48 ≤ s.ts.mts)

/-- TS_LOCK_DWELL has passed (R34). -/
def tsLocked (s : State) : State :=
  if (getN s Obj.TS_STATE = 1 ∨ getN s Obj.TS_STATE = 4) ∧ (activeTime s ≠ 0xFF ∨ hingeRef s) ∧ lockDue s then enterTs 2 s else s

/-- The state has changed at this boundary already (R33). -/
def tsChanged (s : State) : Bool := decide (s.ts.since = s.ts.mts)

/-- The criterion of R34 at an epoch boundary that has not changed the state yet (R33). -/
def tsLockedNow (s : State) : State := if atBoundary s && !tsChanged s then cancelAnnounced (tsLocked s) else s

def execTsLocked (s : State) : Host.Outcome State Fault Refusal := finish (ifUp tsLockedNow s)

/-- The state at a boundary; at most one change (R33, R39, R146). -/
def evalTs (s : State) : State :=
  let filled : Bool := decide (activeTime s ≠ 0xFF) || hingeRef s
  let s1 := match getNat s Obj.TS_STATE with
    | 0 => if filled then enterTs 1 s else s
    | 2 => if filled then s else enterTs 3 s
    | 3 =>
      if s.bound.cur.mU ∨ s.bound.cur.pU then enterTs 0 s
      else if filled then enterTs 4 s else s
    | _ => if filled = false then enterTs 3 s else tsLocked s
  cancelAnnounced s1

/-! ### The drift model (R69–R73, R76) -/

/-- The model set of the coming epoch (R69, R73, R76). `before` are the disputes that held before this boundary. -/
def selectModel (before : List Dispute) (s : State) : State :=
  let r := activeFreq s
  let g (k : Nat) : Nat := (getF s k).toNat
  let m : Nat × Nat × Nat × Nat :=
    if r = 9 then (1, max (g (Obj.FREQ_UNC_FLOOR 1)) (getNat s (Obj.FREQ_UNC_LEARNED 1)), g (Obj.AGE_UNC 1), g (Obj.TEMP_COEF_UNC 1))
    else if r ≠ 0xFF then
      (2, max (max (g (Obj.REF_FREQ_ACC r)) (g Obj.REF_FREQ_UNC_MIN)) (getNat s Obj.REF_FREQ_UNC_VIOL), 0, 0)
    else (0, max (g (Obj.FREQ_UNC_FLOOR 0)) (getNat s (Obj.FREQ_UNC_LEARNED 0)), g (Obj.AGE_UNC 0), g (Obj.TEMP_COEF_UNC 0))
  let ds := (before ++ s.sel.disputes).filter (fun d => d.begun)
  let f := ds.foldl (fun a d => max a (freqDiff s d.a d.b)) m.2.1
  setN Obj.BOUND_MODEL m.1 { s with bound :=
    { s.bound with fUnc := f, aUnc := m.2.2.1, tUnc := m.2.2.2, dtemp := devAt (pointNow s) s.bound.tXo s.bound.tDie,
                   widen := ds.map (fun d => (d.a, d.b)) } }

/-- The raise of R87 at the boundary after a module-level violation, with the set then in force. -/
def raiseUnc (s : State) : State :=
  if s.bound.raiseDue = false then s
  else
    let v : Nat := min (2 * s.bound.fUnc) 1000000000
    let s1 := { s with bound := { s.bound with raiseDue := false } }
    match getNat s Obj.BOUND_MODEL with
    | 0 => setN (Obj.FREQ_UNC_LEARNED 0) v s1
    | 1 => setN (Obj.FREQ_UNC_LEARNED 1) v s1
    | _ => setN Obj.REF_FREQ_UNC_VIOL v s1

/-- 86,400 s without a module-level violation (R87). -/
def violExpiry (s : State) : State :=
  match s.bound.violTick with
  | some t => if t + 86400 * sT ≤ s.now then setN Obj.REF_FREQ_UNC_VIOL 0 s else s
  | none => s

def execRefFreqUncViolExpiry (s : State) : Host.Outcome State Fault Refusal := finish (ifUp violExpiry s)

/-! ### Advertised quality (R93–R97) -/

/-- clockAccuracy of B in ps (R95). -/
def clockAcc (b : Nat) : Nat :=
  let lim : List Nat := [1, 2, 10, 25, 100, 250, 1000, 2500, 10000, 25000, 100000, 250000, 1000000, 2500000, 10000000,
    25000000, 100000000, 250000000, 1000000000, 2500000000, 10000000000, 25000000000, 100000000000, 250000000000,
    1000000000000, 10000000000000]
  0x17 + lim.countP (fun l => decide (l < b))

/-- Least n with x ≤ 2ⁿ. -/
def ceilLog2 (x : Nat) : Nat := if x ≤ 1 then 0 else Nat.log2 (x - 1) + 1

/-- offsetScaledLogVariance of B in ps: 0x8000 + ceil(512 × log₂ B) with B in seconds (R96). -/
def logVar (b : Nat) : Nat :=
  let b1 := max b 1
  0x8000 + ceilLog2 (cdiv (b1 ^ 512 * 2 ^ 20480) (10 ^ 6144)) - 20480

/-- The grade that R93 computes. -/
def gradeOf (s : State) : Nat :=
  let c := getN s Obj.BOUND
  let b := largerHalf c
  if boundFinite c = false then 4
  else if (getF s Obj.SERVE_BOUND).toNat < b then 3
  else if (getF s Obj.HOLD_SPEC).toNat < b then 2
  else if getN s Obj.TS_STATE = 2 then 0 else 1

/-- The best grade below the one in force whose condition has held for `GRADE_DWELL` (R94). -/
def betterGrade (s : State) : Option Nat :=
  let g := getNat s Obj.BOUND_GRADE
  let dw := (getF s Obj.GRADE_DWELL).toNat * sT
  (List.range 4).find? (fun i => decide (i < g) &&
    (match s.bound.held.getD i none with | some t => decide (t + dw ≤ s.now) | none => false))

/-- A better grade's condition has held for `GRADE_DWELL` (R94). -/
def gradeDwell (s : State) : State :=
  match betterGrade s with | some i => setJ Obj.BOUND_GRADE i s | none => s

def execBoundGradeDwell (s : State) : Host.Outcome State Fault Refusal := finish (ifUp gradeDwell s)

/-- The grade at a boundary (R93, R94): worse at once, better after the dwell, out of UNBOUNDED at once. -/
def evalGrade (s : State) : State :=
  let c := gradeOf s
  let g := getNat s Obj.BOUND_GRADE
  let held := (List.range 4).map (fun i =>
    if c ≤ i then some ((s.bound.held.getD i none).getD s.now) else none)
  let s1 := { s with bound := { s.bound with held := held } }
  if g < c ∨ (g = 4 ∧ c < 4) then setJ Obj.BOUND_GRADE c s1 else gradeDwell s1

/-- The status objects of R95 to R97, from the epoch bound plus 150 ps. -/
def advertise (s : State) : State :=
  let c := servedPair (getN s Obj.BOUND) 150 150
  if boundFinite c then
    let b := largerHalf c
    s |> setN Obj.CLOCK_ACCURACY (clockAcc b : Nat) |> setN Obj.OFFSET_SCALED_LOG_VAR (logVar b : Nat)
      |> setN Obj.ROOT_DISP (rootDisp b : Nat)
  else s |> setN Obj.CLOCK_ACCURACY 0xFE |> setN Obj.OFFSET_SCALED_LOG_VAR 0xFFFF |> setN Obj.ROOT_DISP 4294967295

/-! ### The engine crystal (R122, R148) -/

/-- Point i of `XO_COMP_TABLE` in 10⁻¹². -/
def compPoint (s : State) (i : Nat) : Int :=
  let b := match lookupKV Obj.XO_COMP_TABLE s.blobs with
    | some b => b
    | none => Config.production Obj.XO_COMP_TABLE
  fieldI b (4 * i) 4

/-- f_temp in 10⁻¹⁵ at a reading in 1/1,024 °C: 65 points every 3 K from −60 °C (R122). -/
def xoTemp (t : Int) (s : State) : Int × State :=
  let d := t + 61440
  if d ≤ 0 then (compPoint s 0 * 1000, s)
  else
    let i := d.toNat / 3072
    if 64 ≤ i then (compPoint s 64 * 1000, s)
    else
      let a := compPoint s i
      divFree (a * 1000 * 3072 + (compPoint s (i + 1) - a) * 1000 * (d.toNat % 3072 : Nat)) 3072 s

/-- f_age in 10⁻¹⁵ for a rate (R122). -/
def xoAge (rate : Int) (s : State) : Int × State :=
  divFree (rate * ((mts96 s : Int) - getN s Obj.XO_AGE_EPOCH)) (1000 * sec96) s

/-- The learned values that wait take effect (R123, R148): the integrator gives back Δ, a new ageing rate leaves f_xo as it was. -/
def applyLearned (s : State) : State :=
  let d := s.sel.pendingDelta
  let q := divFree (d * (2 : Int) ^ 64) (ten 15) s
  let s1 := { q.2 with ts := { q.2.ts with integ := q.2.ts.integ - q.1 } }
  let s2 := setN Obj.XO_LEARN_OFFSET (getN s Obj.XO_LEARN_OFFSET + d) (setSel (fun x => { x with pendingDelta := 0 }) s1)
  match s.sel.pendingRate with
  | none => s2
  | some r =>
    let old := xoAge (getN s Obj.XO_AGE_RATE) s2
    let new := xoAge r old.2
    setN Obj.XO_LEARN_OFFSET (getN s2 Obj.XO_LEARN_OFFSET + old.1 - new.1)
      (setJ Obj.XO_AGE_RATE r (setSel (fun x => { x with pendingRate := none }) new.2))

/-- f_xo of the coming epoch (R122); while UNKNOWN f_age holds; a failed crystal sensor gives way to the die plus 3 K (R121). -/
def xoComp (s0 : State) : State :=
  let s := applyLearned s0
  let t := if s.sensors.xoFailed then s.sensors.die + 3072 else s.sensors.xo
  let f := xoTemp t s
  let a := if getN s Obj.TS_STATE = 0 then (getN s Obj.XO_AGE_TERM, f.2) else xoAge (getN s Obj.XO_AGE_RATE) f.2
  a.2 |> setN Obj.XO_TEMP_TERM f.1 |> setN Obj.XO_AGE_TERM a.1
    |> setN Obj.XO_FREQ_COMP (f.1 + a.1 + getN s Obj.XO_LEARN_OFFSET)

/-- `XO_AGE_RATE` by the owner: CONFLICT while the time core writes it (R123). -/
def ruleXoAge : Rule := { chk := fun s _ => if getN s Obj.XO_AGE_AUTO = 1 then (stConflict, []) else (stOk, []) }

/-- `SERVE_BOUND` not below `HOLD_SPEC`, `HOLD_SPEC` at most `SERVE_BOUND` (the objects' rules). -/
def ruleServeBound : Rule := { chk := fun s v => if v.int < getN s Obj.HOLD_SPEC then (stRange, []) else (stOk, []) }
def ruleHoldSpec : Rule := { chk := fun s v => if v.int < 1000 ∨ getN s Obj.SERVE_BOUND < v.int then (stRange, []) else (stOk, []) }

/-! ### Testing a measurement and resetting the bound (R77–R88) -/

/-- The bound at a measurement's instant, before any reset at it (R82): the update before it, brought up to it. -/
def pairAt (s : State) (m : Meas) : Pair :=
  let q := pointAt s m.mark.run
  let g := growth q.fUnc q.aUnc q.tUnc q.dtemp (m.mark.run - q.anchorRun) (m.mark.run - q.run)
  translatePair (movePair q.pair g (m.mark.steer - q.steer)) (m.mark.step - q.step)

/-- The test bound and whether x agrees (R82); `none` where R83 permits no test. Halves in 2⁻³² ps. -/
def testMeas (s : State) (m : Meas) : Option (Bool × Int) :=
  match m.uM, m.uP with
  | some uM, some uP =>
    let b := pairAt s m
    if b.mU ∨ b.pU then none
    else
      let x := m.x * 65536000
      let lo : Int := -((b.p : Int) + uM * 4294967296)
      let hi : Int := (b.m : Int) + uP * 4294967296
      some (decide (lo ≤ x ∧ x ≤ hi), bound80 (addHalf (publishHalf b.m false) uP) (addHalf (publishHalf b.p false) uM))
  | _, _ => none

/-- Another reference agrees with MTS for the level of a violation (R84, R85). -/
def otherAgrees (s : State) (m : Meas) : Bool :=
  (List.range 30).any (fun o => decide (o ≠ m.ref) && refPresent s.variant o && refGood s o &&
    (match (ref s o).lastTested with
     | some (t, a) => a && decide (m.atI ≤ t + (getF s Obj.AGREE_AGE).toNat * ms48)
     | none => false))

/-- The last-violation objects (R86, R87). -/
def recordViolation (m : Meas) (test : Int) (s : State) : State :=
  s |> setN Obj.LAST_VIOL_REF m.ref |> setN Obj.LAST_VIOL_AT (t96Of m.atI) |> setN Obj.LAST_VIOL_OFFSET m.x
    |> setN Obj.LAST_VIOL_TEST test

/-- R86. -/
def refViolation (m : Meas) (test : Int) (s : State) : State :=
  raise (refFault m.ref) 1 { detail := m.ref }
    (recordViolation m test (bump Obj.REF_VIOLATION (setRef m.ref (fun x => { x with violated := true }) s)))

/-- R87 but for the reset and the slew: the journal entry holds the interval from the anchor to the violation. -/
def moduleViolation (m : Meas) (test : Int) (s : State) : State :=
  let s1 := journal { kind := 2, key := Obj.MODULE_VIOLATION, old := t96Bytes (t96Of s.bound.anchorAt), new := t96Bytes (t96Of m.atI) } s
  raise 0x0B00 3 { detail := m.ref }
    (setLive 0x0B00 true <| recordViolation m test (bump Obj.MODULE_VIOLATION
      { s1 with bound := { s1.bound with raiseDue := true, violTick := some s.now } }))

/-- What an accepted measurement of the active time reference does beside the reset: state machine, recovery, acquisition and the
loop (R34, R35, R37, R45, R46, R140). `outside` says that the offset lies outside the bound. -/
def driveLoop (m : Meas) (outside : Bool) (s0 : State) : State :=
  let big := aboveLock s0 m.x
  let st := getN s0 Obj.TS_STATE
  let s1 := setN Obj.MEASURED_OFFSET m.x { s0 with ts :=
    { s0.ts with measured := true, lastBig := if big then m.atI else s0.ts.lastBig } }
  let s2 := if st = 2 ∧ big then bump Obj.LOCK_EXCURSION s1 else s1
  let s3 := if getN s2 Obj.SWITCH_STATE = 1 ∧ big = false then endBuildOut s2 else s2
  if loopClosed s3 = false then s3
  else
    let stepTh := decide ((getF s3 Obj.STEP_THRESHOLD).toNat * 65536 < m.x.natAbs)
    let acq := decide (st = 1 ∧ s3.ts.acqDone = false ∧ big)
    let rec45 := decide (st = 4 ∧ s3.ts.recDone = false) && outside && stepTh && decide (getF s3 Obj.STEP_POLICY = 1)
    let s4 := { s3 with ts := { s3.ts with acqDone := s3.ts.acqDone || decide (st = 1), recDone := s3.ts.recDone || decide (st = 4) } }
    if acq ∨ rec45 then moduleStep m.x { s4 with ts := { s4.ts with prevMeas := some m.atI } }
    else if st = 1 ∨ st = 2 ∨ st = 4 then
      loopFilter m.x m.atI (if m.ref < 30 then max (getNat s4 (Obj.REF_INTERVAL m.ref)) 1 * ms48 else ms48) s4
    else s4

/-- The latest measurement of a reference is recorded whatever becomes of it (R37, R83). -/
def recordMeas (m : Meas) (verdict : Nat) (s : State) : State :=
  let u := match m.uM, m.uP with
    | some a, some b => bound80 (addHalf a 0) (addHalf b 0)
    | _, _ => unbounded80
  s |> setN (Obj.LAST_UNC m.ref) u |> setN (Obj.LAST_OFFSET m.ref) m.x |> setN (Obj.LAST_VERDICT m.ref) verdict
    |> setN (Obj.LAST_MEAS_AT m.ref) (t96Of m.atI)

/-- An accepted measurement resets the bound where its reference is the active one, and is the shadow pair of its reference (R76, R77). -/
def acceptMeas (m : Meas) (uM uP : Nat) (outside : Bool) (s : State) : State :=
  let s1 := if useTime s m.ref then
      let x : ShadowPair := { ref := m.ref, pair := resetPair s m uM uP, atI := m.atI, anchorRun := m.mark.run }
      { s with bound := { s.bound with shadows := x :: s.bound.shadows.filter (fun y => y.ref ≠ m.ref) } }
    else s
  if hingeRef s1 = false ∧ activeTime s1 = m.ref ∧ (refState s1 m.ref = 4 ∨ refState s1 m.ref = 5) then
    driveLoop m outside (setSel (fun x => { x with uncSum := x.uncSum + max uM uP, uncCount := x.uncCount + 1 })
      (resetBound m uM uP s1))
  else s1

/-- A time measurement reaches the bound unit (R77–R87). -/
def applyMeas (m : Meas) (s0 : State) : State :=
  let s := updateBound s0
  let st := refState s m.ref
  if m.stale then recordMeas m 0 s
  else
    let fin := m.uM.isSome && m.uP.isSome
    let testable := useTime s m.ref && (decide (st = 2) || refGood s m.ref)
    match (if testable then testMeas s m else none) with
    | none =>
      let s1 := measArrived m.ref fin none (recordMeas m 0 s)
      (match m.uM, m.uP with
       | some a, some b => if refGood s m.ref && useTime s m.ref then acceptMeas m a b false s1 else s1
       | _, _ => s1)
    | some (ok, test) =>
      let s1 := setRef m.ref (fun x => { x with lastTested := some (m.atI, ok) })
        (if ok ∧ activeTime s = m.ref then setLive 0x0B00 false s else s)
      let uM := m.uM.getD 0
      let uP := m.uP.getD 0
      if st = 2 then measArrived m.ref true (some ok) (recordMeas m (if ok then 1 else 4) s1)
      else if ok then acceptMeas m uM uP false (measArrived m.ref true (some true) (recordMeas m 1 s1))
      else if activeTime s = m.ref ∧ otherAgrees s m = false then
        acceptMeas m uM uP true (moduleViolation m test (measArrived m.ref true (some false) (recordMeas m 3 s1)))
      else refViolation m test (measArrived m.ref true (some false) (recordMeas m 2 s1))

/-- The oldest waiting measurement of a reference is taken from the mailbox. -/
def takeMeas (r : Nat) (s : State) : State :=
  match s.meas.find? (fun m => m.ref = r) with
  | some m => applyMeas m { s with meas := s.meas.erase m }
  | none => s

def execMeasurementArrival (r : Fin 30) (s : State) : Host.Outcome State Fault Refusal := finish (ifUp (takeMeas r.val) s)

end Sys2Proof.Machine
end

