-- ==== Sys2Proof/Machine/Ports.lean ====
section
/-! DEFINITION. Machine/Ports.lean: the commands and events of the ports (R204–R230). -/
namespace Sys2Proof.Machine

/-! ### Modes -/

/-- Accepted FEC of a mode ("Port modes"). -/
def fecOk (mode fec : Nat) : Bool := decide (fec = 0) || (decide (mode = 4) && decide (fec ≤ 2))

/-- Bytes of a cut-through copy that n received bytes give: POP has taken the outermost tag (R217). -/
def cutBytes (n action : Nat) (f : Frame) : Nat := if action = 1 ∧ f.tags ≠ [] then n - 4 else n

/-- The frame of the core is bad, n bytes of it being good (R248): copies that have started end after those bytes, at most `MAX_FRAME` − 4,
with a stomped FCS, the others are discarded unsent. -/
def coreBad (i n : Nat) (s : State) : State :=
  match coreFrame s i with
  | none => s
  | some f =>
    let started := s.sw.copies.filter (fun c => c.frame = i && c.started)
    let s1 := started.foldl (fun a c => stompAfter c.out (min (cutBytes n c.action f.frame) (f.maxFrame - 4)) (bump (Obj.STOMPED c.out) a)) s
    let s2 := setSw (fun w => { w with backlog := w.backlog.filter (· ≠ i) })
      (setCore i (fun x => { x with dests := [], bad := true, len := some 0 }) s1)
    swDerive (dropCopies (fun c => c.frame = i && !c.started) s2)

/-- The frame in reception is cut short by loss of the link: it counts FCS_ERR, and its copies in transmission send the bytes that have
come (R213, R227, R248). -/
def cutRx (p : Nat) (s : State) : State :=
  match (port s p).rx with
  | none => s
  | some r =>
    let s1 := setPort p (fun x => { x with rx := none }) (bump (Obj.FCS_ERR p) s)
    match r.core with
    | none => s1
    | some i => coreBad i (((coreFrame s i).map (·.got)).getD 0) s1

/-- A Sill frame in transmission is ended by link loss; its slot is free (R227, R268). -/
def endLaunchTx (p : Nat) (s : State) : State :=
  match (port s p).slots.find? (fun q => q.started) with
  | some q => freeSlotNum p q.num s
  | none => s

/-- What loss of the link does at once (R227). -/
def linkLoss (p : Nat) (s : State) : State :=
  if portUp s p = false then s
  else
    let s0 := finishTx p s
    let s1 := setN (Obj.PORT_LINK p) 0 s0
    let s2 := if (port s1 p).tx.isSome then endLaunchTx p (stompTx p (bump (Obj.LINK_ABORT p) s1)) else s1
    let s3 := cutRx p (if p < 16 then goStale (16 + p) 0 s2 else s2)
    let s4 := discardQueues p (Obj.LINK_DROP p) s3
    let s5 := dropWaiting p s4
    let s6 := setPort p (fun x => { x with paused := [0, 0, 0, 0, 0, 0, 0, 0], xoff := none }) s5
    let s7 := bump (Obj.LINK_DOWN_EVENTS p) s6
    swDerive (journal { kind := 7, key := Obj.FAULT_RECORD, new := be 2 (portFault p) } (raise (portFault p) 0 {} s7))

/-- A lane leaves service: what it carried ends as on link loss. -/
def stopLane (p : Nat) (s : State) : State :=
  setPort p (fun x => { x with lane := false, mode := 0, fec := 0 }) (linkLoss p (dropStart (if p = 16 then 1 else 2 + p) s))

/-- A lane starts in the mode written (R206, R210). -/
def startLane (p : Nat) (s : State) : State :=
  if p = 16 then setPort 16 (fun x => { x with lane := true, mode := getNat s Obj.MGMT_MODE }) s
  else setPortP p (setPort p (fun x =>
    { x with lane := true, mode := getNat s (Obj.PORT_MODE p), fec := getNat s (Obj.PORT_FEC p) }) s)

/-- A new mode takes effect: link down, and the lane restarts under admission (R206); a port that a shutter holds waits for its
reopening, and before milestone 7 no lane has started (R497). -/
def restartLane (p : Nat) (s : State) : State :=
  if (port s p).shut ∨ milestone s 7 = false then s
  else
    let s1 := stopLane p s
    if getN s (Obj.PORT_MODE p) = 0 then s1 else queueStart (2 + p) s1

def rulePortMode (p : Nat) : Rule :=
  { chk := fun s v => if 4 < v.nat ∨ fecOk v.nat (getNat s (Obj.PORT_FEC p)) = false then (stRange, []) else (stOk, [])
    eff := fun _ s => restartLane p s }

def rulePortFec (p : Nat) : Rule :=
  { chk := fun s v => if fecOk (getNat s (Obj.PORT_MODE p)) v.nat = false then (stRange, []) else (stOk, [])
    eff := fun _ s => restartLane p s }

def execPortMode (q : Req) (p : Fin 16) (s : State) : Host.Outcome State Fault Refusal :=
  finish (ifUp (ownerWrite q (Obj.PORT_MODE p.val) (rulePortMode p.val)) s)

def execPortFec (q : Req) (p : Fin 16) (s : State) : Host.Outcome State Fault Refusal :=
  finish (ifUp (ownerWrite q (Obj.PORT_FEC p.val) (rulePortFec p.val)) s)

/-- The value in force at a frame's first byte judges it (R214): a frame in reception holds its own. -/
def execMaxFrame (q : Req) (s : State) : Host.Outcome State Fault Refusal := finish (ifUp (ownerWrite q Obj.MAX_FRAME {}) s)

/-- `MGMT_MODE` restarts the MGMT lane. -/
def ruleMgmtMode : Rule :=
  { eff := fun _ s => if (port s 16).shut ∨ milestone s 7 = false then s else queueStart 1 (stopLane 16 s) }

/-- `PORT_CT_ENABLE` 1 on -L is RANGE_ERROR (R223). -/
def rulePortCt : Rule := { chk := fun s v => if v.int = 1 ∧ s.variant = .l then (stRange, []) else (stOk, []) }

/-! ### Link (R227–R229) -/

def execLinkDown (p : Fin 17) (s : State) : Host.Outcome State Fault Refusal := finish (ifUp (linkLoss p.val) s)

/-- The PCS of a running lane reports the link up (R228): the lead starts from `LEAD_DEFAULT` (R264). In SGMII any control word but 1000 Mb/s,
full duplex leaves the link down (R205). -/
def linkUp (p speed : Nat) (full : Bool) (s : State) : State :=
  let x := port s p
  if x.lane = false ∨ x.mode = 0 ∨ x.shut ∨ portUp s p ∨ (x.mode = 2 ∧ (speed ≠ 1000 ∨ full = false)) then s
  else
    let s1 := setPort p (fun y => { y with linkSeq := y.linkSeq + 1, winFrom := s.now, winLaunched := 0, winLate := false, winSlack := 4294967295 })
      (setN (Obj.PORT_LINK p) 1 s)
    if p < 16 then setN (Obj.LEAD_NOW p) (getF s (Obj.LEAD_DEFAULT p)) s1 else s1

def execLinkUp (x : LinkReport) (s : State) : Host.Outcome State Fault Refusal :=
  finish (ifUp (linkUp x.port.val x.speed x.full) s)

/-- The close order's 35 ms have run (R229, R499). -/
def closeDue (s : State) (p : Nat) : Bool := s.power.notices.any (fun n => n.port = p && decide (n.ordered + 35 * msT ≤ s.now))

/-- A port closes (R229): the frame in transmission completes, queues are discarded, the transmitter is squelched; a frame in reception is cut
short as by link loss. -/
def closePort (p : Nat) (s : State) : State :=
  let s1 := endTx p { s with power := { s.power with notices := s.power.notices.filter (fun n => n.port ≠ p) } }
  let s2 := discardQueues p (Obj.SHUT_DROP p) s1
  let s3 := setPort p (fun x => { x with shut := true, lane := false, mode := 0, fec := 0, xoff := none }) (cutRx p s2)
  let s4 := dropWaiting p (dropStart (if p = 16 then 1 else 2 + p) s3)
  let s5 := (port s4 p).slots.foldl (fun a q => lateSlot p q .link a) s4
  let s6 := setN (Obj.PORT_LINK p) 2 s5
  swDerive (coreGc (if p < 16 then goStale (16 + p) 0 s6 else s6))

/-! ### Flow control (R222) -/

/-- A quantum is 512 bit times, 64 octets; ps. -/
def quantaPs (s : State) (p n : Nat) : Nat := n * 64 * octPs (port s p).mode

/-- A received PAUSE stops every queue, a PFC the queues of the classes it names, in the mode that heeds it (R222). -/
def applyPause (p : Nat) (b : Body) (s : State) : State :=
  let m := getN s (Obj.PORT_PAUSE p)
  let t := psNow s
  match b with
  | .pause n => if m = 1 then setPort p (fun x => { x with paused := List.replicate 8 (t + quantaPs s p n) }) s else s
  | .pfc l => if m = 2 then setPort p (fun x =>
      { x with paused := l.foldl (fun a c => a.set c.1 (t + quantaPs s p c.2)) x.paused }) s else s
  | _ => s

/-- Quanta that have run out are cleared: their queues resume. -/
def pauseExpiry (p : Nat) (s : State) : State :=
  setPort p (fun x => { x with paused := x.paused.map (fun t => if t ≤ psNow s then 0 else t) }) s

def execPauseExpiry (p : Fin 16) (s : State) : Host.Outcome State Fault Refusal := finish (ifUp (pauseExpiry p.val) s)

/-! ### The underrun ladder (R223–R226) -/

/-- A rung is set with a module's journal entry. -/
def setRung (p : Nat) (r : Nat) (s : State) : State := setN (Obj.CT_CLEAN_RUN p) 0 (setJ (Obj.CT_RUNG p) r s)

/-- The next cell of a cut-through frame is not written (R240): stomped, UNDERRUN, never retried, and the rung rises (R225). -/
def underrun (p : Nat) (s : State) : State :=
  match (port s p).tx with
  | some t =>
    let late := match t.kind with
      | .copy i => (match coreFrame s i with
        | some f => s.sw.copies.any (fun c => c.frame = i && c.out = p && c.started && decide (f.written ≤ c.read ∧ c.read < f.cells.length))
        | none => false)
      | _ => false
    if t.cut && !t.stomped && late then
      swDerive (setRung p (min 4 (getNat s (Obj.CT_RUNG p) + 1)) (stompTx p (bump (Obj.UNDERRUN p) s)))
    else s
  | none => s

def execCtUnderrun (p : Fin 16) (s : State) : Host.Outcome State Fault Refusal := finish (ifUp (underrun p.val) s)

/-- 65,536 clean frames lower the rung (R226). -/
def rungDown (p : Nat) (s : State) : State :=
  if 65536 ≤ getNat s (Obj.CT_CLEAN_RUN p) then setRung p (getNat s (Obj.CT_RUNG p) - 1) s else s

def execCtRungDown (p : Fin 16) (s : State) : Host.Outcome State Fault Refusal := finish (ifUp (rungDown p.val) s)

def ruleLadderReset (p : Nat) : Rule := { eff := fun _ s => setRung p 0 s }

def execCtLadderReset (q : Req) (p : Fin 16) (s : State) : Host.Outcome State Fault Refusal :=
  finish (ifUp (ownerCommand q (Obj.CT_LADDER_RESET p.val) (ruleLadderReset p.val)) s)

end Sys2Proof.Machine
end

