-- ==== Sys2Proof/Machine/Switch.lean ====
section
/-! DEFINITION. Machine/Switch.lean: reception, the switch core, its tables and transmission (R207, R213–R221, R231–R254, R280). -/
namespace Sys2Proof.Machine

/-! ### Tables (R242–R247) -/

def vlanEntry (s : State) (v : Nat) : Option VlanEntry := s.sw.vlans.find? (fun e => e.vid = v)
def fdbEntry (s : State) (mac vid : Nat) : Option FdbEntry := s.sw.fdb.find? (fun e => e.mac = mac && e.vid = vid)

/-- Members of a VLAN among the present ports. -/
def members (s : State) (e : VlanEntry) : Nat := e.members % 2 ^ nPorts s.variant

/-- Tag action of a port: 0 KEEP, 1 POP, 2 PUSH_C, 3 PUSH_S. -/
def actionOf (e : VlanEntry) (p : Nat) : Nat := e.actions / 4 ^ p % 4

/-- Bucket of (MAC, VLAN) (R244). -/
def fdbBucket (mac vid : Nat) : Nat := crc32 (be 6 mac ++ be 2 vid) % 8192

def fdbCounts (s : State) : State :=
  s |> setN Obj.FDB_STATIC_COUNT (s.sw.fdb.countP (fun e => e.static))
    |> setN Obj.FDB_LEARNED_COUNT (s.sw.fdb.countP (fun e => !e.static))

/-- The least value of a list with its element. -/
def oldest (l : List FdbEntry) : Option FdbEntry :=
  l.foldl (fun a e => match a with | some x => if e.hit < x.hit then some e else some x | none => some e) none

/-- Learn a source address on a port (R243): refresh or move a learned entry, else evict the learned entry of the bucket with the
oldest hit. -/
def learn (mac vid p : Nat) (s : State) : State :=
  if mac / 2 ^ 40 % 2 = 1 then s
  else
    let e : FdbEntry := { mac := mac, vid := vid, mask := 2 ^ p, static := false, drop := false, hit := s.now }
    match fdbEntry s mac vid with
    | some x =>
      if x.static then s
      else setSw (fun w => { w with fdb := e :: w.fdb.filter (fun y => !(y.mac = mac && y.vid = vid)) }) s
    | none =>
      let b := s.sw.fdb.filter (fun y => fdbBucket y.mac y.vid = fdbBucket mac vid)
      if b.length < 4 then fdbCounts (setSw (fun w => { w with fdb := e :: w.fdb }) s)
      else match oldest (b.filter (fun y => !y.static)) with
        | some o => fdbCounts (setSw (fun w => { w with fdb := e :: w.fdb.filter (· ≠ o) }) s)
        | none => bump Obj.LEARN_FULL s

/-- A learned entry ages out (R243). -/
def fdbAge (mac vid : Nat) (s : State) : State :=
  let t := getNat s Obj.FDB_AGE_TIME
  match fdbEntry s mac vid with
  | some e =>
    if e.static = false ∧ t ≠ 0 ∧ e.hit + t * sT ≤ s.now then
      fdbCounts (setSw (fun w => { w with fdb := w.fdb.filter (· ≠ e) }) s)
    else s
  | none => s

def execFdbAgeExpiry (mac vid : Nat) (s : State) : Host.Outcome State Fault Refusal := finish (ifUp (fdbAge mac vid) s)

/-! ### Back-pressure (R236) -/

/-- The condition of R236. -/
def xoffDue (s : State) (p : Nat) : Bool :=
  decide (getN s (Obj.PORT_PAUSE p) ≠ 0) &&
    (decide (0 < reserveHeld s p) || decide (getNat s Obj.SW_REPL_XOFF ≤ backlogOf s p))

/-- Classes among the frames held in the reserve or the backlog. -/
def xoffClasses (s : State) (p : Nat) : List Nat :=
  (List.range 8).filter (fun c => s.sw.frames.any (fun f => f.port = p && f.cls = c &&
    ((heldCells s f).any (·.reserve) || s.sw.backlog.contains f.id)))

/-- Queue a MAC control frame (R220, R222): PAUSE in mode 1, PFC in mode 2. It counts when it is sent. -/
def sendPause (p mode quanta : Nat) (classes : List Nat) (s : State) : State :=
  let b : Body := if mode = 2 then .pfc (classes.map (fun c => (c, quanta))) else .pause quanta
  setPort p (fun x =>
    { x with ctrl := x.ctrl ++ [{ dst := 0x0180C2000001, src := ofBe (Config.production Obj.BASE_MAC), etherType := 0x8808, body := b }] }) s

/-- Quanta 0xFFFF are requested now, in the mode of `PORT_PAUSE`. -/
def sendXoff (p : Nat) (s : State) : State :=
  let o : XoffState := { mode := getNat s (Obj.PORT_PAUSE p), sent := s.now, classes := xoffClasses s p }
  sendPause p o.mode 0xFFFF o.classes (setPort p (fun x => { x with xoff := some o }) s)

/-- Back-pressure starts, or ends with quanta 0 in the mode in which it was requested. -/
def evalXoff (p : Nat) (s : State) : State :=
  match (port s p).xoff with
  | none => if xoffDue s p then sendXoff p (bump (Obj.SW_XOFF_EVENTS p) s) else s
  | some o =>
    if xoffDue s p ∧ getNat s (Obj.PORT_PAUSE p) = o.mode then s
    else sendPause p o.mode 0 o.classes (setPort p (fun x => { x with xoff := none }) s)

/-- `PORT_PAUSE` 0, 1 or 2 (R222): back-pressure requested in another mode is released, and starts again where it is still due. -/
def rulePortPause (p : Nat) : Rule :=
  { chk := fun _ v => if 2 < v.int then (stRange, []) else (stOk, [])
    eff := fun _ s => evalXoff p (if (port s p).xoff.isSome then evalXoff p s else s) }

/-- Repeated every 32,768 quanta, or released (R236). -/
def xoffRepeat (p : Nat) (s : State) : State :=
  match (port s p).xoff with
  | none => evalXoff p s
  | some o =>
    if xoffDue s p = false then evalXoff p s
    else if o.sent * 5000 + quantaPs s p 32768 ≤ psNow s then sendXoff p s
    else s

def execBackpressureRepeat (p : Fin 16) (s : State) : Host.Outcome State Fault Refusal := finish (ifUp (xoffRepeat p.val) s)

/-! ### Head arrival (R207, R234, R235, R241–R243) -/

/-- Commit cells for a frame of the largest size (R234): shared, else from the reserve. -/
def commitCells (s : State) (p n : Nat) : Option (List Cell × Nat) :=
  let free := sharedFree s
  if n ≤ free ∧ 8 * (sharedHeld s p + n) ≤ getNat s Obj.SW_ALPHA * free then
    some (takeShared p (n + 16 * (n + 1)) n (s.sw.nextBank.getD p 0) (bankFree s) [])
  else if reserveHeld s p + n ≤ getNat s Obj.SW_BANK_RESERVE then
    some (List.replicate n { bank := p, reserve := true }, s.sw.nextBank.getD p 0)
  else none

/-- The forwarding decision (R242): the destinations with their actions, or the counter of the drop. -/
def forward (s : State) (p : Nat) (f : Frame) : Nat ⊕ List Dest :=
  let vid := vlanOf s p f
  match vlanEntry s vid with
  | none => .inl (Obj.VLAN_DROP p)
  | some e =>
    if (members s e).testBit p = false then .inl (Obj.VLAN_DROP p)
    else
      let hit := fdbEntry s f.dst vid
      if (hit.map (·.drop)).getD false then .inl (Obj.FDB_DISCARD p)
      else
        let mask := match hit with | some h => h.mask | none => members s e
        let l := (List.range 16).filter (fun o => mask.testBit o && (members s e).testBit o && o ≠ p && portUp s o)
        if l.isEmpty ∨ quiet s then .inl (Obj.FILTERED p) else .inr (l.map (fun o => { port := o, action := actionOf e o }))

/-- A hit on the destination refreshes nothing; learning of the source refreshes its entry (R243). -/
def learnHead (s : State) (p : Nat) (f : Frame) : State :=
  match vlanEntry s (vlanOf s p f) with
  | some e => if e.learn ∧ (members s e).testBit p then learn f.src e.vid p s else s
  | none => s

/-- The core takes an admitted frame of row 10 or 11 at its head. -/
def admitCore (p row : Nat) (f : Frame) (ts : Nat) (bound : Int) (s : State) : Option Nat × State :=
  match commitCells s p (cdiv (getNat s Obj.MAX_FRAME) 256) with
  | none => (none, bump (Obj.BUF_DROP p) s)
  | some (cells, ptr) =>
    let s0 := learnHead s p f
    match forward s0 p f with
    | .inl counter => (none, bump counter s0)
    | .inr dests =>
      let cls := classOf s p f
      let refused := dests.filter (fun d => decide (getNat s Obj.SW_BETA * sharedFree s < 8 * queuedCells s d.port cls))
      let s1 := refused.foldl (fun a d => bump (Obj.EGR_DROP d.port) a) s0
      let ok := dests.filter (fun d => !refused.contains d)
      if 512 ≤ backlogOf s p then (none, bump (Obj.REPL_DROP p) s0)
      else if ok.isEmpty then (none, s1)
      else
        let id := s.sw.nextId
        let c : CoreFrame :=
          { id := id, port := p, frame := f, cls := cls, vlan := vlanOf s p f, ts := ts, bound := bound, stampTick := s.now,
            stepMark := s.bound.stepTotal, fdbGen := getNat s Obj.FDB_GEN, vlanGen := getNat s Obj.VLAN_GEN,
            cells := cells, row := row, maxFrame := getNat s Obj.MAX_FRAME, dests := ok }
        (some id, setSw (fun w => { w with
          nextId := id + 1, frames := w.frames ++ [c], backlog := w.backlog ++ [id],
          nextBank := w.nextBank.set p ptr }) s1)

/-- A MAC control frame (R213 row 5) or one that `PORT_TAG_MODE` refuses never enters the core, whatever its row. -/
def toCore (row : Nat) (f : Frame) (refused : Bool) : Bool :=
  (decide (row = 10) || decide (row = 11)) && decide (f.etherType ≠ 0x8808) && !refused

/-- A frame's first byte arrives on a data port: what its head decides travels with it (R207, R214, R216, R231, R234, R242). -/
def dataHead (p : Nat) (f : Frame) (x : PcsStamp) (s : State) : State :=
  let raw := rawStamp p x false s
  let st := stampIn raw.2 p raw.1
  let row := classify s p f
  let refused := tagRefused s p f
  let a : Option Nat × State := if toCore row f refused then admitCore p row f st.1 st.2 raw.2 else (none, raw.2)
  let r : RxCur :=
    { frame := f, maxFrame := getNat s Obj.MAX_FRAME, ts := st.1, bound := st.2, tick := s.now, core := a.1, vlan := vlanOf s p f,
      refused := refused, row := row, svc := svcFor s p f }
  let s1 := setPort p (fun y => { y with rx := some r }) (setReplica (16 + p) (fun y => { y with held := y.held + 1 }) a.2)
  if a.1.isSome then swDerive (evalXoff p s1) else s1

/-- A frame's first byte arrives. MGMT takes no timestamp (R230). -/
def headArrival (p : Nat) (f : Frame) (x : PcsStamp) (s0 : State) : State :=
  if portUp s0 p = false ∨ (port s0 p).rx.isSome then s0
  else
    let s := finishTx p s0
    if p = 16 then
      setPort 16 (fun y => { y with rx := some { frame := f, maxFrame := getNat s Obj.MAX_FRAME, ts := 0, bound := unbounded80 } }) s
    else dataHead p f x s

def execFrameHeadArrival (p : Fin 17) (f : Frame) (x : PcsStamp) (s : State) : Host.Outcome State Fault Refusal :=
  finish (ifUp (headArrival p.val f x) s)

/-! ### The end of a frame (R213, R215, R231, R248, R253) -/

/-- The outcome of a received frame and its counter (R213). -/
inductive Ingress where
  | runt | giant | fcs | len | ctrl | tagged | ok
  deriving DecidableEq, Repr

/-- What row of R213 a frame takes. The MAC client data present is what stands between Length/Type and the FCS. -/
def ingress (s : State) (p : Nat) (r : RxCur) (e : RxEnd) : Ingress :=
  if e.len ≤ 63 then .runt
  else if r.maxFrame < e.len then .giant
  else if e.fcsOk = false ∨ e.codeError then .fcs
  else if r.frame.etherType < 0x600 ∧ e.len - 18 - 4 * r.frame.tags.length < r.frame.etherType then .len
  else if r.frame.etherType = 0x8808 then .ctrl
  else if p = 16 then
    (let v := getNat s Obj.MGMT_VLAN
     let okTags := match r.frame.tags with
       | [] => decide (v = 0)
       | [t] => decide (v ≠ 0) && !t.s && decide (t.vid = v)
       | _ => false
     if okTags then .ok else .tagged)
  else if r.refused then .tagged
  else .ok

/-- Length of the PTP bytes a transit message states exceeds those present (R250). -/
def transitShort (f : Frame) : Bool := match ptpOf f with | some m => decide (m.present < m.len) | none => false

/-- The SA that may re-seal a transit message (R253, R296). -/
def transitSa (s : State) (a : AuthTlv) : Option Nat :=
  (List.range 32).find? (fun i => decide (getN s (Obj.SA_ALG i) = 1) && decide (getN s (Obj.SA_TRANSIT i) = 1) &&
    decide (getNat s (Obj.SA_SPP i) = a.spp))

/-- A transit Sync or Delay_Req whose time is corrected (R249): only row 10 frames are PTP transit. -/
def transitEvent (s : State) (c : CoreFrame) : Option PtpMsg :=
  if c.row ≠ 10 then none else
  match ptpOf c.frame with
  | some m => if getN s Obj.TC_ENABLE = 1 ∧ (m.typ = 0 ∨ m.typ = 1) then some m else none
  | none => none

/-- The frame with its copy's tag action (R217). -/
def tagged (vlan cls action : Nat) (f : Frame) : Frame :=
  match action with
  | 1 => { f with tags := f.tags.drop 1 }
  | 2 => { f with tags := { s := false, pcp := cls, vid := vlan } :: f.tags }
  | 3 => { f with tags := { s := true, pcp := cls, vid := vlan } :: f.tags }
  | _ => f

/-- Length of a copy after its tag action (R217, R218). -/
def taggedLen (n action : Nat) (f : Frame) : Nat :=
  match action with
  | 1 => if f.tags.isEmpty then n else max 64 (n - 4)
  | 2 | 3 => n + 4
  | _ => n

/-- An egress timestamp of a port is bounded (R19, R212, R252). -/
def stampBounded (s : State) (p : Nat) : Bool := decide (getN s (Obj.PORT_CAL_STATE p) ≠ 1) && boundFinite (stampBound s (16 + p))

/-- A verified transit message goes to the Sill of each egress port whose timestamps are bounded; the other copies stay in their queues
(R252, R253). -/
def resealTransit (c : CoreFrame) (n sa : Nat) (s : State) : State :=
  let corr := ((ptpOf c.frame).map (·.corr)).getD 0
  let outs : List Dest := (c.dests ++ (s.sw.copies.filter (fun x => x.frame = c.id)).map (fun x => ({ port := x.out, action := x.action } : Dest))).filter
    (fun d => stampBounded s d.port)
  let rest := c.dests.filter (fun d => !stampBounded s d.port)
  let s1 := swDerive (dropCopies (fun x => x.frame = c.id && stampBounded s x.out)
    (setSw (fun w => { w with backlog := if rest.isEmpty then w.backlog.filter (· ≠ c.id) else w.backlog })
      (setCore c.id (fun f => { f with dests := rest }) s)))
  outs.foldl (fun a d =>
    let len := taggedLen n d.action c.frame
    if 2 ≤ d.action ∧ getNat a Obj.MAX_FRAME < len then bump (Obj.TAG_OVERSIZE d.port) a
    else
      toSill d.port
        { kind := 2, frame := tagged c.vlan c.cls d.action c.frame, len := len, queue := c.cls, arrived := a.now, sa := some sa,
          sealing := true, tIn := c.ts, stepIn := c.stepMark, corr0 := corr } a) s1

/-- Bytes of the copy of a frame of n bytes on an output, its tag action applied (R217). -/
def wholeLen (s : State) (i o n : Nat) : Nat :=
  match coreFrame s i, s.sw.copies.find? (fun c => c.frame = i && c.out = o) with
  | some f, some c => taggedLen n c.action f.frame
  | _, _ => n

/-- A frame of the core has been received whole and accepted (R238); transit messages are judged (R250, R253). -/
def coreWhole (i n : Nat) (s : State) : State :=
  match coreFrame s i with
  | none => s
  | some c =>
    let s0 := setCore i (fun f => { f with len := some n, got := n, cells := f.cells.take (cdiv n 256) }) s
    let s1 := (List.range 16).foldl (fun a o => setPort o (fun x => { x with tx := x.tx.map (fun t =>
      if t.kind = .copy i ∧ t.cut ∧ t.stomped = false then
        let b := octPs (port a o).mode
        let n := wholeLen s i o n
        { t with len := n, endAt := t.startAt + (8 + n) * b, freeAt := t.startAt + (20 + n) * b }
      else t) }) a) s0
    let c1 := { c with cells := c.cells.take (cdiv n 256) }
    if c.row = 10 ∧ transitShort c.frame then coreBad i n (bump (Obj.TC_LEN_DROP c.port) s1)
    else match transitEvent s c with
      | none => s1
      | some m =>
        let s2 := handIn c.port c.stampTick s1
        match m.auth with
        | none => s2
        | some a =>
          let sa := if getN s Obj.TC_AUTH_RESEAL = 1 then transitSa s a else none
          match sa with
          | none => s2
          | some k => if a.icvOk ∧ boundFinite c.bound then resealTransit c1 n k s2 else s2

/-- The answer to an ARP request or Neighbor Solicitation, from the same port with the request's tag and the tag action of its VLAN (R217,
R231, R313). -/
def answerAsk (p : Nat) (f : Frame) (s : State) : State :=
  match f.body with
  | .ask v6 t =>
    (match svcOf s p (vlanOf s p f) v6 t with
     | some a =>
       let r : Frame := { f with dst := f.src, src := svcMac s a, ip := none, body := .tell v6 t (svcMac s a) }
       bump (Obj.ARP_ND_ANSWERED p)
         (enqueue p { frame := r, len := (if v6 then 90 else 64) + 4 * f.tags.length, queue := engineQ s p, tick := s.now, vlan := vlanOf s p f } s)
     | none => s)
  | _ => s

/-- A PTP message of a frame goes to the engine with its stamp. -/
def toPtp (p : Nat) (r : RxCur) (svc : Option Nat) (s : State) : State :=
  match r.frame.body with
  | .ptp m => handIn p r.tick { s with ptpIn := s.ptpIn ++ [{ port := p, frame := r.frame, msg := m, vlan := r.vlan, svc := svc, ts := r.ts, bound := r.bound, tick := s.now }] }
  | _ => s

/-- An NTP request goes to its parser with its stamp (R316). -/
def toNtp (p : Nat) (r : RxCur) (e : RxEnd) (s : State) : State :=
  match r.frame.body, r.svc with
  | .ntpReq q, some a =>
    handIn p r.tick { bump (Obj.SVC_REQ a) s with ntpIn := s.ntpIn ++ [{ port := p, frame := r.frame, req := q, len := e.len, vlan := r.vlan, svc := a, ts := r.ts, bound := r.bound, utc := utcSecAt s (r.ts / sec96), tick := s.now }] }
  | _, some a => bump (Obj.SVC_REQ a) s
  | _, none => s

/-- What the CORE island takes from MGMT (R365): an ARP request or Neighbor Solicitation for one of its addresses is answered with
`MGMT_MAC`, a datagram to `TRANSOM_UDP_PORT` at one of them waits for the front end; anything else ends here. -/
def mgmtFrame (f : Frame) (s : State) : State :=
  let mac := ofBe (getB s Obj.MGMT_MAC)
  match f.body, f.ip with
  | .ask v6 t, _ =>
    if mgmtAddr s t then
      enqueue 16 { frame := { f with dst := f.src, src := mac, ip := none, body := .tell v6 t mac }
                   len := (if v6 then 90 else 64) + 4 * f.tags.length, queue := engineQ s 16, tick := s.now } s
    else s
  | _, some h =>
    if mgmtAddr s h.dst ∧ udpPort f = some (getNat s Obj.TRANSOM_UDP_PORT) then
      { s with host := { s.host with netRx := s.host.netRx ++ [(16, f)] } }
    else s
  | _, none => s

/-- A frame goes to the CORE island (R230, R231). -/
def toCoreIsland (p : Nat) (f : Frame) (s : State) : State := { s with host := { s.host with netRx := s.host.netRx ++ [(p, f)] } }

/-- The classifier hands an RX_OK frame of a data port on, by the row of its head (R231). -/
def dispatch (p : Nat) (r : RxCur) (e : RxEnd) (s : State) : State :=
  match r.row with
  | 1 => (match r.frame.body with | .esmc valid ql ecode cascade => esmcRx p valid ql.val ecode.val cascade.val s | _ => s)
  | 2 =>
    if anyInst (fun k => ptpPortRuns s k p && isP2P s k) then toPtp p r none s else bump (Obj.LINK_LOCAL_DROP p) s
  | 3 => bump (Obj.LINK_LOCAL_DROP p) s
  | 4 => if standby s then bump (Obj.SVC_DROP p) s else answerAsk p r.frame s
  | 5 => toNtp p r e s
  | 6 | 9 => toPtp p r r.svc s
  | 7 => toCoreIsland p r.frame s
  | 8 => bump (Obj.SVC_DROP p) s
  | _ => s

/-- The frame in reception on a port ends (R213). -/
def rxEnd (p : Nat) (e : RxEnd) (s0 : State) : State :=
  match (port s0 p).rx with
  | none => bumpBy (Obj.SYMBOL_ERR p) e.symbols s0
  | some r =>
    let s := bumpBy (Obj.SYMBOL_ERR p) e.symbols (setPort p (fun x => { x with rx := none }) s0)
    let bad (k n : Nat) : State := match r.core with | some i => coreBad i n (bump k s) | none => bump k s
    match ingress s0 p r e with
    | .runt => bad (Obj.RUNT p) 0
    | .giant => bad (Obj.GIANT p) e.len
    | .fcs => bad (Obj.FCS_ERR p) (if e.codeError then min e.good (e.len - 4) else e.len - 4)
    | .len => bad (Obj.LEN_ERR p) (e.len - 4)
    | .ctrl =>
      (match r.frame.body with
       | .pause _ | .pfc _ => applyPause p r.frame.body (bump (Obj.PAUSE_RX p) s)
       | _ => bump (Obj.MAC_CTRL_DROP p) s)
    | .tagged => bump (Obj.ADMIT_DROP p) s
    | .ok =>
      let s1 := bumpBy (Obj.RX_OCTETS p) e.len (bump (Obj.RX_OK p) s)
      if p = 16 then mgmtFrame r.frame s1
      else match r.core with
        | some i => swDerive (evalXoff p (coreWhole i e.len s1))
        | none => dispatch p r e s1

/-! ### Replication (R241) -/

/-- The replicator of a port enqueues up to four descriptors of its oldest frame. -/
def replicate (p : Nat) (s : State) : State :=
  match s.sw.backlog.find? (fun i => s.sw.frames.any (fun f => f.id = i && f.port = p)) with
  | none => s
  | some i => match coreFrame s i with
    | none => s
    | some f =>
      let now := f.dests.take 4
      let rest := f.dests.drop 4
      let cs : List Copy := now.map (fun d => { frame := i, out := d.port, inp := p, cls := f.cls, action := d.action, tick := s.now })
      swDerive (evalXoff p (coreGc (setSw (fun w => { w with
        copies := w.copies ++ cs
        backlog := if rest.isEmpty then w.backlog.erase i else w.backlog }) (setCore i (fun x => { x with dests := rest }) s))))

def execReplicateFrame (p : Fin 16) (s : State) : Host.Outcome State Fault Refusal := finish (ifUp (replicate p.val) s)

/-! ### The scheduler (R238–R240) -/

/-- Start thresholds of the ladder ("Cut-through ladder"). -/
def ctThreshold (r : Nat) : Nat := 256 * 2 ^ r

/-- R223 but for the rung. -/
def cutShape (s : State) (c : Copy) (f : CoreFrame) : Bool :=
  decide (s.variant ≠ .l) && decide ((port s f.port).mode = 4) && decide ((port s c.out).mode = 4) &&
    decide (getN s (Obj.PORT_CT_ENABLE c.out) = 1) && decide (f.row = 11) && decide (c.action < 2) &&
    (port s c.out).tx.isNone && !(port s c.out).eng.any (fun e => decide (c.cls ≤ e.queue)) &&
    !s.sw.copies.any (fun x => x.out = c.out && decide (c.cls ≤ x.cls) && x ≠ c)

/-- A copy is eligible (R238): received whole, or cut-through with its threshold received. -/
def eligibleCopy (s : State) (c : Copy) : Bool :=
  match coreFrame s c.frame with
  | none => false
  | some f =>
    if f.len.isSome then !f.bad
    else
      let r := getNat s (Obj.CT_RUNG c.out)
      decide (r < 4) && decide (ctThreshold r ≤ f.got) && cutShape s c f

/-- Head of the VOQ (i, o, c). -/
def voqHead (s : State) (i o c : Nat) : Option Copy :=
  s.sw.copies.find? (fun x => x.inp = i && x.out = o && x.cls = c && !x.started)

/-- The wire is kept for L while a frame of n bytes started now could not end with its gap and the Sill frame's preamble before it (R221). -/
def before (s : State) (p n l : Nat) : Bool :=
  decide (l < s.ts.mts + (n + 27) * oct48 s p + termA s p s.ts.mts (n + 27))

/-- A launch slot of the port holds an instant that keeps a frame of n bytes from starting now (R221), or the guard time of a late slot still
runs (R267). -/
def guarded (s : State) (p n : Nat) : Bool :=
  (port s p).slots.any (fun q => before s p n (slotAt q 0)) ||
    (port s p).guardL.any (fun l => decide (s.ts.mts < l) && before s p n l)

/-- Length of a copy as it will be sent; one still arriving counts as the largest. -/
def copyLen (s : State) (c : Copy) : Nat :=
  match coreFrame s c.frame with
  | some f => (match f.len with | some n => taggedLen n c.action f.frame | none => f.maxFrame)
  | none => 0

/-- Inputs that request an output at a class, from the grant pointer on (R239). -/
def requester (s : State) (o c : Nat) (free : Nat → Bool) : Option Copy :=
  let g := s.sw.grant.getD (8 * o + c) 0
  ((List.range 16).map (fun k => (g + k) % 16)).findSome? (fun i =>
    if free i then (match voqHead s i o c with
      | some x => if eligibleCopy s x then some x else none
      | none => none) else none)

/-- The grant of an output: the highest class not paused that an input requests, unless R221 holds its frame back: then lower classes do not
overtake it (R221, R239). -/
def grantOf (s : State) (o : Nat) (free : Nat → Bool) : Option Copy :=
  ([7, 6, 5, 4, 3, 2, 1, 0].findSome? (fun c => if queuePaused s o c then none else requester s o c free)).filter
    (fun x => !guarded s o (copyLen s x))

/-- The wire is free for a frame that starts within the present tick. -/
def wireReady (s : State) (p : Nat) : Bool := (port s p).tx.isNone && decide ((port s p).free ≤ psNow s + 4999)

/-- An output is ready for its next frame (R239): its link is up, nothing is on the wire, and no frame is in progress. -/
def outReady (s : State) (o : Nat) : Bool := portUp s o && wireReady s o && (port s o).locked.isNone

/-- Reads left per bank in a slot (R238). -/
def bankOfCell (s : State) (c : Copy) : Option Nat :=
  (coreFrame s c.frame).bind (fun f => (f.cells[c.read]?).map (·.bank))

/-- A frame's next cell moves into its output's transmit FIFO (R238, R239): written, room for it, a read of its bank left. -/
def moveCell (o : Nat) (acc : List Nat × State) : List Nat × State :=
  let (reads, s) := acc
  match (port s o).locked with
  | none => acc
  | some i => match s.sw.copies.find? (fun c => c.frame = i && c.out = o) with
    | none => acc
    | some c => match coreFrame s i, bankOfCell s c with
      | some f, some b =>
        if c.read < f.written ∧ (port s o).fifo < 8 ∧ 0 < reads.getD b 0 then
          (reads.modify b (· - 1), setPort o (fun x => { x with fifo := x.fifo + 1 })
            (setSw (fun w => { w with copies := w.copies.map (fun x => if x = c then { x with read := x.read + 1 } else x) }) s))
        else acc
      | _, _ => acc

/-- Lock an output to a copy, whose first cell moves into the FIFO (R239). -/
def lockCopy (c : Copy) (s : State) : State :=
  setPort c.out (fun x => { x with locked := some c.frame, lockAge := s.sw.nextLock, fifo := 1 })
    (setSw (fun w => { w with
      nextLock := w.nextLock + 1, copies := w.copies.map (fun x => if x = c then { x with read := 1 } else x) }) s)

/-- A copy that was granted and has not started gives its output up: it heads its VOQ again. -/
def unlock (p : Nat) (s : State) : State :=
  match (port s p).locked with
  | none => s
  | some i => setPort p (fun x => { x with locked := none, fifo := 0 })
      (setSw (fun w => { w with copies := w.copies.map (fun c => if c.frame = i ∧ c.out = p then { c with read := 0 } else c) }) s)

/-- One iteration of request, grant and accept (R239): each ready output grants, each input accepts by class and its pointer, while the bank of a
written first cell has a read left. -/
def iteration (first : Bool) (acc : List Nat × State) : List Nat × State :=
  let (reads0, s0) := acc
  let outs := (List.range 16).filter (outReady s0)
  let grants := outs.filterMap (fun o => grantOf s0 o (fun _ => true))
  (List.range 16).foldl (fun (a : List Nat × State) i =>
    let mine := grants.filter (fun c => c.inp = i)
    let ap := a.2.sw.accept.getD i 0
    let order := [7, 6, 5, 4, 3, 2, 1, 0].flatMap (fun c =>
      ((List.range 16).map (fun k => (ap + k) % 16)).filterMap (fun o => mine.find? (fun x => x.out = o && x.cls = c)))
    order.foldl (fun (b : List Nat × State) c =>
      match bankOfCell b.2 c with
      | some k =>
        if 0 < b.1.getD k 0 ∧ 0 < ((coreFrame b.2 c.frame).map (·.written)).getD 0 then
          let s1 := lockCopy c b.2
          let s2 := if first then setSw (fun w => { w with
            grant := w.grant.set (8 * c.out + c.cls) ((i + 1) % 16), accept := w.accept.set i ((c.out + 1) % 16) }) s1 else s1
          (b.1.modify k (· - 1), s2)
        else b
      | none => b) a) (reads0, s0)

/-- Cells written in this slot: as many as bytes have come, any number to the own bank, one to each other bank's borrow port, whose
borrowers are served in rotating order (R232, R240). -/
def writeCells (rx : List (Fin 16 × Nat)) (s : State) : State :=
  let s1 := rx.foldl (fun a r =>
    match (port a r.1.val).rx.bind (·.core) with
    | some i => setCore i (fun f => { f with got := max f.got r.2 }) a
    | none => a) s
  let due (f : CoreFrame) : Nat := match f.len with | some n => cdiv n 256 | none => f.got / 256
  -- each bank's borrow port serves one borrower
  let go (a : List Nat × State) (p : Nat) : List Nat × State :=
    a.2.sw.frames.foldl (fun (b : List Nat × State) f =>
      if f.port ≠ p then b
      else
        let n := min (due f) f.cells.length - f.written
        let r := (List.range n).foldl (fun (c : List Nat × Nat × Bool) k =>
          if c.2.2 then c
          else
            let bank := (f.cells.getD (f.written + k) { bank := p, reserve := false }).bank
            if bank = p then (c.1, c.2.1 + 1, false)
            else if c.1.contains bank then (c.1, c.2.1, true)
            else (bank :: c.1, c.2.1 + 1, false)) (b.1, 0, false)
        (r.1, setCore f.id (fun x => { x with written := x.written + r.2.1 }) b.2)) a
  let start := s1.sw.borrower
  ((((List.range 16).map (fun k => (start + k) % 16)).foldl go ([], s1)).2) |>
    setSw (fun w => { w with borrower := (start + 1) % 16 })

/-- A 20 ns cell slot (R239). -/
def cellSlot (rx tx : List (Fin 16 × Nat)) (s0 : State) : State :=
  let s := writeCells rx (tx.foldl (fun a t => setPort t.1.val (fun x => { x with fifo := x.fifo - t.2 }) a) ((List.range 16).foldl (fun a o => finishTx o a) s0))
  let byAge := (List.range 16).filter (fun o => (port s o).locked.isSome)
  let order := byAge.foldl (fun (l : List Nat) o =>
    l.takeWhile (fun x => (port s x).lockAge ≤ (port s o).lockAge) ++ [o] ++ l.dropWhile (fun x => (port s x).lockAge ≤ (port s o).lockAge)) []
  let a := order.foldl (fun x o => moveCell o x) (List.replicate 16 4, s)
  let b := iteration false (iteration false (iteration true a))
  swDerive (coreGc b.2)

def execSwitchCellSlot (rx tx : List (Fin 16 × Nat)) (s : State) : Host.Outcome State Fault Refusal :=
  finish (ifUp (cellSlot rx tx) s)

end Sys2Proof.Machine
end

