-- ==== Sys2Proof/Machine/SwitchTx.lean ====
section
/-! DEFINITION. Machine/SwitchTx.lean: transmission (R217–R221, R249–R253, R279, R280), the writes of the switch tables (R245–R247) and
buffer errors (R254). -/
namespace Sys2Proof.Machine

/-! ### What the MAC writes at commit -/

/-- A message into which the MAC writes its time: a one-step Sync or Pdelay_Resp without an SA (R280). -/
def macWritten (m : PtpMsg) : Bool := (m.typ = 0 || m.typ = 3) && !m.two && m.auth.isNone

/-- Bytes of a frame with a PTP message: two more octets after a message that the MAC writes over UDP/IPv6 (R280). -/
def ptpFrameLen (f : Frame) (m : PtpMsg) : Nat :=
  let ip := match f.ip with | some h => if h.v6 then 48 + (if macWritten m then 2 else 0) else 28 | none => 0
  max 64 (14 + 4 * f.tags.length + ip + ptpLen m + 4)

/-- Seal a message that leaves through a queue, by the SA of its PTP port or session (R278, R292). `none` where the SA is
exhausted or its key may not be used (R343). -/
def sealMsg (sa : Nat) (m : PtpMsg) (s : State) : Option PtpMsg × State :=
  if 32 ≤ sa then (some m, s)
  else match nextSeq sa s with
    | (some n, s1) =>
      let u := useKey (getNat s (Obj.SA_KEY_SLOT sa)) usePtp s1
      (if u.1 then some (sealAs s sa n m) else none, u.2)
    | (none, s1) => (none, s1)

/-- Profile of an instance: 4 is GPTP. -/
def isGptp (s : State) (k : Nat) : Bool := decide (getN s (Obj.INST_PROFILE k) = 4)

/-- The SA a PTP port sends under: `PTPP_TX_SA`, where it is on; none on a GPTP port (R277). -/
def txSa (s : State) (i : Nat) : Nat :=
  let a := getNat s (Obj.PTPP_TX_SA i)
  if a < 32 ∧ getN s (Obj.SA_ALG a) ≠ 0 ∧ isGptp s (i / 16) = false then a else 0xFF

/-- Queue a general message behind an event message that has left (R278). -/
def queueGeneral (p : Nat) (e : EngFrame) (m : PtpMsg) (s : State) : State :=
  match sealMsg (txSa s (16 * e.inst + p)) m s with
  | (none, s1) => s1
  | (some m1, s1) =>
    let f := { e.frame with
      body := .ptp m1
      ip := e.frame.ip.map (fun h => { h with udp := some (320, 320) }) }
    enqueue p { e with frame := f, len := ptpFrameLen f m1, tick := s.now } s1

/-- The instance withholds its time (R284). -/
def ptpWithheld (s : State) (k : Nat) : Bool := decide (3 ≤ getN s Obj.BOUND_GRADE) && decide (getN s (Obj.INST_SERVE_EARLY k) = 0)

/-- A time transmitter port of an instance that withholds its time (R284); i is 16 × instance + port. -/
def portWithheld (s : State) (i : Nat) : Bool := ptpWithheld s (i / 16) && decide (getN s (Obj.PTPP_STATE i) = 3)

/-- The bits of `PTPP_BOUND_TLV` (R289). -/
def boundBit (s : State) (i bit : Nat) : Bool := (getNat s (Obj.PTPP_BOUND_TLV i)).testBit bit

/-- Keep a request's egress stamp (R278, R308). -/
def noteReq (i seq te : Nat) (b : Int) (s : State) : State :=
  { s with ptp := { s.ptp with ports := modAt i (fun x =>
    { x with req := x.req.map (fun r => if r.seq = seq then { r with t := some (te, b) } else r) }) s.ptp.ports } }

/-- An engine's frame is committed with egress stamp te (R279, R280): what is written into it, and the follow-up it calls for. -/
def commitEngine (p : Nat) (e : EngFrame) (te : Nat) (b : Int) (s : State) : Frame × State :=
  match e.frame.body with
  | .ptp m =>
    let i := 16 * e.inst + p
    let pair := portPair s p b
    if m.typ = 0 ∨ m.typ = 3 then
      if m.two then
        let fu : PtpMsg :=
          { m with
            typ := if m.typ = 0 then 8 else 10, two := false, ts := te / 65536 * 65536, log := m.log
            corr := (if m.typ = 0 then m.corr else e.corrReq) + (te % 65536 : Nat)
            bound := if boundBit s i (if m.typ = 0 then 1 else 2) then some (boundTlv s true pair) else none
            info := if m.typ = 0 ∧ isGptp s e.inst then some 0 else none }
        (e.frame, if portWithheld s i then handOn p s else queueGeneral p e fu (handOn p s))
      else
        let m1 := writePtp m (if m.typ = 0 then m.corr else e.corrReq) e.tReq te
        let m2 := if m1.bound.isSome then { m1 with bound := some (boundTlv s true pair) } else m1
        ({ e.frame with body := .ptp m2 }, handOn p s)
    else if m.typ = 1 ∨ m.typ = 2 then (e.frame, noteReq i m.seq te b (handOn p s))
    else (e.frame, s)
  | _ => (e.frame, s)

/-- The tag action of a frame the module originates on a VLAN (R217). -/
def engineTag (s : State) (p : Nat) (e : EngFrame) : Frame × Nat :=
  if e.vlan = 0 then (e.frame, e.len)
  else match vlanEntry s e.vlan with
    | some v =>
      let a := actionOf v p
      (tagged e.vlan e.queue a e.frame, taggedLen e.len a e.frame)
    | none => (e.frame, e.len)

/-- A transit event message leaves (R249–R253): its correctionField, or why it is unchanged. -/
def commitTransit (p : Nat) (c : CoreFrame) (te : Nat) (b : Int) (f : Frame) (s : State) : Frame × State :=
  match transitEvent s c with
  | none => (f, s)
  | some m =>
      match m.auth with
      | some a =>
        let sa := if getN s Obj.TC_AUTH_RESEAL = 1 then transitSa s a else none
        (match sa with
         | none => (f, bump (Obj.TC_AUTH_UNCORRECTED p) s)
         | some _ => if a.icvOk then (f, bump (Obj.TC_UNCORRECTED p) s) else (f, bump (Obj.TC_AUTH_BAD p) s))
      | none =>
        if boundFinite c.bound ∧ boundFinite b then
          (rewritePtp (fun x => { x with corr := addCorr m.corr (residence s c.ts c.stepMark te) }) f,
            bump (Obj.TC_CORRECTED p) (handOn p s))
        else (f, bump (Obj.TC_UNCORRECTED p) s)

/-! ### The egress scheduler (R219–R221) -/

/-- Start a transmission of n bytes now. -/
def startTx (p q n : Nat) (kind : TxKind) (cut clean : Bool) (f : Frame) (te : Nat) (s : State) : State :=
  let b := octPs (port s p).mode
  let t := psNow s
  let cur : TxCur := { kind := kind, len := n, startAt := t, endAt := t + (8 + n) * b, freeAt := t + (20 + n) * b, cut := cut, clean := clean, frame := f }
  emit (.tx p q f te) (setPort p (fun x => { x with tx := some cur }) s)

/-- The head of queue q of a port: the copy its output is locked to, a VOQ head that waits for its grant, or an engine's frame, the
earlier first. -/
inductive Head where
  | copy (c : Copy)
  | eng (e : EngFrame)
  deriving DecidableEq, Repr

/-- The copy that its output is locked to and that has not started. -/
def granted (s : State) (p : Nat) : Option Copy :=
  (port s p).locked.bind (fun i => s.sw.copies.find? (fun c => c.frame = i && c.out = p && !c.started))

def headOf (s : State) (p q : Nat) : Option Head :=
  let e := (port s p).eng.find? (fun e => e.queue = q)
  let c : Option Copy := match (granted s p).filter (fun c => c.cls = q) with
    | some c => some c
    | none => if p < 16 then requester s p q (fun _ => true) else none
  match c, e with
  | some c, some e => if e.tick < c.tick then some (.eng e) else some (.copy c)
  | some c, none => some (.copy c)
  | none, some e => some (.eng e)
  | none, none => none

/-- The head frame of the highest queue that is not paused (R219). -/
def nextHead (s : State) (p : Nat) : Option Head :=
  [7, 6, 5, 4, 3, 2, 1, 0].findSome? (fun q => if queuePaused s p q then none else headOf s p q)

/-- Start a granted copy (R217, R218, R223, R226, R249). One that still arrives goes cut-through, where R223 holds at its start. -/
def startCopy (p : Nat) (c : Copy) (x : PcsStamp) (s0 : State) : State :=
  match coreFrame s0 c.frame with
  | none => s0
  | some f =>
    let cut := f.len.isNone
    let n := copyLen s0 c
    if cut ∧ eligibleCopy s0 c = false then unlock p s0
    else if 2 ≤ c.action ∧ getNat s0 Obj.MAX_FRAME < n then
      swDerive (dropCopies (· = c) (bump (Obj.TAG_OVERSIZE p) (setPort p (fun y => { y with locked := none, fifo := 0 }) s0)))
    else
      let raw := rawStamp p x true s0
      let s := raw.2
      let clean := cut || (decide (getNat s (Obj.CT_RUNG p) = 4) && cutShape s c f)
      let s2 := setSw (fun w => { w with copies := w.copies.map (fun y => if y = c then { y with started := true, cut := cut } else y) }) s
      let te := stampOut s p raw.1
      let fr := commitTransit p f te.1 te.2 (tagged f.vlan f.cls c.action f.frame) s2
      startTx p c.cls n (.copy c.frame) cut clean fr.1 te.1 (if cut then bump (Obj.CT_FRAMES p) fr.2 else fr.2)

/-- Start an engine's frame (R217, R218, R280). -/
def startEngine (p : Nat) (e : EngFrame) (x : PcsStamp) (s : State) : State :=
  let s1 := setPort p (fun x => { x with eng := x.eng.erase e }) s
  let t := engineTag s p e
  if getNat s Obj.MAX_FRAME < t.2 ∧ e.len < t.2 then bump (Obj.TAG_OVERSIZE p) s1
  else
    let raw := rawStamp p x true s1
    let te := stampOut s p raw.1
    let c := commitEngine p e te.1 te.2 raw.2
    let f := { c.1 with tags := t.1.tags }
    startTx p e.queue t.2 .engine false false f te.1 c.2

/-- Start the head frame that strict priority chooses (R219): a copy only once its output has been granted to it; one that another outranks
gives the grant up (R239). -/
def startHead (p : Nat) (x : PcsStamp) (s : State) : State :=
  match nextHead s p with
  | none => s
  | some (.copy c) =>
    if (granted s p) ≠ some c then unlock p s else if guarded s p (copyLen s c) then s else startCopy p c x s
  | some (.eng e) => if guarded s p (engineTag s p e).2 then s else startEngine p e x s

/-- The egress scheduler at a frame boundary (R219–R221). -/
def txStart (p : Nat) (x : PcsStamp) (s0 : State) : State :=
  let s := takeNet p (finishTx p s0)
  if portUp s p = false ∨ wireReady s p = false then s
  else match (port s p).ctrl with
    | f :: r =>
      if guarded s p 64 then s
      else startTx p 8 64 .ctrl false false f 0 (setPort p (fun y => { y with ctrl := r }) s)
    | [] => startHead p x s

def execTxFrameStart (p : Fin 17) (block : Nat) (place : PcsPlace) (s : State) : Host.Outcome State Fault Refusal :=
  finish (ifUp (txStart p.val { block := block, place := place }) s)

/-! ### Table writes (R245–R247) -/

/-- Split a value into entries of n bytes. -/
def entriesOf (n : Nat) : Nat → List Byte → List (List Byte)
  | 0, _ => []
  | f + 1, b => if b.isEmpty then [] else b.take n :: entriesOf n f (b.drop n)

/-- Length and field rules of a table write (R245). -/
def tableLength (n : Nat) (b : List Byte) : Bool := b.length ≠ 0 && b.length % n = 0 && decide (b.length ≤ 256 * n)

def fdbFieldsOk (v : Variant) (e : List Byte) : Bool :=
  let vid := fieldU e 6 2
  let fl := fieldU e 10 1
  decide (1 ≤ vid ∧ vid ≤ 4094) && decide (fieldU e 8 2 < 2 ^ nPorts v) && decide (fl < 8) && decide (fieldU e 11 1 = 0) &&
    decide (fieldU e 12 4 = 0) && !(fl.testBit 0 && !fl.testBit 1)

/-- One entry applied (R245). `none` where all four ways of its bucket are static. -/
def fdbApply (now : Nat) (e : List Byte) (l : List FdbEntry) : Option (List FdbEntry) :=
  let mac := fieldU e 0 6
  let vid := fieldU e 6 2
  let fl := fieldU e 10 1
  let rest := l.filter (fun y => !(y.mac = mac && y.vid = vid))
  if fl.testBit 0 = false then some rest
  else
    let x : FdbEntry := { mac := mac, vid := vid, mask := fieldU e 8 2, static := true, drop := fl.testBit 2, hit := now }
    let b := rest.filter (fun y => fdbBucket y.mac y.vid = fdbBucket mac vid)
    if b.length < 4 then some (x :: rest)
    else match oldest (b.filter (fun y => !y.static)) with
      | some o => some (x :: rest.filter (· ≠ o))
      | none => none

def fdbApplyAll (now : Nat) : List (List Byte) → List FdbEntry → Option (List FdbEntry)
  | [], l => some l
  | e :: r, l => (fdbApply now e l).bind (fdbApplyAll now r)

/-- The FDB as the writes that wait for the one before them will leave it (R245, R247). -/
def fdbPending (s : State) : List FdbEntry :=
  (s.sw.fdbWrites.filter (fun w => w.commit.isNone && w.key = Obj.FDB_WRITE)).foldl
    (fun l w => (fdbApplyAll s.now (entriesOf 16 256 w.value) l).getD l) s.sw.fdb

def fdbCheck (s : State) (b : List Byte) : Nat × List Byte :=
  if tableLength 16 b = false then (stLength, [])
  else
    let es := entriesOf 16 256 b
    if es.all (fdbFieldsOk s.variant) = false then (stRange, [])
    else if (fdbApplyAll s.now es (fdbPending s)).isNone then (stConflict, []) else (stOk, [])

def vlanFieldsOk (v : Variant) (e : List Byte) : Bool :=
  let vid := fieldU e 0 2
  decide (1 ≤ vid ∧ vid ≤ 4094) && decide (fieldU e 2 1 < 4) && decide (fieldU e 3 1 = 0) &&
    decide (fieldU e 4 2 < 2 ^ nPorts v) && decide (fieldU e 6 2 = 0)

def vlanCheck (s : State) (b : List Byte) : Nat × List Byte :=
  if tableLength 12 b = false then (stLength, [])
  else if (entriesOf 12 256 b).all (vlanFieldsOk s.variant) = false then (stRange, []) else (stOk, [])

def vlanApply (e : List Byte) (l : List VlanEntry) : List VlanEntry :=
  let vid := fieldU e 0 2
  let rest := l.filter (fun x => x.vid ≠ vid)
  if (fieldU e 2 1).testBit 0 then
    rest ++ [{ vid := vid, learn := (fieldU e 2 1).testBit 1, members := fieldU e 4 2, actions := fieldU e 8 4 }]
  else rest

/-- Commit a table write at one edge: all its entries, and the generation adds 1 (R246). -/
def commitTable (w : TableWrite) (s : State) : TableWrite × State :=
  if w.key = Obj.VLAN_WRITE then
    let g := (getN s Obj.VLAN_GEN + 1) % 4294967296
    ({ w with commit := some (s.now, g.toNat) },
      setN Obj.VLAN_GEN g (setSw (fun x => { x with vlans := (entriesOf 12 256 w.value).foldl (fun a e => vlanApply e a) x.vlans }) s))
  else
    let g := (getN s Obj.FDB_GEN + 1) % 4294967296
    let tab : List FdbEntry :=
      if w.key = Obj.FDB_FLUSH then
        s.sw.fdb.filter (fun e => e.static || (List.range 16).all (fun p => !((ofBe w.value).testBit p && e.mask.testBit p)))
      else (fdbApplyAll s.now (entriesOf 16 256 w.value) s.sw.fdb).getD s.sw.fdb
    ({ w with commit := some (s.now, g.toNat) }, fdbCounts (setN Obj.FDB_GEN g (setSw (fun x => { x with fdb := tab }) s)))

def tableWrites (s : State) (vlan : Bool) : List TableWrite := if vlan then s.sw.vlanWrites else s.sw.fdbWrites
def setTableWrites (vlan : Bool) (l : List TableWrite) (s : State) : State :=
  setSw (fun w => if vlan then { w with vlanWrites := l } else { w with fdbWrites := l }) s

/-- An accepted write commits, or waits for the write before it to return (R247). -/
def acceptTable (vlan : Bool) (w : TableWrite) (s : State) : State :=
  if (tableWrites s vlan).isEmpty then
    let c := commitTable w s
    setTableWrites vlan [c.1] c.2
  else setTableWrites vlan (tableWrites s vlan ++ [w]) s

/-- A frame of the core is of the generation before a commit. -/
def oldFrame (vlan : Bool) (g : Nat) (f : CoreFrame) : Bool := decide ((if vlan then f.vlanGen else f.fdbGen) ≠ g)

/-- The write at the front returns: OK, with the number of frames flushed in its entry; the next one commits (R247). -/
def returnTable (vlan : Bool) (s : State) : State :=
  match tableWrites s vlan with
  | [] => s
  | w :: r =>
    let op : ReqOp := if w.key = Obj.FDB_FLUSH then .command else .write
    let s1 := answerLate w.req op w.key stOk (be 4 w.flushed) w.value [] (setTableWrites vlan r s)
    match r with
    | [] => s1
    | n :: t =>
      let c := commitTable n s1
      setTableWrites vlan (c.1 :: t) c.2

/-- No frame of the old generation remains (R247). -/
def tableReturn (vlan : Bool) (s : State) : State :=
  match tableWrites s vlan with
  | w :: _ =>
    (match w.commit with
     | some (_, g) => if s.sw.frames.any (oldFrame vlan g) then s else returnTable vlan s
     | none => s)
  | [] => s

def execTableWriteReturn (vlan : Bool) (s : State) : Host.Outcome State Fault Refusal := finish (ifUp (tableReturn vlan) s)

/-- `SW_GEN_TIMEOUT` after the commit every old frame not yet started is discarded (R247). -/
def tableTimeout (vlan : Bool) (s : State) : State :=
  match tableWrites s vlan with
  | w :: r =>
    (match w.commit with
     | some (t, g) =>
       if s.now < t + getNat s Obj.SW_GEN_TIMEOUT * msT then s
       else
         let old (i : Nat) : Bool := s.sw.frames.any (fun f => f.id = i && oldFrame vlan g f)
         let gone := s.sw.copies.filter (fun c => old c.frame && !c.started)
         let waiting := s.sw.frames.filter (fun f => old f.id && !f.dests.isEmpty)
         let s1 := gone.foldl (fun a c => bump (Obj.GEN_FLUSH c.out) a) s
         let s2 := waiting.foldl (fun a f => f.dests.foldl (fun b d => bump (Obj.GEN_FLUSH d.port) b)
           (setCore f.id (fun x => { x with dests := [] }) a)) s1
         let s3 := setSw (fun x => { x with backlog := x.backlog.filter (fun i => !old i) }) s2
         let s4 := (List.range 16).foldl (fun a o => setPort o (fun x =>
           if gone.any (fun c => c.out = o && x.locked = some c.frame) then { x with locked := none, fifo := 0 } else x) a) s3
         let n := gone.length + (waiting.map (fun f => f.dests.length)).sum
         returnTable vlan (setTableWrites vlan ({ w with flushed := n } :: r)
           (swDerive (dropCopies (fun c => old c.frame && !c.started) s4)))
     | none => s)
  | [] => s

def execTableGenTimeout (vlan : Bool) (s : State) : Host.Outcome State Fault Refusal := finish (ifUp (tableTimeout vlan) s)

def ruleFdbWrite : Rule :=
  { chk := fun s v => fdbCheck s v.bytes
    defer := some (fun q v s => acceptTable false { req := q, key := Obj.FDB_WRITE, value := v.bytes } s) }

/-- Removes learned entries on the ports of the mask; a bit of an absent port is out of range. -/
def ruleFdbFlush : Rule :=
  { chk := fun s v => if 2 ^ nPorts s.variant ≤ v.nat then (stRange, []) else (stOk, [])
    defer := some (fun q v s => acceptTable false { req := q, key := Obj.FDB_FLUSH, value := be 2 v.nat } s) }

def ruleVlanWrite : Rule :=
  { chk := fun s v => vlanCheck s v.bytes
    defer := some (fun q v s => acceptTable true { req := q, key := Obj.VLAN_WRITE, value := v.bytes } s) }

def execFdbWrite (q : Req) (s : State) : Host.Outcome State Fault Refusal := finish (ifUp (ownerWrite q Obj.FDB_WRITE ruleFdbWrite) s)
def execFdbFlush (q : Req) (s : State) : Host.Outcome State Fault Refusal := finish (ifUp (ownerCommand q Obj.FDB_FLUSH ruleFdbFlush) s)
def execVlanWrite (q : Req) (s : State) : Host.Outcome State Fault Refusal := finish (ifUp (ownerWrite q Obj.VLAN_WRITE ruleVlanWrite) s)

/-- Reserves change only while every data port is DISABLED (R232). -/
def ruleBankReserve : Rule :=
  { chk := fun s _ => if (List.range (nPorts s.variant)).any (fun p => getN s (Obj.PORT_MODE p) ≠ 0) then (stConflict, []) else (stOk, [])
    eff := fun v s => swDerive (setN Obj.SW_SHARED_SIZE (49152 - v.int * (nPorts s.variant : Int)) s) }

/-- 0, or 10 to 1,000,000 (R243). -/
def ruleFdbAge : Rule := { chk := fun _ v => if v.int = 0 ∨ (10 ≤ v.int ∧ v.int ≤ 1000000) then (stOk, []) else (stRange, []) }

/-- An entry of the FDB as bytes ("FDB entry"). -/
def fdbBytes (s : State) (e : FdbEntry) : List Byte :=
  be 6 e.mac ++ be 2 e.vid ++ be 2 e.mask ++ be 1 (1 + (if e.static then 2 else 0) + (if e.drop then 4 else 0)) ++ be 1 0 ++
    be 4 (if e.static then 0 else (s.now - e.hit) / sT)

def fdbDump (s : State) : List Byte := s.sw.fdb.flatMap (fdbBytes s)

/-- An entry of the VLAN table as bytes ("VLAN entry"). -/
def vlanBytes (s : State) (e : VlanEntry) : List Byte :=
  be 2 e.vid ++ be 1 (1 + (if e.learn then 2 else 0)) ++ be 1 0 ++ be 2 (members s e) ++ be 2 0 ++ be 4 e.actions

def vlanDump (s : State) : List Byte := s.sw.vlans.flatMap (vlanBytes s)

/-! ### Buffer errors (R254) -/

/-- Every frame in the core is discarded (R254). -/
def clearCore (s : State) : State :=
  let s1 := (List.range 16).foldl (fun a o =>
    match (port a o).tx with
    | some t => (match t.kind with | .copy _ => stompTx o a | _ => a)
    | none => a) s
  swDerive (coreGc (setSw (fun w => { w with frames := [], copies := [], backlog := [] })
    ((List.range 17).foldl (fun a o => setPort o (fun x =>
      { x with locked := none, fifo := 0, rx := x.rx.map (fun r => { r with core := none }) }) a) s1)))

def bufEcc (e : BufEcc) (s : State) : State :=
  match e with
  | .correctable => bump Obj.BUF_ECC_CORR s
  | .descriptor => raiseWith (fun _ => clearCore) 0x1600 2 { detail := Config.freeNat s.freeCtr } (nextFree s)
  | .cell o =>
    let s1 := raise 0x1600 1 { detail := Config.freeNat s.freeCtr } (nextFree s)
    match s1.sw.copies.find? (fun c => c.out = o.val && (c.started || (port s1 o.val).locked = some c.frame)) with
    | none => s1
    | some c =>
      let s2 := bump (Obj.BUF_ECC_DROP o.val) s1
      if c.started then swDerive (stompTx o.val s2)
      else swDerive (dropCopies (· = c) (setPort o.val (fun x => { x with locked := none, fifo := 0 }) s2))

def execBufEccError (e : BufEcc) (s : State) : Host.Outcome State Fault Refusal := finish (ifUp (bufEcc e) s)

end Sys2Proof.Machine
end

