-- ==== Sys2Proof/Machine/Sill.lean ====
section
/-! DEFINITION. Machine/Sill.lean: the commands and events of the launch slots (R257–R271). -/
namespace Sys2Proof.Machine

/-- An instant of MTS is reached within the present tick. -/
def reached (s : State) (i : Nat) : Bool := decide (i ≤ s.ts.mts + s.ts.incr)

/-- A frame has waited longer than `LEAD_MAX` (R262). -/
def waitedLong (s : State) (p : Nat) (sf : SillFrame) : Bool := decide (leadMax s p < (s.now - sf.arrived) * 5)

def slotWaitTimeout (p : Nat) (s : State) : State :=
  let old := (port s p).sillWait.filter (waitedLong s p)
  old.foldl (fun a sf => releaseJob sf (bump (Obj.SLOT_WAIT_DROP p) a))
    (setPort p (fun x => { x with sillWait := x.sillWait.filter (fun sf => !waitedLong s p sf) }) s)

def execSlotWaitTimeout (p : Fin 16) (s : State) : Host.Outcome State Fault Refusal := finish (ifUp (slotWaitTimeout p.val) s)

/-- The ready deadline L − 500 ns of a slot (R263); after a step it stands where it stood, and MTS need not reach L again (R266). -/
def readyDeadline (p n : Nat) (s : State) : State :=
  match (port s p).slots.find? (fun q => q.num = n) with
  | some q => if q.started = false ∧ reached s (slotAt q (500 * ns48)) then testSlot p q true s else s
  | none => s

def execSillReadyDeadline (p : Fin 16) (n : Fin 64) (s : State) : Host.Outcome State Fault Refusal :=
  finish (ifUp (readyDeadline p.val n.val) s)

/-- The start of the preamble, L − 7 b: the slot is tested again, and a frame that is not late is sent (R266, R268). -/
def preambleStart (p n : Nat) (s0 : State) : State :=
  let s := finishTx p s0
  match (port s p).slots.find? (fun q => q.num = n) with
  | none => s
  | some q =>
    if q.started ∨ reached s (slotAt q (7 * oct48 s p)) = false then s
    else match lateReason s p q q.ready.isNone with
      | some r => lateSlot p q r s
      | none =>
        let s1 := setPort p (fun x => { x with slots := x.slots.map (fun y => if y.num = n then { y with started := true } else y) }) s
        startTx p q.sf.queue q.sf.len (.launch n) false false (q.sf.launch.getD q.sf.frame) (t96Of (q.l + oct48 s p)) s1

def execSillPreambleStart (p : Fin 16) (n : Fin 64) (s : State) : Host.Outcome State Fault Refusal :=
  finish (ifUp (preambleStart p.val n.val) s)

/-- The launch check (R271): the egress timestamp against L + b. -/
def launchCheck (p : Nat) (q : Slot) (raw : Nat) (s : State) : State :=
  let d : Int := ((raw : Int) + q.txOfs) - (t96Of (q.l + oct48 s p) : Int)
  let e := divFree (d * 1000) 65536 s
  let s1 := setN (Obj.LAST_LAUNCH_ERR p) e.1 (handOn p e.2)
  if 2 * getNat s (Obj.PORT_P p) * 65536 < d.natAbs * 1000 then
    raise (portFault p) 1 { detail := (e.1 % 4294967296).toNat } (bump (Obj.LAUNCH_MISMATCH p) s1)
  else s1

/-- The SFD crosses the reference plane at L (R261). The slot is free once the frame has been sent (R262). -/
def sillLaunch (p n : Nat) (x : PcsStamp) (s : State) : State :=
  match (port s p).slots.find? (fun q => q.num = n) with
  | some q =>
    if q.started ∧ reached s q.l then
      let r := rawStamp p x true s
      serveWait 64 p (finishTx p (launchCheck p q r.1 r.2))
    else s
  | none => s

def execSillLaunch (p : Fin 16) (n : Fin 64) (x : PcsStamp) (s : State) : Host.Outcome State Fault Refusal :=
  finish (ifUp (sillLaunch p.val n.val x) s)

/-- The end of a 10 ms window (R264). -/
def leadWindow (p : Nat) (s : State) : State :=
  let x := port s p
  if s.now < x.winFrom + 10 * msT then s
  else
    let s1 := setPort p (fun y => { y with winFrom := s.now, winLaunched := 0, winLate := false, winSlack := 4294967295 })
      (setN (Obj.SLACK_MIN_LAST p) (if x.winLaunched = 0 then 4294967295 else x.winSlack : Nat) s)
    if getN s (Obj.LEAD_ADAPT p) = 1 ∧ 0 < x.winLaunched ∧ x.winLate = false ∧ 2000 ≤ x.winSlack then
      setN (Obj.LEAD_NOW p) (max (getF s (Obj.LEAD_MIN p)) (getN s (Obj.LEAD_NOW p) - 250)) s1
    else s1

def execLeadAdaptWindow (p : Fin 16) (s : State) : Host.Outcome State Fault Refusal := finish (ifUp (leadWindow p.val) s)

/-- `LEAD_DEFAULT`, `LEAD_MIN` and `LEAD_MAX` (R265). -/
def leadKey (p f : Nat) : Nat := match f with | 0 => Obj.LEAD_DEFAULT p | 1 => Obj.LEAD_MIN p | _ => Obj.LEAD_MAX p

def ruleLead (p f : Nat) : Rule :=
  { chk := fun s v =>
      let g (i : Nat) : Int := if i = f then v.int else getN s (leadKey p i)
      if 2000 ≤ v.int ∧ v.int ≤ 40000 ∧ g 1 ≤ g 0 ∧ g 0 ≤ g 2 then (stOk, []) else (stRange, []) }

/-- While `LEAD_ADAPT` is 0, `LEAD_NOW` equals `LEAD_DEFAULT` (R264). -/
def ruleLeadAdapt (p : Nat) : Rule :=
  { eff := fun v s => if v.int = 0 then setN (Obj.LEAD_NOW p) (getF s (Obj.LEAD_DEFAULT p)) s else s }

/-- The write of one limit; it acts from the next epoch boundary (R265). -/
def execLeadLimits (q : Req) (p : Fin 16) (f : Fin 3) (s : State) : Host.Outcome State Fault Refusal :=
  finish (ifUp (ownerWrite q (leadKey p.val f.val) (ruleLead p.val f.val)) s)

/-- `LEAD_NOW` at an epoch boundary is brought inside the limits (R264, R265). -/
def applyLead (p : Nat) (s : State) : State :=
  let lo := getF s (Obj.LEAD_MIN p)
  let hi := getF s (Obj.LEAD_MAX p)
  setN (Obj.LEAD_NOW p)
    (if getN s (Obj.LEAD_ADAPT p) = 0 then getF s (Obj.LEAD_DEFAULT p) else clampInt lo hi (getN s (Obj.LEAD_NOW p))) s

/-- The slot records of `SILL_SLOTS` ("Slot record"). -/
def slotBytes (q : Slot) : List Byte :=
  be 1 q.num ++ be 1 (if q.ready.isSome then 2 else 1) ++ be 1 q.sf.kind ++ be 1 q.sf.attempt ++ be 2 q.sf.len ++ be 2 0 ++
    t96Bytes (t96Of q.l)

def slotsDump (s : State) (p : Nat) : List Byte := (port s p).slots.flatMap slotBytes

end Sys2Proof.Machine
end

