-- ==== Sys2Proof/Machine/NtpOps.lean ====
section
/-! DEFINITION. Machine/NtpOps.lean: the NTP/NTS engine's shared operations (R313–R338): request forms, the Louvre, the crypto budget,
exchange contexts and their answers. -/
namespace Sys2Proof.Machine

/-! ### Service addresses (R314) -/

/-- An address that an entry may not hold: IPv4 in bytes 12–15. -/
def badAddr (v6 : Bool) (a : List Byte) : Bool :=
  let first := (a.getD (if v6 then 0 else 12) 0).toNat
  a.all (· = 0) ||
    (if v6 then decide (first = 0xFF) || decide (a = be 16 1)
     else (a.take 12).any (· ≠ 0) || decide (0xE0 ≤ first ∧ first < 0xF0) || decide (a.drop 12 = be 4 0xFFFFFFFF) || decide (first = 0x7F))

def svcMacBytes (s : State) (a : Nat) : List Byte :=
  let b := getB s (Obj.SVC_MAC a)
  if b.isEmpty then Config.production Obj.BASE_MAC else b

def ruleSvcEnable (a : Nat) : Rule :=
  { chk := fun s v =>
      let addr := octets s (Obj.SVC_ADDR a) 16
      if v.int = 0 then (stOk, [])
      else if badAddr (decide (16 ≤ a)) addr ∨ ((svcMacBytes s a).getD 0 0).toNat % 2 = 1 then (stRange, [])
      else if (List.range 32).any (fun b => b ≠ a && decide (getN s (Obj.SVC_ENABLE b) = 1) && decide (a / 16 = b / 16) &&
          decide (octets s (Obj.SVC_ADDR b) 16 = addr) && decide (getN s (Obj.SVC_VLAN b) = getN s (Obj.SVC_VLAN a)) &&
          decide ((getNat s (Obj.SVC_PORTS a)).land (getNat s (Obj.SVC_PORTS b)) ≠ 0)) then (stConflict, [])
      else (stOk, []) }

/-- `SVC_ADDR`, `SVC_VLAN` and `SVC_MAC` change only while the entry is off. -/
def ruleSvcField (a : Nat) : Rule := { chk := fun s _ => if getN s (Obj.SVC_ENABLE a) = 1 then (stConflict, []) else (stOk, []) }

/-- A mask of ports names present ports only. -/
def rulePortMask : Rule := { chk := fun s v => if 2 ^ nPorts s.variant ≤ v.nat then (stRange, []) else (stOk, []) }

/-! ### Requests (R316–R325) -/

/-- Extension fields parse (R317): lengths, and that the last one ends at the end. -/
def extParse (lens : List Nat) (bytes : Nat) : Bool := lens.all (fun l => l % 4 = 0 && decide (16 ≤ l)) && decide (lens.sum = bytes)

/-- A request with a field of an NTS type (R317). -/
def isNts (r : NtpReq) : Bool := r.ext.any (fun e => e.typ = 0x0104 || e.typ = 0x0204 || e.typ = 0x0304 || e.typ = 0x0404)

def fieldsOf (r : NtpReq) (t : Nat) : List ExtField := r.ext.filter (fun e => e.typ = t)

/-- R323. -/
def ntsFormed (r : NtpReq) : Bool :=
  decide (r.vn = 4) &&
    (match fieldsOf r 0x0104 with | [u] => decide (36 ≤ u.len ∧ u.len ≤ 68) | _ => false) &&
    decide ((fieldsOf r 0x0204).length = 1) && decide ((fieldsOf r 0x0404).length = 1) &&
    (match r.ext.getLast? with
     | some e => (match e.typ, e.body with
       | 0x0404, .auth nonce ct fits _ _ _ => decide (16 ≤ nonce ∧ nonce ≤ 64) && decide (16 ≤ ct) && fits
       | _, _ => false)
     | none => false)

/-- Nonce length, verification, plaintext length and inner fields of the authenticator. -/
def authOf (r : NtpReq) : Nat × Bool × Nat × List (Nat × Nat) :=
  match (fieldsOf r 0x0404).head?.map (·.body) with
  | some (ExtBody.auth n _ _ v pt inner) => (n, v, pt, inner)
  | _ => (0, false, 0, [])

/-- The bytes after the 48-byte header, up to the end of the UDP payload (R316). -/
def extLen (r : NtpReq) : Nat := r.udpLen - 56

/-- Row 2 of "Request handling" passes: the packet is present, the datagram lies within it and holds a header. -/
def ntpLenOk (r : NtpReq) : Bool := decide (r.ipLen ≤ r.present ∧ r.udpLen + r.ipHead ≤ r.ipLen ∧ 56 ≤ r.udpLen)

/-- The cookie's fields pass R324 before its decryption. -/
def cookieLive (s : State) (r : NtpReq) : Bool :=
  match (fieldsOf r 0x0204).head?.map (·.body) with
  | some (ExtBody.cookie len v lin ep _) =>
    decide (len = 104) && decide (v = 1) && decide (lin = getNat s Obj.NTS_LINEAGE_ID) &&
      decide (ep ≤ getNat s Obj.NTS_EPOCH ∧ getNat s Obj.NTS_EPOCH ≤ ep + 2)
  | _ => false

/-- C2S then S2C, as the cookie's decryption gives them. -/
def cookieKeys (r : NtpReq) : Option (List Byte) :=
  match (fieldsOf r 0x0204).head?.map (·.body) with | some (ExtBody.cookie _ _ _ _ k) => k | _ => none

/-- The number of new cookies (R326). -/
def newCookies (s : State) (r : NtpReq) : Nat :=
  min (1 + (fieldsOf r 0x0304).countP (fun e => e.len = 108)) (getNat s Obj.NTS_MAX_COOKIES)

/-- A bound request that is answered (R327). -/
def boundAsked (s : State) (r : NtpReq) : Bool :=
  decide (getN s Obj.NTS_BOUND_FIELD = 1) &&
    (r.ext.any (fun e => e.typ = 0xF053 && e.len = 28) || (authOf r).2.2.2.any (fun e => e.1 = 0xF053 && e.2 = 28))

def blk (m : Nat) : Nat := max 1 (cdiv m 16)

/-- Cost of an NTS exchange in blocks ("Exchanges in flight and capacity"). -/
def ntsCost (r : NtpReq) (k : Nat) (bound : Bool) : Nat :=
  let a := authOf r
  let ad := 48 + ((r.ext.filter (fun e => e.typ ≠ 0x0404)).map (·.len)).sum
  let uid := (uidLen r).getD 0
  let p := 108 * k + (if bound then 28 else 0)
  10 + (1 + blk ad + blk a.1 + blk a.2.2.1 + cdiv a.2.2.1 16) + 10 * k + (1 + blk (48 + uid) + 1 + blk p + cdiv p 16)

/-! ### Cookies (R328) -/

/-- K_e (R328). -/
def masterKey (s : State) (e : Nat) : Nat := Config.kdf (keyOf s s.keys.lineage) (label [0x46, 0x4E, 0x4E, 0x54, 0x53]) (be 4 e)

/-- One cookie ("Cookie") for the keys C2S and S2C. -/
def cookieBytes (s : State) (keys : List Byte) : List Byte × State :=
  let e := getNat s Obj.NTS_EPOCH
  let ad := be 1 1 ++ be 1 0 ++ be 2 (getNat s Obj.NTS_LINEAGE_ID) ++ be 4 e
  let d := draw s
  let nonce := be 16 d.1
  (ad ++ nonce ++ be 80 (ofBe (Config.sivSeal (masterKey s e) (ad ++ nonce) keys)), d.2)

/-- COUNT cookies. -/
def cookies (keys : List Byte) : Nat → State → List (List Byte) × State
  | 0, s => ([], s)
  | n + 1, s => let a := cookieBytes s keys; let b := cookies keys n a.2; (a.1 :: b.1, b.2)

/-! ### Crypto admission (R336) -/

/-- AES lanes of a variant. -/
def aesLanes : Variant → Nat
  | .a | .g => 8 | .s => 4 | .l => 2

/-- Refill of the budget per tick in 1/50 of a lane-cycle: 400,000,000 cycles a second per lane less 144,000,000. -/
def budgetRate (s : State) : Nat := s.crypto.lanes * 100 - 36

/-- The budget refilled up to now, at most 100 µs of refill. -/
def refill (s : State) : State :=
  let r := budgetRate s
  { s with ntp := { s.ntp with budget := min (r * 20000) (s.ntp.budget + (s.now - s.ntp.budgetTick) * r), budgetTick := s.now } }

/-- The lanes in service change: `NTS_CRYPTO_CAPACITY` (R336). -/
def setLanes (n : Nat) (s0 : State) : State :=
  let s := refill s0
  setN Obj.NTS_CRYPTO_CAPACITY (((n * 400000000 - 144000000) * 2 / 57 : Nat) : Int)
    (serveOps { s with crypto := { s.crypto with lanes := n } })

/-- Charge a cost to the budget; `none` where it is short. -/
def charge (blocks : Nat) (s : State) : Option State × State :=
  let s1 := refill s
  let b := s1.ntp.budget
  let c := blocks * 25
  (if c ≤ b then some { s1 with ntp := { s1.ntp with budget := b - c } } else none, s1)

/-! ### The Louvre (R333, R334) -/

/-- The source of a request: an IPv4 address, or an IPv6 address masked to `LOUVRE_V6_PREFIX` bits. -/
def louvreSource (s : State) (h : IpHdr) : List Byte :=
  if h.v6 then
    let n := 128 - getNat s Obj.LOUVRE_V6_PREFIX
    be 16 (ofBe h.src / 2 ^ n * 2 ^ n)
  else h.src.drop 12

/-- The bucket of a source after its refill at t ms, and its index. -/
def louvreBucket (s : State) (src : List Byte) (t : Nat) : Bucket :=
  let h := Config.keyedHash s.ntp.hashKey src
  let i := h % 4194304
  let tag := h / 4294967296 % 4294967296
  let cap := getNat s Obj.LOUVRE_BURST * 256
  let ago (x : Nat) : Nat := (t + 4294967296 - x % 4294967296) % 4294967296
  let fresh : Bucket := { index := i, tag := tag, tokens := cap, last := t, kodLast := (t + 4294967296 - 1000) % 4294967296 }
  let b := match s.ntp.buckets.find? (fun x => x.index = i) with
    | some x => if x.tag ≠ tag ∨ 2147483648 ≤ ago x.last then fresh else x
    | none => fresh
  { b with tokens := min cap (b.tokens + ago b.last * getNat s Obj.LOUVRE_RATE * 256 / 1000), last := t }

def putBucket (b : Bucket) (s : State) : State :=
  { s with ntp := { s.ntp with buckets := b :: s.ntp.buckets.filter (fun x => x.index ≠ b.index) } }

/-- The Louvre cleared: every bucket invalid (R333). -/
def clearLouvre (s : State) : State := { s with ntp := { s.ntp with buckets := [] } }

/-! ### Exchanges (R335) -/

/-- Take a context. -/
def takeCtx (j : NtpJob) (s : State) : NtpJob × State :=
  let id := s.ntp.nextCtx
  let j1 := { j with ctx := some id }
  let l := s.ntp.ctxs ++ [{ id := id, job := j1 }]
  (j1, setMax Obj.NTS_CONTEXTS_PEAK l.length
    (setN Obj.NTS_CONTEXTS_HELD l.length { s with ntp := { s.ntp with ctxs := l, nextCtx := id + 1 } }))

/-- Send an answer through the Sill of the arrival port (R255, R322). -/
def answerNtp (j : NtpJob) (s : State) : State :=
  toSill j.rx.port
    { kind := 0, frame := j.rx.frame, len := respLen j, queue := engineQ s j.rx.port, arrived := s.now,
      sealing := j.nts && decide (j.form = 0), ntp := some j } s

/-- An NTS NAK (R325). -/
def ntsNak (j : NtpJob) (s : State) : State := answerNtp { j with form := 2 } (bump (Obj.KOD_NTSN j.rx.port) s)

def ctxJob (s : State) (c : Nat) : Option NtpJob := (s.ntp.ctxs.find? (fun x => x.id = c)).map (·.job)

/-- The exchange's cookie has been opened (R324, R343). -/
def cookieDone (c : Nat) (s : State) : State :=
  match ctxJob s c with
  | none => s
  | some j =>
    let u := useKey s.keys.lineage useNts s
    if u.1 = false then releaseCtx (some c) u.2
    else if (cookieKeys j.rx.req).isSome then issue 0 (.verify c) u.2 else ntsNak j u.2

/-- The request has been verified and the new cookies are sealed (R325, R326, R348). -/
def verifyDone (c : Nat) (s : State) : State :=
  match ctxJob s c with
  | none => s
  | some j =>
    let a := authOf j.rx.req
    if a.2.1 = false ∨ (0 < a.2.2.1 ∧ extParse (a.2.2.2.map (·.2)) a.2.2.1 = false) then ntsNak j s
    else if drbgDown s then releaseCtx (some c) (starved s)
    else
      let bad := (fieldsOf j.rx.req 0x0304).countP (fun e => e.len ≠ 108)
      let keys := (cookieKeys j.rx.req).getD []
      let l := cookies keys j.cookies s
      answerNtp { j with sealed := l.1, s2c := keys.drop 32 } (bumpBy (Obj.PLACEHOLDER_BAD j.rx.port) bad l.2)

/-- A slot's seal has been computed (R262, R343). -/
def sealDone (p n : Nat) (s : State) : State :=
  match (port s p).slots.find? (fun q => q.num = n) with
  | none => s
  | some q =>
    match q.sf.sa with
    | none => makeReady p n s
    | some a =>
      let u := useKey (getNat s (Obj.SA_KEY_SLOT a)) usePtp s
      if u.1 then makeReady p n u.2 else u.2

/-- A crypto operation that has started completes, in any order, matched by its tag (R25). -/
def cryptoDone (tag : Nat) (s : State) : State :=
  if restarting s 0x1A00 then s
  else match s.crypto.ops.find? (fun o => o.tag = tag && o.started) with
    | none => s
    | some o =>
      let s1 := serveOps { s with crypto := { s.crypto with ops := s.crypto.ops.filter (fun x => x.tag ≠ tag) } }
      match o.kind with
      | .cookie c => cookieDone c s1
      | .verify c => verifyDone c s1
      | .sealSlot p n => sealDone p n s1

def execCryptoOpComplete (tag : Nat) (s : State) : Host.Outcome State Fault Refusal := finish (ifUp (cryptoDone tag) s)

/-! ### Restarts (R338) -/

/-- The engine's restart discards the exchanges in progress and the requests that wait; READY slots launch as sealed. -/
def restartNtp (s : State) : State :=
  let s1 := s.ntp.queue.foldl (fun a x => bump (Obj.NTP_RESTART_DROP x.port) a) (bumpBy Obj.CONTEXT_LOST s.ntp.ctxs.length s)
  let gone (sf : SillFrame) : Bool := match sf.ntp with | some j => j.ctx.isSome | none => false
  let s2 := (List.range 16).foldl (fun a p =>
    countSlots p (setPort p (fun x =>
      { x with
        slots := x.slots.filter (fun q => q.ready.isSome || !gone q.sf)
        sillWait := x.sillWait.filter (fun sf => !gone sf)
        sillStep := x.sillStep.filter (fun q => !gone q.1) }) a)) s1
  setN Obj.NTS_CONTEXTS_HELD 0
    { s2 with
      ntp := { s2.ntp with queue := [], ctxs := [] }
      crypto := { s2.crypto with ops := s2.crypto.ops.filter (fun o => match o.kind with
        | .cookie _ | .verify _ => false
        | .sealSlot p n => (port s2 p).slots.any (fun q => q.num = n)) } }

/-- The crypto block's restart loses what is in it: slots in SEALING stay unready, exchanges fail as R343 has it. -/
def restartCrypto (s : State) : State :=
  let lost := s.crypto.ops.filterMap (fun o => match o.kind with | .cookie c | .verify c => some c | .sealSlot _ _ => none)
  lost.foldl (fun a c => releaseCtx (some c) a) { s with crypto := { s.crypto with ops := [] } }

end Sys2Proof.Machine
end

