-- ==== Sys2Proof/Machine/Ntp.lean ====
section
/-! DEFINITION. Machine/Ntp.lean: the commands and events of the NTP/NTS engine (R313–R338). -/
namespace Sys2Proof.Machine

/-- A request reaches its port's parser queue (R318), or is dropped while the engine restarts (R338). -/
def ntpArrive (p : Nat) (s : State) : State :=
  match s.ntpIn.find? (fun x => x.port = p) with
  | none => s
  | some x =>
    let s1 := { s with ntpIn := s.ntpIn.erase x }
    if restarting s 0x1900 then bump (Obj.NTP_RESTART_DROP p) s1
    else if 32 ≤ s.ntp.queue.countP (fun y => y.port = p) then bump (Obj.NTP_QUEUE_DROP p) s1
    else { s1 with ntp := { s1.ntp with queue := s1.ntp.queue ++ [x] } }

def execNtpRequestRx (p : Fin 16) (s : State) : Host.Outcome State Fault Refusal := finish (ifUp (ntpArrive p.val) s)

/-- A served or unserved answer, or the crypto of one (rows 13 to 15). -/
def ntpAdmit (x : NtpRx) (nts : Bool) (s : State) : State :=
  let shut := s.power.notices.any (fun n => n.port = x.port && n.ntpOrdered)
  let j : NtpJob :=
    { rx := x, nts := nts, cookies := if nts then newCookies s x.req else 0, askBound := nts && boundAsked s x.req, shut := shut }
  if 512 ≤ s.ntp.ctxs.length then bump (Obj.NTS_NO_CONTEXT x.port) s
  else
    let t := takeCtx j s
    if nts = false then answerNtp t.1 t.2
    else if cookieLive s x.req = false then ntsNak t.1 t.2
    else issue 0 (.cookie (t.1.ctx.getD 0)) t.2

/-- Rows 11 and 12 for an NTS request. -/
def ntsRows (x : NtpRx) (s : State) : State :=
  if ntsFormed x.req = false then bump (Obj.NTS_MALFORMED x.port) s
  else match charge (ntsCost x.req (newCookies s x.req) (boundAsked s x.req)) s with
    | (none, s1) => bump (Obj.NTS_OVERLOAD x.port) s1
    | (some s1, _) => ntpAdmit x true s1

/-- Row 10: the Louvre (R333, R334). -/
def louvreRow (x : NtpRx) (h : IpHdr) (s : State) : State :=
  let t := x.tick / msT % 4294967296
  let nts := isNts x.req
  let b := louvreBucket s (louvreSource s h) t
  if 256 ≤ b.tokens then
    let s1 := putBucket { b with tokens := b.tokens - 256 } s
    if nts then ntsRows x s1 else ntpAdmit x false s1
  else if nts = false ∧ getN s Obj.LOUVRE_POLICY = 1 ∧ 1000 ≤ (t + 4294967296 - b.kodLast) % 4294967296 then
    answerNtp { rx := x, form := 1 } (bump (Obj.KOD_RATE x.port) (putBucket { b with kodLast := t } s))
  else bump (Obj.LOUVRE_DROP x.port) (putBucket b s)

/-- Rows 1 to 9 of "Request handling". -/
def ntpRows (x : NtpRx) (s : State) : State :=
  let r := x.req
  let p := x.port
  match x.frame.ip with
  | none => s
  | some h =>
    if quiet s then bump (Obj.NTP_STANDBY_DROP p) s
    else if ntpLenOk r = false then bump (Obj.NTP_LEN_DROP p) s
    else if r.csumOk = false ∨ (h.v6 ∧ h.csum = 0) then bump (Obj.NTP_CSUM_DROP p) s
    else if r.vn ≠ 3 ∧ r.vn ≠ 4 then bump (Obj.NTP_VERSION_DROP p) s
    else if r.mode = 6 then bump (Obj.MODE6_DROP p) s
    else if r.mode = 7 then bump (Obj.MODE7_DROP p) s
    else if r.mode ≠ 3 then bump (Obj.NTP_MODE_DROP p) s
    else if extParse (r.ext.map (·.len)) (extLen r) = false then bump (Obj.NTP_LEN_DROP p) s
    else if getN s (Obj.SVC_NTP x.svc) = 2 ∧ isNts r = false then bump (Obj.NTS_REQUIRED_DROP p) s
    else louvreRow x h s

/-- The parser takes its oldest request, at most one per 250 ns (R316, R318). -/
def ntpParse (p : Nat) (s : State) : State :=
  let free := match s.ntp.taken.getD p none with | some t => decide (t + 50 ≤ s.now) | none => true
  match s.ntp.queue.find? (fun x => x.port = p) with
  | some x =>
    if free = false ∨ restarting s 0x1900 then s
    else ntpRows x { s with ntp := { s.ntp with queue := s.ntp.queue.erase x, taken := s.ntp.taken.set p (some s.now) } }
  | none => s

def execNtpRequestParse (p : Fin 16) (s : State) : Host.Outcome State Fault Refusal := finish (ifUp (ntpParse p.val) s)

/-! ### Master-key epochs (R328–R331) -/

/-- The rotation at an epoch boundary (R330): at most one per boundary. Its journal entry is that of `NTS_EPOCH`; where it only sets the
first `NTS_NEXT_ROTATE`, of that object. -/
def ntsRotate (s : State) : State :=
  let n := getNat s Obj.NTS_NEXT_ROTATE
  let ms := s.ts.mts / ms48
  if getN s Obj.TS_STATE = 0 ∨ s.ntp.rotatedMs = some ms then s
  else
    let done (a : State) : State := { a with ntp := { a.ntp with rotatedMs := some ms } }
    let step : Int := getN s Obj.NTS_ROTATE * (sec96 : Int)
    if n = 0 then done (setJ Obj.NTS_NEXT_ROTATE ((t96Of (ms * ms48) : Nat) + step) s)
    else if n ≤ t96Of s.ts.mts then
      done (setN Obj.NTS_NEXT_ROTATE ((n : Int) + step) (setJ Obj.NTS_EPOCH ((getN s Obj.NTS_EPOCH + 1) % 4294967296) s))
    else s

def execNtsEpochRotation (s : State) : Host.Outcome State Fault Refusal :=
  finish (ifUp (fun a => if atBoundary a then ntsRotate a else a) s)

/-- `NTS_REVOKE` at the epoch boundary (R331). -/
def ntsRevokeDue (s : State) : State :=
  if s.ntp.revoke then
    setN Obj.NTS_NEXT_ROTATE ((t96Of (s.ts.mts / ms48 * ms48) : Nat) + getN s Obj.NTS_ROTATE * (sec96 : Int))
      (setJ Obj.NTS_EPOCH ((getN s Obj.NTS_EPOCH + 3) % 4294967296) { s with ntp := { s.ntp with revoke := false } })
  else s

def ruleNtsRevoke : Rule := { eff := fun _ s => { s with ntp := { s.ntp with revoke := true } } }

def execNtsRevoke (q : Req) (s : State) : Host.Outcome State Fault Refusal :=
  finish (ifUp (ownerCommand q Obj.NTS_REVOKE ruleNtsRevoke) s)

/-! ### Cookie sealing (R332) -/

/-- Length and fields of the argument (R332). -/
def sealArg (b : List Byte) : Nat :=
  if b.length ≠ 84 then stLength
  else if fieldU b 0 2 ≠ 15 ∨ fieldU b 2 1 = 0 ∨ 8 < fieldU b 2 1 ∨ fieldU b 3 1 ≠ 0 then stRange
  else stOk

/-- The command's rule. `keys` is what unwrapping WRAPPED_KEYS under the session's key-wrap key gives, if it succeeds. -/
def ruleCookieSeal (keys : Option (List Byte)) : Rule :=
  { chk := fun s v =>
      if sealArg v.bytes ≠ stOk then (sealArg v.bytes, [])
      else if drbgDown s then (stBusy, [])
      else if keys.isNone ∨ (useKey s.keys.lineage useNts s).1 = false then (stAccessDenied, []) else (stOk, [])
    result := fun s v =>
      let n := fieldU v.bytes 2 1
      be 1 n ++ be 1 0 ++ be 2 104 ++ be 4 (getNat s Obj.NTS_EPOCH) ++ (cookies (keys.getD []) n s).1.flatten
    eff := fun v s =>
      let n := fieldU v.bytes 2 1
      bumpBy Obj.COOKIES_SEALED n (cookies (keys.getD []) n s).2
    refused := fun v s =>
      if sealArg v.bytes ≠ stOk then s
      else if drbgDown s then starved s
      else if keys.isNone then s else (useKey s.keys.lineage useNts s).2
    unlogged := true }

def execNtsCookieSeal (q : Req) (keys : Option (List Byte)) (s : State) : Host.Outcome State Fault Refusal :=
  finish (ifUp (ownerCommand q Obj.NTS_COOKIE_SEAL (ruleCookieSeal keys)) s)

/-! ### Port close orders (R338) -/

/-- `NTP_SHUT_NOTICE` before a port closes, its requests that reach row 15 are unserved. -/
def ntpShutOrder (p : Nat) (s : State) : State :=
  { s with power := { s.power with notices := s.power.notices.map (fun n =>
    if n.port = p ∧ n.ordered + 35 * msT ≤ s.now + getNat s Obj.NTP_SHUT_NOTICE * msT then { n with ntpOrdered := true } else n) } }

def execNtpShutOrder (p : Fin 16) (s : State) : Host.Outcome State Fault Refusal := finish (ifUp (ntpShutOrder p.val) s)

/-- `NTP_LI` and `NTP_STRATUM` as at an epoch boundary (R320). -/
def ntpStatus (s : State) : State :=
  let un := ntpUnserved s || !boundFinite (getN s Obj.BOUND)
  s |> setN Obj.NTP_LI (ntpLi s : Nat) |> setN Obj.NTP_STRATUM (if un then 0 else ntpStratum s : Nat)

end Sys2Proof.Machine
end

