-- ==== Sys2Proof/Machine/PtpOps.lean ====
section
/-! DEFINITION. Machine/PtpOps.lean: the PTP engine's shared operations (R272–R312): identities, sending, receive checks, sessions,
loads, states and measurements. -/
namespace Sys2Proof.Machine

/-! ### Instances and ports -/

def setPtp (f : Ptp → Ptp) (s : State) : State := { s with ptp := f s.ptp }
def ptpPort (s : State) (i : Nat) : PtpPort := s.ptp.ports.getD i { id := i }
def setPtpPort (i : Nat) (f : PtpPort → PtpPort) (s : State) : State := setPtp (fun x => { x with ports := modAt i f x.ports }) s
def ptpState (s : State) (i : Nat) : Nat := getNat s (Obj.PTPP_STATE i)
def setPtpState (i st : Nat) (s : State) : State := setJ (Obj.PTPP_STATE i) st s

/-- A profile with the alternate BMCA ("Profiles"). -/
def isAlternate (s : State) (k : Nat) : Bool := decide (getN s (Obj.INST_PROFILE k) = 2 ∨ getN s (Obj.INST_PROFILE k) = 3)

/-- Two-step; GPTP accepts two-step alone ("Profiles"). -/
def twoStep (s : State) (k p : Nat) : Bool := isGptp s k || decide (getN s (Obj.PTPP_STEP (16 * k + p)) = 1)
def ptpEncap (s : State) (i : Nat) : Nat := getNat s (Obj.PTPP_ENCAP i)

/-- `INST_CLOCK_ID`, and its default from the base MAC address (R276). -/
def clockId (s : State) (k : Nat) : List Byte :=
  let b := getB s (Obj.INST_CLOCK_ID k)
  let m := Config.production Obj.BASE_MAC
  if b.isEmpty then m.take 3 ++ [0xFF, 0xFE] ++ slice m 3 2 ++ be 1 ((fieldU m 5 1 + k) % 256) else b

/-- portIdentity of a PTP port; a standby's ports use portNumber p + 17 (R272, R276). -/
def portIdentity (s : State) (k p : Nat) : List Byte := clockId s k ++ be 2 (p + (if quiet s then 17 else 1))

/-- The PTP engine runs. -/
def ptpUp (s : State) : Bool := !restarting s 0x1700

/-- The interval 2^log s in 2⁻¹⁶ ns, and in ticks. -/
def logSpan (log : Int) : Nat := if log < 0 then sec96 / 2 ^ log.natAbs else sec96 * 2 ^ log.natAbs
def logTicks (log : Int) : Nat := if log < 0 then sT / 2 ^ log.natAbs else sT * 2 ^ log.natAbs

/-! ### Sending (R274, R275, R278, R280) -/

/-- A unicast peer. -/
structure Peer where
  mac : Nat
  addr : List Byte
  v6 : Bool
  tags : List Tag
  /-- VLAN of the tag action (R217, R275). -/
  vlan : Nat := 0
  svc : Nat
  sess : Option Nat := none
  deriving DecidableEq, Repr

def sessionPeer (x : PtpSession) : Peer :=
  { mac := x.mac, addr := x.addr, v6 := x.v6, tags := x.tags, vlan := x.vlan, svc := x.svc, sess := some x.index }

def rxPeer (x : PtpRx) : Peer :=
  { mac := x.frame.src, addr := (x.frame.ip.map (·.src)).getD [], v6 := (x.frame.ip.map (·.v6)).getD false, tags := x.frame.tags,
    vlan := x.vlan, svc := x.svc.getD 0 }

/-- The service address from which a time receiver port asks an upstream. -/
def upstreamPeer (s : State) (p : Nat) (v6 : Bool) (addr : List Byte) : Option Peer :=
  (((List.range 16).map (fun i => if v6 then 16 + i else i)).find?
    (fun a => decide (getN s (Obj.SVC_ENABLE a) = 1) && (getNat s (Obj.SVC_PORTS a)).testBit p)).map
    (fun a => { mac := Config.nextHopMac addr, addr := addr, v6 := v6, tags := [], vlan := getNat s (Obj.SVC_VLAN a), svc := a })

/-- The L2 destination of a message type (R274). -/
def groupDst (typ : Nat) : Nat := if typ = 2 ∨ typ = 3 ∨ typ = 10 then 0x0180C200000E else 0x011B19000000

/-- Frame of a message. -/
def ptpFrame (s : State) (peer : Option Peer) (m : PtpMsg) : Frame :=
  let udp := if m.typ ≤ 3 then 319 else 320
  match peer with
  | some q =>
    { dst := q.mac, src := svcMac s q.svc, tags := q.tags, etherType := if q.v6 then 0x86DD else 0x0800,
      ip := some { v6 := q.v6, src := octets s (Obj.SVC_ADDR q.svc) 16, dst := q.addr, udp := some (udp, udp), csum := if q.v6 then 1 else 0 },
      body := .ptp m }
  | none =>
    { dst := groupDst m.typ,
      src := ofBe (Config.production Obj.BASE_MAC), etherType := 0x88F7, body := .ptp m }

/-- A message of an instance with the fields that all its messages share. -/
def ptpBase (s : State) (k p : Nat) (peer : Option Peer) (typ seq : Nat) (log : Int) : PtpMsg :=
  { typ := typ, sdo := if isGptp s k then 1 else 0, domain := getNat s (Obj.INST_DOMAIN k), unicast := peer.isSome, seq := seq,
    log := log, src := portIdentity s k p, len := 0, present := 0 }

/-- Send a message by its path (R278): a Sync or Pdelay_Resp that a one-step port seals goes to the Sill, every other message to the
engine's queue. -/
def sendPtp (k p : Nat) (peer : Option Peer) (m0 : PtpMsg) (tReq : Nat) (corrReq : Int) (s : State) : State :=
  if portUp s p = false then s
  else
    let i := 16 * k + p
    let sa := txSa s i
    let vlan := match peer with
      | some q => q.vlan
      | none => if getN s (Obj.PTPP_VLAN i) = 0 then getNat s (Obj.PORT_PVID p) else getNat s (Obj.PTPP_VLAN i)
    if (m0.typ = 0 ∨ m0.typ = 3) ∧ m0.two = false ∧ sa < 32 then
      let m := sized { m0 with auth := some (authTlv s sa 0) }
      let e : EngFrame := { frame := ptpFrame s peer m, len := ptpFrameLen (ptpFrame s peer m) m, queue := engineQ s p, tick := s.now, vlan := vlan }
      let t := engineTag s p e
      toSill p
        { kind := 1, frame := t.1, len := t.2, queue := engineQ s p, arrived := s.now, sa := some sa, sealing := true, tIn := tReq,
          corr0 := if m.typ = 0 then m.corr else corrReq, inst := k, sess := peer.bind (·.sess) } s
    else match sealMsg sa m0 s with
      | (none, s1) => s1
      | (some m1, s1) =>
        let m := sized m1
        enqueue p { frame := ptpFrame s peer m, len := ptpFrameLen (ptpFrame s peer m) m, queue := engineQ s p, tick := s.now, inst := k,
                    tReq := tReq, corrReq := corrReq, sess := peer.bind (·.sess), vlan := vlan } s1

/-! ### Sessions (R297–R304) -/

def sessionAt (s : State) (j : Nat) : Option PtpSession := s.ptp.sessions.find? (fun x => x.index = j)
def setPtpSession (j : Nat) (f : PtpSession → PtpSession) (s : State) : State :=
  setPtp (fun x => { x with sessions := x.sessions.map (fun y => if y.index = j then f y else y) }) s

/-- The session of a peer address with an instance on a port. -/
def sessionOf (s : State) (k p : Nat) (addr : List Byte) : Option PtpSession :=
  s.ptp.sessions.find? (fun x => x.inst = k && x.port = p && x.addr = addr)

/-- 16 times the messages per second of an interval 2^log s. -/
def rate16 (log : Int) : Nat := if log ≤ 0 then 16 * 2 ^ log.natAbs else 16 / 2 ^ log.natAbs

def sessionHmac (s : State) (x : PtpSession) : Bool := decide (x.sa < 32) && decide (getN s (Obj.SA_ALG x.sa) = 1)
def portHmac (s : State) (i : Nat) : Bool := decide (txSa s i < 32) && decide (getN s (Obj.SA_ALG (txSa s i)) = 1)

/-- Event load of a session, and its Sync and Delay_Req part and Announce part of the HMAC load, in 1/16 (R306). -/
def sessionEvents (x : PtpSession) : Nat := (if x.syncG then rate16 x.logSync else 0) + (if x.drespG then rate16 x.logDresp else 0)
def sessionShed (s : State) (x : PtpSession) : Nat :=
  if sessionHmac s x then (if x.syncG then rate16 x.logSync else 0) + 2 * (if x.drespG then rate16 x.logDresp else 0) else 0
def sessionAnn (s : State) (x : PtpSession) : Nat := if sessionHmac s x ∧ x.annG then rate16 x.logAnn else 0

/-- L2 time transmitter ports. -/
def l2Transmitters (s : State) : List Nat := (List.range 64).filter (fun i => decide (ptpState s i = 3) && decide (ptpEncap s i = 0))

/-- The loads of a list of sessions beside the L2 ports (R306), in 1/16: events, HMAC operations. -/
def eventLoad (s : State) (l : List PtpSession) : Nat :=
  (l.map sessionEvents).sum + ((l2Transmitters s).map (fun i => rate16 (getN s (Obj.PTPP_LOG_SYNC i)) + 16 * getNat s (Obj.PTPP_DREQ_RESERVE i))).sum
def hmacLoad (s : State) (l : List PtpSession) : Nat :=
  (l.map (fun x => sessionShed s x + sessionAnn s x)).sum +
    (((l2Transmitters s).filter (portHmac s)).map (fun i =>
      rate16 (getN s (Obj.PTPP_LOG_SYNC i)) + 32 * getNat s (Obj.PTPP_DREQ_RESERVE i) + rate16 (getN s (Obj.PTPP_LOG_ANNOUNCE i)))).sum

/-- The objects that show the sessions and the loads. -/
def ptpCounts (s : State) : State :=
  let e := divFree (eventLoad s s.ptp.sessions) 16 s
  let h := divFree (hmacLoad e.2 e.2.ptp.sessions) 16 e.2
  h.2 |> setN Obj.PTP_SESSIONS (s.ptp.sessions.countP (fun x => x.state = 1) : Nat) |> setN Obj.PTP_EVENT_LOAD e.1
    |> setN Obj.PTP_HMAC_LOAD h.1

/-- Remove a session: its entry is FREE. -/
def freeSession (j : Nat) (s : State) : State :=
  ptpCounts (setPtp (fun x => { x with sessions := x.sessions.filter (fun y => y.index ≠ j) }) s)

/-- A session that holds no grant is freed (R299). -/
def sessionGc (j : Nat) (s : State) : State :=
  match sessionAt s j with
  | some x => if x.syncG || x.annG || x.drespG then ptpCounts s else freeSession j s
  | none => s

/-- Stop a message type of a session: 0 Sync, 9 Delay_Resp, 11 Announce. -/
def stopGrant (j typ : Nat) (s : State) : State :=
  sessionGc j (setPtpSession j (fun x =>
    let y := { x with gen := (x.gen + 1) % 4294967296 }
    match typ with
    | 0 => { y with syncG := false }
    | 9 => { y with drespG := false }
    | 11 => { y with annG := false }
    | _ => x) s)

/-- An uncorrectable entry (R303): counted and freed. -/
def poisonSession (j : Nat) (s : State) : State :=
  match sessionAt s j with | some _ => bump Obj.SESSION_POISONED (freeSession j s) | none => s

/-- The 128 bytes of an entry ("Session entry"); zeros for a FREE one. -/
def sessionBytes (x : PtpSession) : List Byte :=
  let t := match x.tags with | g :: _ => g.pcp * 8192 + 4096 + g.vid | [] => x.vlan
  let i8 (v : Int) : List Byte := be 1 (v % 256).toNat
  be 1 x.state ++ be 1 x.inst ++ be 1 x.port ++ be 1 (if x.v6 then 2 else 1) ++ be 2 t ++ be 6 x.mac ++ x.addr ++ x.peerId ++
    be 1 x.svc ++ be 1 x.sa ++ i8 x.logSync ++ i8 x.logAnn ++ i8 x.logDresp ++
    be 1 ((if x.syncG then 1 else 0) + (if x.annG then 2 else 0) + (if x.drespG then 4 else 0) + (if x.two then 8 else 0)) ++
    be 6 x.syncExp ++ be 6 x.annExp ++ be 6 x.drespExp ++ be 2 x.seqSync ++ be 2 x.seqAnn ++ be 2 0 ++ t96Bytes x.nextSync ++
    t96Bytes x.nextAnn ++ be 4 x.syncSent ++ be 4 x.annSent ++ be 4 x.dreqRx ++ be 4 x.drespTx ++ be 4 x.policed ++
    be 4 (x.lastDreq / sec96) ++ be 4 (x.lastDreq / 65536 % 1000000000) ++ be 4 x.gen ++ be 4 0

def sessionEntry (s : State) : List Byte :=
  match sessionAt s (getNat s Obj.SESSION_SELECT) with | some x => sessionBytes x | none => List.replicate 128 0

/-! ### What is sent (R282–R289) -/

/-- clockClass of a grade (R282). -/
def gradeClass (s : State) (k g : Nat) : Nat :=
  match g with
  | 0 => 6 | 1 => 7
  | 2 => if isAlternate s k then getNat s (Obj.INST_DEGRADED_CLASS k) else 52
  | 3 => if isAlternate s k then 248 else 187
  | _ => 248

/-- The served pair of a port now (R90). -/
def portServed (s : State) (p : Nat) : Int :=
  portPair s p (if getN s (Obj.PORT_CAL_STATE p) = 1 then unbounded80 else stampBound s (16 + p))

def timeSource (s : State) : Nat :=
  let r := activeTime s
  if r = 8 then 0x20 else if r = 9 then 0x10 else if r < 8 then 0x90 else if r < 14 then 0x40 else 0xA0

/-- The content of an Announce of a port (R283, R285), for a grade and a served pair. -/
def announceData (s : State) (k : Nat) (g : Nat) (pair : Int) : AnnounceData :=
  let f := utcFlags s
  { p1 := getNat s (Obj.INST_PRIORITY1 k), p2 := getNat s (Obj.INST_PRIORITY2 k), cls := gradeClass s k g,
    acc := if boundFinite pair then clockAcc (largerHalf pair) else 0xFE,
    var := if boundFinite pair then logVar (largerHalf pair) else 0xFFFF,
    gm := clockId s k, utcOffset := getN s Obj.CURRENT_UTC_OFFSET, src := timeSource s,
    leap61 := f.testBit 0, leap59 := f.testBit 1, utcValid := utcValidNow s,
    timeTrace := decide (g ≤ 1), freqTrace := decide (g ≤ 1 ∧ activeFreq s ≠ 0xFF) }

def sendAnnounce (k p : Nat) (peer : Option Peer) (seq : Nat) (a : AnnounceData) (s : State) : State :=
  let i := 16 * k + p
  let m := ptpBase s k p peer 11 seq (if peer.isSome then 127 else getN s (Obj.PTPP_LOG_ANNOUNCE i))
  bump (Obj.ANN_TX i) (sendPtp k p peer
    { m with ann := some a, bound := if boundBit s i 0 then some (boundTlv s false (portServed s p)) else none } 0 0 s)

/-- R305: one more event message, while the second's budget lasts. -/
def takeEvent (s : State) : Bool × State :=
  let sec := s.now / sT
  let n := if s.ptp.second = sec then s.ptp.events else 0
  (decide (n < getNat s Obj.PTP_EVENT_BUDGET), setPtp (fun x => { x with second := sec, events := n + 1 }) s)

def sendSync (k p : Nat) (peer : Option Peer) (seq : Nat) (s : State) : State :=
  let i := 16 * k + p
  let two := twoStep s k p
  let m := ptpBase s k p peer 0 seq (if peer.isSome then 127 else getN s (Obj.PTPP_LOG_SYNC i))
  let e := takeEvent s
  if e.1 = false then s
  else bump (Obj.SYNC_TX i) (sendPtp k p peer
    { m with two := two, ts := if two then mts96 s / 65536 * 65536 else 0
             bound := if boundBit s i 1 ∧ two = false then some (boundTlv s true unbounded80) else none } 0 0 e.2)

/-- A Signaling message with negotiation TLVs. -/
def sendSignal (k p : Nat) (peer : Peer) (l : List UcTlv) (s : State) : State :=
  let i := 16 * k + p
  let m := ptpBase s k p (some peer) 12 (ptpPort s i).sigSeq 127
  sendPtp k p (some peer) { m with uc := l } 0 0 (setPtpPort i (fun x => { x with sigSeq := (x.sigSeq + 1) % 65536 }) s)

/-! ### Received messages (R275, R277, R293) -/

/-- Fixed part of a message type; 0 for a type that IEEE 1588 does not define. -/
def fixedPart : Nat → Nat
  | 0 | 1 | 8 | 12 => 44 | 2 | 3 | 9 | 10 => 54 | 11 => 64 | 13 => 48 | _ => 0

def frameEncap (f : Frame) : Nat := match f.ip with | none => 0 | some h => if h.v6 then 2 else 1

/-- The instance of a message: an enabled one with its domain and majorSdoId and a PTP port on the arrival port. -/
def instanceOf (s : State) (x : PtpRx) : Option Nat :=
  (List.range 4).find? (fun k => ptpPortRuns s k x.port && decide (getNat s (Obj.INST_DOMAIN k) = x.msg.domain) &&
    decide (x.msg.sdo = if isGptp s k then 1 else 0))

/-- The SA with an SPP (R293 row 3). -/
def saOfSpp (s : State) (spp : Nat) : Option Nat :=
  (List.range 32).find? (fun a => decide (getNat s (Obj.SA_SPP a) = spp) && decide (getN s (Obj.SA_ALG a) ≠ 0))

/-- The parent of an instance: sourcePortIdentity, address, port. -/
def parentOf (s : State) (k : Nat) : Option (List Byte × List Byte × Nat) := (s.ptp.parents.getD k none)

def isParent (s : State) (k p : Nat) (src : List Byte) : Bool :=
  match parentOf s k with | some (id, _, q) => decide (id = src ∧ q = p) | none => false

/-- The receive checks of a message (R293): whether it is accepted. A GPTP port has no authentication (R277). -/
def authCheck (k p : Nat) (m : PtpMsg) (s : State) : Bool × State :=
  let i := 16 * k + p
  if isGptp s k then (true, s)
  else match m.auth with
  | none => if getN s (Obj.PTPP_AUTH i) = 1 then (false, bump (Obj.AUTH_MISSING i) s) else (true, s)
  | some a =>
    if a.last = false then (false, bump (Obj.AUTH_MISSING i) s)
    else
      let sa := saOfSpp s a.spp
      let gmac := match sa with | some n => decide (2 ≤ getN s (Obj.SA_ALG n)) | none => false
      if a.extra || (a.seq.isNone && gmac) then (false, bump (Obj.AUTH_UNSUPPORTED i) s)
      else match sa with
        | none => (false, bump (Obj.AUTH_UNKNOWN_SA i) s)
        | some n => match saSlot s n a.keyId with
          | none => (false, bump (Obj.AUTH_BAD_KEY i) s)
          | some slot =>
            let u := useKey slot usePtp s
            if u.1 = false ∨ a.icvOk = false then (false, bump (Obj.AUTH_ICV_FAIL i) u.2)
            else match a.seq, isParent s k p m.src with
              | some q, true =>
                let x := ptpPort s i
                if q + 64 ≤ x.high ∨ x.seen.contains q then (false, bump (Obj.AUTH_REPLAY i) s)
                else
                  let h := max x.high q
                  (true, setPtpPort i (fun y => { y with high := h, seen := (q :: y.seen).filter (fun z => decide (h < z + 64)) }) s)
              | _, _ => (true, s)

/-- R277: the instance that takes a message, or the count of its drop; an L2 message to another address than its type's (R274) counts
there too. Authentication follows apart (R300 polices a Delay_Req before it). -/
def ptpParse (x : PtpRx) (s : State) : Option Nat × State :=
  let p := x.port
  let m := x.msg
  match instanceOf s x with
  | none => (none, bump (Obj.MSG_FOREIGN (16 * (((List.range 4).find? (fun k => ptpPortRuns s k p)).getD 0) + p)) s)
  | some k =>
    let i := 16 * k + p
    let vlan := if getN s (Obj.PTPP_VLAN i) = 0 then getNat s (Obj.PORT_PVID p) else getNat s (Obj.PTPP_VLAN i)
    let enc := ptpEncap s i
    if m.version ≠ 2 ∨ 1 < m.minor ∨ frameEncap x.frame ≠ enc ∨ m.unicast ≠ decide (enc ≠ 0) ∨
        (enc = 0 ∧ (x.vlan ≠ vlan ∨ x.frame.dst ≠ groupDst m.typ)) then
      (none, bump (Obj.MSG_FOREIGN i) s)
    else if m.present < m.len ∨ m.len < fixedPart m.typ ∨ m.tlvOk = false then (none, bump (Obj.PTP_LEN_DROP i) s)
    else if m.typ = 13 then (none, bump (Obj.MGMT_DROP i) s)
    else (some k, s)

/-- A grant is held or was asked for within the last second. -/
def grantLive (s : State) (g : UcGrant) : Bool := decide (s.now < g.tick + max 1 g.dur * sT)

/-- A message of a type that a time receiver port may use: over UDP only under a grant of its peer (R274). -/
def grantedBy (s : State) (k typ : Nat) (x : PtpRx) : Bool :=
  decide (ptpEncap s (16 * k + x.port) = 0) ||
    s.ptp.grants.any (fun g => g.inst = k && g.port = x.port && g.peer = (rxPeer x).addr && g.typ = typ && decide (g.dur ≠ 0) && grantLive s g)

/-- A message that the engine takes: parsed and accepted. -/
def ptpAccept (x : PtpRx) (s : State) : Option Nat × State :=
  match ptpParse x s with
  | (none, s1) => (none, s1)
  | (some k, s1) => let a := authCheck k x.port x.msg s1; (if a.1 then some k else none, a.2)

/-- The oldest waiting message on a port that satisfies a test, and the state without it. -/
def takeMsg (p : Nat) (t : PtpRx → Bool) (s : State) : Option (PtpRx × State) :=
  (s.ptpIn.find? (fun x => x.port = p && t x)).map (fun x => (x, { s with ptpIn := s.ptpIn.erase x }))

/-- An event that takes a message: without one, or while the engine restarts, nothing. -/
def withMsg (p : Nat) (t : PtpRx → Bool) (f : PtpRx → State → State) (s : State) : State :=
  if ptpUp s = false then s
  else match takeMsg p t s with
    | some (x, s1) => f x s1
    | none => s

/-! ### Port states (R286, R287) -/

/-- The instance leaves the time receiver port state: its PTPRX reference has no parent (R131). -/
def leaveReceiver (k : Nat) (s : State) : State :=
  s |> setRef (10 + k) (fun x => { x with parentClass := none }) |> setN (Obj.INST_TR_PORT k) 0xFF

/-- Clear the run of a port (R308): a request outstanding belongs to no later run. -/
def clearRun (x : PtpPort) : PtpPort :=
  { x with run := [], delays := [], pair := none, req := x.req.map (fun r => { r with inRun := false }) }

/-- Enter a port state; a new time transmitter port begins its schedule now. -/
def enterPort (k p st : Nat) (s : State) : State :=
  let i := 16 * k + p
  let old := ptpState s i
  if old = st then s
  else
    let s1 := if old = 6 then leaveReceiver k s else s
    let s2 := setPtpPort i (fun x =>
      let y := if old = 5 ∨ old = 6 then clearRun x else x
      if st = 3 then { y with nextSync := some (mts96 s), nextAnn := some (mts96 s) }
      else if st = 5 then { y with nextReq := some (mts96 s), nextSync := none, nextAnn := none }
      else if st = 1 then { y with listenFrom := s.now, nextSync := none, nextAnn := none }
      else { y with nextSync := none, nextAnn := none }) s1
    ptpCounts (setPtpState i st s2)

/-- A port whose configuration or link has changed: DISABLED, FAULTY, or back in service. -/
def refreshPort (k p : Nat) (s : State) : State :=
  let st := ptpState s (16 * k + p)
  if nPorts s.variant ≤ p then s
  else if ptpPortRuns s k p = false then enterPort k p 0 s
  else if portUp s p = false then enterPort k p 7 s
  else if getN s (Obj.PTPP_MODE (16 * k + p)) = 2 then enterPort k p 3 s
  else if st = 0 ∨ st = 7 ∨ (st = 3 ∧ getN s (Obj.PTPP_MODE (16 * k + p)) = 3) then enterPort k p 1 s
  else s

def refreshInst (k : Nat) (s : State) : State := (List.range 16).foldl (fun a p => refreshPort k p a) s

/-! ### Measurement (R308–R310) -/

/-- Integer square root for the long operands of R310. -/
def ceilSqrtBig (n : Nat) : Nat := let r := isqrtGo n 512 0; if r * r = n then r else r + 1

/-- Upstream pair of a run (R309): per side the largest of its SCOPE 1 pairs and the pair of the parent's latest Announce; without
any TLV the limit of its clockAccuracy; `none` is unbounded. -/
def upstreamPair (s : State) (k p : Nat) : Option Nat × Option Nat :=
  let x := ptpPort s (16 * k + p)
  let par := x.foreign.find? (fun f => isParent s k p f.src)
  let half (h : Nat) : Option Nat := if halfUnb ≤ h then none else some h
  let ann := (par.bind (·.bound)).map (fun b => (b.m, b.p))
  match x.pair, ann with
  | none, none =>
    let acc := (par.map (·.ann.acc)).getD 0xFE
    let lim : List Nat := [1, 2, 10, 25, 100, 250, 1000, 2500, 10000, 25000, 100000, 250000, 1000000, 2500000, 10000000,
      25000000, 100000000, 250000000, 1000000000, 2500000000, 10000000000, 25000000000, 100000000000, 250000000000,
      1000000000000, 10000000000000]
    let u := if 0x17 ≤ acc ∧ acc ≤ 0x30 then lim[acc - 0x17]?.map (fun v => if acc = 0x18 then 3 else v) else none
    (u, u)
  | a, b =>
    let x := a.getD (0, 0)
    let y := b.getD (0, 0)
    (half (max x.1 y.1), half (max x.2 y.2))

/-- REF_FREQ and REF_FREQ_UNC of a run (R310). -/
def runFreq (k p : Nat) (l : List RunSync) (s : State) : State :=
  let n : Int := l.length
  let t0 := (l.head?.map (·.t)).getD 0
  let t (r : RunSync) : Int := (r.t : Int) - t0
  let st := (l.map t).sum
  let sa := (l.map (·.a)).sum
  let stt := n * (l.map (fun r => t r * t r)).sum - st * st
  let sta := n * (l.map (fun r => t r * r.a)).sum - st * sa
  let saa := n * (l.map (fun r => r.a * r.a)).sum - sa * sa
  let span := (((l.getLast?.map (·.t)).getD 0 : Nat) : Int) - t0
  if stt ≤ 0 ∨ span ≤ 0 then s
  else
    let five : Int := 5 * ns48
    let num := ((s.ts.incr : Int) * ((ten 15 : Int) + getN s Obj.XO_FREQ_COMP) - five * (ten 15 : Int)) * stt - sta * five * (ten 15 : Int)
    let f := nearFree num (five * stt).toNat s
    -- (4 P + 12 s) / span in 10⁻¹⁵: P in ps, s and span in 2⁻¹⁶ ns; s² = (saa stt − sta²) / (n² stt)
    let a := 4 * getNat s (Obj.PORT_P p) * 65536 * ten 15
    let b := 1000 * span.toNat
    let c := (144 * (ten 30 : Int) * (saa * stt - sta * sta)).toNat
    let d := (n * n * stt * span * span).toNat
    let u := cdiv (a * d + ceilSqrtBig (c * d * b * b)) (b * d)
    setFreq (10 + k) f.1 (max 1000 u) f.2

/-- A complete run with a delay exchange yields the measurement (R308). -/
def formRun (k p : Nat) (s : State) : State :=
  let i := 16 * k + p
  let x := ptpPort s i
  let l := x.run
  match l.head?, l.getLast? with
  | some r0, some r1 =>
    let s1 := runFreq k p l s
    let na : Int := l.length
    let sumA := (l.map (·.a)).sum
    let q : Int × Nat :=
      if isP2P s k then (sumA - getN s (Obj.PTPP_PEER_DELAY i) * na, l.length)
      else (sumA * x.delays.length - x.delays.sum * na, 2 * l.length * x.delays.length)
    let o := divFree q.1 q.2 s1
    let u := upstreamPair s k p
    let r := 10 + k
    let add (h : Option Nat) (asym : Nat) : Option Nat := h.map (fun v => v + getNat s (Obj.PORT_P p) + asym)
    let m : Meas :=
      { ref := r, x := o.1, uM := add u.1 ((getF s (Obj.ASYM_NEG r)).toNat), uP := add u.2 ((getF s (Obj.ASYM_POS r)).toNat),
        atI := (r0.t + r1.t) * 2147483648,
        mark := { run := (r0.mark.run + r1.mark.run) / 2, steer := (r0.mark.steer + r1.mark.steer) / 2, step := r1.mark.step } }
    o.2 |> setN (Obj.INST_UPSTREAM_BOUND k) (bound80 (u.1.getD halfUnb) (u.2.getD halfUnb)) |> queueMeas m |> setPtpPort i clearRun
  | _, _ => s

/-- A run that ended without a delay exchange is a missed measurement. -/
def missRun (k p : Nat) (s : State) : State := setPtpPort (16 * k + p) clearRun (measMissed (10 + k) (setRef (10 + k) (fun x => { x with dueFrom := some s.now }) s))

/-- The run holds its Syncs: form it, wait for an exchange that left within it, or miss it. -/
def runComplete (k p : Nat) (s : State) : State :=
  let x := ptpPort s (16 * k + p)
  if !x.delays.isEmpty then formRun k p s
  else match x.req with
    | some r => if r.inRun then s else missRun k p s
    | none => missRun k p s

/-- A pair seen in a message of the run: SCOPE 1, VERSION 1 (R290, R309). -/
def notePair (i : Nat) (b : Option BoundTlv) (s : State) : State :=
  match b with
  | some t =>
    if t.version = 1 ∧ t.scope then
      let m := if t.unb then halfUnb else t.m
      let q := if t.unb then halfUnb else t.p
      setPtpPort i (fun x => { x with pair := some (match x.pair with | some y => (max y.1 m, max y.2 q) | none => (m, q)) }) s
    else s
  | none => s

/-- An accepted Sync of the parent with its times (R308): t2 with its bound, t1 + cf. -/
def acceptSync (k p t2 : Nat) (b : Int) (t1cf : Int) (tlv : Option BoundTlv) (s : State) : State :=
  let i := 16 * k + p
  let s0 := if ptpState s i = 5 then
      setPtpState i 6 (setN (Obj.INST_TR_PORT k) p (setRef (10 + k) (fun x =>
        { x with parentClass := ((ptpPort s i).foreign.find? (fun f => isParent s k p f.src)).map (fun f => (f.ann.cls, f.ann.acc)) }) s))
    else s
  if boundFinite b = false then s0
  else
    let n := (getF s (Obj.RX_MEAS_N k)).toNat
    let s1 := if n ≤ (ptpPort s0 i).run.length then missRun k p s0 else s0
    let s2 := notePair i tlv (setPtpPort i (fun x =>
      { x with run := x.run ++ [{ t := t2, a := (t2 : Int) - t1cf, mark := edgeMark s t2 }] }) s1)
    if n ≤ (ptpPort s2 i).run.length then runComplete k p s2 else s2

/-- Measurement period of a time receiver port in ms, as `REF_INTERVAL` (R308). -/
def setInterval (k p : Nat) (s : State) : State :=
  let i := 16 * k + p
  let log := if ptpEncap s i = 0 then getN s (Obj.PTPP_LOG_SYNC i)
    else ((s.ptp.grants.find? (fun g => g.inst = k && g.port = p && g.typ = 0 && decide (g.dur ≠ 0))).map (·.log)).getD (getN s (Obj.PTPP_LOG_SYNC i))
  let d := divFree (getF s (Obj.RX_MEAS_N k) * logTicks log) msT s
  setN (Obj.REF_INTERVAL (10 + k)) d.1 d.2

end Sys2Proof.Machine
end

