-- ==== Sys2Proof/Machine/Bmca.lean ====
section
/-! DEFINITION. Machine/Bmca.lean: the best time transmitter algorithm (R286–R288) as IEEE 1588-2019 clause 9, ITU-T G.8275 and IEEE
802.1AS define it, unicast requests (R302), and a port's last messages before its close (R311). -/
namespace Sys2Proof.Machine

/-- A data set under comparison; identities as numbers. -/
structure DataSet where
  p1 : Nat
  cls : Nat
  acc : Nat
  var : Nat
  p2 : Nat
  lp : Nat
  gm : Nat
  steps : Nat
  src : Nat
  recv : Nat
  deriving DecidableEq, Repr

def lexLt : List Nat → List Nat → Bool
  | a :: l, b :: r => decide (a < b) || (decide (a = b) && lexLt l r)
  | _, _ => false

/-- The outcome of a comparison of A with B. -/
inductive Cmp where
  | better | byTopology | worseTopology | worse
  deriving DecidableEq, Repr

/-- Comparison of paths to the same grandmaster (clause 9.3.4, part 2). -/
def cmpTopology (a b : DataSet) : Cmp :=
  if b.steps + 1 < a.steps then .worse
  else if a.steps + 1 < b.steps then .better
  else if b.steps < a.steps then (if a.recv < a.src then .worse else .worseTopology)
  else if a.steps < b.steps then (if b.recv < b.src then .better else .byTopology)
  else if a.src < b.src ∨ (a.src = b.src ∧ a.recv < b.recv) then .byTopology
  else .worseTopology

/-- The data set comparison of a profile: 0, 1 default; 2, 3 alternate; 4 802.1AS. -/
def cmpDs (profile : Nat) (a b : DataSet) : Cmp :=
  let by_ (x y : List Nat) (tie : Cmp) : Cmp := if lexLt x y then .better else if lexLt y x then .worse else tie
  if profile = 4 then
    by_ [a.p1, a.cls, a.acc, a.var, a.p2, a.gm, a.steps, a.src, a.recv] [b.p1, b.cls, b.acc, b.var, b.p2, b.gm, b.steps, b.src, b.recv] .worseTopology
  else if profile = 2 ∨ profile = 3 then
    by_ [a.cls, a.acc, a.var, a.p2, a.lp] [b.cls, b.acc, b.var, b.p2, b.lp]
      (if a.cls ≤ 127 then cmpTopology a b else by_ [a.gm] [b.gm] (cmpTopology a b))
  else if a.gm = b.gm then cmpTopology a b
  else by_ [a.p1, a.cls, a.acc, a.var, a.p2, a.gm] [b.p1, b.cls, b.acc, b.var, b.p2, b.gm] .worseTopology

def Cmp.wins : Cmp → Bool
  | .better | .byTopology => true
  | _ => false

/-- The data set of an Announce received on a port. -/
def dsOf (s : State) (k p : Nat) (f : Foreign) : DataSet :=
  { p1 := f.ann.p1, cls := f.ann.cls, acc := f.ann.acc, var := f.ann.var, p2 := f.ann.p2, lp := 128, gm := ofBe f.ann.gm,
    steps := f.ann.steps, src := ofBe f.src, recv := ofBe (portIdentity s k p) }

/-- The instance's own data set on a port (R282, R283, R286): class 255 where every port is TR_ONLY. -/
def ownDs (s : State) (k p : Nat) : DataSet :=
  let a := announceData s k (getNat s Obj.BOUND_GRADE) (portServed s p)
  let ports := (List.range (nPorts s.variant)).filter (fun q => decide (getN s (Obj.PTPP_MODE (16 * k + q)) ≠ 0))
  let trOnly := ports.all (fun q => decide (getN s (Obj.PTPP_MODE (16 * k + q)) = 3))
  { p1 := a.p1, cls := if trOnly then 255 else a.cls, acc := a.acc, var := a.var, p2 := a.p2,
    lp := getNat s (Obj.INST_LOCAL_PRIORITY k), gm := ofBe a.gm, steps := 0, src := ofBe (clockId s k ++ be 2 0), recv := 0 }

/-- Qualified (clause 9.3): two Announces within four Announce intervals, from another clock, fewer than 255 steps away. -/
def foreignOk (s : State) (k : Nat) (f : Foreign) : Bool :=
  decide (2 ≤ f.ticks.countP (fun t => decide (s.now < t + 4 * logTicks f.log))) && decide (f.src.take 8 ≠ clockId s k) &&
    decide (f.ann.steps < 255)

/-- The best qualified foreign time transmitter of a port. -/
def bestOnPort (s : State) (k p : Nat) : Option Foreign :=
  let prof := getNat s (Obj.INST_PROFILE k)
  ((ptpPort s (16 * k + p)).foreign.filter (foreignOk s k)).foldl (fun a f =>
    match a with
    | none => some f
    | some g => if (cmpDs prof (dsOf s k p f) (dsOf s k p g)).wins then some f else a) none

/-- Ports that take part: running, link up. -/
def bmcaPorts (s : State) (k : Nat) : List Nat :=
  (List.range (nPorts s.variant)).filter (fun p => ptpPortRuns s k p && portUp s p)

/-- E_best with its port. -/
def bestOverall (s : State) (k : Nat) : Option (Nat × Foreign) :=
  let prof := getNat s (Obj.INST_PROFILE k)
  (bmcaPorts s k).foldl (fun a p =>
    match (if getN s (Obj.PTPP_MODE (16 * k + p)) = 2 then none else bestOnPort s k p) with
    | none => a
    | some f => match a with
      | none => some (p, f)
      | some (q, g) => if (cmpDs prof (dsOf s k p f) (dsOf s k q g)).wins then some (p, f) else a) none

/-- A state decision: time transmitter with the Announce intervals of its qualification, time receiver, passive, or none yet. -/
inductive Decision where
  | transmit (n : Nat)
  | receive
  | passive
  | listen
  deriving DecidableEq, Repr

/-- The decision for one port (clause 9.3.3). -/
def decidePort (s : State) (k p : Nat) (best : Option (Nat × Foreign)) : Decision :=
  let i := 16 * k + p
  let mode := getN s (Obj.PTPP_MODE i)
  let prof := getNat s (Obj.INST_PROFILE k)
  let d0 := ownDs s k p
  let here := bestOnPort s k p
  let expired := decide ((ptpPort s i).listenFrom + getNat s (Obj.PTPP_ANN_TIMEOUT i) * logTicks (getN s (Obj.PTPP_LOG_ANNOUNCE i)) ≤ s.now)
  let raw : Decision :=
    if mode = 2 then .transmit 0
    else if here.isNone ∧ ptpState s i = 1 ∧ expired = false then .listen
    else
      let beats (f : Option Foreign) : Bool := match f with | none => true | some g => (cmpDs prof d0 (dsOf s k p g)).wins
      if d0.cls ≤ 127 ∧ prof ≠ 4 then (if beats here then .transmit 0 else .passive)
      else match best with
        | none => .transmit 0
        | some (q, g) =>
          if (cmpDs prof d0 (dsOf s k q g)).wins then .transmit 0
          else if q = p then .receive
          else match here with
            | none => .transmit (g.ann.steps + 2)
            | some h =>
              if prof = 4 then
                (if lexLt [(dsOf s k q g).gm, g.ann.steps + 1, ofBe (portIdentity s k p)] [(dsOf s k p h).gm, h.ann.steps, ofBe h.src]
                 then .transmit (g.ann.steps + 2) else .passive)
              else if cmpDs prof (dsOf s k q g) (dsOf s k p h) = .byTopology then .passive
              else .transmit (g.ann.steps + 2)
  match raw with
  | .transmit n => if mode = 3 then .listen else .transmit n
  | d => d

/-! ### Unicast requests of a time receiver port (R302) -/

/-- Entries of `INST_UC_UPSTREAM`: port, IPv6, address. -/
def upstreams (s : State) (k : Nat) : List (Nat × Bool × List Byte) :=
  let b := getB s (Obj.INST_UC_UPSTREAM k)
  (List.range (b.length / 18)).map (fun j => (fieldU b (18 * j) 1, decide (fieldU b (18 * j + 1) 1 = 2), slice b (18 * j + 2) 16))

def askUpstream (k p : Nat) (v6 : Bool) (addr : List Byte) (typ : Nat) (log : Int) (s : State) : State :=
  match upstreamPeer s p v6 addr with
  | none => s
  | some q =>
    let g : UcGrant := { inst := k, port := p, peer := addr, v6 := v6, typ := typ, log := log, tick := s.now }
    let keep := s.ptp.grants.filter (fun x => !(x.inst = k && x.port = p && x.peer = addr && x.typ = typ))
    let old := s.ptp.grants.find? (fun x => x.inst = k && x.port = p && x.peer = addr && x.typ = typ)
    let g1 := match old with | some o => { g with dur := o.dur, tick := if o.dur = 0 then s.now else o.tick } | none => g
    sendSignal k p q [.request typ log (getNat s Obj.UC_RX_DURATION)] (setPtp (fun x => { x with grants := keep ++ [g1] }) s)

/-- The requests that fall due: Announce from every upstream, Sync and Delay_Resp from the parent alone. -/
def ucRequests (k : Nat) (s : State) : State :=
  let s0 := setPtp (fun x => { x with grants := x.grants.filter (fun g => g.inst ≠ k || grantLive s g) }) s
  let has (a : State) (p : Nat) (addr : List Byte) (typ : Nat) : Bool :=
    a.ptp.grants.any (fun g => g.inst = k && g.port = p && g.peer = addr && g.typ = typ)
  let want (p : Nat) (v6 : Bool) : Bool :=
    ptpPortRuns s k p && decide (ptpEncap s (16 * k + p) = if v6 then 2 else 1) && decide (getN s (Obj.PTPP_MODE (16 * k + p)) ≠ 2) &&
      decide (ptpState s (16 * k + p) ≠ 3)
  let s1 := (upstreams s k).foldl (fun a u =>
    if want u.1 u.2.1 && !has a u.1 u.2.2 11 then askUpstream k u.1 u.2.1 u.2.2 11 (getN s (Obj.PTPP_LOG_ANNOUNCE (16 * k + u.1))) a
    else a) s0
  match parentOf s k with
  | some (_, addr, p) =>
    let i := 16 * k + p
    if addr.isEmpty then s1
    else
      let v6 := decide (ptpEncap s i = 2)
      let ask (typ : Nat) (log : Int) (a : State) : State := if has a p addr typ then a else askUpstream k p v6 addr typ log a
      ask 9 (getN s (Obj.PTPP_LOG_MIN_DREQ i)) (ask 0 (getN s (Obj.PTPP_LOG_SYNC i)) s1)
  | none => s1

/-- Cancel the Sync and Delay_Resp grants at a former parent. -/
def dropParentGrants (k : Nat) (s : State) : State :=
  match parentOf s k with
  | none => s
  | some (_, addr, p) =>
    let l := s.ptp.grants.filter (fun g => g.inst = k && g.port = p && g.peer = addr && g.typ ≠ 11)
    let s1 := setPtp (fun x => { x with grants := x.grants.filter (fun g => !l.contains g) }) s
    if l.isEmpty then s1
    else match upstreamPeer s p (decide (ptpEncap s (16 * k + p) = 2)) addr with
      | some q => sendSignal k p q (l.map (fun g => UcTlv.cancel g.typ)) s1
      | none => s1

/-! ### The decision (R286) -/

def setParent (k : Nat) (x : Option (List Byte × List Byte × Nat)) (s : State) : State :=
  setB (Obj.INST_PARENT_PORT_ID k) ((x.map (·.1)).getD (List.replicate 10 0))
    (setPtp (fun y => { y with parents := y.parents.set k x }) s)

/-- Clock and accuracy of the parent while its port is TIME_RECEIVER (R131, R309). -/
def noteParent (k p : Nat) (f : Foreign) (s : State) : State :=
  let i := 16 * k + p
  let iv := if ptpEncap s i = 0 then f.log
    else ((s.ptp.grants.find? (fun g => g.inst = k && g.port = p && g.peer = f.peer && g.typ = 11)).map (·.log)).getD f.log
  let s1 := setPtpPort i (fun x => { x with annUntil := some (s.now + getNat s (Obj.PTPP_ANN_TIMEOUT i) * logTicks iv) }) s
  if ptpState s i = 6 then setRef (10 + k) (fun x => { x with parentClass := some (f.ann.cls, f.ann.acc) }) s1 else s1

/-- Take a port to what was decided. -/
def applyDecision (k p : Nat) (d : Decision) (best : Option (Nat × Foreign)) (s : State) : State :=
  let i := 16 * k + p
  let st := ptpState s i
  match d with
  | .listen => if st = 1 then s else enterPort k p 1 s
  | .passive => enterPort k p 4 s
  | .transmit n =>
    if st = 3 then s
    else if n = 0 then enterPort k p 3 s
    else if st = 2 then (if (ptpPort s i).preUntil ≤ s.now then enterPort k p 3 s else s)
    else setPtpPort i (fun x => { x with preUntil := s.now + n * logTicks (getN s (Obj.PTPP_LOG_ANNOUNCE i)) }) (enterPort k p 2 s)
  | .receive =>
    match best with
    | none => s
    | some (_, f) =>
      if isParent s k p f.src ∧ (st = 5 ∨ st = 6) then s
      else
        let s1 := setParent k (some (f.src, if ptpEncap s i = 0 then [] else f.peer, p)) (dropParentGrants k s)
        let s2 := setPtpPort i (fun x => { clearRun x with high := 0, seen := [] }) (if st = 5 then s1 else enterPort k p 5 s1)
        setInterval k p (noteParent k p f s2)

/-- At each Announce interval the cores run the BMCA of an instance (R286). -/
def bmcaDecision (k : Nat) (s0 : State) : State :=
  let s := (List.range 16).foldl (fun a p => setPtpPort (16 * k + p) (fun x =>
    { x with foreign := x.foreign.filter (fun f => f.ticks.any (fun t => decide (s0.now < t + 4 * logTicks f.log))) }) a) (refreshInst k s0)
  let best := bestOverall s k
  let ds := (bmcaPorts s k).map (fun p => (p, decidePort s k p best))
  let s1 := (ds.filter (fun d => d.2 ≠ .receive)).foldl (fun a d => applyDecision k d.1 d.2 best a) s
  let s2 := (ds.filter (fun d => d.2 = .receive)).foldl (fun a d => applyDecision k d.1 d.2 best a) s1
  let s3 := if ds.any (fun d => d.2 = .receive) then s2 else setParent k none (dropParentGrants k s2)
  ucRequests k s3

/-! ### Before a port closes (R311) -/

def grantTlvs (x : PtpSession) : List UcTlv :=
  (if x.syncG then [.cancel 0] else []) ++ (if x.annG then [.cancel 11] else []) ++ (if x.drespG then [.cancel 9] else [])

/-- The last Announce of grade 4 on every time transmitter port of a data port, on L2 and to each session, then the cancels. -/
def ptpFarewell (p : Nat) (s : State) : State :=
  if quiet s ∨ ptpUp s = false then s
  else (List.range 4).foldl (fun a k =>
    let i := 16 * k + p
    if ptpState a i ≠ 3 then a
    else
      let ann := { announceData a k 4 unbounded80 with acc := 0xFE }
      if ptpEncap a i = 0 then
        sendAnnounce k p none (ptpPort a i).annSeq ann (setPtpPort i (fun x => { x with annSeq := (x.annSeq + 1) % 65536 }) a)
      else
        (a.ptp.sessions.filter (fun x => x.inst = k && x.port = p)).foldl (fun b x =>
          let b1 := if x.annG then sendAnnounce k p (some (sessionPeer x)) x.seqAnn ann b else b
          sendSignal k p (sessionPeer x) (grantTlvs x) b1) a) s

/-- What a port's close takes from the engine: its sessions, and the PTPRX of an instance whose time receiver port it was. -/
def ptpClosed (p : Nat) (s : State) : State :=
  let s1 := setPtp (fun x => { x with sessions := x.sessions.filter (fun y => y.port ≠ p), grants := x.grants.filter (fun g => g.port ≠ p) }) s
  ptpCounts ((List.range 4).foldl (fun a k =>
    let b := if getN a (Obj.INST_TR_PORT k) = p then setRef (10 + k) (fun x => { x with shut := true }) a else a
    refreshPort k p b) s1)

end Sys2Proof.Machine
end

