-- ==== Sys2Proof/Machine/Gnss.lean ====
section
/-! DEFINITION. Machine/Gnss.lean: the GNSS timing receiver (R183–R203). What the RF front end, the correlators and the
least-squares solver find is an operand; everything that the rules make of it is here. -/
namespace Sys2Proof.Machine

def setGnss (f : Gnss → Gnss) (s : State) : State := { s with gnss := f s.gnss }

/-- The unit is present and its front end runs, and no restart of it does (R203). -/
def gnssRuns (s : State) : Bool := up s && hasGnss s.variant && s.power.gnssOn && !restarting s 0x1300

def ifGnss (f : State → State) (s : State) : State := if gnssRuns s then f s else s

/-- K × v rounded up, K = `GNSS_SIGMA_MULT` ÷ 10. -/
def kTimes (s : State) (v : Nat) : Nat := cdiv (getNat s Obj.GNSS_SIGMA_MULT * v) 10

/-! ### Channels (R183) -/

/-- Limit in force (R203). -/
def chanLimit (s : State) : Nat :=
  let l := getNat s Obj.GNSS_CHAN_LIMIT
  if 2 ≤ s.power.closed then min l 24 else l

/-- Insert by descending elevation, earlier ones first among equals. -/
def insertElev (c : SatCand) : List SatCand → List SatCand
  | [] => [c]
  | d :: r => if d.elev < c.elev then c :: d :: r else d :: insertElev c r

def byElev (l : List SatCand) : List SatCand := l.reverse.foldl (fun a c => insertElev c a) []

/-- Order of the systems in the first pass. -/
def passOrder : List Nat := [0, 1, 2, 4, 3]

/-- Channels a satellite takes by the enabled bands. GLONASS has its L1 signal only. -/
def satChans (bands : Nat) (c : SatCand) : List GnssChan :=
  (if bands.testBit 0 then [{ sys := c.sys, prn := c.prn, l5 := false }] else []) ++
    (if bands.testBit 1 ∧ c.l5 ∧ c.sys ≠ 3 then [{ sys := c.sys, prn := c.prn, l5 := true }] else [])

/-- The allocation: kept satellites, then the two passes, up to the limit. -/
def allocate (s : State) (cands : List SatCand) : List GnssChan :=
  let en := getNat s Obj.GNSS_SYS_ENABLE
  let bands := getNat s Obj.GNSS_BAND_ENABLE
  let ok := byElev (cands.filter (fun c => en.testBit c.sys && decide (c.sys < 5) && decide (getN s Obj.GNSS_ELEV_MASK ≤ c.elev)))
  let kept := ok.filter (fun c => s.gnss.used.contains (c.sys, c.prn))
  let first := passOrder.flatMap (fun y => (ok.filter (fun c => c.sys = y)).take 4)
  let order := (kept ++ first ++ ok).eraseDups
  (order.flatMap (satChans bands)).take (chanLimit s)

/-- The channels in use, with their two counts. -/
def setChans (l : List GnssChan) (s : State) : State :=
  setN Obj.GNSS_CHAN_IN_USE (l.length : Nat)
    (setN Obj.GNSS_SATS_TRACKED ((l.map (fun c => (c.sys, c.prn))).eraseDups.length : Nat)
      (setGnss (fun g => { g with chans := l }) s))

def chanAlloc (cands : List SatCand) (s : State) : State :=
  setChans (allocate s cands) (setGnss (fun g => { g with cands := cands }) s)

/-- A new limit reallocates at once, among the candidates last predicted (R183, R203). -/
def reallocate (s : State) : State := if gnssRuns s then setChans (allocate s s.gnss.cands) s else s

/-- `GNSS_CHAN_LIMIT`: a change reallocates (R183). -/
def ruleChanLimit : Rule := { eff := fun _ => reallocate }

def execGnssChanAlloc (cands : List SatCand) (s : State) : Host.Outcome State Fault Refusal :=
  finish (ifGnss (chanAlloc cands) s)

/-! ### Position (R185–R187) -/

/-- A survey begins; POS_ALARM clears (R185, R187). -/
def startSurvey (s0 : State) : State :=
  let s := if s0.gnss.posAlarm then setLive 0x1300 false s0 else s0
  setN Obj.GNSS_SURVEY_STATE 1 (setGnss (fun g =>
    { g with surveyN := 0, surveySum := (0, 0, 0), surveySq := (0, 0, 0), posAlarm := false, far := 0, near := 0 }) s)

def ruleSurveyStart : Rule :=
  { chk := fun s _ => if getN s Obj.GNSS_POS_MODE = 1 then (stConflict, []) else (stOk, [])
    eff := fun _ => startSurvey }

def execGnssSurveyStart (q : Req) (s : State) : Host.Outcome State Fault Refusal :=
  finish (ifUp (ownerCommand q Obj.GNSS_SURVEY_START ruleSurveyStart) s)

/-- Writes of the position objects in SURVEY (R186). -/
def ruleGnssPos : Rule :=
  { chk := fun s _ => if getN s Obj.GNSS_POS_MODE = 0 then (stConflict, []) else (stOk, [])
    eff := fun _ => setGnss (fun g => { g with held := true }) }

/-- FIXED holds the written position and ends a survey (R186). -/
def ruleGnssPosMode : Rule :=
  { eff := fun v s =>
      if v.int = 1 then
        let t := setGnss (fun g => { g with held := true }) s
        if getN t Obj.GNSS_SURVEY_STATE = 1 then setN Obj.GNSS_SURVEY_STATE 0 t else t
      else s }

/-- `GNSS_SURVEY_MAX` from `GNSS_SURVEY_MIN` on, `GNSS_TIME_SYSTEM` an enabled system, band and system masks. -/
def ruleSurveyMax : Rule := { chk := fun s v => if v.int < getN s Obj.GNSS_SURVEY_MIN ∨ 604800 < v.int then (stRange, []) else (stOk, []) }
def ruleTimeSystem : Rule :=
  { chk := fun s v =>
      if 2 < v.nat then (stRange, [])
      else if (getNat s Obj.GNSS_SYS_ENABLE).testBit v.nat = false then (stConflict, []) else (stOk, []) }

/-- K × the standard deviation of the mean of one axis in mm, rounded up (R185). -/
def axisUnc (s : State) (n : Nat) (sum : Int) (sq : Nat) : Nat :=
  let v := ((n * sq : Nat) - sum * sum).toNat
  let k := getNat s Obj.GNSS_SIGMA_MULT
  ceilSqrtDiv (k * k * v) (100 * n * n * max n 1)

def surveyUnc (s : State) : Nat :=
  let g := s.gnss
  max (axisUnc s g.surveyN g.surveySum.1 g.surveySq.1)
    (max (axisUnc s g.surveyN g.surveySum.2.1 g.surveySq.2.1) (axisUnc s g.surveyN g.surveySum.2.2 g.surveySq.2.2))

/-- The survey ends: the mean and its uncertainty are held and stored in NOR (R185). -/
def surveyEnd (s : State) : State :=
  let g := s.gnss
  let n := max g.surveyN 1
  let x := nearFree g.surveySum.1 n s
  let y := nearFree g.surveySum.2.1 n x.2
  let z := nearFree g.surveySum.2.2 n y.2
  let u := min (surveyUnc s) 4294967295
  let t := z.2 |> setJ Obj.GNSS_POS_X x.1 |> setJ Obj.GNSS_POS_Y y.1 |> setJ Obj.GNSS_POS_Z z.1 |> setJ Obj.GNSS_POS_UNC (u : Nat)
    |> setN Obj.GNSS_SURVEY_STATE 2 |> setN Obj.GNSS_FIX_STATE 2
  { setGnss (fun g => { g with held := true }) t with nor := { t.nor with gnssPos := some (x.1, y.1, z.1, u) } }

def surveyDone (s : State) : Bool :=
  let n := s.gnss.surveyN
  decide (0 < n) && ((decide (getNat s Obj.GNSS_SURVEY_MIN ≤ n) && decide (surveyUnc s ≤ getNat s Obj.GNSS_SURVEY_UNC)) ||
    decide (getNat s Obj.GNSS_SURVEY_MAX ≤ n))

/-- One 3D position of a survey (R185). -/
def surveyAdd (p : Int × Int × Int) (s : State) : State :=
  let s1 := setGnss (fun g =>
    { g with surveyN := g.surveyN + 1,
             surveySum := (g.surveySum.1 + p.1, g.surveySum.2.1 + p.2.1, g.surveySum.2.2 + p.2.2),
             surveySq := (g.surveySq.1 + (p.1 * p.1).toNat, g.surveySq.2.1 + (p.2.1 * p.2.1).toNat,
                          g.surveySq.2.2 + (p.2.2 * p.2.2).toNat) }) s
  if surveyDone s1 then surveyEnd s1 else s1

/-- The position check (R187). -/
def posCheck (p : Int × Int × Int) (s : State) : State :=
  let d (a : Int) (k : Nat) : Int := a - getN s k
  let d2 := (d p.1 Obj.GNSS_POS_X) ^ 2 + (d p.2.1 Obj.GNSS_POS_Y) ^ 2 + (d p.2.2 Obj.GNSS_POS_Z) ^ 2
  let j := getN s Obj.GNSS_POS_JUMP
  let per := getNat s Obj.GNSS_POS_PERSIST
  let far := if j * j < d2 then s.gnss.far + 1 else 0
  let near := if 4 * d2 < j * j then s.gnss.near + 1 else 0
  let s1 := setGnss (fun g => { g with far := far, near := near }) s
  if s.gnss.posAlarm then
    (if per ≤ near then setLive 0x1300 false (setGnss (fun g => { g with posAlarm := false }) s1) else s1)
  else if per ≤ far then
    let s2 := raise 0x1300 1 { detail := 1 } (setLive 0x1300 true (bump Obj.POS_ALARMS (setGnss (fun g => { g with posAlarm := true, near := 0 }) s1)))
    if getN s2 Obj.GNSS_RESURVEY_AUTO = 1 then startSurvey s2 else s2
  else s1

/-! ### UTC parameters (R57, R58, R196) -/

/-- A journalled change taken from GNSS (R57). -/
def setJG (k : Nat) (v : Int) (s : State) : State :=
  if getN s k = v then s
  else journal { kind := 2, key := k, origin := .gnss, old := numBytes k (getN s k), new := numBytes k v } (setN k v s)

def weekEpoch : Nat → Nat
  | 0 => 315964800 | 1 => 935280000 | _ => 1136073600

/-- The week nearest the current one (R196). -/
def nearestWeek (p : UtcParams) : Int :=
  let m : Int := max p.modulus 1
  p.week + ((p.wnLSF : Int) - p.week + m / 2) % m - m / 2

/-- Seconds of `LEAP_INSTANT` (R196). -/
def leapSecond (s : State) (p : UtcParams) : Int :=
  let day : Int := if p.sys = 2 then p.dn + 1 else p.dn
  weekEpoch p.sys + nearestWeek p * 604800 + day * 86400 + getN s Obj.CURRENT_UTC_OFFSET + p.dtLSF - p.dtLS

def utcParams (p : UtcParams) (s : State) : State :=
  if p.sats < 2 ∨ (p.sys : Int) ≠ getN s Obj.GNSS_TIME_SYSTEM then s
  else if getN s Obj.UTC_SOURCE ≠ 0 then { s with ts := { s.ts with utcDecoded := true } }
  else
    let s2 := setJG Obj.CURRENT_UTC_OFFSET (p.dtLS + (if p.sys = 2 then 33 else 19))
      { s with ts := { s.ts with utcDecoded := true } }
    let delta := p.dtLSF - p.dtLS
    if delta = 0 then setJG Obj.LEAP_PENDING 0 s2
    else
      let t := leapSecond s2 p
      let inst := t.toNat * sec96
      let pend : Int := if delta = 1 then 1 else 2
      if (delta ≠ 1 ∧ delta ≠ -1) ∨ inst ≤ mts96 s2 then s2
      else if getN s2 Obj.LEAP_PENDING = pend ∧ getN s2 Obj.LEAP_INSTANT = inst then s2
      else if leapOk s2 pend inst then setJG Obj.LEAP_INSTANT inst (setJG Obj.LEAP_PENDING pend s2)
      else bump Obj.UTC_PARAM_REJECT s2

/-- The cores' second (R185–R187, R196). -/
def navSecond (n : NavSecond) (s : State) : State :=
  let s0 := n.bcast.foldl (fun a p =>
    if p.1 < 4 then setN (Obj.ISB_BCAST_VALID p.1) 1 (setN (Obj.ISB_BCAST p.1) p.2 a) else a) s
  let s1 := match n.utc with | some p => utcParams p s0 | none => s0
  let s2 := if getN s1 Obj.GNSS_POS_MODE = 0 ∧ s1.gnss.held = false ∧ getN s1 Obj.GNSS_SURVEY_STATE ≠ 1 then startSurvey s1 else s1
  match n.pos with
  | none => s2
  | some p =>
    if getN s2 Obj.GNSS_SURVEY_STATE = 1 then (if getN s2 Obj.GNSS_FIX_STATE = 1 then surveyAdd p s2 else s2)
    else if getN s2 Obj.GNSS_FIX_STATE = 2 ∨ s2.gnss.posAlarm then posCheck p s2
    else s2

def execGnssNavSecond (n : NavSecond) (s : State) : Host.Outcome State Fault Refusal := finish (ifGnss (navSecond n) s)

/-! ### Inter-system offsets (R195) -/

/-- A system is excluded (R198). -/
def isExcluded (s : State) (y : Nat) : Bool := s.gnss.excluded.any (fun p => p.1 = y && decide (s.now < p.2))

/-- The pair of a system with GPS. -/
def isbPair : Nat → Nat
  | 1 => 0 | 2 => 1 | 3 => 2 | _ => 3

def isbOf (s : State) (q : Nat) : Isb := s.gnss.isb.getD q {}

/-- Pairs that relate a system to `GNSS_TIME_SYSTEM`, all through GPS. -/
def pairsFor (t y : Nat) : List Nat :=
  if y = t then [] else (if y = 0 then [] else [isbPair y]) ++ (if t = 0 then [] else [isbPair t])

/-- A system may contribute by its inter-system offset; with the uncertainty of the offset applied (R188, R195). -/
def isbApplies (s : State) (y : Nat) : Option Nat :=
  let l := pairsFor (getNat s Obj.GNSS_TIME_SYSTEM) y
  if getN s Obj.GNSS_ISB_MODE = 0 then
    (if l.all (fun q => decide (getN s (Obj.ISB_SOLVED_VALID q) = 1)) then
      some ((l.map (fun q => getNat s (Obj.ISB_SOLVED_UNC q))).sum) else none)
  else if y = 3 then none
  else if l.all (fun q => decide (getN s (Obj.ISB_BCAST_VALID q) = 1)) then some (l.length * getNat s Obj.GNSS_ISB_BCAST_UNC)
  else none

/-- Whole seconds from the time of a system to TAI ("System time to TAI"); GLONASS is UTC(SU) + 3 h, QZSS is on GPS time. -/
def taiLead (s : State) (y : Nat) : Int :=
  if y = 2 then 33 else if y = 3 then getN s Obj.CURRENT_UTC_OFFSET - 10800 else 19

/-- MTS less TAI as a system realises it, from MTS less its time (R188). -/
def taiX (s : State) (y : Nat) (x : Int) : Int := x - taiLead s y * sec96

/-- The inter-system offset of a system in ps, GPS time minus its time, in the form that `GNSS_ISB_MODE` applies. -/
def isbValue (s : State) (y : Nat) : Int :=
  if y = 0 then 0 else if getN s Obj.GNSS_ISB_MODE = 0 then getN s (Obj.ISB_SOLVED (isbPair y)) else getN s (Obj.ISB_BCAST (isbPair y))

/-- A single-system estimate as MTS less TAI as `GNSS_TIME_SYSTEM` realises it (R188, R198). -/
def sysX (s : State) (e : SysEst) : Int :=
  let t := getNat s Obj.GNSS_TIME_SYSTEM
  taiX s e.sys e.x + (if e.sys = t then 0 else (ps96 (isbValue s t - isbValue s e.sys) s).1)

/-- A signal is tracked and usable: C/N0 at the mask, 10 s without a slip (R184). -/
def signalOk (s : State) (y prn : Nat) (l5 : Bool) : Option (Nat × Nat) → Bool
  | some (cn0, ms) => decide (10 * getNat s Obj.GNSS_CN0_MASK ≤ cn0 ∧ 10000 ≤ ms) && s.gnss.chans.contains { sys := y, prn := prn, l5 := l5 }
  | none => false

/-- A satellite enters: a usable signal, a valid ephemeris, not flagged unhealthy (R184). -/
def satOk (s : State) (y : Nat) (o : SatObs) : Bool :=
  o.ephValid && !o.unhealthy && (signalOk s y o.prn false o.l1 || signalOk s y o.prn true o.l5)

/-- It enters as the ionosphere-free combination (R184). -/
def satDual (s : State) (y : Nat) (o : SatObs) : Bool := signalOk s y o.prn false o.l1 && signalOk s y o.prn true o.l5

/-- An estimate with its usable satellites only. -/
def usable (s : State) (e : SysEst) : SysEst := { e with sats := e.sats.filter (satOk s e.sys) }

def dualOf (s : State) (e : SysEst) : Nat := e.sats.countP (satDual s e.sys)

/-- One second of input of a pair, in ps (R195). -/
def isbInput (q : Nat) (v : Int) (s : State) : State :=
  let x := isbOf s q
  let tau := max (getNat s Obj.GNSS_ISB_TAU) 1
  let f0 := if x.seconds = 0 then v * 1000 else x.filt
  let d := divFree (v * 1000 - f0) tau s
  let n := x.seconds + 1
  let y : Isb := { filt := f0 + d.1, seconds := n, sum := x.sum + v, sumSq := x.sumSq + (v * v).toNat, lastInput := s.now }
  let s1 := setGnss (fun g => { g with isb := modAt q (fun _ => y) g.isb }) d.2
  let var := ((n * y.sumSq : Nat) - y.sum * y.sum).toNat
  let k := getNat s Obj.GNSS_SIGMA_MULT
  let u := ceilSqrtDiv (k * k * var) (100 * n * n * min n tau) + 880
  let p := nearFree y.filt 1000 s1
  p.2 |> setN (Obj.ISB_SOLVED q) p.1 |> setN (Obj.ISB_SOLVED_UNC q) (min u 4294967294 : Nat)
    |> setN (Obj.ISB_SOLVED_VALID q) (if tau ≤ n then 1 else 0)

/-- The pairs that have at least two used satellites in both systems, none of them disabled or excluded (R184, R195). -/
def isbInputs (all : List SysEst) (s : State) : State :=
  let est := (all.filter (fun e => (getNat s Obj.GNSS_SYS_ENABLE).testBit e.sys && !isExcluded s e.sys)).map (usable s)
  match est.find? (fun e => e.sys = 0 && decide (2 ≤ e.sats.length)) with
  | none => s
  | some g =>
    est.foldl (fun a e =>
      if e.sys = 0 ∨ 5 ≤ e.sys ∨ e.sats.length < 2 then a
      else let d := divFree ((taiX s e.sys e.x - taiX s 0 g.x) * 1000) 65536 a; isbInput (isbPair e.sys) d.1 d.2) s

/-- 600 s without input (R195). -/
def isbTimeout (q : Nat) (s : State) : State :=
  if getN s (Obj.ISB_SOLVED_VALID q) = 1 ∧ (isbOf s q).lastInput + 600 * sT ≤ s.now then
    setN (Obj.ISB_SOLVED_UNC q) 4294967295 (setN (Obj.ISB_SOLVED_VALID q) 0
      (setGnss (fun g => { g with isb := modAt q (fun _ => {}) g.isb }) s))
  else s

def execIsbInvalidTimeout (i : Fin 4) (s : State) : Host.Outcome State Fault Refusal := finish (ifGnss (isbTimeout i.val) s)

/-! ### The timing solution (R188–R194, R198, R200) -/

/-- x with `REF_DELAY` of the antenna and cable removed (R188). -/
def gnssX (raw : Int) (s : State) : Int × State := let d := ps96 (getF s (Obj.REF_DELAY 8)) s; (raw - d.1, d.2)

/-- A measurement of GNSS at second S (R78, R188). -/
def gnssMeas (s : State) (x : Int) (unc sec : Nat) : Meas :=
  let mk := if s.gnss.secMark.1 = sec then s.gnss.secMark.2 else markNow s
  let b := unc + 8 + (getF s (Obj.DELAY_UNC 8)).toNat
  { ref := 8, x := x, uM := some (b + (getF s (Obj.ASYM_NEG 8)).toNat), uP := some (b + (getF s (Obj.ASYM_POS 8)).toNat),
    atI := sec * sec48, mark := mk }

/-- The fixed terms of R189 but the statistical, group-delay and ionosphere terms. -/
def fixedTerms (s : State) (mask : Nat) (hold : Bool) : Nat :=
  let tropo := if getN s Obj.GNSS_ELEV_MASK < 10 then 600 else 300
  let pos := if hold then cdiv (getNat s Obj.GNSS_POS_UNC * 33357) 10000 else 0
  let isb := ((List.range 5).filter (fun y => mask.testBit y)).foldl (fun a y => max a ((isbApplies s y).getD 0)) 0
  tropo + pos + getNat s Obj.GNSS_SYS_TIME_UNC + isb

/-- Timing-solution uncertainty (R189). -/
def solUnc (s : State) (mask sigma dual single : Nat) (hold : Bool) : Nat :=
  kTimes s sigma + (if 0 < dual then 880 else 250) + (if 0 < single then 10000 else 0) + fixedTerms s mask hold

/-- Systems that may contribute this second, with their usable satellites (R184, R188). -/
def eligible (s : State) (est : List SysEst) : List SysEst :=
  (est.map (usable s)).filter (fun e => decide (e.sys < 5) && (getNat s Obj.GNSS_SYS_ENABLE).testBit e.sys && !isExcluded s e.sys &&
    decide (0 < e.sats.length) && (isbApplies s e.sys).isSome)

/-- The verdicts of R198: (system, agrees) for each estimate that can be tested. -/
def integrity (s : State) (l : List SysEst) (hold : Bool) (sec : Nat) : List (Nat × Bool) :=
  l.filterMap (fun e =>
    if e.sats.length < 2 then none
    else
      let u := solUnc s (2 ^ e.sys) e.sigma (dualOf s e) (e.sats.length - dualOf s e) hold
      (testMeas s (gnssMeas s (gnssX (sysX s e) s).1 u sec)).map (fun r => (e.sys, r.1)))

/-- Failing systems are excluded where at least one agrees (R198). -/
def excludeFailing (v : List (Nat × Bool)) (s : State) : State :=
  if v.any (fun p => p.2) then
    v.foldl (fun a p =>
      if p.2 then a
      else
        raise 0x1300 1 { detail := 3 } (bump Obj.SYS_EXCLUDED (setGnss (fun g =>
          { g with excluded := (p.1, a.now + getNat a Obj.GNSS_EXCLUDE_HOLD * sT) :: g.excluded }) a))) s
  else s

/-- The tick nearest m, the earlier on a tie, counted from now (R192). Instants in 2⁻⁴⁸ ns. -/
def nearestTick (s : State) (m : Int) : Nat :=
  let pd : Int := getNat s Obj.GNSSPPS_PATH_DELAY * ns48 / 1000
  (cdivInt (2 * (m - pd - s.ts.mts) - s.ts.incr) (2 * max s.ts.incr 1)).toNat

/-- The edge of TAI second S + 1: the tick that launches it and qErr in ps (R192). -/
def ppsEdge (sec : Nat) (s : State) : Nat × Int × State :=
  let off := getN s Obj.GNSSPPS_OFFSET
  let g := s.gnss
  let dm := divFree (g.lastD * ((sec48 : Int) + off * 4294967296)) (ten 15) s
  let m : Int := ((sec + 1) * sec48 : Nat) + (off + g.lastX) * 4294967296 + dm.1
  let n := nearestTick s m
  let edge : Nat := s.ts.mts + n * s.ts.incr + getNat s Obj.GNSSPPS_PATH_DELAY * ns48 / 1000
  let q := nearFree (((edge : Int) - m) * 1000) ns48 dm.2
  (s.now + n, q.1, q.2)

/-- Plan the edge for second S + 1 (R192, R193): QERR as 32 bits. With a large offset the edge before it may still wait for its tick. -/
def planPps (sec : Nat) (solved : Bool) (s : State) : Nat × State :=
  let sq := getNat s Obj.GNSSPPS_SQUELCH
  let off := (!solved && sq.testBit 0) || (decide (getN s Obj.GNSS_FIX_STATE ≠ 2) && sq.testBit 1)
  let e := ppsEdge sec s
  let s1 := setGnss (fun g => { g with ppsNext := g.ppsNext ++ [(e.1, off)] }) e.2.2
  (if off then 0x80000000 else (e.2.1 % 4294967296).toNat, s1)

/-- FLAGS of FNTM. -/
def gnssFlags (s : State) (noSol : Bool) : Nat :=
  let g := s.gnss
  (if noSol then 1 else 0) + (if g.jam then 2 else 0) + (if g.spoof then 4 else 0) +
    (if g.excluded.any (fun p => decide (s.now < p.2)) then 8 else 0) + (if g.posAlarm then 16 else 0) +
    (if getN s Obj.LEAP_PENDING ≠ 0 then 32 else 0) + (if s.ts.utcDecoded then 64 else 0)

/-- The FNTM message of a second (R194). -/
def fntm (s : State) (sec : Nat) (sol : Option (Int × Nat × Nat)) (qerr : Nat) (perSys : List Nat) (dual : Nat) : List Byte :=
  let i32 (v : Int) : List Byte := be 4 (v % 4294967296).toNat
  let i16 (v : Int) : List Byte := be 2 (v % 65536).toNat
  let b := be 4 0x464E544D ++ be 1 1 ++ be 1 80 ++ be 2 (getNat s Obj.GNSS_TM_SEQ % 65536) ++ be 8 sec ++
    be 8 (((sol.map (·.1)).getD 0) % (2 ^ 64 : Nat)).toNat ++ be 4 ((sol.map (·.2.1)).getD 4294967295) ++
    be 8 (getN s (Obj.REF_FREQ 8) % (2 ^ 64 : Nat)).toNat ++
    be 4 (if sol.isSome then min (getNat s (Obj.REF_FREQ_UNC 8)) 4294967295 else 4294967295) ++ be 4 qerr ++
    be 1 (getNat s Obj.GNSS_FIX_STATE) ++ be 1 (getNat s Obj.GNSS_TIME_SYSTEM) ++ be 1 (gnssFlags s sol.isNone) ++
    be 1 (getNat s Obj.GNSS_ANT_STATE) ++ perSys.flatMap (fun n => be 1 n) ++ be 1 dual ++ be 2 ((sol.map (·.2.2)).getD 0) ++
    (List.range 4).flatMap (fun q =>
      if getN s (Obj.ISB_SOLVED_VALID q) = 1 then i32 (getN s (Obj.ISB_SOLVED q)) else be 4 0x80000000) ++
    i16 (getN s Obj.GNSS_JN_L1) ++ i16 (getN s Obj.GNSS_JN_L5)
  b ++ be 4 (crc32 b)

/-- Publish the message of a second, with its GNSSPPS plan (R192–R194). -/
def publishFntm (sec : Nat) (sol : Option (Int × Nat × Nat)) (perSys : List Nat) (dual : Nat) (s : State) : State :=
  let p := planPps sec sol.isSome s
  let s1 := setN Obj.GNSS_FLAGS (gnssFlags p.2 sol.isNone) (setN Obj.GNSS_TM_SEQ ((getN s Obj.GNSS_TM_SEQ + 1) % 4294967296) p.2)
  setB Obj.GNSS_TIMING_MSG (fntm s1 sec sol p.1 perSys dual) s1

/-- SPOOF_SUSPECT of a second (R200). -/
def spoofCheck (x : TimingInput) (s : State) : State :=
  let sp := decide (6 ≤ x.tracked ∧ x.spread < 20)
  let s1 := setGnss (fun g => { g with spoof := sp }) s
  if sp then bump Obj.SPOOF_SUSPECT_SEC s1 else s1

/-- A second without a timing solution (R191). -/
def noSolution (sec : Nat) (perSys : List Nat) (s : State) : State :=
  publishFntm sec none perSys 0 (measMissed 8 (setRef 8 (fun r => { r with solved := false })
    (setN Obj.GNSS_SOL_UNC 4294967295 s)))

/-- The quality number of a second with a solution (R131). -/
def gnssQn (fix sats : Nat) : Nat := if fix = 1 then 40 else if 4 ≤ sats then 16 else 70

/-- The fix state that a set of satellites gives ("Fix states"). -/
def fixOf (s : State) (n : Nat) : Nat :=
  if getN s Obj.GNSS_SURVEY_STATE = 1 ∨ s.gnss.held = false then (if 4 ≤ n then 1 else 0) else if 1 ≤ n then 2 else 0

def satsOf (l : List SysEst) : Nat := (l.map (fun e => e.sats.length)).sum

/-- The solution that a second has with the systems it may use; none in the cases of R191. -/
def solutionOf (s : State) (x : TimingInput) (l : List SysEst) : Option GnssSol :=
  if fixOf s (satsOf l) = 0 ∨ s.gnss.posAlarm ∨ replicaFresh s 1 = false then none
  else x.sols.find? (fun e => e.mask = (l.map (fun e => 2 ^ e.sys)).sum)

/-- The second is not solved: it was before, or a forward step skipped it (R54, R188). -/
def secondOver (s : State) (sec : Nat) : Bool := wasDone sec s.gnss.solved || decide (s.gnss.skipped = some sec)

/-- A second with a timing solution (R188–R192). -/
def publishSolution (sec : Nat) (l : List SysEst) (perSys : List Nat) (sol : GnssSol) (s : State) : State :=
  let n := satsOf l
  let fix := fixOf s n
  let dual := (l.map (dualOf s)).sum
  let u := solUnc s sol.mask sol.sigma dual (n - dual) (fix = 2)
  let xx := gnssX (taiX s (getNat s Obj.GNSS_TIME_SYSTEM) sol.x) s
  let rate := mtsRate xx.2
  let f := nearFree (rate.1 - sol.d * 1000) 1000 rate.2
  let s3 := setFreq 8 f.1 (max 1000 (kTimes s sol.sigmaD)) f.2
  let s4 := setGnss (fun g => { g with lastX := xx.1, lastD := sol.d, used := l.flatMap (fun e => e.sats.map (fun p => (e.sys, p.prn))) }) s3
  let s5 := setRef 8 (fun r => { r with solved := true, engineQn := gnssQn fix n }) s4
  let s6 := s5 |> setN Obj.GNSS_SOL_UNC (min u 4294967294 : Nat) |> setN Obj.GNSS_SOL_AT (sec * sec96 : Nat)
  handOnBy 1 (queueMeas (gnssMeas s6 xx.1 u sec) (publishFntm sec (some (xx.1, min u 4294967294, sol.tdop)) perSys dual s6))

/-- The timing solution of the present whole second (R188–R191). The systems are tested, and failing ones excluded, in a second that has a
solution (R198). -/
def timingSolution (x : TimingInput) (s0 : State) : State :=
  let sec := mtsSec s0
  if secondOver s0 sec then s0
  else
    let s := isbInputs x.est (spoofCheck x (setGnss (fun g => { g with solved := markDone sec g.solved }) s0))
    let l0 := eligible s x.est
    let s1 := if (solutionOf s x l0).isSome then excludeFailing (integrity s l0 (fixOf s (satsOf l0) = 2) sec) s else s
    let l := eligible s1 x.est
    let perSys := (List.range 5).map (fun y => ((l.find? (fun e => e.sys = y)).map (fun e => e.sats.length)).getD 0)
    let s2 := setN Obj.GNSS_SATS_USED (satsOf l : Nat) (setN Obj.GNSS_FIX_STATE (fixOf s1 (satsOf l)) s1)
    match solutionOf s2 x l with
    | none => noSolution sec perSys s2
    | some sol => publishSolution sec l perSys sol s2

def execGnssTimingSolution (x : TimingInput) (s : State) : Host.Outcome State Fault Refusal :=
  finish (ifGnss (timingSolution x) s)

/-- The selected tick launches the pulse, or it is squelched; the land stays low in the absent-state (R192, R193). -/
def gnssPpsEdge (s : State) : State :=
  match s.gnss.ppsNext with
  | [] => s
  | (t, sq) :: r =>
    if s.now < t then s
    else
      let s1 := setGnss (fun g => { g with ppsNext := r }) s
      let edge := t96Of (s.ts.mts - (s.now - t) * s.ts.incr + getNat s Obj.GNSSPPS_PATH_DELAY * ns48 / 1000)
      if sq ∨ getN s Obj.GNSSPPS_ENABLE = 0 ∨ outputsAbsent s then s1
      else emit (.gnssPps edge (getNat s Obj.GNSSPPS_WIDTH)) (setN Obj.GNSSPPS_LAST_EDGE edge s1)

def execGnssppsEdge (s : State) : Host.Outcome State Fault Refusal := finish (ifGnss gnssPpsEdge s)

/-! ### Antenna, exclusion, noise (R197–R199) -/

/-- A sample of the antenna current (R197). -/
def antSample (cur aboveUs : Nat) (s : State) : State :=
  let s1 := setN Obj.GNSS_ANT_CURRENT (cur % 65536 : Nat) s
  if getN s Obj.GNSS_ANT_SUPPLY = 0 then setN Obj.GNSS_ANT_STATE 0 (setGnss (fun g => { g with antCut := none }) s1)
  else if s.gnss.antCut.isSome then s1
  else if getNat s Obj.GNSS_ANT_I_LIMIT * 10 < cur ∧ 100 ≤ aboveUs then
    raise 0x1300 1 { detail := 2 } (bump Obj.ANT_SHORT (setN Obj.GNSS_ANT_STATE 3
      (setGnss (fun g => { g with antCut := some s.now }) s1)))
  else if cur < 30 then setN Obj.GNSS_ANT_STATE 1 s1
  else if cur ≤ getNat s Obj.GNSS_ANT_I_LIMIT * 10 then setN Obj.GNSS_ANT_STATE 2 s1
  else s1

def execAntCurrentSample (cur aboveUs : Nat) (s : State) : Host.Outcome State Fault Refusal :=
  finish (ifGnss (antSample cur aboveUs) s)

/-- Every 10 s after a short the supply is retried (R197). -/
def antRetry (s : State) : State :=
  match s.gnss.antCut with
  | some t => if t + 10 * sT ≤ s.now then setGnss (fun g => { g with antCut := none }) s else s
  | none => s

def execAntSupplyRetry (s : State) : Host.Outcome State Fault Refusal := finish (ifGnss antRetry s)

/-- `GNSS_EXCLUDE_HOLD` has passed (R198). -/
def excludeExpiry (y : Nat) (s : State) : State :=
  setGnss (fun g => { g with excluded := g.excluded.filter (fun p => !decide (p.1 = y ∧ p.2 ≤ s.now)) }) s

def execGnssExcludeExpiry (sys : Fin 5) (s : State) : Host.Outcome State Fault Refusal := finish (ifGnss (excludeExpiry sys.val) s)

/-- The noise rise and JAM (R199). -/
def noiseMeasure (l1 l5 : Int) (s : State) : State :=
  let th := getN s Obj.GNSS_JAM_THRESHOLD
  let jam := decide (th < l1 ∨ th < l5)
  let s1 := s |> setN Obj.GNSS_JN_L1 (clampInt (-32768) 32767 l1) |> setN Obj.GNSS_JN_L5 (clampInt (-32768) 32767 l5)
    |> setGnss (fun g => { g with jam := jam })
  if jam && !s.gnss.jam then
    journal { kind := 7, key := Obj.FAULT_RECORD, new := be 2 0x1300 } (raise 0x1300 0 {} (bump Obj.JAM_EVENTS s1))
  else s1

def execGnssNoiseMeasure (l1 l5 : Int) (s : State) : Host.Outcome State Fault Refusal := finish (ifGnss (noiseMeasure l1 l5) s)

/-! ### Snapshots (R201, R202) -/

def ruleSnapArm : Rule :=
  { chk := fun s _ =>
      let a := getNat s Obj.GNSS_SNAP_AT
      if (a ≠ 0 ∧ of96 a < s.ts.mts + ms48) ∨ getN s Obj.GNSS_SNAP_BANDS = 0 then (stRange, [])
      else if s.gnss.snap.armed.isSome ∨ s.gnss.snap.slot.isSome then (stBusy, [])
      else if 1 ≤ s.power.closed then (stConflict, []) else (stOk, [])
    eff := fun _ s => setGnss (fun g => { g with snap := { g.snap with armed := some (of96 (getNat s Obj.GNSS_SNAP_AT)) } }) s }

def execGnssSnapArm (q : Req) (s : State) : Host.Outcome State Fault Refusal :=
  finish (ifUp (ownerCommand q Obj.GNSS_SNAP_ARM ruleSnapArm) s)

/-- A read of the slot's data is in progress: from its segment at OFFSET 0 until the last one is sent. -/
def slotRead (s : State) (k : Nat) : Bool :=
  s.sessions.any (fun x => match x.seg with | .readCopy key _ sent => key = Obj.SNAP_DATA k && !sent | _ => false)

/-- The slot after the last one written that is not being read. -/
def nextSlot (s : State) : Option Nat :=
  let l := getNat s Obj.GNSS_SNAP_LAST
  let base := if l = 0xFF then 0 else l + 1
  ((List.range 8).map (fun i => (base + i) % 8)).find? (fun k => !slotRead s k)

/-- The capture begins (R201). -/
def snapStart (s : State) : State :=
  match s.gnss.snap.armed with
  | none => s
  | some t =>
    if s.ts.mts < t then s
    else match nextSlot s with
      | none => bump Obj.SNAP_DROPPED (setGnss (fun g => { g with snap := { g.snap with armed := none } }) s)
      | some k =>
        setN (Obj.SNAP_STATE k) 1 (setGnss (fun g =>
          { g with snap := { armed := none, slot := some k, first := mts96 s, bound := servedPair (stampBound s 1) 8 8,
                             stale := !replicaFresh s 1, bands := getNat s Obj.GNSS_SNAP_BANDS,
                             len := getNat s Obj.GNSS_SNAP_LEN, began := s.now } }) s)

def execGnssSnapStart (s : State) : Host.Outcome State Fault Refusal := finish (ifGnss snapStart s)

/-- The 64 bytes of a snapshot header ("Snapshot header"). -/
def snapHeader (x : Snap) (stale : Bool) (agc1 agc2 lo1 lo5 : Nat) (rate : Int) : List Byte :=
  let n := 80000 * x.len
  let b := be 4 0x464E534E ++ be 2 1 ++ be 1 x.bands ++ be 1 (if stale then 1 else 0) ++ be 4 n ++ be 4 (n / 2) ++
    t96Bytes x.first ++ be 10 (if stale then unbounded80 else x.bound).toNat ++ be 2 0 ++ be 4 lo1 ++ be 4 lo5 ++ be 2 agc1 ++
    be 2 agc2 ++ be 4 (rate % 4294967296).toNat ++ be 4 0
  b ++ be 4 (crc32 b)

/-- The capture is complete (R202). -/
def snapComplete (data : List Byte) (agc1 agc2 lo1 lo5 : Nat) (rate : Int) (s : State) : State :=
  let x := s.gnss.snap
  match x.slot with
  | none => s
  | some k =>
    if s.now < x.began + x.len * msT then s
    else
      let stale := x.stale || !replicaFresh s 1
      let nb := (if x.bands.testBit 0 then 1 else 0) + (if x.bands.testBit 1 then 1 else 0)
      let d := (data ++ List.replicate (40000 * x.len * nb - data.length) 0).take (40000 * x.len * nb)
      setB (Obj.SNAP_DATA k) (snapHeader x stale agc1 agc2 lo1 lo5 rate ++ d)
        (setN Obj.GNSS_SNAP_LAST k (setN (Obj.SNAP_STATE k) 2 (setGnss (fun g => { g with snap := {} }) s)))

def execGnssSnapComplete (data : List Byte) (agc1 agc2 lo1 lo5 : Nat) (rate : Int) (s : State) :
    Host.Outcome State Fault Refusal :=
  finish (ifGnss (snapComplete data agc1 agc2 lo1 lo5 rate) s)

/-- A boundary finds the replica stale during a capture (R202). -/
def snapStale (s : State) : State := if s.gnss.snap.slot.isSome ∧ replicaFresh s 1 = false then markSnap s else s

/-- A step to `new` reaches the receiver: a whole second that it skips never occurs (R53, R188). -/
def gnssStepped (old new : Nat) (s : State) : State :=
  setGnss (fun g => { g with skipped := if old / sec48 < new / sec48 then some (new / sec48) else none }) s

end Sys2Proof.Machine
end

