-- ==== Sys2Proof/Machine/MemMap.lean ====
section
/-! DEFINITION. Machine/MemMap.lean: the address map, what the masters reach, bytes of memory, poisoned lines and the IOMMU (R425–R436). -/
namespace Sys2Proof.Machine

def setMem (f : Mem → Mem) (s : State) : State := { s with mem := f s.mem }
def setDma (d : Nat) (f : Dma → Dma) (s : State) : State := setMem (fun m => { m with dmas := modAt d f m.dmas }) s
def dma (s : State) (d : Nat) : Dma := s.mem.dmas.getD d { id := d }
def setUpd (f : Update → Update) (s : State) : State := { s with update := f s.update }

/-! ### The address map (R425, "System address map") -/

def dramBase : Nat := 0x1000000000
/-- Capacity of one channel in bytes. -/
def chanBytes (s : State) : Nat := getNat s Obj.DRAM_SIZE * 2 ^ 30
/-- Mapped DRAM: the last 64 KiB hold the spare pages. -/
def dramMapped (s : State) : Nat := 2 * chanBytes s - 65536

/-- What an address names, with the offset in it. -/
inductive Target where
  | rom (o : Nat)
  | sram (o : Nat)
  | regs (o : Nat)
  | nor (o : Nat)
  | dram (o : Nat)
  deriving DecidableEq, Repr

/-- "System address map". -/
def targetOf (s : State) (a : Nat) : Option Target :=
  let bit := getN s Obj.REMAP_BIT = 1
  let rom (o : Nat) : Option Target := if o < 0x40000 then some (.rom o) else none
  if a < 0x400000 then (if bit then some (.sram a) else rom a)
  else if 0x10000000 ≤ a ∧ a < 0x10400000 then (if bit then rom (a - 0x10000000) else some (.sram (a - 0x10000000)))
  else if 0x40000000 ≤ a ∧ a < 0x80000000 then some (.regs (a - 0x40000000))
  else if 0x80000000 ≤ a ∧ a < 0x84000000 then some (.nor (a - 0x80000000))
  else if dramBase ≤ a ∧ a < dramBase + dramMapped s then some (.dram (a - dramBase))
  else none

/-- Region of a DRAM offset ("DRAM regions"). -/
def dramRegion (o : Nat) : Nat :=
  if o < 0x1000000 then 0 else if o < 0x5000000 then 1 else if o < 0x15000000 then 2 else if o < 0x16000000 then 3
  else if o < 0x18000000 then 4 else if o < 0x1C000000 then 5 else if o < 0x1C100000 then 6 else 7

def targetRegion : Target → Option Nat
  | .dram o => some (dramRegion o)
  | .sram _ => some 8
  | .rom _ => some 9
  | _ => none

def regionOf (s : State) (a : Nat) : Option Nat := (targetOf s a).bind targetRegion

/-- Offset of a region in DRAM. -/
def regionOffset : Nat → Nat
  | 0 => 0 | 1 => 0x1000000 | 2 => 0x5000000 | 3 => 0x15000000 | 4 => 0x16000000 | 5 => 0x18000000 | 6 => 0x1C000000 | _ => 0x1C100000

/-- `REGION_BASE` and `REGION_SIZE` in force. -/
def baseOfRegion (s : State) (r : Nat) : Nat :=
  let bit := getN s Obj.REMAP_BIT = 1
  if r = 8 then (if bit then 0 else 0x10000000) else if r = 9 then (if bit then 0x10000000 else 0) else dramBase + regionOffset r

def sizeOfRegion (s : State) (r : Nat) : Nat :=
  if r = 8 then 0x400000 else if r = 9 then 0x40000 else if r = 7 then dramMapped s - 0x1C100000
  else regionOffset (r + 1) - regionOffset r

/-- "Masters": what a master reaches. -/
def reaches (id : Nat) : Target → Bool
  | .dram o =>
    decide (id < 5 ∨ (0x10 ≤ id ∧ id < 0x18) ∨ id = 0x22 ∨ (id = 0x20 ∧ dramRegion o = 0) ∨ (id = 0x21 ∧ dramRegion o = 3) ∨
      (id = 0x23 ∧ dramRegion o = 2) ∨ (id = 0x24 ∧ dramRegion o = 4))
  | .sram _ => decide (id < 5 ∨ (0x10 ≤ id ∧ id < 0x18) ∨ id = 0x22)
  | .rom _ => decide (id < 5 ∨ id = 0x22)
  | .nor _ => decide (id < 5 ∨ (0x10 ≤ id ∧ id < 0x18) ∨ id = 0x23)
  | .regs o => decide (id < 5) || (decide (0x10 ≤ id ∧ id < 0x18) && Config.ctrlReg (0x40000000 + o))

/-- A master of the matrix. -/
def isMaster (id : Nat) : Bool := decide (id < 5 ∨ (0x10 ≤ id ∧ id < 0x18) ∨ (0x20 ≤ id ∧ id < 0x25))

/-- R429: the matrix issues the access. -/
def accessOk (s : State) (a : BusAccess) : Bool :=
  match targetOf s a.address with
  | none => false
  | some t =>
    reaches a.master t &&
      (match t with
       | .rom _ | .nor _ => decide (a.access ≠ 2)
       | _ => true)

def accessInfo (a : BusAccess) (detail : Nat) : FaultInfo :=
  { detail := detail, master := a.master, access := a.access, address := a.address }

/-! ### Bytes -/

/-- A byte of a list, 0 past its end. -/
def byteAt (l : List Byte) (n : Nat) : Byte := l.getD n 0

/-- A byte of the session table (R303). -/
def sessionByte (s : State) (o : Nat) : Byte :=
  match sessionAt s (o / 128) with
  | some x => byteAt (sessionBytes x) (o % 128)
  | none => 0

/-- A byte of memory at a system address. The units' own regions read as their units hold them. -/
def memByte (s : State) (a : Nat) : Byte :=
  match targetOf s a with
  | none => 0
  | some (.rom o) => Config.romByte o
  | some (.nor o) => Config.norByte o
  | some (.regs _) => Config.memByte a s.now
  | some (.sram o) => (lookupKV o s.mem.cells).getD 0
  | some (.dram o) =>
    match dramRegion o with
    | 0 => sessionByte s o
    | 5 => byteAt (s.update.staged.getD ((o - 0x18000000) / 0x2000000) []) ((o - 0x18000000) % 0x2000000)
    | 6 => byteAt ((lookupKV ((o - 0x1C000000) / 256) s.cores.ring).getD []) (o % 256)
    | 7 => (lookupKV a s.mem.cells).getD 0
    | _ => Config.memByte a s.now

def memBytes (s : State) (a n : Nat) : List Byte := (List.range n).map (fun i => memByte s (a + i))

/-- A cell takes a byte; a byte 0 is not listed. -/
def setCell (a : Nat) (b : Byte) (l : List Host.Cell) : List Host.Cell := if b = 0 then eraseKV a l else insertKV a b l

/-- The canonical form of the memory's cells (R424): addresses strictly rising, no entry 0. -/
def Memory.wf : List Host.Cell → Bool
  | [] => true
  | c :: r => decide (c.2 ≠ 0) && r.all (fun d => decide (c.1 < d.1)) && Memory.wf r

/-- Write a byte at a system address: SRAM, firmware working memory and the staging slots hold it. -/
def storeByte (a : Nat) (b : Byte) (s : State) : State :=
  match targetOf s a with
  | some (.sram o) => setMem (fun m => { m with cells := setCell o b m.cells }) s
  | some (.dram o) =>
    if dramRegion o = 7 then setMem (fun m => { m with cells := setCell a b m.cells }) s
    else if dramRegion o = 5 then
      setUpd (fun u => { u with staged := modAt ((o - 0x18000000) / 0x2000000) (fun l => l.set ((o - 0x18000000) % 0x2000000) b) u.staged }) s
    else s
  | _ => s

def storeBytes (a : Nat) : List Byte → State → State
  | [], s => s
  | b :: r, s => storeBytes (a + 1) r (storeByte a b s)

/-! ### Poisoned lines (R436) -/

/-- Line of an address: poisoning follows the memory, not its place in the map. -/
def lineOf (s : State) (a : Nat) : Nat :=
  match targetOf s a with
  | some (.sram o) => o / 64
  | _ => a / 64

def isPoisoned (s : State) (a : Nat) : Bool := s.mem.poisoned.contains (lineOf s a)

def clearPoison (l : Nat) (s : State) : State := setMem (fun m => { m with poisoned := m.poisoned.filter (· ≠ l) }) s

/-- Lines that n bytes from an address touch. -/
def linesOf (a n : Nat) : List Nat := (List.range ((a + n - 1) / 64 + 1 - a / 64)).map (fun i => (a / 64 + i) * 64)

/-- A write: a poisoned line that it covers whole becomes clean; one that it covers in part drops its bytes (R436). -/
def writeBytes (a : Nat) (b : List Byte) (s : State) : State :=
  (linesOf a b.length).foldl (fun t l =>
    let lo := max a l
    let hi := min (a + b.length) (l + 64)
    if isPoisoned t l then
      (if lo = l ∧ hi = l + 64 then storeBytes lo (slice b (lo - a) (hi - lo)) (clearPoison (lineOf t l) t) else t)
    else storeBytes lo (slice b (lo - a) (hi - lo)) t) s

/-! ### The IOMMU (R431) -/

/-- The physical address of a burst, where one window covers it whole with the permission it needs. -/
def translate (ws : List IommuWindow) (iova n : Nat) (write : Bool) : Option Nat :=
  (ws.find? (fun w => decide (w.size ≠ 0 ∧ w.iova ≤ iova ∧ iova + n ≤ w.iova + w.size) && (if write then w.write else w.read))).map
    (fun w => w.phys + (iova - w.iova))

/-- The channel writes STATUS and DONE into its descriptor. -/
def dmaStatus (d status : Nat) (x : DmaXfer) (s : State) : State :=
  match translate (dma s d).windows (x.at_ + 32) 8 true with
  | some p => if accessOk s { master := 0x10 + d, address := p, access := 2 } then writeBytes p (be 1 status ++ be 3 0 ++ be 4 x.done) s else s
  | none => s

end Sys2Proof.Machine
end

