-- ==== Sys2Proof/Machine/Ptp.lean ====
section
/-! DEFINITION. Machine/Ptp.lean: the commands and events of the PTP engine (R272–R312), and the end of a received frame, whose PTP
messages it sorts. -/
namespace Sys2Proof.Machine

/-! ### Reception (R213, R277) -/

/-- A TLV for which a task of the cores waits. -/
def negotiates : UcTlv → Bool
  | .cancel _ | .grant _ _ _ | .request _ _ _ => true
  | _ => false

/-- A Signaling message on its way through the cores: it is accepted once, and its other TLVs count then (R277). -/
def takeSignal (x : PtpRx) (s : State) : Option Nat × State :=
  match x.taken with
  | some k => (some k, s)
  | none =>
    match ptpAccept x s with
    | (some k, a) => (some k, bumpBy (Obj.SIG_IGNORED (16 * k + x.port)) (x.msg.uc.countP (fun u => u = .other)) a)
    | r => r

/-- Messages that no task waits for: Management, Signaling without a negotiation TLV, and undefined types. -/
def idleMsg (x : PtpRx) : Bool :=
  x.msg.typ = 13 || fixedPart x.msg.typ = 0 ||
    (x.msg.typ = 12 && x.msg.uc.all (fun u => !negotiates u))

/-- Such messages are parsed at once: MGMT_DROP, SIG_IGNORED and the drops of R277. -/
def sortPtp (s : State) : State :=
  (s.ptpIn.filter idleMsg).foldl (fun a x =>
    (takeSignal x a).2)
    { s with ptpIn := if ptpUp s then s.ptpIn.filter (fun x => !idleMsg x) else [] }

def execRxFrame (p : Fin 17) (e : RxEnd) (s : State) : Host.Outcome State Fault Refusal :=
  finish (ifUp (fun a => sortPtp (rxEnd p.val e a)) s)

/-- Run f on an accepted message of a type and its instance. -/
def onMsg (p typ : Nat) (f : Nat → PtpRx → State → State) (s : State) : State :=
  withMsg p (fun x => x.msg.typ = typ) (fun x a => match ptpAccept x a with | (some k, b) => f k x b | (none, b) => b) s

/-- The message is from the parent, on a port that follows it. -/
def follows (s : State) (k : Nat) (x : PtpRx) : Bool :=
  isParent s k x.port x.msg.src && (ptpState s (16 * k + x.port) = 6 || ptpState s (16 * k + x.port) = 5)

/-- Sync (R308): one-step is used at once, two-step waits for its Follow_Up. -/
def syncRx (k : Nat) (x : PtpRx) (s : State) : State :=
  if follows s k x = false ∨ grantedBy s k 0 x = false then s
  else if x.msg.two then
    setPtpPort (16 * k + x.port) (fun y => { y with sync := some { seq := x.msg.seq, t := x.ts, bound := x.bound, corr := x.msg.corr } }) s
  else acceptSync k x.port x.ts x.bound ((x.msg.ts : Int) + x.msg.corr) x.msg.bound s

def execPtpSyncRx (p : Fin 16) (s : State) : Host.Outcome State Fault Refusal := finish (ifUp (onMsg p.val 0 syncRx) s)

/-- Follow_Up completes the Sync that waits for it. -/
def followUpRx (k : Nat) (x : PtpRx) (s : State) : State :=
  let i := 16 * k + x.port
  match (ptpPort s i).sync with
  | some y =>
    if follows s k x ∧ grantedBy s k 0 x ∧ y.seq = x.msg.seq then
      acceptSync k x.port y.t y.bound ((x.msg.ts : Int) + y.corr + x.msg.corr) x.msg.bound (setPtpPort i (fun z => { z with sync := none }) s)
    else s
  | none => s

def execPtpFollowUpRx (p : Fin 16) (s : State) : Host.Outcome State Fault Refusal := finish (ifUp (onMsg p.val 8 followUpRx) s)

/-! ### Delay_Req (R294, R300, R305, R307) -/

/-- The answer to an accepted Delay_Req. -/
def answerDreq (k : Nat) (x : PtpRx) (peer : Option Peer) (log : Int) (s : State) : State :=
  let p := x.port
  let i := 16 * k + p
  if ptpState s i ≠ 3 ∨ quiet s ∨ ptpWithheld s k then s
  else
    let m := ptpBase s k p peer 9 x.msg.seq log
    bump (Obj.DRESP_TX i) (sendPtp k p peer
      { m with ts := x.ts / 65536 * 65536, corr := x.msg.corr - (x.ts % 65536 : Nat), req := x.msg.src
               bound := if boundBit s i 2 then some (boundTlv s true (portPair s p x.bound)) else none } 0 0 s)

/-- The token bucket of an L2 port (R300): whether a request that arrived at a tick is admitted. -/
def takeToken (i tick : Nat) (s : State) : Bool × State :=
  let r := getNat s (Obj.PTPP_DREQ_RESERVE i)
  let x := ptpPort s i
  let t := min (r * sT) (x.tokens + (tick - x.tokenTick) * r)
  let u := max tick x.tokenTick
  if sT ≤ t then (true, setPtpPort i (fun y => { y with tokens := t - sT, tokenTick := u }) s)
  else (false, setPtpPort i (fun y => { y with tokens := t, tokenTick := u }) s)

def l2Dreq (k : Nat) (x : PtpRx) (s : State) : State :=
  let i := 16 * k + x.port
  let t := takeToken i x.tick s
  if t.1 = false then bump (Obj.DREQ_POLICED i) t.2
  else
    let e := takeEvent t.2
    if e.1 = false then e.2
    else match authCheck k x.port x.msg e.2 with
      | (true, b) => answerDreq k x none (getN s (Obj.PTPP_LOG_MIN_DREQ i)) b
      | (false, b) => b

/-- A Delay_Req of a session has arrived: DREQ_RX and LAST_DREQ_AT of "Session entry", and what else it leaves there. -/
def noteDreq (j : Nat) (x : PtpRx) (f : PtpSession → PtpSession) (s : State) : State :=
  setPtpSession j (fun z => f { z with dreqRx := (z.dreqRx + 1) % 4294967296, lastDreq := x.ts }) s

/-- A unicast Delay_Req: without a grant, too early, shed, or verified and answered. One that fails its check leaves the session as it
was (R294). -/
def ucDreq (k : Nat) (x : PtpRx) (s : State) : State :=
  let i := 16 * k + x.port
  match sessionOf s k x.port (rxPeer x).addr with
  | none => bump (Obj.DREQ_NO_GRANT i) s
  | some y =>
    let j := y.index
    let n := y.shedDreq + 1
    if y.drespG = false then bump (Obj.DREQ_NO_GRANT i) (noteDreq j x id s)
    else if (match y.dreqTick with | some t => decide (2 * (x.tick - t) < logTicks y.logDresp) | none => false) then
      bump (Obj.DREQ_POLICED i) (noteDreq j x (fun z => { z with policed := (z.policed + 1) % 4294967296 }) s)
    else if sessionHmac s y ∧ n % max 1 s.ptp.f ≠ 0 then bump Obj.DREQ_SHED (noteDreq j x (fun z => { z with shedDreq := n }) s)
    else
      let e := takeEvent s
      if e.1 = false then noteDreq j x id e.2
      else match authCheck k x.port x.msg e.2 with
        | (true, b) =>
          let c := answerDreq k x (some (sessionPeer y)) y.logDresp
            (noteDreq j x (fun z => { z with shedDreq := n, dreqTick := some x.tick }) b)
          if getN c (Obj.DRESP_TX i) = getN b (Obj.DRESP_TX i) then c
          else setPtpSession j (fun z => { z with drespTx := (z.drespTx + 1) % 4294967296 }) c
        | (false, b) => b

/-- A Delay_Req on a time transmitter port: policed, shed, verified, answered. -/
def delayReqRx (x : PtpRx) (s : State) : State :=
  match ptpParse x s with
  | (none, s1) => s1
  | (some k, s1) =>
    let i := 16 * k + x.port
    if isP2P s k ∨ ptpState s i ≠ 3 then s1
    else
      let s2 := bump (Obj.DREQ_RX i) s1
      if ptpEncap s i = 0 then l2Dreq k x s2 else ucDreq k x s2

def execPtpDelayReqRx (p : Fin 16) (s : State) : Host.Outcome State Fault Refusal :=
  finish (ifUp (withMsg p.val (fun x => x.msg.typ = 1) delayReqRx) s)

/-- Delay_Resp: t4 completes the exchange (R308). -/
def delayRespRx (k : Nat) (x : PtpRx) (s : State) : State :=
  let i := 16 * k + x.port
  match (ptpPort s i).req with
  | some r =>
    if follows s k x = false ∨ grantedBy s k 9 x = false ∨ r.seq ≠ x.msg.seq ∨ x.msg.req ≠ portIdentity s k x.port then s
    else match r.t with
      | none => s
      | some (t3, b3) =>
        let s1 := notePair i x.msg.bound (setPtpPort i (fun y => { y with req := none }) s)
        if boundFinite b3 = false ∨ r.inRun = false then s1
        else
          let s2 := setPtpPort i (fun y => { y with delays := y.delays ++ [(x.msg.ts : Int) - x.msg.corr - (t3 : Int)] }) s1
          if (getF s (Obj.RX_MEAS_N k)).toNat ≤ (ptpPort s2 i).run.length then formRun k x.port s2 else s2
  | none => s

def execPtpDelayRespRx (p : Fin 16) (s : State) : Host.Outcome State Fault Refusal := finish (ifUp (onMsg p.val 9 delayRespRx) s)

/-! ### Peer delay (R278, R279, R308) -/

/-- Pdelay_Req on a P2P port is answered. -/
def pdelayReqRx (k : Nat) (x : PtpRx) (s : State) : State :=
  let p := x.port
  let i := 16 * k + p
  let e := takeEvent (bump (Obj.DREQ_RX i) s)
  if isP2P s k = false ∨ e.1 = false ∨ (quiet s ∧ ptpState s i = 3) then s
  else
    let two := twoStep s k p
    let m := ptpBase s k p none 3 x.msg.seq 127
    sendPtp k p none
      { m with two := two, req := x.msg.src, ts := if two then x.ts / 65536 * 65536 else 0
               corr := if two then -((x.ts % 65536 : Nat) : Int) else 0 } x.ts x.msg.corr e.2

def execPtpPdelayReqRx (p : Fin 16) (s : State) : Host.Outcome State Fault Refusal := finish (ifUp (onMsg p.val 2 pdelayReqRx) s)

/-- neighborRateRatio of a GPTP port from its last two exchanges (R277): t3 of the neighbour against t4 here. -/
def noteRate (k i : Nat) (t3 : Option Int) (t4 : Nat) (s : State) : State :=
  match t3 with
  | none => s
  | some u =>
    if isGptp s k = false then s
    else setPtpPort i (fun y =>
      { y with
        lastPd := some (u, t4)
        rateNum := match y.lastPd with | some q => if q.1 < u ∧ q.2 < t4 then (u - q.1).toNat else y.rateNum | none => y.rateNum
        rateDen := match y.lastPd with | some q => if q.1 < u ∧ q.2 < t4 then t4 - q.2 else y.rateDen | none => y.rateDen }) s

/-- A peer delay D from t1 with its bound, t4 with its bound, the turnaround, and t3 where the exchange states it; on a GPTP port the
interval here counts by neighborRateRatio, which elsewhere stays 1. -/
def peerDelay (k p : Nat) (t1 : Nat) (b1 : Int) (t4 : Nat) (b4 : Int) (turn : Int) (t3 : Option Int) (s : State) : State :=
  let i := 16 * k + p
  let inRun := ((ptpPort s i).req.map (·.inRun)).getD false
  let s0 := setPtpPort i (fun y => { y with req := none, pdresp := none }) s
  if boundFinite b1 = false ∨ boundFinite b4 = false then s0
  else
    let r := noteRate k i t3 t4 s0
    let x := ptpPort r i
    let d := divFree (((t4 : Int) - (t1 : Int)) * x.rateNum - turn * x.rateDen) (2 * x.rateDen) r
    let s1 := setPtpPort i (fun y => { y with delays := if inRun then y.delays ++ [d.1] else y.delays })
      (setN (Obj.PTPP_PEER_DELAY i) d.1 d.2)
    if inRun ∧ 0 < (ptpPort s1 i).run.length ∧ (getF s (Obj.RX_MEAS_N k)).toNat ≤ (ptpPort s1 i).run.length then formRun k p s1 else s1

/-- Pdelay_Resp, or its follow-up. -/
def pdelayRespRx (k : Nat) (x : PtpRx) (s : State) : State :=
  let p := x.port
  let i := 16 * k + p
  match (ptpPort s i).req with
  | none => s
  | some r =>
    if isP2P s k = false ∨ r.seq ≠ x.msg.seq ∨ x.msg.req ≠ portIdentity s k p then s
    else match r.t with
      | none => s
      | some (t1, b1) =>
        if x.msg.typ = 3 ∧ x.msg.two then
          setPtpPort i (fun y => { y with pdresp := some { seq := x.msg.seq, t := x.ts, bound := x.bound, corr := x.msg.corr, t2 := x.msg.ts } }) s
        else if x.msg.typ = 3 then peerDelay k p t1 b1 x.ts x.bound x.msg.corr none s
        else match (ptpPort s i).pdresp with
          | some y =>
            peerDelay k p t1 b1 y.t y.bound ((x.msg.ts : Int) - (y.t2 : Int) + y.corr + x.msg.corr)
              (some ((x.msg.ts : Int) + x.msg.corr)) (notePair i x.msg.bound s)
          | none => s

def execPtpPdelayRespRx (p : Fin 16) (s : State) : Host.Outcome State Fault Refusal :=
  finish (ifUp (withMsg p.val (fun x => x.msg.typ = 3 || x.msg.typ = 10) (fun x a =>
    match ptpAccept x a with | (some k, b) => pdelayRespRx k x b | (none, b) => b)) s)

/-- A time receiver port sends Delay_Req, a P2P port Pdelay_Req, at the interval of `PTPP_LOG_MIN_DREQ` (R278). -/
def delayReqDue (k p : Nat) (s : State) : State :=
  let i := 16 * k + p
  let st := ptpState s i
  let p2p := isP2P s k
  let x := ptpPort s i
  let uc := decide (ptpEncap s i ≠ 0)
  let peer : Option Peer := match parentOf s k with
    | some (_, addr, _) => if uc then upstreamPeer s p (decide (ptpEncap s i = 2)) addr else none
    | none => none
  let granted := !uc || s.ptp.grants.any (fun g => g.inst = k && g.port = p && g.typ = 9 && decide (g.dur ≠ 0) && grantLive s g)
  let may := if p2p then decide (st ≠ 0 ∧ st ≠ 7) && !(quiet s && decide (st = 3))
    else (decide (st = 6) || decide (st = 5)) && granted && (peer.isSome || !uc)
  if ptpUp s = false ∨ may = false ∨ mts96 s < x.nextReq.getD 0 then s
  else
    let m := ptpBase s k p peer (if p2p then 2 else 1) x.reqSeq 127
    sendPtp k p peer m 0 0 (setPtpPort i (fun y =>
      { y with reqSeq := (y.reqSeq + 1) % 65536, req := some { seq := x.reqSeq }, pdresp := none
               nextReq := some (mts96 s + logSpan (getN s (Obj.PTPP_LOG_MIN_DREQ i))) }) s)

def execDelayReqDue (k : Fin 4) (p : Fin 16) (s : State) : Host.Outcome State Fault Refusal := finish (ifUp (delayReqDue k.val p.val) s)

/-! ### Announce (R286, R287) -/

def announceRx (k : Nat) (x : PtpRx) (s : State) : State :=
  let i := 16 * k + x.port
  match (if grantedBy s k 11 x then x.msg.ann else none) with
  | none => s
  | some a =>
    let s1 := bump (Obj.ANN_RX i) s
    let old := (ptpPort s1 i).foreign.find? (fun f => f.src = x.msg.src)
    let f : Foreign :=
      { src := x.msg.src, peer := (rxPeer x).addr, ann := a, log := if x.msg.log = 127 then getN s (Obj.PTPP_LOG_ANNOUNCE i) else x.msg.log,
        ticks := (s.now :: (old.map (·.ticks)).getD []).take 8, bound := match x.msg.bound with | some b => if b.version = 1 then some b else none | none => none }
    let s2 := setPtpPort i (fun y => { y with foreign := f :: y.foreign.filter (fun g => g.src ≠ x.msg.src) }) s1
    if follows s2 k x then noteParent k x.port f s2 else s2

def execPtpAnnounceRx (p : Fin 16) (s : State) : Host.Outcome State Fault Refusal := finish (ifUp (onMsg p.val 11 announceRx) s)

def execBmcaDecision (k : Fin 4) (s : State) : Host.Outcome State Fault Refusal :=
  finish (ifUp (fun a => if ptpUp a then bmcaDecision k.val a else a) s)

/-- The parent's Announce times out: LISTENING at once (R287). -/
def announceTimeout (k p : Nat) (s : State) : State :=
  let i := 16 * k + p
  let due : Bool := match (ptpPort s i).annUntil with | some t => decide (t ≤ s.now) | none => false
  if (ptpState s i = 6 ∨ ptpState s i = 5) ∧ due then
    let src := ((parentOf s k).map (·.1)).getD []
    setPtpPort i (fun x => { x with annUntil := none, foreign := x.foreign.filter (fun f => f.src ≠ src) }) (enterPort k p 1 s)
  else s

def execAnnounceReceiptTimeout (k : Fin 4) (p : Fin 16) (s : State) : Host.Outcome State Fault Refusal :=
  finish (ifUp (announceTimeout k.val p.val) s)

/-! ### Unicast negotiation (R297–R302) -/

/-- The renewal of a type that the session already holds. -/
def holds (x : Option PtpSession) (typ : Nat) : Bool :=
  match x with
  | some y => (match typ with | 0 => y.syncG | 9 => y.drespG | 11 => y.annG | _ => false)
  | none => false

/-- The Announce grant of a session has expired ("Grant decision" row 3). -/
def annExpired (s : State) (x : Option PtpSession) : Bool := match x with | some y => decide (y.annExp ≤ mtsSec s) | none => true

/-- A session with one type granted. -/
def withGrant (s : State) (typ : Nat) (log : Int) (dur : Nat) (x : PtpSession) : PtpSession :=
  let till := mtsSec s + dur
  let due := mts96 s + x.index * 7919 % 1000 * logSpan log / 1000
  let y := { x with gen := (x.gen + 1) % 4294967296 }
  match typ with
  | 0 => { y with syncG := true, logSync := log, syncExp := till, nextSync := if x.syncG ∧ x.logSync = log then x.nextSync else due }
  | 9 => { y with drespG := true, logDresp := log, drespExp := till }
  | _ => { y with annG := true, logAnn := log, annExp := till, nextAnn := if x.annG ∧ x.logAnn = log then x.nextAnn else due }

/-- Lowest free entry. -/
def freeIndex (s : State) : Nat :=
  ((List.range (s.ptp.sessions.length + 1)).find? (fun i => !(s.ptp.sessions.any (fun x => x.index = i)))).getD 0

/-- The session that a grant would leave. -/
def grantedSession (s : State) (k : Nat) (x : PtpRx) (typ : Nat) (log : Int) (dur : Nat) : PtpSession :=
  let p := x.port
  let q := rxPeer x
  let y : PtpSession := (sessionOf s k p q.addr).getD
    { index := freeIndex s, inst := k, port := p, v6 := q.v6, tags := q.tags, vlan := x.vlan, mac := q.mac, addr := q.addr,
      peerId := x.msg.src, svc := q.svc, sa := 0xFF }
  withGrant s typ log dur { y with peerId := x.msg.src, sa := txSa s (16 * k + p), two := twoStep s k p }

def putSession (x : PtpSession) (s : State) : State :=
  ptpCounts (setPtp (fun y => { y with sessions := y.sessions.filter (fun z => z.index ≠ x.index) ++ [x] }) s)

/-- The log interval of a request is within its limits ("Grant decision" row 2). -/
def logOk (s : State) (typ : Nat) (log : Int) : Bool :=
  match typ with
  | 11 => decide (getN s Obj.UC_LOG_ANN_MIN ≤ log ∧ log ≤ 4)
  | 0 => decide (getN s Obj.UC_LOG_SYNC_MIN ≤ log ∧ log ≤ 0)
  | 9 => decide (getN s Obj.UC_LOG_DRESP_MIN ≤ log ∧ log ≤ 0)
  | _ => false

/-- "Grant decision": the counter of the denial, or the session granted. -/
def grantDecision (s : State) (k : Nat) (x : PtpRx) (typ : Nat) (log : Int) (dur : Nat) : Nat ⊕ PtpSession :=
  let y := sessionOf s k x.port (rxPeer x).addr
  if ptpState s (16 * k + x.port) ≠ 3 then .inl Obj.UC_DENIED_STATE
  else if dur = 0 ∨ logOk s typ log = false then .inl Obj.UC_DENIED_PARAM
  else if typ ≠ 11 ∧ (holds y 11 = false ∨ annExpired s y = true) then .inl Obj.UC_DENIED_PARAM
  else if y.isNone ∧ getN s Obj.PTP_SESSION_LIMIT ≤ getN s Obj.PTP_SESSIONS then .inl Obj.UC_DENIED_CAPACITY
  else
    let z := grantedSession s k x typ log (min (max dur (getNat s Obj.UC_DUR_MIN)) (getNat s Obj.UC_DUR_MAX))
    let l := z :: s.ptp.sessions.filter (fun v => v.index ≠ z.index)
    if 16 * getNat s Obj.PTP_EVENT_BUDGET < eventLoad s l ∨ 16 * getNat s Obj.PTP_HMAC_CAPACITY < hmacLoad s l then
      .inl Obj.UC_DENIED_CAPACITY
    else .inr z

/-- A request TLV is granted or denied; a port without UDP encapsulation answers none (R297). -/
def requestTlv (k : Nat) (x : PtpRx) (typ : Nat) (log : Int) (dur : Nat) (s : State) : State :=
  if quiet s ∨ ptpEncap s (16 * k + x.port) = 0 then s
  else match grantDecision s k x typ log dur with
    | .inl c => sendSignal k x.port (rxPeer x) [.grant typ log 0] (bump c s)
    | .inr z =>
      let d := min (max dur (getNat s Obj.UC_DUR_MIN)) (getNat s Obj.UC_DUR_MAX)
      sendSignal k x.port (sessionPeer z) [.grant typ log d] (bump Obj.UC_GRANTED (putSession z s))

/-- A cancel stops the named type and is acknowledged (R299): of a session, or of a grant held from an upstream. -/
def cancelTlv (k : Nat) (x : PtpRx) (typ : Nat) (s : State) : State :=
  let a := (rxPeer x).addr
  let s1 := match sessionOf s k x.port a with | some y => stopGrant y.index typ s | none => s
  let s2 := setPtp (fun z => { z with grants := z.grants.filter (fun g => !(g.inst = k && g.port = x.port && g.peer = a && g.typ = typ)) }) s1
  if quiet s then s2 else sendSignal k x.port (rxPeer x) [.ack typ] s2

/-- A grant from an upstream (R302). -/
def grantTlv (k : Nat) (x : PtpRx) (typ : Nat) (log : Int) (dur : Nat) (s : State) : State :=
  let a := (rxPeer x).addr
  let s1 := setPtp (fun z => { z with grants := z.grants.map (fun g =>
    if g.inst = k ∧ g.port = x.port ∧ g.peer = a ∧ g.typ = typ then { g with dur := dur, log := log, tick := s.now } else g) }) s
  let fromParent : Bool := match parentOf s k with | some (_, b, p) => decide (a = b ∧ p = x.port) | none => false
  if typ = 0 ∧ fromParent then setInterval k x.port s1 else s1

def isCancel : UcTlv → Bool | .cancel _ => true | _ => false
def isGrant : UcTlv → Bool | .grant _ _ _ => true | _ => false
def isRequest : UcTlv → Bool | .request _ _ _ => true | _ => false

/-- A request for a type that its session already holds (R297). -/
def renews (s : State) (k : Nat) (x : PtpRx) : UcTlv → Bool
  | .request t _ _ => holds (sessionOf s k x.port (rxPeer x).addr) t
  | _ => false

def doTlv (k : Nat) (x : PtpRx) (s : State) : UcTlv → State
  | .cancel t => cancelTlv k x t s
  | .grant t l d => grantTlv k x t l d s
  | .request t l d => requestTlv k x t l d s
  | .ack _ | .other => s

/-- Put a message back among those that wait, in the order of their arrival. -/
def putBack (x : PtpRx) (s : State) : State :=
  { s with ptpIn := s.ptpIn.takeWhile (fun y => decide (y.tick < x.tick)) ++ x :: s.ptpIn.dropWhile (fun y => decide (y.tick < x.tick)) }

/-- One task of the cores on a Signaling message: the TLVs of its class are acted on, the others wait on (R301). -/
def signaling (mine : State → Nat → PtpRx → UcTlv → Bool) (x : PtpRx) (s : State) : State :=
  match takeSignal x s with
  | (none, s1) => s1
  | (some k, s1) =>
    let now := x.msg.uc.filter (mine s1 k x)
    let rest := x.msg.uc.filter (fun u => negotiates u && !mine s1 k x u)
    let s2 := if rest.isEmpty then s1 else putBack { x with taken := some k, msg := { x.msg with uc := rest } } s1
    now.foldl (doTlv k x) s2

def hasTlv (f : UcTlv → Bool) (x : PtpRx) : Bool := x.msg.typ = 12 && x.msg.uc.any f

/-- The message asks for a type that its session already holds. -/
def isRenewal (s : State) (x : PtpRx) : Bool :=
  match instanceOf s x with
  | some k => hasTlv (renews s k x) x
  | none => false

def stale (s : State) (x : PtpRx) : Bool := decide (getNat s Obj.UC_REQ_MAX_AGE * msT < s.now - x.tick)

/-- A message without its requests, where anything of it is left. -/
def withoutRequests (x : PtpRx) : Option PtpRx :=
  let l := x.msg.uc.filter (fun u => !isRequest u)
  if l.isEmpty then none else some { x with msg := { x.msg with uc := l } }

/-- Requests older than `UC_REQ_MAX_AGE` are discarded unanswered (R301); what else their messages hold waits on. -/
def reqStale (p : Nat) (s : State) : State :=
  let old (x : PtpRx) : Bool := x.port = p && hasTlv isRequest x && stale s x
  bumpBy Obj.UC_REQ_STALE (((s.ptpIn.filter old).map (fun x => x.msg.uc.countP isRequest)).sum : Nat)
    { s with ptpIn := s.ptpIn.filterMap (fun x => if old x then withoutRequests x else some x) }

def execUcReqStale (p : Fin 16) (s : State) : Host.Outcome State Fault Refusal := finish (ifUp (reqStale p.val) s)

/-- The cores reach a request of a port: after every cancel, and new requests after every renewal, on whichever port these arrived
(R301). -/
def requestTask (p : Nat) (s0 : State) : State :=
  let s := reqStale p s0
  if s.ptpIn.any (hasTlv isCancel) then s
  else if s.ptpIn.any (isRenewal s) then withMsg p (isRenewal s) (signaling renews) s
  else withMsg p (hasTlv isRequest) (signaling (fun _ _ _ => isRequest)) s

def execRequestUnicastTransmission (p : Fin 16) (s : State) : Host.Outcome State Fault Refusal := finish (ifUp (requestTask p.val) s)
def execCancelUnicastTransmission (p : Fin 16) (s : State) : Host.Outcome State Fault Refusal :=
  finish (ifUp (withMsg p.val (hasTlv isCancel) (signaling (fun _ _ _ => isCancel))) s)
def execGrantUnicastTransmission (p : Fin 16) (s : State) : Host.Outcome State Fault Refusal :=
  finish (ifUp (withMsg p.val (hasTlv isGrant) (signaling (fun _ _ _ => isGrant))) s)

/-- Half of a granted duration has passed: the grant is renewed (R302). -/
def renewDue (k : Nat) (s : State) : State :=
  let due := s.ptp.grants.filter (fun g => g.inst = k && decide (g.dur ≠ 0) && decide (g.dur * sT ≤ 2 * (s.now - g.tick)))
  if ptpUp s = false then s else ucRequests k (due.foldl (fun a g => askUpstream k g.port g.v6 g.peer g.typ g.log a) s)

def execUcRenewDue (k : Fin 4) (s : State) : Host.Outcome State Fault Refusal := finish (ifUp (renewDue k.val) s)

/-- Expired grants of a session stop (R299). -/
def grantExpiry (j : Nat) (s : State) : State :=
  match sessionAt s j with
  | none => s
  | some x =>
    let t := mtsSec s
    let f (on : Bool) (till typ : Nat) (a : State) : State := if on ∧ till ≤ t then stopGrant j typ a else a
    s |> f x.syncG x.syncExp 0 |> f x.drespG x.drespExp 9 |> f x.annG x.annExp 11

def execGrantExpiry (j : Fin 131072) (s : State) : Host.Outcome State Fault Refusal := finish (ifUp (grantExpiry j.val) s)

/-- `SESSION_CANCEL` (R299). -/
def ruleSessionCancel : Rule :=
  { chk := fun _ v => if 131072 ≤ v.int then (stRange, []) else (stOk, [])
    eff := fun v s =>
      match sessionAt s v.nat with
      | some x => freeSession x.index (if quiet s then s else sendSignal x.inst x.port (sessionPeer x) (grantTlvs x) s)
      | none => s }

def execSessionCancel (q : Req) (s : State) : Host.Outcome State Fault Refusal :=
  finish (ifUp (ownerCommand q Obj.SESSION_CANCEL ruleSessionCancel) s)

/-! ### The sequencer (R281, R284, R307) -/

/-- The first due instant after now of a schedule that had one at t: instants passed are not sent again. -/
def nextDue (t now span : Nat) : Nat := if now < t then t else t + (now - t) / span * span + span

/-- A port's Sync due instant. -/
def portSync (k p : Nat) (s : State) : State :=
  let i := 16 * k + p
  let x := ptpPort s i
  match x.nextSync with
  | none => s
  | some t =>
    if mts96 s < t ∨ ptpState s i ≠ 3 ∨ ptpEncap s i ≠ 0 then s
    else
      let s1 := setPtpPort i (fun y => { y with nextSync := some (nextDue t (mts96 s) (logSpan (getN s (Obj.PTPP_LOG_SYNC i)))) }) s
      if quiet s then s1
      else if ptpWithheld s k then bump (Obj.SYNC_WITHHELD i) s1
      else sendSync k p none x.syncSeq (setPtpPort i (fun y => { y with syncSeq := (y.syncSeq + 1) % 65536 }) s1)

/-- A session's Sync due instant: withheld, shed or sent. -/
def sessionSync (j : Nat) (s : State) : State :=
  match sessionAt s j with
  | none => s
  | some x =>
    let i := 16 * x.inst + x.port
    if x.syncG = false ∨ mts96 s < x.nextSync then s
    else
      let n := x.shedSync + 1
      let s1 := setPtpSession j (fun y => { y with nextSync := nextDue x.nextSync (mts96 s) (logSpan x.logSync), shedSync := n }) s
      if quiet s ∨ ptpState s i ≠ 3 then s1
      else if ptpWithheld s x.inst then bump (Obj.SYNC_WITHHELD i) s1
      else if sessionHmac s x ∧ n % max 1 s.ptp.f ≠ 0 then bump Obj.SYNC_SHED s1
      else sendSync x.inst x.port (some (sessionPeer x)) x.seqSync
        (setPtpSession j (fun y => { y with seqSync := (y.seqSync + 1) % 65536, syncSent := (y.syncSent + 1) % 4294967296 }) s1)

/-- Of an L2 port, or of a session. -/
def syncDue (k p : Nat) (j : Option Nat) (s : State) : State :=
  if ptpUp s = false then s else match j with | some n => sessionSync n s | none => portSync k p s

def execSyncDue (k : Fin 4) (p : Fin 16) (j : Option (Fin 131072)) (s : State) : Host.Outcome State Fault Refusal :=
  finish (ifUp (syncDue k.val p.val (j.map (·.val))) s)

def announceDue (k p : Nat) (j : Option Nat) (s : State) : State :=
  if ptpUp s = false then s
  else match j with
    | some n =>
      (match sessionAt s n with
       | none => s
       | some x =>
         if x.annG = false ∨ mts96 s < x.nextAnn then s
         else
           let s1 := setPtpSession n (fun y => { y with nextAnn := nextDue x.nextAnn (mts96 s) (logSpan x.logAnn) }) s
           if quiet s ∨ ptpState s (16 * x.inst + x.port) ≠ 3 then s1
           else sendAnnounce x.inst x.port (some (sessionPeer x)) x.seqAnn (announceData s x.inst (getNat s Obj.BOUND_GRADE) (portServed s x.port))
             (setPtpSession n (fun y => { y with seqAnn := (y.seqAnn + 1) % 65536, annSent := (y.annSent + 1) % 4294967296 }) s1))
    | none =>
      let i := 16 * k + p
      let x := ptpPort s i
      match x.nextAnn with
      | none => s
      | some t =>
        if mts96 s < t ∨ ptpState s i ≠ 3 ∨ ptpEncap s i ≠ 0 then s
        else
          let s1 := setPtpPort i (fun y =>
            { y with nextAnn := some (nextDue t (mts96 s) (logSpan (getN s (Obj.PTPP_LOG_ANNOUNCE i)))), annSeq := (y.annSeq + 1) % 65536 }) s
          if quiet s then s1
          else sendAnnounce k p none x.annSeq (announceData s k (getNat s Obj.BOUND_GRADE) (portServed s p)) s1

def execAnnounceDue (k : Fin 4) (p : Fin 16) (j : Option (Fin 131072)) (s : State) : Host.Outcome State Fault Refusal :=
  finish (ifUp (announceDue k.val p.val (j.map (·.val))) s)

/-- SHA-256 lanes in service. -/
def shaLanes (s : State) : Nat := if s.crypto.lanes = 0 then 0 else max 1 (s.crypto.lanes / 2)

/-- f of R307. -/
def shedFactor (s : State) : State :=
  let shed := (s.ptp.sessions.map (sessionShed s)).sum
  let ann := (s.ptp.sessions.map (sessionAnn s)).sum
  let cap := 16 * shaLanes s * 1785714
  let f := if shed + ann ≤ cap then 1 else if ann < cap then max 1 (cdiv shed (cap - ann)) else max 1 (Config.freeNat s.freeCtr)
  setPtp (fun x => { x with f := f }) (if cap ≤ ann ∧ cap < shed + ann then nextFree s else s)

def execShedFactorUpdate (s : State) : Host.Outcome State Fault Refusal := finish (ifUp shedFactor s)

/-! ### Security associations (R291, R295) -/

def setSa (a : Nat) (f : Sa → Sa) (s : State) : State := setPtp (fun x => { x with sas := modAt a f x.sas }) s

/-- At `SA_ROLL_AT` the next key becomes current. -/
def saRoll (a : Nat) (s : State) : State :=
  let t := getNat s (Obj.SA_ROLL_AT a)
  if t = 0 ∨ mts96 s < t ∨ (s.ptp.sas.getD a { id := a }).rolledAt = t then s
  else
    let s1 := setSa a (fun x => { x with rolledAt := t }) s
    if getN s (Obj.SA_NEXT_SLOT a) = 0xFF then bump (Obj.ROLL_MISSED a) s1
    else
      s1 |> setSa a (fun x => { x with prev := some (getNat s (Obj.SA_KEY_SLOT a), getNat s (Obj.SA_KEY_ID a), s.now + getNat s (Obj.SA_OVERLAP a) * sT) })
        |> setJ (Obj.SA_KEY_SLOT a) (getN s (Obj.SA_NEXT_SLOT a)) |> setJ (Obj.SA_KEY_ID a) (getN s (Obj.SA_NEXT_ID a))
        |> setN (Obj.SA_TX_SEQ a) 0

def execSaKeyRoll (a : Fin 32) (s : State) : Host.Outcome State Fault Refusal := finish (ifUp (saRoll a.val) s)

def saOverlap (a : Nat) (s : State) : State :=
  match (s.ptp.sas.getD a { id := a }).prev with
  | some (_, _, t) => if t ≤ s.now then setSa a (fun x => { x with prev := none }) s else s
  | none => s

def execSaOverlapExpiry (a : Fin 32) (s : State) : Host.Outcome State Fault Refusal := finish (ifUp (saOverlap a.val) s)

/-- `SA_SPP`, `SA_KEY_ID`: not while the SA is on. -/
def ruleSaField (a : Nat) : Rule := { chk := fun s _ => if getN s (Obj.SA_ALG a) ≠ 0 then (stConflict, []) else (stOk, []) }

/-- Key type of an algorithm (R291). -/
def saType (alg : Int) : Option Nat := if alg = 1 then some 3 else if alg = 2 then some 1 else if alg = 3 then some 2 else none

def saSlotCheck (s : State) (a slot : Nat) : Nat :=
  if slot = 0xFF then stOk
  else match slotOf s slot with
    | none => stAccessDenied
    | some k =>
      if k.usage.testBit usePtp = false then stAccessDenied
      else match saType (getN s (Obj.SA_ALG a)) with
        | some t => if k.typ = t then stOk else stRange
        | none => stOk

def ruleSaSlot (a : Nat) : Rule :=
  { chk := fun s v =>
      let c := saSlotCheck s a v.nat
      if c ≠ stOk then (c, []) else if getN s (Obj.SA_ALG a) ≠ 0 then (stConflict, []) else (stOk, []) }
def ruleSaNextSlot (a : Nat) : Rule := { chk := fun s v => (saSlotCheck s a v.nat, []) }

/-- Turning an SA on: no write while it is on; two SAs with one SPP cannot both be on; a new key's count starts at 0 (R291, R292). -/
def ruleSaAlg (a : Nat) : Rule :=
  { chk := fun s v =>
      if getN s (Obj.SA_ALG a) ≠ 0 ∨ (v.int ≠ 0 ∧
          (List.range 32).any (fun b => b ≠ a && decide (getN s (Obj.SA_ALG b) ≠ 0) && decide (getN s (Obj.SA_SPP b) = getN s (Obj.SA_SPP a)))) then
        (stConflict, []) else (stOk, [])
    eff := fun v s => ptpCounts (if v.int = 0 then s else setN (Obj.SA_TX_SEQ a) 0 s) }

/-! ### Instances and ports (R273) -/

def profileDomain (prof : Int) (d : Int) : Bool :=
  if prof = 2 then decide (24 ≤ d ∧ d ≤ 43) else if prof = 3 then decide (44 ≤ d ∧ d ≤ 63) else if prof = 4 then decide (d = 0) else decide (0 ≤ d ∧ d ≤ 127)

/-- `INST_ENABLE` (0), `INST_PROFILE` (1), `INST_DOMAIN` (2). -/
def instKey (k f : Nat) : Nat := match f with | 0 => Obj.INST_ENABLE k | 1 => Obj.INST_PROFILE k | _ => Obj.INST_DOMAIN k

def ruleInst (k f : Nat) : Rule :=
  { chk := fun s v =>
      let on := decide (getN s (Obj.INST_ENABLE k) = 1)
      match f with
      | 0 => if v.int = 1 ∧ (List.range 4).any (fun j => j ≠ k && decide (getN s (Obj.INST_ENABLE j) = 1) &&
              decide (getN s (Obj.INST_DOMAIN j) = getN s (Obj.INST_DOMAIN k)) && decide (isGptp s j = isGptp s k)) then (stConflict, []) else (stOk, [])
      | 1 => if 4 < v.int then (stRange, []) else if on then (stConflict, []) else (stOk, [])
      | _ => if profileDomain (getN s (Obj.INST_PROFILE k)) v.int = false then (stRange, []) else if on then (stConflict, []) else (stOk, [])
    eff := fun _ s => if f = 0 then refreshInst k s else s }

def execInstEnable (q : Req) (k : Fin 4) (f : Fin 3) (s : State) : Host.Outcome State Fault Refusal :=
  finish (ifUp (ownerWrite q (instKey k.val f.val) (ruleInst k.val f.val)) s)

def ruleClockId (k : Nat) : Rule := { chk := fun s _ => if getN s (Obj.INST_ENABLE k) = 1 then (stConflict, []) else (stOk, []) }
def ruleDegradedClass : Rule := { chk := fun _ v => if v.int = 140 ∨ v.int = 150 ∨ v.int = 160 then (stOk, []) else (stRange, []) }
def ruleUpstream : Rule :=
  { chk := fun s v =>
      let b := v.bytes
      if b.length % 18 ≠ 0 ∨ 72 < b.length then (stLength, [])
      else if (List.range (b.length / 18)).all (fun j => decide (fieldU b (18 * j) 1 < nPorts s.variant) &&
          (fieldU b (18 * j + 1) 1 = 1 || fieldU b (18 * j + 1) 1 = 2)) then (stOk, []) else (stRange, []) }
def rulePtppMode (i : Nat) : Rule := { eff := fun _ s => refreshPort (i / 16) (i % 16) s }
def rulePtppEncap (i : Nat) : Rule :=
  { chk := fun s v =>
      let prof := getN s (Obj.INST_PROFILE (i / 16))
      let ok := if prof = 0 then true else if prof = 3 then decide (v.int ≠ 0) else decide (v.int = 0)
      if ok then (stOk, []) else (stRange, []) }
def rulePtppStep (i : Nat) : Rule :=
  { chk := fun s v => if isGptp s (i / 16) ∧ v.int = 0 then (stRange, []) else (stOk, []) }
def rulePtppVlan : Rule := { chk := fun _ v => if 4094 < v.int then (stRange, []) else (stOk, []) }
def rulePtppSa (i : Nat) : Rule :=
  { chk := fun s v => if 32 ≤ v.int ∧ v.int ≠ 0xFF then (stRange, []) else if isGptp s (i / 16) then (stConflict, []) else (stOk, []) }
def rulePtppBound : Rule := { chk := fun _ v => if 7 < v.int then (stRange, []) else (stOk, []) }
def ruleUcDurMin : Rule := { chk := fun s v => if 1 ≤ v.int ∧ v.int ≤ getN s Obj.UC_DUR_MAX then (stOk, []) else (stRange, []) }
def ruleUcDurMax : Rule := { chk := fun s v => if getN s Obj.UC_DUR_MIN ≤ v.int ∧ v.int ≤ 1000 then (stOk, []) else (stRange, []) }
def ruleSessionSelect : Rule := { chk := fun _ v => if 131072 ≤ v.int then (stRange, []) else (stOk, []) }
/-- Objects that the loads of R306 rest on. -/
def rulePtpLoad : Rule := { eff := fun _ s => ptpCounts s }

/-! ### Restart, step and epoch -/

/-- The engine's restart discards messages in progress and keeps the session table (R312). -/
def restartPtp (s : State) : State :=
  setPtp (fun x => { x with ports := x.ports.map (fun p => { clearRun p with sync := none, pdresp := none, req := none, lastPd := none }) }) { s with ptpIn := [] }

/-- Due instants that passed during the restart are not sent; passed Sync instants count in SYNC_MISSED (R312). -/
def resumePtp (s : State) : State :=
  let now := mts96 s
  let n (t span : Nat) : Nat := if now < t then 0 else (now - t) / span + 1
  let s1 := s.ptp.ports.foldl (fun a x =>
    match x.nextSync with
    | some t =>
      let sp := logSpan (getN s (Obj.PTPP_LOG_SYNC x.id))
      setPtpPort x.id (fun y => { y with
        nextSync := some (nextDue t now sp)
        nextAnn := y.nextAnn.map (fun u => nextDue u now (logSpan (getN s (Obj.PTPP_LOG_ANNOUNCE x.id)))) }) (bumpBy Obj.SYNC_MISSED (n t sp : Nat) a)
    | none => a) s
  s1.ptp.sessions.foldl (fun a x =>
    setPtpSession x.index (fun y => { y with
      nextSync := if x.syncG then nextDue x.nextSync now (logSpan x.logSync) else x.nextSync
      nextAnn := if x.annG then nextDue x.nextAnn now (logSpan x.logAnn) else x.nextAnn })
      (if x.syncG then bumpBy Obj.SYNC_MISSED (n x.nextSync (logSpan x.logSync) : Nat) a else a)) s1

/-- The engine's due Syncs and Announces, of its ports and of its sessions. -/
def sendDue (s : State) : State :=
  if ptpUp s = false then s
  else
    let s1 := (List.range 64).foldl (fun a i => announceDue (i / 16) (i % 16) none (portSync (i / 16) (i % 16) a)) s
    s1.ptp.sessions.foldl (fun a x => announceDue 0 0 (some x.index) (sessionSync x.index a)) s1

/-- A step (R281): the runs rest on the time scale before it, and what a forward step makes due, its skipped instants among it, is
sent once at the step tick. A backward step moves no due instant. -/
def ptpStepped (d : Int) (s : State) : State :=
  let s1 := setPtp (fun x => { x with ports := x.ports.map (fun p => { clearRun p with sync := none, pdresp := none, req := none, lastPd := none }) }) s
  if 0 < d then sendDue s1 else s1

/-- `INST_CLOCK_CLASS` at an epoch boundary (R282). -/
def instClasses (s : State) : State :=
  (List.range 4).foldl (fun a k => setN (Obj.INST_CLOCK_CLASS k) (gradeClass a k (getNat a Obj.BOUND_GRADE)) a) s

end Sys2Proof.Machine
end

