-- ==== Sys2Proof/Machine/Refs.lean ====
section
/-! DEFINITION. Machine/Refs.lean: the commands and events of the reference selector (R126–R149). The transitions and comparisons
of a boundary are those of `RefOps`; each event command performs its own piece where its condition holds. -/
namespace Sys2Proof.Machine

/-! ### Owner writes -/

/-- Channels a reference needs by its roles (R126). -/
def neededChannels (s : State) (r : Nat) : List Nat :=
  if isRefin r then [refChanTime s r]
  else if isAtom r then
    (if useTime s r then [refChanTime s r] else []) ++ (if useFreq s r then [refChanFreq s r] else [])
  else []

/-- Source code of a reference's channel ("Source codes for `TDC_SOURCE`"). -/
def refSource (r : Nat) (freq : Bool) : Nat := if isAtom r then (if freq then 10 else 9) else r + 1

/-- Nominal frequency in µHz at a reference's channel: ATOM_PPS 1 Hz, ATOM_CLK 10 MHz (R127, R524). -/
def refNominal (s : State) (r : Nat) (freq : Bool) : Nat :=
  if isAtom r then (if freq then 10000000000000 else 1000000) else getNat s (Obj.REF_NOM_FREQ r)

/-- `REF_INTERVAL` of a REFIN or ATOM reference in ms: `REF_WIN_N` ÷ the decimated rate of its time channel, of its frequency channel
where it has no other (R129). -/
def setRefInterval (r : Nat) (s : State) : State :=
  if isRefin r ∨ isAtom r then
    let nom := refNominal s r (isAtom r && decide (16 ≤ refChanTime s r))
    let per := divFree ((getNat s (Obj.REF_WIN_N r) * refDecim nom * ten 9 : Nat) : Int) (max nom 1) s
    setN (Obj.REF_INTERVAL r) (min per.1 4294967295) per.2
  else s

/-- First resource of a reference held by another claimant (R126, R181, R415). -/
def firstHeld (s : State) (r : Nat) : List (Nat × Nat) → Nat × List Byte
  | [] => (stOk, [])
  | p :: l => let h := heldByOther s p.1 p.2 kindRef r; if h.1 ≠ stOk then h else firstHeld s r l

/-- Claim and program what a reference needs (R126, R127, R181). -/
def claimRef (r : Nat) (s : State) : State :=
  let s1 := (refResources s r).foldl (fun a p =>
    claim { cls := p.1, num := p.2, kind := kindRef, knum := r, index := 0x3010 + r, sub := 1 } a) s
  let n := getNat s (Obj.REF_WIN_N r)
  let prog (c : Nat) (freq : Bool) (t : State) : State :=
    if c < 16 then programChannel c (refSource r freq) (refNominal s r freq) n t else t
  if isRefin r then setRefInterval r (prog (refChanTime s r) false s1)
  else if isAtom r then setRefInterval r (prog (refChanFreq s r) true (prog (refChanTime s r) false s1))
  else s1

/-- A channel of a reference would be the fifth to observe its source (R108). -/
def fifthObserver (s : State) (r : Nat) : Bool :=
  let full (c : Nat) (freq : Bool) : Bool := decide (c < 16) && decide (4 ≤ observers s (refSource r freq) c)
  if isRefin r then full (refChanTime s r) false
  else if isAtom r then full (refChanTime s r) false || full (refChanFreq s r) true
  else false

def ruleRefMode (r : Nat) : Rule :=
  { chk := fun s v =>
      let leaving := getN s (Obj.REF_MODE r) = 0 ∧ v.int ≠ 0
      let held := if leaving then firstHeld s r (refResources s r) else (stOk, [])
      if held.1 ≠ stOk then held
      else if isAtom r ∧ v.int ≠ 0 ∧ getN s Obj.ATOM_FITTED = 0 then (stConflict, [])
      else if leaving ∧ (neededChannels s r).any (fun c => decide (16 ≤ c)) then (stConflict, [])
      else if leaving ∧ fifthObserver s r then (stConflict, [])
      else (stOk, [])
    eff := fun v s => if v.int ≠ 0 ∧ (isRefin r ∨ isAtom r) then claimRef r s else s }

/-- Bits 0 and 1 only; the time bit where R128 admits it. -/
def ruleRefUse (r : Nat) : Rule :=
  { chk := fun s v =>
      if 3 < v.nat then (stRange, [])
      else if v.nat.testBit 0 ∧ (isSyncE r ∨ (isRefin r ∧ getN s (Obj.REF_NOM_FREQ r) ≠ 1000000) ∨
        (isAtom r ∧ getN s (Obj.REF_TDC_TIME r) = 0xFF)) then (stRange, [])
      else (stOk, []) }

/-- Fields of REFIN and ATOM only (the objects' rules). -/
def ruleRefinAtom (r : Nat) : Rule :=
  { chk := fun _ _ => if isRefin r ∨ isAtom r then (stOk, []) else (stRange, []) }

/-- A channel present in the variant or 0xFF; CONFLICT while not DISABLED; `REF_TDC_FREQ` of a REFIN follows (R126). -/
def ruleRefTdcTime (r : Nat) : Rule :=
  { chk := fun s v =>
      if (isRefin r ∨ isAtom r) = false ∨ (v.nat ≠ 0xFF ∧ nTdcs s.variant ≤ v.nat) then (stRange, [])
      else if getN s (Obj.REF_MODE r) ≠ 0 then (stConflict, []) else (stOk, [])
    eff := fun v s => setRefInterval r (if isRefin r then setN (Obj.REF_TDC_FREQ r) v.int s else s) }

def ruleRefTdcFreq (r : Nat) : Rule :=
  { chk := fun s v =>
      if isAtom r = false ∨ (v.nat ≠ 0xFF ∧ nTdcs s.variant ≤ v.nat) then (stRange, [])
      else if getN s (Obj.REF_MODE r) ≠ 0 then (stConflict, []) else (stOk, []) }

def ruleRefNom (r : Nat) : Rule :=
  { chk := fun s _ =>
      if isRefin r = false then (stRange, [])
      else if getN s (Obj.REF_MODE r) ≠ 0 then (stConflict, []) else (stOk, [])
    eff := fun _ => setRefInterval r }

def ruleRefWinN (r : Nat) : Rule :=
  { chk := fun s _ => if getN s (Obj.REF_MODE r) ≠ 0 then (stConflict, []) else (stOk, [])
    eff := fun _ => setRefInterval r }

/-- While the reference is not DISABLED it claims the TODIN it names (R181). -/
def ruleRefTod (r : Nat) : Rule :=
  { chk := fun s v =>
      if isRefin r = false ∨ (1 < v.nat ∧ v.nat ≠ 0xFF) then (stRange, [])
      else if getN s (Obj.REF_MODE r) ≠ 0 ∧ v.nat ≤ 1 then heldByOther s 0x1109 v.nat kindRef r else (stOk, [])
    eff := fun v s =>
      if getN s (Obj.REF_MODE r) = 0 then s
      else
        let s1 := s.claims.foldl (fun a c => if c.cls = 0x1109 ∧ c.kind = kindRef ∧ c.knum = r then release c.cls c.num a else a) s
        if v.nat ≤ 1 then
          claim { cls := 0x1109, num := v.nat, kind := kindRef, knum := r, index := 0x3010 + r, sub := 1 } s1
        else s1 }

/-- `EEC_TYPE` 1 to 3, `SSM_HOLDOVER_QL` a 4-bit code, `SSM_OPTION` 1 or 2: by the objects' ranges. -/
def execRefMode (r : Fin 30) (q : Req) (s : State) : Host.Outcome State Fault Refusal :=
  finish (ifUp (ownerWrite q (Obj.REF_MODE r.val) (ruleRefMode r.val)) s)

def execRefUse (r : Fin 30) (q : Req) (s : State) : Host.Outcome State Fault Refusal :=
  finish (ifUp (ownerWrite q (Obj.REF_USE r.val) (ruleRefUse r.val)) s)

/-! ### Events -/

/-- `REF_QUAL_TIME` of passing steps is complete (R133). -/
def refQualified (r : Nat) (s : State) : State := if atBoundary s ∧ refState s r = 2 ∧ qualDue s r then qualify r s else s

def execRefQualified (r : Fin 30) (s : State) : Host.Outcome State Fault Refusal := finish (ifUp (refQualified r.val) s)

/-- Lost (R134): the cause recorded is the first that holds (R135). -/
def refLost (r : Nat) (s : State) : State :=
  if atBoundary s ∧ (refState s r = 2 ∨ refGood s r) ∧ lostDue s r then disqualify r (disqCause s r) s else s

def execRefLost (r : Fin 30) (s : State) : Host.Outcome State Fault Refusal := finish (ifUp (refLost r.val) s)

/-- `REF_WTR_LEFT` is counted at a boundary (R136, R139). -/
def refWtrExpiry (r : Nat) (s : State) : State := if atBoundary s then countWtr r s else s

def execRefWtrExpiry (r : Fin 30) (s : State) : Host.Outcome State Fault Refusal := finish (ifUp (refWtrExpiry r.val) s)

/-- `DISQUAL_HOLD` has passed and a measurement arrived (R135). -/
def disqualHoldExpiry (r : Nat) (s : State) : State := if atBoundary s ∧ refState s r = 6 ∧ requalDue s r then requalify r s else s

def execRefDisqualHoldExpiry (r : Fin 30) (s : State) : Host.Outcome State Fault Refusal :=
  finish (ifUp (disqualHoldExpiry r.val) s)

/-- `BUILD_OUT_MAX` after the start (R140). -/
def buildOutTimeout (s : State) : State :=
  if getN s Obj.SWITCH_STATE = 1 ∧ s.sel.buildOutFrom + (getF s Obj.BUILD_OUT_MAX).toNat * sT ≤ s.now then
    bump Obj.BUILD_OUT_TIMEOUT (endBuildOut s)
  else s

def execBuildOutTimeout (s : State) : Host.Outcome State Fault Refusal :=
  finish (ifUp (fun s => if atBoundary s then buildOutTimeout s else s) s)

/-- Every rate that follows the role has arrived (R143). -/
def freqSwitchDone (s : State) : State :=
  if s.sel.freqSwitch ∧ freqSwitchOver s then setSel (fun x => { x with freqSwitch := false }) s else s

def execFreqSwitchDone (s : State) : Host.Outcome State Fault Refusal :=
  finish (ifUp (fun s => if atBoundary s then freqSwitchDone s else s) s)

/-- One more comparison of a pair that is in no dispute: at `DISPUTE_PERSIST` the dispute begins (R144). -/
def disputeBegin (a b : Nat) (s : State) : State :=
  if atBoundary s ∧ a < b ∧ (disputeOf s a b).begun = false then compare a b s else s

def execDisputeBegin (a b : Fin 30) (s : State) : Host.Outcome State Fault Refusal := finish (ifUp (disputeBegin a.val b.val) s)

/-- One more comparison of a pair in dispute, or the end of its conditions (R144). -/
def disputeEnd (a b : Nat) (s : State) : State :=
  if atBoundary s ∧ a < b ∧ (disputeOf s a b).begun then compare a b s else s

def execDisputeEnd (a b : Fin 30) (s : State) : Host.Outcome State Fault Refusal := finish (ifUp (disputeEnd a.val b.val) s)

/-- The vote of a boundary; unresolved, it raises the C0 event (R145). -/
def disputeUnresolved (a b : Nat) (s : State) : State := if atBoundary s ∧ a < b then vote a b s else s

def execDisputeUnresolved (a b : Fin 30) (s : State) : Host.Outcome State Fault Refusal :=
  finish (ifUp (disputeUnresolved a.val b.val) s)

/-! ### Learning (R147–R149) -/

/-- Points within a span of seconds before now. -/
def within (s : State) (span : Nat) (l : List (Nat × Int)) : List (Nat × Int) :=
  l.filter (fun p => decide (s.now ≤ p.1 + span * sT))

/-- The learning point of an interval of 64 s that ends now. -/
def learnPoint (s : State) : State :=
  match s.sel.interval with
  | none => s
  | some t =>
    if s.now < t + 64 * sT ∨ s.sel.intCount = 0 then s
    else
      let x := s.sel
      let span := (getF s Obj.LEARN_SPAN).toNat
      let den := x.intCount * 2 ^ 64
      let y := nearFree (x.intSum * (ten 15 : Int)) den s
      let d := divFree (x.intSum * (ten 15 : Int) * 64) (den * max ((getF s Obj.LEARN_TAU).toNat) 1) y.2
      let v := y.1 + getN s Obj.XO_FREQ_COMP - getN s Obj.XO_TEMP_TERM
      let pts := (s.now, v) :: within s span x.points
      let full := decide (86400 ≤ 64 * pts.length)
      let rate := fitSlope pts d.2
      let s1 := setSel (fun z =>
        { z with points := pts, pendingDelta := z.pendingDelta + d.1,
                 pendingRate := if full ∧ getN s Obj.XO_AGE_AUTO = 1 then some (clampInt (-1000000) 1000000 rate.1)
                   else z.pendingRate }) rate.2
      let s2 := setN Obj.LEARN_POINTS (pts.length : Nat) s1
      let day := within s 86400 pts
      let s3 := if 16 ≤ day.length then
          setLearned (Obj.FREQ_UNC_LEARNED 0) (learnedUnc day x.uncSum x.uncCount) s2
        else s2
      let s4 := if x.atomCount = x.intCount then
          let a := nearFree x.atomSum x.atomCount s3
          let ap := (s.now, a.1) :: within s span x.atomPoints
          let ar := fitSlope ap a.2
          let t1 := setSel (fun z => { z with atomPoints := ap }) ar.2
          let t2 := if 86400 ≤ 64 * ap.length then
              setN Obj.ATOM_DRIFT_LEARNED (clampInt (-2147483648) 2147483647 ar.1) t1 else t1
          let aday := within s 86400 ap
          if 16 ≤ aday.length then
            setLearned (Obj.FREQ_UNC_LEARNED 1) (learnedUnc aday x.uncSum x.uncCount) t2 else t2
        else s3
      setSel (fun z => { z with interval := some s.now, intSum := 0, intCount := 0, uncSum := 0, uncCount := 0,
                                atomSum := 0, atomCount := 0 }) s4

def execLearnPoint (s : State) : Host.Outcome State Fault Refusal := finish (ifUp learnPoint s)

end Sys2Proof.Machine
end

