-- ==== Sys2Proof/Machine/Synth.lean ====
section
/-! DEFINITION. Machine/Synth.lean: the commands and events of the synthesis block (R156–R182). -/
namespace Sys2Proof.Machine

/-! ### PLLs -/

/-- Modes a DPLL accepts, and OFF under taps of DPLL0 (R156, R166). -/
def ruleDpllMode (n : Nat) : Rule :=
  { chk := fun s v =>
      let m := v.nat
      let ok := if n = 0 then decide (m ≤ 3) else if n = 1 then decide (m = 2) else decide (1 ≤ m ∧ m ≤ 3)
      if ok = false then (stRange, [])
      else if n = 0 ∧ m = 0 ∧ (List.range 12).any (fun c => (clkTaps s c).contains 0) then (stConflict, [])
      else (stOk, []) }

/-- `DPLL_STEP_ACTION`: DPLL0 only. -/
def ruleDpllStep (n : Nat) : Rule := { chk := fun _ _ => if n = 0 then (stOk, []) else (stRange, []) }

def execDpllMode (n : Fin 4) (q : Req) (s : State) : Host.Outcome State Fault Refusal :=
  finish (ifUp (ownerWrite q (Obj.DPLL_MODE n.val) (ruleDpllMode n.val)) s)

/-- A search has failed in band 0 or 63: three in a row make the APLL FAILED (R162, R163). DESIGN CHOICE: the count in a row goes on over the
restart of a FAILED APLL; only a lock ends it. -/
def searchFailed (n : Nat) (s : State) : State :=
  let f := (apll s n).failed + 1
  let s1 := bump (Obj.APLL_BAND_FAIL n) (setApll n (fun a => { a with failed := f }) s)
  if f < 3 then startSearch n s1
  else raise (0x0900 + n) (if n = 0 then 4 else 2) { detail := getNat s (Obj.APLL_BAND n) }
    (setLive (0x0900 + n) true (setApllState n 3 s1))

/-- A step of the band search (R161): 1 to 6 halve the set, 7 may move to the neighbouring band and closes the loop. -/
def searchStep (n : Nat) (higher : Bool) (outer : Nat) (s : State) : State :=
  let a := apll s n
  if getN s (Obj.APLL_STATE n) ≠ 0 then s
  else if a.steps < 6 then
    let h := a.size / 2
    let lo := if higher then a.lo + h else a.lo
    setN (Obj.APLL_BAND n) lo (setApll n (fun x => { x with steps := a.steps + 1, lo := lo, size := h }) s)
  else
    let b := if outer = 1 then a.lo - 1 else if outer = 2 then min 63 (a.lo + 1) else a.lo
    evalClks (setApllState n 1 (setN (Obj.APLL_BAND n) b
      (setApll n (fun x => { x with steps := 7, lo := b, size := 1, good := 0, windows := 0 }) s)))

def execApllSearchStep (n : Fin 4) (higher : Bool) (outer : Fin 3) (s : State) : Host.Outcome State Fault Refusal :=
  finish (ifUp (searchStep n.val higher outer.val) s)

/-- A count window (R161–R163). -/
def lockWindow (n diff : Nat) (s : State) : State :=
  let a := apll s n
  match getNat s (Obj.APLL_STATE n) with
  | 1 =>
    let good := if diff ≤ 2 then a.good + 1 else 0
    let s1 := setApll n (fun x => { x with good := good, windows := a.windows + 1 }) s
    if getNat s (Obj.APLL_LOCK_COUNT n) ≤ good then
      evalClks (setLive (0x0900 + n) false (setApllState n 2 (setApll n (fun x => { x with failed := 0 }) s1)))
    else if getNat s (Obj.APLL_LOCK_COUNT n) < a.windows + 1 ∧ (a.lo = 0 ∨ a.lo = 63) then evalClks (searchFailed n s1)
    else s1
  | 2 =>
    if 8 < diff then
      let s1 := setLive (0x0900 + n) true (bump (Obj.APLL_UNLOCK n) (startSearch n s))
      evalClks (if n = 0 then raise 0x0900 4 { detail := getNat s (Obj.APLL_BAND 0) } s1 else s1)
    else s
  | _ => s

def execApllLockWindow (n : Fin 4) (diff : Nat) (s : State) : Host.Outcome State Fault Refusal :=
  finish (ifUp (fun s =>
    let t := lockWindow n.val diff s
    setLive (0x0900 + n.val) (decide (getN t (Obj.APLL_STATE n.val) ≠ 2)) t) s)

/-! ### Clock outputs -/

/-- Highest frequency of a format in Hz ("Format limits and jitter"). -/
def formatLimit : Nat → Nat
  | 0 => 1000000000 | 1 => 400000000 | 2 => 1250000000 | 3 => 200000000 | _ => 250000000

/-- The tests of an enable (R165). -/
def clkCheck (s : State) (c : Nat) : Nat × List Byte :=
  let code := getNat s (Obj.CLK_SOURCE c)
  let f := getNat s (Obj.CLK_FREQ c)
  let tooHigh := decide (formatLimit (getNat s (Obj.CLK_FORMAT c)) * 1000000 < f)
  match clkDivider code, clkDirect code with
  | some (n, d), _ =>
    let vco := getNat s (Obj.APLL_VCO_FREQ n) * 1000000
    if f = 0 ∨ vco % (max f 1) ≠ 0 ∨ vco / (max f 1) < 8 ∨ 16777215 < vco / (max f 1) ∨ tooHigh then (stRange, [])
    else heldByOther s 0x1104 d 3 c
  | none, some n =>
    if f < 1000000 ∨ 50000000000000 < f ∨ tooHigh then (stRange, [])
    else if n = 0 ∧ getN s (Obj.DPLL_MODE 0) = 0 then (stConflict, []) else (stOk, [])
  | none, none => (stRange, [])

def ruleClkEnable (c : Nat) : Rule :=
  { chk := fun s v => if v.int = 1 then clkCheck s c else (stOk, [])
    eff := fun v s =>
      if v.int = 1 then
        match clkDivider (getNat s (Obj.CLK_SOURCE c)) with
        | some (_, d) => claim { cls := 0x1104, num := d, kind := 3, knum := c, index := 0x3820 + c, sub := 1 }
            (if (claimOf s 0x1104 d).isSome then s else releaseAll 0x1104 3 c s)
        | none => releaseAll 0x1104 3 c s
      else s }

/-- `CLK_SOURCE`, `CLK_FREQ`, `CLK_FORMAT`: CONFLICT while enabled (R165); a reserved source code is out of range. -/
def ruleClkField (c : Nat) (source : Bool) : Rule :=
  { chk := fun s v =>
      if source ∧ v.nat ≠ 0xFF ∧ (clkDivider v.nat).isNone ∧ (clkDirect v.nat).isNone then (stRange, [])
      else if getN s (Obj.CLK_ENABLE c) = 1 then (stConflict, []) else (stOk, []) }

def execClkEnable (c : Fin 12) (q : Req) (s : State) : Host.Outcome State Fault Refusal :=
  finish (ifUp (ownerWrite q (Obj.CLK_ENABLE c.val) (ruleClkEnable c.val)) s)

/-- A squelch condition begins or ends (R167). -/
def execClkSquelch (c : Fin 12) (s : State) : Host.Outcome State Fault Refusal := finish (ifUp (evalClk c.val) s)

/-- `CLK_SYNC` (R168): the output is squelched for at most two periods around the realignment. -/
def ruleClkSync (c : Nat) : Rule :=
  { chk := fun s _ =>
      let code := getNat s (Obj.CLK_SOURCE c)
      let mts := match clkDpll code with | some n => decide ((dpll s n).mode = 3) | none => false
      if mts = false ∨ getNat s (Obj.CLK_FREQ c) % 1000000 ≠ 0 then (stConflict, []) else (stOk, [])
    eff := fun _ s =>
      -- an output without a divider is aligned already (R160), so nothing is realigned
      if (clkDivider (clkOut s c).source).isNone then s
      else
        let s1 := setClk c (fun x => { x with synced := true }) s
        if getN s (Obj.CLK_STATE c) = 1 then bump (Obj.CLK_SQUELCHES c) s1 else s1 }

def execClkSync (c : Fin 12) (q : Req) (s : State) : Host.Outcome State Fault Refusal :=
  finish (ifUp (ownerCommand q (Obj.CLK_SYNC c.val) (ruleClkSync c.val)) s)

/-! ### Pulses -/

def execPulseEdgeCommit (o : Fin 12) (s : State) : Host.Outcome State Fault Refusal :=
  finish (ifUp (fun s => if o.val < 4 then commitNative o.val s else commitPg (o.val - 4) s) s)

def execPulseEdgeEmit (o : Fin 12) (s : State) : Host.Outcome State Fault Refusal :=
  finish (ifUp (fun s => if o.val < 4 then emitNative o.val s.ts.mts s else emitPg (o.val - 4) s.ts.mts s) s)

/-- `PPS_ENABLE` claims and releases the land (R177, R415). -/
def rulePpsEnable (n : Nat) : Rule :=
  { chk := fun s v => if v.int = 1 then heldByOther s 0x1106 n kindPpsNative n else (stOk, [])
    eff := fun v s =>
      if v.int = 1 then claim { cls := 0x1106, num := n, kind := kindPpsNative, knum := n, index := 0x3C00 + n, sub := 1 } s
      else release 0x1106 n s }

/-- The offset takes effect at the next boundary (R172). -/
def execPpsOffset (n : Fin 4) (q : Req) (s : State) : Host.Outcome State Fault Refusal :=
  finish (ifUp (ownerWrite q (Obj.PPS_OFFSET n.val) {}) s)

/-- Fields of a generator while `PG_MODE` is not OFF (R177). -/
def rulePgField (g : Nat) (ok : Val → Bool) : Rule :=
  { chk := fun s v =>
      if ok v = false then (stRange, []) else if getN s (Obj.PG_MODE g) ≠ 0 then (stConflict, []) else (stOk, []) }

/-- `PG_ROUTE` claims the land (R177). -/
def rulePgRoute (g : Nat) : Rule :=
  { chk := fun s v =>
      let h := if v.nat = 0 then (stOk, []) else heldByOther s 0x1106 (v.nat - 1) kindPg g
      if 4 < v.nat then (stRange, [])
      else if h.1 ≠ stOk then h
      else if getN s (Obj.PG_MODE g) ≠ 0 then (stConflict, [])
      else (stOk, [])
    eff := fun v s =>
      let s1 := s.claims.foldl (fun a c => if c.cls = 0x1106 ∧ c.kind = kindPg ∧ c.knum = g then release 0x1106 c.num a else a) s
      if v.nat = 0 then s1
      else claim { cls := 0x1106, num := v.nat - 1, kind := kindPg, knum := g, index := 0x3C10 + g, sub := 2 } s1 }

def execPgRoute (g : Fin 8) (q : Req) (s : State) : Host.Outcome State Fault Refusal :=
  finish (ifUp (ownerWrite q (Obj.PG_ROUTE g.val) (rulePgRoute g.val)) s)

/-- `PG_MODE`: every change leaves the generator IDLE; an edge already committed still leaves (R177). -/
def rulePgMode (g : Nat) : Rule :=
  { eff := fun _ s => setN (Obj.PG_STATE g) 0 (setPg g (fun x => { x with due := [], anchor := none, k := 0, misses := 0 }) s) }

def execPgMode (g : Fin 8) (q : Req) (s : State) : Host.Outcome State Fault Refusal :=
  finish (ifUp (ownerWrite q (Obj.PG_MODE g.val) (rulePgMode g.val)) s)

/-- `PG_ARM` (R174, R175, R177): the mode and state first, then the checks of the mode. -/
def rulePgArm (g : Nat) : Rule :=
  { chk := fun s _ =>
      let mode := getNat s (Obj.PG_MODE g)
      let st := getNat s (Obj.PG_STATE g)
      let p := getNat s (Obj.PG_PERIOD g)
      let w := getNat s (Obj.PG_WIDTH g)
      if mode = 0 ∨ (st ≠ 0 ∧ st ≠ 4 ∧ st ≠ 5) then (stConflict, [])
      else if mode = 1 then
        (if of96 (getNat s (Obj.PG_START g)) < s.ts.mts + 10 * us48 ∨ p < 65536000 ∨ 65536000000000000 < p ∨
          p < (w + 10) * 65536 then (stRange, []) else (stOk, []))
      else
        let o := (getN s (Obj.PG_ALIGN_OFFSET g)).natAbs
        if p < 655360000 ∨ p < 2 * o ∨ 32768000000000 < o then (stRange, []) else (stOk, [])
    eff := fun _ s =>
      let s1 := setN (Obj.PG_STATE g) 1 (setPg g (fun x => { x with k := 0, due := [], anchor := none, misses := 0 }) s)
      if getN s (Obj.PG_MODE g) = 1 then pgAdvance g 0 s1 else s1 }

def execPgArm (g : Fin 8) (q : Req) (s : State) : Host.Outcome State Fault Refusal :=
  finish (ifUp (ownerCommand q (Obj.PG_ARM g.val) (rulePgArm g.val)) s)

def execAlignWindowMiss (g : Fin 8) (s : State) : Host.Outcome State Fault Refusal := finish (ifUp (alignMiss g.val) s)

/-! ### Time of day -/

/-- The FNTD sentence ("FNTD sentence"). -/
def fntdBytes (x : Sentence) (seq : Nat) : List Byte :=
  let unb := !boundFinite x.pair
  let b : List Byte := [0x24, 0x46, 0x4E, 0x54, 0x44, 0x2C, 0x01, 46] ++ t96Bytes x.edge ++
    be 2 (x.utcOffset % 65536).toNat ++ be 1 x.utcFlags ++ be 1 x.tsState ++ be 1 x.grade ++ be 1 x.timeRef ++
    be 10 x.pair.toNat ++ be 1 x.source ++ be 1 ((if x.omitted then 1 else 0) + (if unb then 2 else 0)) ++ be 2 seq
  b ++ be 4 (crc32 b) ++ [0x0D, 0x0A]

/-- Civil date of a day count since 1970-01-01: year, month, day. -/
def civil (z : Nat) : Nat × Nat × Nat :=
  let z1 := z + 719468
  let era := z1 / 146097
  let doe := z1 % 146097
  let yoe := (doe - doe / 1460 + doe / 36524 - doe / 146096) / 365
  let doy := doe - (365 * yoe + yoe / 4 - yoe / 100)
  let mp := (5 * doy + 2) / 153
  let m := if mp < 10 then mp + 3 else mp - 9
  (yoe + era * 400 + (if m ≤ 2 then 1 else 0), m, doy - (153 * mp + 2) / 5 + 1)

/-- The ZDA sentence (R179). -/
def zdaBytes (talkerGp : Bool) (x : Sentence) : List Byte :=
  let u := x.utcSec.toNat
  let d := civil (u / 86400)
  let leap := x.utcFlags.testBit 2
  let sod := u % 86400
  let hund := x.edge / 65536 % 1000000000 / 10000000
  let body : List Byte := [0x47, if talkerGp then 0x50 else 0x4E, 0x5A, 0x44, 0x41, 0x2C] ++
    decDigits 2 (sod / 3600) ++ decDigits 2 (sod / 60 % 60) ++ decDigits 2 (if leap then 60 else sod % 60) ++ [0x2E] ++
    decDigits 2 hund ++ [0x2C] ++ decDigits 2 d.2.2 ++ [0x2C] ++ decDigits 2 d.2.1 ++ [0x2C] ++ decDigits 4 d.1 ++
    [0x2C, 0x30, 0x30, 0x2C, 0x30, 0x30]
  [0x24] ++ body ++ [0x2A] ++ hexDigits 2 (xorBytes body) ++ [0x0D, 0x0A]

/-- Start the sentences of the oldest described instant, or skip them (R178, R179). -/
def todStart (t : Nat) (s : State) : State :=
  match (tod s t).due with
  | [] => s
  | x :: rest =>
    let start := of96 x.edge + getNat s (Obj.TOD_DELAY t) * us48
    if s.ts.mts < start then s
    else
      let s1 := setTod t (fun y => { y with due := rest }) s
      if silentOutputs s ∨ outputsAbsent s then s1
      else if s.now < (tod s t).busyUntil then bump (Obj.TOD_SKIPPED t) s1
      else
        let fmt := getNat s (Obj.TOD_FORMAT t)
        let f := if fmt = 1 then [] else fntdBytes x (tod s t).seq
        let z := if fmt = 0 ∨ x.omitted ∨ utcValidNow s = false then []
          else zdaBytes (getN s (Obj.ZDA_TALKER t) = 1) x
        let n := (if f.isEmpty then 0 else 1) + (if z.isEmpty then 0 else 1)
        if n = 0 then s1
        else
          let len := cdiv ((f ++ z).length * 10 * sT) (max (getNat s (Obj.TOD_BAUD t)) 1)
          emit (.sentence t (f ++ z)) (bumpBy (Obj.TOD_SENT t) (n : Nat) (setTod t (fun y =>
            { y with busyUntil := s.now + len, seq := if f.isEmpty then y.seq else (y.seq + 1) % 65536 }) s1))

def execTodSentenceStart (t : Fin 2) (s : State) : Host.Outcome State Fault Refusal := finish (ifUp (todStart t.val) s)

/-- A sentence passes its validation, with its TAI second (R180). -/
def todSecond (s : State) (t : Nat) : TodSentence → Option Nat
  | .fntd ok ver len sec ns flags =>
    if getN s (Obj.TODIN_FORMAT t) = 0 ∧ ok ∧ ver = 1 ∧ len = 46 ∧ flags.testBit 1 = false then
      some (if 500000000 ≤ ns then sec + 1 else sec)
    else none
  | .zda ok utc =>
    if getN s (Obj.TODIN_FORMAT t) = 1 ∧ ok then some (utc + getNat s Obj.CURRENT_UTC_OFFSET) else none

/-- A TODIN sentence is validated and matched to a pulse (R130, R180). -/
def todinRx (t : Nat) (x : TodSentence) (ago : Nat) (s : State) : State :=
  match todSecond s t x with
  | none => bump (Obj.TODIN_BAD t) s
  | some sec =>
    let start := s.now - ago
    let win := getNat s (Obj.TODIN_WINDOW t) * msT
    match (s.pulseWait.reverse).find? (fun p => p.todin = t && p.said.isNone && decide (p.tick ≤ start ∧ start ≤ p.tick + win)) with
    | none => bump (Obj.TODIN_ORPHAN t) s
    | some p =>
      let s1 := { s with pulseWait := s.pulseWait.map (fun y => if y = p then { y with said := some sec, meas := none } else y) }
      let s2 := bump (Obj.TODIN_GOOD t) (setN (Obj.TODIN_LAST_SEC t) sec s1)
      match p.meas with
      | some m => queueMeas (saidMeas m p.sec sec) s2
      | none => s2

def execTodinSentence (t : Fin 2) (x : TodSentence) (ago : Nat) (s : State) : Host.Outcome State Fault Refusal :=
  finish (ifUp (todinRx t.val x ago) s)

/-- A pulse without a valid sentence for its second is a missed measurement (R130). The last pulse of a reference stays for the close of
its window. -/
def pulseTimeout (s : State) : State :=
  let old (p : PulseWait) : Bool := p.said.isNone && decide (p.tick + sT ≤ s.now)
  let last (p : PulseWait) : Bool := s.pulseWait.all (fun y => decide (y.ref ≠ p.ref ∨ y.tick ≤ p.tick))
  (s.pulseWait.filter old).foldl (fun a p => measMissed p.ref (setRef p.ref (fun x => { x with dueFrom := some s.now }) a))
    { s with pulseWait := s.pulseWait.filter (fun p => !old p && (last p || decide (s.now < p.tick + sT))) }

end Sys2Proof.Machine
end

