-- ==== Sys2Proof/Machine/Tdc.lean ====
section
/-! DEFINITION. Machine/Tdc.lean: the commands and events of edge measurement (R99–R125). -/
namespace Sys2Proof.Machine

/-- Two channels that accepted a common edge (R120): C1 of the higher-numbered one. -/
def crossCheck (c : Nat) (s : State) : State :=
  if getN s Obj.TDC_XCHECK_ENABLE = 0 ∧ getN s Obj.PAIR_ROLE ≠ 1 then s
  else
    let a := tdc s c
    (List.range 16).foldl (fun t d =>
      let b := tdc s d
      let near := match b.lastTick with | some k => decide (s.now ≤ k + 1) | none => false
      if d = c ∨ near = false ∨ a.source ≠ b.source ∨ a.edge ≠ b.edge ∨ calClass s c = 2 ∨ calClass s d = 2 then t
      else if (edgeUnc s c + edgeUnc s d) * 65536 < ((a.lastTs : Int) - b.lastTs).natAbs * 1000 then
        raise (tdcFault (max c d)) 1 { detail := getNat t (Obj.TDC_CAL_STATE (max c d)) } (bump (Obj.XCHECK_FAIL (max c d)) { t with hinge := { t.hinge with testFail := some t.now } })
      else t) s

/-- The accepted edge enters the log and its window, which closes at its last edge (R114, R125). -/
def acceptEdge (c k : Nat) (s : State) : State :=
  let ts := edgeStamp s c k
  let pos := edgePos s c k
  let mk := edgeMark s ts
  let t := tdc s c
  let tap := match claimOf s 0x1100 c with | some cl => decide (cl.kind = kindMonitor) | none => true
  let flags : Nat := (if tap then 1 else 0) + (if 1 ≤ calClass s c then 2 else 0) + (if t.missed then 4 else 0)
  let w := match t.window with
    | some w => addEdge s c ts pos mk w
    | none => openTdcWindow s c ts pos mk
  let s1 := setTdc c (fun x =>
    { x with lastTick := some s.now, missed := false, lastTs := ts, window := some w, converting := true,
             log := ({ ts := ts, index := x.index, flags := flags } :: x.log).take 1024 }) s
  let s2 := bump (Obj.EDGE_COUNT c) (setN (Obj.TDC_LAST_EDGE c) ts s1)
  let s3 := if w.n0 ≤ w.n then closeWindow c (notePulse c ts s2) else notePulse c ts s2
  alignEdge c ts (crossCheck c s3)

/-- A decimated edge (R99, R110, R111). -/
def tdcEdge (c k : Nat) (s : State) : State :=
  if tdcRuns s c = false then s
  else
    let s1 := setTdc c (fun x => { x with index := x.index + 1, seenTick := s.now }) s
    let early := match (tdc s c).lastTick with | some t => decide (s.now < t + 800) | none => false
    if early then bump (Obj.EDGE_MISSED c) (setTdc c (fun x => { x with missed := true }) s1)
    else acceptEdge c k s1

def execTdcEdge (c : Fin 16) (k : Fin 2560) (s : State) : Host.Outcome State Fault Refusal :=
  finish (tdcEdge c.val k.val s)

/-- The epoch boundary at which `TDC_WIN_MAX` has passed (R114). -/
def tdcWindowMax (c : Nat) (s : State) : State := if atBoundary s ∧ winMaxDue s c then closeWindow c s else s

def execTdcWindowMax (c : Fin 16) (s : State) : Host.Outcome State Fault Refusal := finish (ifUp (tdcWindowMax c.val) s)

/-- A histogram of 2²⁴ hits is complete: it is accepted with the die reading latched last, or rejected, and a new one begins (R102–R104). A
core whose table waits for the swap accumulates none. -/
def histogramDone (c : Nat) (hits : List Nat) (dieFirst dieLast : Int) (s : State) : State :=
  if nTdcs s.variant ≤ c ∨ hits.sum ≠ 16777216 ∨ (tdc s c).ready.isSome then s
  else if tableOk hits (rangeWith dieFirst (rangeWith dieLast (tdc s c).calRange)) then
    setTdc c (fun t => { t with ready := some hits, acceptedTick := s.now, readyTemp := s.sensors.die }) s
  else bump Obj.TDC_CAL_DISCARD (setTdc c (fun t => { t with calRange := none }) s)

def execTdcCalHistogramDone (c : Fin 16) (hits : List Nat) (dieFirst dieLast : Int) (s : State) : Host.Outcome State Fault Refusal :=
  finish (ifUp (histogramDone c.val hits dieFirst dieLast) s)

/-- The measuring core converts for at most 1.03 µs after an accepted edge. -/
def converting (s : State) (c : Nat) : Bool :=
  match (tdc s c).lastTick with | some t => (tdc s c).converting && decide (s.now < t + 206) | none => false

def coreSwap (c : Nat) (s : State) : State := if converting s c then s else swapCores c s

def execTdcCoreSwap (c : Fin 16) (s : State) : Host.Outcome State Fault Refusal := finish (ifUp (coreSwap c.val) s)

/-- The epoch boundary at which 120 s have passed without an accepted table (R104, R105). -/
def tdcCalFailed (c : Nat) (s : State) : State := if atBoundary s ∧ c < nTdcs s.variant ∧ tdcFailDue s c then tdcFail c s else s

def execTdcCalFailed (c : Fin 16) (s : State) : Host.Outcome State Fault Refusal := finish (ifUp (tdcCalFailed c.val) s)

/-- The rule of field f of a channel (R106–R113). -/
def ruleTdc (c f : Nat) : Rule :=
  match f with
  | 1 => ruleTdcSource c | 3 => ruleTdcNom c | 4 => ruleTdcDecim c | _ => ruleTdcField c

def execTdcSource (c : Fin 16) (f : Fin 6) (q : Req) (s : State) : Host.Outcome State Fault Refusal :=
  finish (ifUp (ownerWrite q (Obj.TDC_SOURCE c.val + f.val) (ruleTdc c.val (f.val + 1))) s)

/-! ### Sensors (R121) -/

/-- A reading in 1/16 °C, a half rounded toward zero. -/
def sixteenths (r : Int) : Int :=
  let a := r.natAbs
  let q : Nat := if a % 64 ≤ 32 then a / 64 else a / 64 + 1
  if r < 0 then -(q : Int) else q

/-- Outside −70 °C to +150 °C, or more than 4 K from the previous reading. -/
def sensorBad (prev cur : Int) : Bool := decide (cur < -71680 ∨ 153600 < cur) || decide (4096 < (cur - prev).natAbs)

/-- A sensor becomes failed, stays so or recovers: C2 on becoming failed; LIVE follows the condition (R121, R464). -/
def sensorFault (code : Nat) (was bad : Bool) (r : Int) (s : State) : State :=
  if bad && !was then setLive code true (raise code 2 { detail := (sixteenths r % 4294967296).toNat } s)
  else setLive code bad s

/-- One conversion of both sensors; the readings wait for the epoch boundary. -/
def sensorConv (xo die : Int) (s : State) : State :=
  let x := s.sensors
  let bx := sensorBad (if x.first then xo else x.lastXo) xo
  let bd := sensorBad (if x.first then die else x.lastDie) die
  let s1 := { s with
    sensors :=
    { x with lastXo := xo, lastDie := die, first := false, xoFailed := bx, dieFailed := bd }
    tdcs := s.tdcs.map (fun t => { t with calRange := rangeWith die t.calRange }) }
  let s2 := setN Obj.SENSOR_STATUS ((if bx then 1 else 0) + (if bd then 2 else 0)) s1
  sensorFault 0x0A01 x.dieFailed bd die (sensorFault 0x0A00 x.xoFailed bx xo s2)

def execSensorConversion (xo die : Int) (s : State) : Host.Outcome State Fault Refusal := finish (ifUp (sensorConv xo die) s)

/-- The boundary latches the latest readings (R121). -/
def latchSensors (s : State) : State :=
  let x := { s.sensors with xo := s.sensors.lastXo, die := s.sensors.lastDie }
  setN Obj.TEMP_DIE (sixteenths x.die) (setN Obj.TEMP_XO (sixteenths x.xo) { s with sensors := x })

end Sys2Proof.Machine
end

