-- ==== Sys2Proof/Machine/Restarts.lean ====
section
/-! DEFINITION. Machine/Restarts.lean: what a C2 restart does to each unit (R456, R457, R464 and the units' chapters), and `report`: a raise
with the restarts it causes. -/
namespace Sys2Proof.Machine

/-! ### Bus masters (R433) -/

/-- Number of a master ID within "Per-master objects". -/
def masterNum (id : Nat) : Nat := if id < 5 then 0 else if id < 0x18 then 1 else id - 0x20 + 2

/-- Outstanding transactions of a master, at most ("Masters"). -/
def masterLimit (id : Nat) : Nat :=
  if id < 5 ∨ id = 0x20 then 64 else if id = 0x21 ∨ id = 0x23 then 16 else 8

/-- A master reset with bursts in flight (R433). -/
def masterReset (id : Nat) (s : State) : State :=
  raise (0x2300 + id) 1 { detail := 1 + Config.freeNat s.freeCtr % masterLimit id, master := id, access := 4 }
    (bump (Obj.MASTER_RESETS (masterNum id)) (nextFree s))

/-! ### GNSS (R202, R203) -/

/-- A capture in progress is aborted (R202). -/
def abortSnap (s : State) : State :=
  match s.gnss.snap.slot with
  | some k => setN (Obj.SNAP_STATE k) 3 (bump Obj.SNAP_ABORT (setGnss (fun g => { g with snap := {} }) s))
  | none => setGnss (fun g => { g with snap := {} }) s

/-- The front end stops; ephemeris and the held position survive (R203). -/
def gnssStop (s : State) : State :=
  let s1 := setGnss (fun g => { g with chans := [], used := [], ppsNext := [], far := 0, near := 0 }) (abortSnap s)
  let s2 := { s1 with power := { s1.power with gnssOn := false } }
  dropStart 20 (s2 |> setN Obj.GNSS_FIX_STATE 0 |> setN Obj.GNSS_SATS_USED 0 |> setN Obj.GNSS_SATS_TRACKED 0 |> setN Obj.GNSS_CHAN_IN_USE 0)

/-- A restart of the unit is handled as a reopening of S3 (R203). -/
def gnssRestart (s : State) : State :=
  let s1 := if s.gnss.snap.slot.isSome then masterReset 0x21 s else s
  queueStart 20 (gnssStop s1)

/-! ### Cores, crypto lanes, DMA -/

def setCores (f : Cores → Cores) (s : State) : State := { s with cores := f s.cores }
def setCoreUnit (n : Nat) (f : CoreUnit → CoreUnit) (s : State) : State := setCores (fun c => { c with units := modAt n f c.units }) s

/-- A core is stopped and restarts (R433, R447, R448), whether bursts were in flight being free: the learning interval in progress yields no point when it is the time core. -/
def coreRestart (n : Nat) (s : State) : State :=
  let s0 := if Config.freeBit s.freeCtr then masterReset n (nextFree s) else nextFree s
  let s1 := setN (Obj.CORE_STATE n) 2 (bump (Obj.CORE_RESTARTS n) s0)
  if n = 4 then setSel (fun x => { x with interval := none }) s1 else s1

/-- The crypto block restarts: its lanes start again under admission (R502). -/
def cryptoRestart (s : State) : State :=
  let n := s.crypto.lanes
  (List.range n).foldl (fun a i => queueStart (30 + i) a) (setLanes 0 (restartCrypto s))

/-- A DMA channel is aborted and then halted: its descriptor shows RESET and what was done (R433, R434). -/
def dmaAbort (d : Nat) (s : State) : State :=
  let s1 := match (dma s d).cur with
    | some x => setN (Obj.DMA_LAST_STATUS d) 5 (dmaStatus d 5 x (masterReset (0x10 + d) s))
    | none => s
  setN (Obj.DMA_STATE d) 3 (setDma d (fun x => { x with cur := none, next := none }) s1)

/-- The DRBG restarts (R348). -/
def drbgRestart (s : State) : State :=
  setN Obj.DRBG_STATE 1 { s with keys := { s.keys with drbgRestart := some s.now } }

/-- What the beginning of a restart does to a unit. -/
def unitRestart (u : Nat) (s : State) : State :=
  let n := u % 256
  match u / 256 with
  | 0x05 => drbgRestart s
  | 0x09 => startSearch n s
  | 0x12 => restartTdc n (discardWindow n s)
  | 0x13 => gnssRestart s
  | 0x14 => restartLane n s
  | 0x16 => clearCore s
  | 0x17 => restartPtp s
  | 0x19 => restartNtp s
  | 0x1A => cryptoRestart s
  | 0x20 => (List.range 5).foldl (fun a i => coreRestart i a) s
  | 0x24 => dmaAbort n s
  | 0x25 => coreRestart n s
  | 0x30 => queueStart 0 { s with hinge := { s.hinge with lane := false } }
  | _ => s

/-! ### The trial of an update (R516) -/

/-- A staging slot is emptied (R438, R508); an install from it has lost its slot (R510). -/
def emptySlot (n : Nat) (s : State) : State :=
  let s1 := setUpd (fun u =>
    { u with staged := u.staged.set n [], installing := u.installing.map (fun k => if k = n then 2 else k) }) s
  s1 |> setN (Obj.STAGE_STATE n) 0 |> setN (Obj.STAGE_CAUSE n) 0 |> setB (Obj.STAGE_DIGEST n) (List.replicate 48 0)
    |> setB (Obj.STAGE_HEADER n) [] |> setN Obj.UPD_CONFLICT 0

/-- A read of the SD card begins: slot 0 loses its content (R506). -/
def startSd (s : State) : State :=
  setN (Obj.STAGE_STATE 0) 1 (setUpd (fun u => { u with sdSince := some s.now }) (emptySlot 0 s))

/-- A failing trial: the selector is written back, and the previous bank activates at the next epoch boundary (R516). -/
def trialFail (s : State) : State :=
  match s.update.trial with
  | none => s
  | some t =>
    setN Obj.UPD_TRIAL_LEFT 0 (setN Obj.UPD_ACTIVE_BANK t.before
      (setUpd (fun u => { u with trial := none, schedule := some { sec := none, bank := t.before, rollback := true } }) s))

/-- The third C2 raise of a core source, or a restart of the time core, fails a trial (R516). -/
def trialCore (code : Nat) (s : State) : State :=
  match s.update.trial with
  | none => s
  | some t =>
    if code = 0x2504 ∨ 3 ≤ t.coreRaises + 1 then trialFail s
    else setUpd (fun u => { u with trial := some { t with coreRaises := t.coreRaises + 1 } }) s

/-- A raise, its reaction and the restart of its unit. -/
def report (code base : Nat) (info : FaultInfo) (s : State) : State :=
  let s1 := raiseWith unitRestart code base info s
  if base = 2 ∧ 0x2500 ≤ code ∧ code ≤ 0x2504 then trialCore code s1 else s1

end Sys2Proof.Machine
end

