-- ==== Sys2Proof/Machine/Sessions.lean ====
section
/-! DEFINITION. Machine/Sessions.lean: changes of Latch holder and the closing of sessions (R374, R383, R389). -/
namespace Sys2Proof.Machine

/-! ### The Latch -/

def setLatch (f : Latch → Latch) (s : State) : State := { s with latch := f s.latch }

/-- Accepted table writes of a session that wait to be applied. -/
def waitingWrites (n : Nat) (s : State) : List TableWrite :=
  (s.sw.fdbWrites ++ s.sw.vlanWrites).filter (fun w => decide (w.req.sess = n) && w.commit.isNone)

/-- Written increments of a session whose tick has not begun (R43). -/
def waitingIncrs (n : Nat) (s : State) : List (Nat × Req) :=
  s.ts.incrWrites.filterMap (fun w => w.2.bind (fun q => if q.sess = n then some (w.1, q) else none))

def dropWrites (n : Nat) (s : State) : State :=
  let keep (w : TableWrite) : Bool := !(decide (w.req.sess = n) && w.commit.isNone)
  { s with
    sw := { s.sw with fdbWrites := s.sw.fdbWrites.filter keep, vlanWrites := s.sw.vlanWrites.filter keep }
    ts := { s.ts with incrWrites := s.ts.incrWrites.filter (fun w => !(w.2.any (fun q => q.sess = n))) } }

/-- What a session has waiting goes without effect and is answered with a status. -/
def refuseWaiting (n status : Nat) (s : State) : State :=
  let s1 := (waitingWrites n s).foldl (fun a w =>
    answerLate w.req (if w.key = Obj.FDB_FLUSH then .command else .write) w.key status [] w.value [] a) (dropWrites n s)
  (waitingIncrs n s).foldl (fun a w =>
    answerLate w.2 .write Obj.INCR_WRITE status [] (numBytes Obj.INCR_WRITE (w.1 : Nat)) [] a) s1

/-- A change of holder: journalled, counted, notified; open groups are discarded, and what the former holder has waiting is answered
NOT_OWNER (R383, R389). -/
def latchChange (n : Nat) (o : Origin) (s : State) : State :=
  if s.latch.holder = n then s
  else
    let old := s.latch.holder
    let s1 := setLatch (fun l => { l with holder := n, leaseFrom := s.now, electionFrom := none, claims := [] })
      { s with groups := s.groups.filter (fun g => g.state ≠ 0) }
    let s2 := s1 |> setN Obj.LATCH_HOLDER n |> setN Obj.LATCH_STATE (if n = 0 then 0 else 2)
      |> setN Obj.LATCH_KEY_ID (if n = 0 then 0 else (session s1 n).keyId)
    let s3 := bump Obj.LATCH_CHANGES
      (journal { kind := 3, origin := o, key := Obj.LATCH_HOLDER, old := be 2 old, new := be 2 n } s2)
    notifyAll (if n = 0 then 1 else 2) n (refuseWaiting old stNotOwner s3)

/-! ### Closing -/

/-- Close a session with a reason (R374); an OPEN one is told. What it asked for and is not applied goes without a response. -/
def closeSession (n reason : Nat) (s : State) : State :=
  let x := session s n
  if x.state = 0 then s
  else
    let s1 := journal { kind := 4, origin := .session n, key := Obj.SESS_STATE n, old := be 1 x.state, new := be 1 0 ++ be 1 reason } s
    let s2 := dropWrites n (if x.state = 2 then sendFrame 5 n true (be 1 reason) (emit (.close n reason) s1) else s1)
    let s3 := if s2.latch.holder = n then latchChange 0 (.session n) (setSession n { x with state := 0 } s2) else s2
    let s4 := setLatch (fun l => { l with claims := l.claims.filter (fun c => c.1 ≠ n) })
      { s3 with groups := s3.groups.filter (fun g => !(g.session = n && g.state = 0)) }
    setSession n { requests := x.requests } s4

/-- Close every session that satisfies a test. -/
def closeSessions (reason : Nat) (f : Session → Bool) (s : State) : State :=
  (List.range 16).foldl (fun a i => if f (session a (i + 1)) then closeSession (i + 1) reason a else a) s

/-- Sessions whose credential has become unusable close (R374). -/
def closeUnusable (s : State) : State :=
  closeSessions 3 (fun x => decide (x.state ≠ 0) && !credUsable s x.slot) s

end Sys2Proof.Machine
end

