-- ==== Sys2Proof/Machine/Keys.lean ====
section
/-! DEFINITION. Machine/Keys.lean: the PUF root, the key store, the DRBG, the life cycle, JTAG and the pair bond (R339–R356). -/
namespace Sys2Proof.Machine

/-- A start-up milestone completes at this instant (R496). -/
def complete (n : Nat) (s : State) : State :=
  setMax Obj.START_MILESTONE n { s with power := { s.power with milestones := (n, s.now) :: s.power.milestones } }

def setKeys (f : Keys → Keys) (s : State) : State := { s with keys := f s.keys }

/-! ### Slots (R342–R347) -/

/-- "SLOT_HEADER field map". -/
def slotHeader (k : KeySlot) : Nat :=
  k.typ * 2 ^ 56 + k.usage * 2 ^ 32 + (if k.generated || k.derived then 2 ^ 27 else 0) + (if k.derived then 2 ^ 26 else 0) +
    (if 248 ≤ k.id then 2 ^ 25 else 0) + (if k.zot then 2 ^ 24 else 0) + (if k.bindD then 2 ^ 17 else 0) + (if k.bindP then 2 ^ 16 else 0)

/-- The objects of a slot follow what it holds (R342, R343). -/
def showSlot (n : Nat) (s : State) : State :=
  match slotOf s n with
  | none => setJ (Obj.SLOT_STATE n) 0 (s |> setN (Obj.SLOT_HEADER n) 0 |> setN (Obj.KEY_ID n) 0 |> setB (Obj.PUBLIC_KEY n) [])
  | some k => setJ (Obj.SLOT_STATE n) (if k.bad then 2 else 1)
      (s |> setN (Obj.SLOT_HEADER n) (slotHeader k : Nat) |> setN (Obj.KEY_ID n) k.keyId |> setB (Obj.PUBLIC_KEY n) k.pub)

def insertSlot (k : KeySlot) : List KeySlot → List KeySlot
  | [] => [k]
  | x :: r => if k.id < x.id then k :: x :: r else if k.id = x.id then k :: r else x :: insertSlot k r

def putSlot (k : KeySlot) (s : State) : State := showSlot k.id (setKeys (fun x => { x with slots := insertSlot k x.slots }) s)

def dropSlot (n : Nat) (s : State) : State := showSlot n (setKeys (fun x => { x with slots := x.slots.filter (fun k => k.id ≠ n) }) s)

/-- A slot is overwritten; its attributes return to their defaults, and sessions that rest on it close (R345, R371, R374). -/
def zeroize (n : Nat) (s : State) : State :=
  let s1 := dropSlot n s
  let s2 := if 16 ≤ n then
      [Obj.CRED_ROLE n, Obj.CRED_RANK n, Obj.CRED_READ_MASK n].foldl (fun a k => setJ k (dfltNum a.variant k) a) s1
    else s1
  closeUnusable s2

/-- Slots that hold a key and satisfy a test. -/
def slotsWhere (s : State) (f : KeySlot → Bool) : List Nat := (s.keys.slots.filter f).map (·.id)

def zeroizeAll (l : List Nat) (s : State) : State := l.foldl (fun a n => zeroize n a) s

/-- Keep-mode slots that hold a key. -/
def keepSlots (s : State) : List Nat := slotsWhere s (fun k => decide (248 ≤ k.id))

/-- A slot's key, with its public point and identifier (R342). -/
def makeSlot (n typ usage bind : Nat) (zot generated : Bool) (material : Nat) (pub : List Byte) : KeySlot :=
  let pt := if typ = 4 then Config.publicPoint material else if typ = 5 then pub else []
  { id := n, typ := typ, usage := usage, bindP := bind.testBit 0, bindD := bind.testBit 1, generated := generated,
    zot := zot, keyId := Config.keyId typ material pt % 4294967296, material := material, pub := pt }

/-- Bytes of a key by TYPE ("Key types"). -/
def keyBytes : Nat → Nat
  | 1 | 6 => 16 | 2 | 3 | 7 => 32 | 4 => 48 | 5 => 97 | _ => 0

/-- "Slot allocation": the TYPE a SLOT takes. -/
def slotTakes (n typ : Nat) : Bool :=
  if n = 4 then typ = 5
  else if 16 ≤ n ∧ n ≤ 247 then 1 ≤ typ && typ ≤ 6
  else if 248 ≤ n ∧ n ≤ 255 then typ = 1 || typ = 2 || typ = 3 || typ = 6 else false

/-- Bytes 0 to 5 of the argument lie in their ranges (R344). -/
def argRange (b : List Byte) (maxTyp : Nat) : Bool :=
  let typ := fieldU b 1 1
  let use := fieldU b 2 2
  let bind := fieldU b 4 1
  slotTakes (fieldU b 0 1) typ && decide (typ ≤ maxTyp) && decide (0 < use ∧ use < 128) && decide (0 < bind ∧ bind < 4) &&
    decide (fieldU b 5 1 < 2)

/-- The slot of an argument is EMPTY. -/
def argEmpty (s : State) (b : List Byte) : Bool := (slotOf s (fieldU b 0 1)).isNone

/-- The slot that an accepted argument makes. -/
def argSlot (b : List Byte) (generated : Bool) (material : Nat) : KeySlot :=
  makeSlot (fieldU b 0 1) (fieldU b 1 1) (fieldU b 2 2) (fieldU b 4 1) ((fieldU b 5 1).testBit 0) generated material (b.drop 8)

/-- What the journal records of a key command: slot, header and KEY_ID (R344). -/
def keyEntry (generated : Bool) (material : Nat) (b : List Byte) : List Byte :=
  if b.length < 6 then b else
    let k := argSlot b generated material
    be 1 k.id ++ be 8 (slotHeader k) ++ be 4 k.keyId

/-- The status of a KEY_IMPORT argument (R344). -/
def importStatus (s : State) (b : List Byte) (unwrapOk : Bool) : Nat :=
  let typ := fieldU b 1 1
  let len := fieldU b 6 2
  let fits := decide (typ = 0 ∨ 7 < typ) || decide (len = keyBytes typ + (if typ = 5 then 0 else 16))
  if b.length < 8 ∨ b.length ≠ 8 + len ∨ fits = false then stLength
  else if argRange b 7 = false then stRange
  else if argEmpty s b = false then stConflict
  else if typ ≠ 5 ∧ unwrapOk = false then stAccessDenied
  else stOk

def ruleKeyImport (unwrapOk : Bool) (material : Nat) : Rule :=
  { chk := fun s v => (importStatus s v.bytes unwrapOk, [])
    eff := fun v s => putSlot (argSlot v.bytes false material) s
    jnew := keyEntry false material }

def execKeyImport (q : Req) (unwrapOk : Bool) (material : Nat) (s : State) : Host.Outcome State Fault Refusal :=
  finish (ifUp (ownerCommand q Obj.KEY_IMPORT (ruleKeyImport unwrapOk material)) s)

/-- The key is drawn from the DRBG (R344, R348). -/
def ruleKeyGenerate (material : Nat) : Rule :=
  { chk := fun s v =>
      if argRange v.bytes 4 = false then (stRange, []) else if drbgDown s then (stBusy, [])
      else if argEmpty s v.bytes = false then (stConflict, []) else (stOk, [])
    eff := fun v s => putSlot (argSlot v.bytes true material) (draw s).2
    refused := fun v s => if argRange v.bytes 4 ∧ drbgDown s then starved s else s
    jnew := keyEntry true material }

def execKeyGenerate (q : Req) (s : State) : Host.Outcome State Fault Refusal :=
  finish (ifUp (ownerCommand q Obj.KEY_GENERATE (ruleKeyGenerate (draw s).1)) s)

/-- Slots whose tag fails become BAD; more than 4 of them are a C4 fault (R347). -/
def slotCheck (bad : List Nat) (s : State) : State :=
  let s1 := bad.foldl (fun a n =>
    match slotOf a n with
    | some k => if k.bad then a else report 0x0400 1 { detail := n } (putSlot { k with bad := true } a)
    | none => a) s
  let s2 := closeUnusable s1
  if 4 < s2.keys.slots.countP (fun k => k.bad) then report 0x0400 4 { detail := (bad.headD 0) } s2 else s2

/-- R345. The check of the slot at its zeroize (R346) has found its tag right or not. -/
def ruleKeyZeroize (tagOk : Bool) : Rule :=
  { chk := fun _ v =>
      if v.nat = 0 ∨ v.nat = 1 ∨ v.nat = 3 ∨ (5 ≤ v.nat ∧ v.nat ≤ 15) then (stAccessDenied, [])
      else if v.nat = 2 then (stConflict, []) else (stOk, [])
    eff := fun v s => zeroize v.nat (if tagOk then s else slotCheck [v.nat] s) }

def execKeyZeroize (x : ZeroizeIn) (s : State) : Host.Outcome State Fault Refusal :=
  finish (ifUp (ownerCommand x.req Obj.KEY_ZEROIZE (ruleKeyZeroize x.tagOk)) s)

/-- The check of every slot once per 60 s (R346). -/
def periodicCheck (bad : List Nat) (s : State) : State :=
  if s.now < s.keys.checkTick + 60 * sT ∨ milestone s 3 = false then s
  else slotCheck bad (setN Obj.KEY_CHECK_LAST (mts96 s) (setKeys (fun k => { k with checkTick := s.now }) s))

def execKeySlotCheck (bad : List Nat) (s : State) : Host.Outcome State Fault Refusal := finish (ifUp (periodicCheck bad) s)

/-! ### The PUF root (R339–R341) -/

/-- The lineage root takes force (R342, R354). -/
def applyLineage (n : Nat) (s : State) : State :=
  setN Obj.NTS_LINEAGE_ID (((slotOf s n).map (·.keyId)).getD 0 % 65536 : Nat) (setKeys (fun k => { k with lineage := n }) s)

/-- The derived slots ("Slot allocation"). -/
def derivedSlots : List KeySlot :=
  [{ makeSlot 0 4 0x60 3 false true (Config.rootKey 0) [] with derived := true },
   { makeSlot 1 8 0x02 3 false true (Config.rootKey 1) [] with derived := true },
   { makeSlot 3 8 0x08 3 false true (Config.rootKey 3) [] with derived := true }]

/-- The keys of the start: derived slots, the mesh seed, the key of the Louvre hash, the lineage (R341, R348, R354). -/
def deriveKeys (s : State) : State :=
  let s1 := derivedSlots.foldl (fun a k => putSlot k a) (setKeys (fun k => { k with ram := true, drbgReseed := s.now }) s)
  let m := draw s1
  let c := draw m.2
  let h := draw c.2
  let s2 := setKeys (fun k => { k with meshSeed := m.1, keepCheck := c.1 }) { h.2 with ntp := { h.2.ntp with hashKey := h.1 } }
  let s3 := setB Obj.IDENTITY_PUBLIC (Config.publicPoint (Config.rootKey 0)) s2
  applyLineage (if getN s3 Obj.PAIR_BOND_STATE = 2 ∧ (slotOf s3 2).isSome then 2 else 1) s3

/-- Milestone 3 (R339, R340, R346, R352). -/
def pufRegenerate (attempts : Nat) (ok : Bool) (ber : Nat) (bad : List Nat) (s : State) : State :=
  if getN s Obj.START_MILESTONE ≠ 2 then s
  else if s.keys.helper = false then goAbsent .decommissioned s
  else
    let s1 := setN Obj.PUF_ATTEMPTS (min 3 (max 1 attempts) : Nat) s
    if ok = false then report 0x0300 4 {} (setN Obj.PUF_ATTEMPTS 3 s1)
    else
      let s2 := setN Obj.PUF_BER ber s1
      let s3 := if 1500 < ber then report 0x0300 1 {} s2 else s2
      let s4 := slotCheck (bad.filter (fun n => n ≠ 0 && n ≠ 1 && n ≠ 3)) (deriveKeys s3)
      if up s4 then complete 3 s4 else s4

def execPufRegenerate (attempts : Nat) (ok : Bool) (ber : Nat) (bad : List Nat) (s : State) : Host.Outcome State Fault Refusal :=
  finish (ifUp (pufRegenerate attempts ok ber bad) s)

/-! ### The DRBG (R348) -/

/-- A reseed falls due after a second or 65,536 requests; a failed health test restarts the DRBG. -/
def drbgReseed (failed : Nat) (s : State) : State :=
  if drbgDown s then s
  else if failed ≠ 0 then report 0x0500 2 { detail := failed } s
  else if s.keys.drbgReseed + sT ≤ s.now ∨ 65536 ≤ s.keys.drbgRequests then
    setKeys (fun k => { k with drbgRequests := 0, drbgReseed := s.now }) s
  else s

def execDrbgReseed (failed : Nat) (s : State) : Host.Outcome State Fault Refusal := finish (ifUp (drbgReseed failed) s)

/-- A unit's restart is over: LIVE of the sources that began it returns to 0 (R464). -/
def endRestart (unit : Nat) (s : State) : State :=
  let mine := s.restarts.filter (fun r => r.unit = unit)
  mine.foldl (fun a r => setLive r.source false a) { s with restarts := s.restarts.filter (fun r => r.unit ≠ unit) }

/-- The restart completes; the first read or attempt after it draws a fresh `LC_CHALLENGE`. -/
def drbgDone (s : State) : State :=
  if drbgDown s then
    endRestart 0x0500 (setN Obj.DRBG_STATE 0
      (setKeys (fun k => { k with drbgRestart := none, drbgRequests := 0, drbgReseed := s.now, challenge := none }) s))
  else s

def execDrbgRestartDone (s : State) : Host.Outcome State Fault Refusal := finish (ifUp drbgDone s)

/-! ### The life cycle (R350–R353) -/

/-- `LC_CHALLENGE` takes a fresh value from the DRBG; while it restarts, the value stays (R348, R350). -/
def freshChallenge (s : State) : State :=
  if drbgDown s then s else let r := draw s; setKeys (fun k => { k with challenge := some (r.1 % 4294967296) }) r.2

/-- The value that a read of `LC_CHALLENGE` returns, drawn where none stands. -/
def readChallenge (s : State) : State := if s.keys.challenge.isNone then freshChallenge s else s

/-- "Transitions and zeroization". -/
def lcAllowed (a b : Nat) : Bool := (a = 1 && b = 2) || (a = 2 && b = 1) || ((a = 1 || a = 2) && b = 3)

/-- A VALID owner-capable credential bound to DEPLOYED exists. -/
def deployable (s : State) : Bool :=
  s.keys.slots.any (fun k => k.typ = 6 && !k.bad && k.bindD && decide (getN s (Obj.CRED_ROLE k.id) = 1))

def lcStatus (s : State) (b : List Byte) : Nat :=
  let target := fieldU b 0 1
  if lcAllowed (getNat s Obj.LC_STATE) target = false ∨ fieldU b 1 3 ≠ 0 then stRange
  else if drbgDown s then stBusy
  else if s.keys.challenge ≠ some (fieldU b 4 4) then stAccessDenied
  else if target = 2 ∧ deployable s = false then stConflict
  else stOk

def ruleLcTransition (sess : Nat) : Rule :=
  { chk := fun s v => (lcStatus s v.bytes, [])
    eff := fun v s => freshChallenge (setKeys (fun k => { k with lcPending := some (fieldU v.bytes 0 1, sess) }) s)
    refused := fun _ s => freshChallenge s }

def execLcTransition (q : Req) (s : State) : Host.Outcome State Fault Refusal :=
  finish (ifUp (ownerCommand q Obj.LC_TRANSITION (ruleLcTransition q.sess)) s)

/-- Slots that a transition zeroizes (R351). -/
def lcZeroized (s : State) (target : Nat) : List Nat :=
  slotsWhere s (fun k => decide (k.id = 2) || (if target = 2 then !k.bindD else if target = 1 then !k.bindP else true))

/-- The TAP is held in reset: no test instruction stays selected (R351, R353, R426). -/
def tapReset (s : State) : State :=
  setN Obj.REMAP_BIT (if milestone s 5 then 1 else 0) (setKeys (fun k => { k with jtagTest := false }) s)

/-- An accepted transition takes effect at the epoch boundary (R351, R356). -/
def lcApply (s : State) : State :=
  match s.keys.lcPending with
  | none => s
  | some (target, sess) =>
    let l := lcZeroized s target
    let old := getNat s Obj.LC_STATE
    let s1 := setKeys (fun k => { k with lcPending := none }) s
    let s2 := zeroizeAll l s1
    let s3 := if l.contains 2 then
        setKeys (fun k => { k with lineageRevert := true }) (setJ Obj.PAIR_BOND_STATE 0 (setN Obj.PAIR_BOND_CAUSE 0 s2))
      else s2
    let s4 := journal { kind := 5, origin := .session sess, key := Obj.LC_STATE, old := be 1 old,
                        new := be 1 target ++ l.map (fun n => BitVec.ofNat 8 n) } (setN Obj.LC_STATE target s3)
    let s5 := closeUnusable (if target = 2 ∧ s.keys.jtagTest then tapReset s4 else s4)
    if target = 3 then goAbsent .decommissioned (setKeys (fun k => { k with helper := false, ram := false }) s5) else s5

/-- The first TCK edge in PROVISIONED after a start is a C0 event (R353). -/
def firstTck (s : State) : State :=
  if s.keys.tckSeen ∨ getN s Obj.LC_STATE ≠ 1 then s
  else journal { kind := 7, key := Obj.FAULT_RECORD, new := be 2 0x0400 } (raise 0x0400 0 {} (setKeys (fun k => { k with tckSeen := true }) s))

def execJtagFirstTck (s : State) : Host.Outcome State Fault Refusal := finish (ifUp firstTck s)

/-- The TAP works only in BLANK and PROVISIONED; a test instruction forces `REMAP_BIT` to 0 (R353, R426). -/
def jtagTest (selected : Bool) (s : State) : State :=
  if 1 < getN s Obj.LC_STATE then s
  else setN Obj.REMAP_BIT (if selected = false ∧ milestone s 5 then 1 else 0) (setKeys (fun k => { k with jtagTest := selected }) s)

def execJtagTestInstruction (selected : Bool) (s : State) : Host.Outcome State Fault Refusal := finish (ifUp (jtagTest selected) s)

/-! ### Pair bonding (R354–R356) -/

/-- A bonding frame of this module on the Hinge: 1 certificate, 2 ephemeral key. -/
def sendBond (kind : Nat) (s : State) : State := emit (.hinge (0x80 + kind) (if kind = 1 then getB s Obj.DEVICE_CERT else [])) s

/-- The first 8 bytes of the SHA-384 digest of a certificate. -/
def certDigest (b : List Byte) : List Byte := (be 48 (Config.sha384 b)).take 8

def rulePairBond : Rule :=
  { chk := fun s _ => if drbgDown s then (stBusy, []) else if (slotOf s 2).any (fun k => !k.bad) then (stConflict, []) else (stOk, [])
    eff := fun _ s => sendBond 1 (setJ Obj.PAIR_BOND_STATE 1 (setN Obj.PAIR_BOND_CAUSE 0
      (setKeys (fun k => { k with bond := some { began := s.now } }) (draw s).2)))
    refused := fun _ s => if drbgDown s then starved s else s }

def execPairBond (q : Req) (s : State) : Host.Outcome State Fault Refusal :=
  finish (ifUp (ownerCommand q Obj.PAIR_BOND rulePairBond) s)

/-- Bonding fails; nothing is stored (R355). -/
def bondFail (cause : Nat) (s : State) : State :=
  setN Obj.PAIR_BOND_CAUSE cause (setJ Obj.PAIR_BOND_STATE 3 (setKeys (fun k => { k with bond := none }) s))

/-- The peer's certificate arrives: chain and digest, then the life-cycle states (R354, R355). -/
def bondCert (x : BondExchange) (chainOk : Bool) (digest : List Byte) (lc : Nat) (s : State) : State :=
  if chainOk = false ∨ digest ≠ getB s Obj.PAIR_PEER_FP then bondFail 2 s
  else if lc ≠ getNat s Obj.LC_STATE then bondFail 4 s
  else sendBond 2 (setKeys (fun k => { k with bond := some { x with certOk := true } }) s)

/-- The peer's ephemeral key arrives: the pair secret is formed and stored (R354). -/
def bondKey (x : BondExchange) (sigOk : Bool) (shared : Nat) (s : State) : State :=
  if x.certOk = false then s
  else if sigOk = false then bondFail 3 s
  else
    let own := certDigest (getB s Obj.DEVICE_CERT)
    let peer := getB s Obj.PAIR_PEER_FP
    let ctx := if ofBe own ≤ ofBe peer then own ++ peer else peer ++ own
    let secret := Config.kdf shared (label [0x46, 0x4E, 0x50, 0x41, 0x49, 0x52]) ctx
    let bind := if getN s Obj.LC_STATE = 1 then 1 else 2
    putSlot (makeSlot 2 7 0x22 bind false false secret [])
      (setKeys (fun k => { k with bond := some { x with keyOk := true, secret := secret, applyFrom := some (addMts s.ts.mts sec48) } }) s)

/-- The peer has not written `PAIR_BOND` within 60 s. -/
def bondTimeout (s : State) : State :=
  match s.keys.bond with
  | some x => if x.keyOk = false ∧ x.began + 60 * sT ≤ s.now then bondFail 1 s else s
  | none => s

def execPairBondTimeout (s : State) : Host.Outcome State Fault Refusal := finish (ifUp bondTimeout s)

/-- The new lineage applies at the first epoch boundary at least 1 s after completion (R354). -/
def lineageApply (s : State) : State :=
  match s.keys.bond with
  | some x =>
    match x.applyFrom with
    | some t =>
      if (t + ms48 - 1) / ms48 * ms48 ≤ s.ts.mts then
        applyLineage 2 (setJ Obj.PAIR_BOND_STATE 2 (setKeys (fun k => { k with bond := none }) s))
      else s
    | none => s
  | none => s

def execPairLineageApply (s : State) : Host.Outcome State Fault Refusal :=
  finish (ifUp (fun a => if atBoundary a then lineageApply a else a) s)

/-- R355: slot 2 is zeroized, and the lineage reverts at the next epoch boundary. -/
def rulePairUnbond : Rule :=
  { eff := fun _ s => setJ Obj.PAIR_BOND_STATE 0 (setN Obj.PAIR_BOND_CAUSE 0
      (zeroize 2 (setKeys (fun k => { k with bond := none, lineageRevert := true }) s))) }

def execPairUnbond (q : Req) (s : State) : Host.Outcome State Fault Refusal :=
  finish (ifUp (ownerCommand q Obj.PAIR_UNBOND rulePairUnbond) s)

/-- The lineage reverts to slot 1 at an epoch boundary (R355, R356). -/
def lineageRevert (s : State) : State :=
  if s.keys.lineageRevert then applyLineage 1 (setKeys (fun k => { k with lineageRevert := false }) s) else s

end Sys2Proof.Machine
end

