-- ==== Sys2Proof/Machine/Tamper.lean ====
section
/-! DEFINITION. Machine/Tamper.lean: the tamper monitor of the KEEP island (R357–R364, R489). -/
namespace Sys2Proof.Machine

def setTamper (f : Tamper → Tamper) (s : State) : State := { s with tamper := f s.tamper }

/-- The 16 bytes of a record ("Tamper record"). -/
def tamperBytes (r : TamperRec) : List Byte :=
  be 2 r.seq ++ be 1 r.source ++ be 1 r.context ++ be 1 r.action ++ be 1 r.aborted ++ be 1 r.flags ++ be 1 0 ++
    be 6 r.keepCount ++ be 2 0

/-- `TAMPER_RECORDS`: latched records, oldest first. -/
def tamperRecords (s : State) : List Byte := s.tamper.records.flatMap tamperBytes

/-- SEQ of the latest record with ACTION HOLD. -/
def latestHold (s : State) : Option Nat := (s.tamper.records.reverse.find? (fun r => r.action = 2)).map (·.seq)

/-- A keep count as an instant of MTS through the keep record (R64, R358), in 2⁻¹⁶ ns. -/
def keepToMts (s : State) (count : Nat) : Option Nat :=
  match keepRecord s with
  | some r =>
    if s.keep.afresh ∨ count < r.keepCount then none
    else
      let d := (count - r.keepCount) * 30517578125 * ns48 * ten 12 / (ten 6 * ((ten 12 : Int) + getN s Obj.KEEP_FREQ_LEARNED).toNat)
      some (t96Of (addMts r.mts d))
  | none => none

/-- The journal writer journals each record once; all but the latest HOLD record leave the latch (R358). -/
def journalRecords (s : State) : State :=
  let s1 := (s.tamper.records.filter (fun r => !r.journalled)).foldl (fun a r =>
    journal { kind := 9, key := Obj.TAMPER_RECORDS, new := tamperBytes r
              time := if r.context = 0 then none else keepToMts a r.keepCount } a) s
  let h := latestHold s
  setTamper (fun t => { t with records :=
    (t.records.map (fun r => { r with journalled := true })).filter (fun r => some r.seq = h) }) s1

/-- Latch a record (R358). -/
def latchRecord (src context action aborted flags : Nat) (s : State) : State :=
  if 16 ≤ s.tamper.records.length then bump Obj.TAMPER_OVERFLOW s
  else
    let r : TamperRec :=
      { seq := s.tamper.nextSeq, source := src, context := context, action := action, aborted := aborted, flags := flags,
        keepCount := s.keep.count }
    let s1 := setTamper (fun t => { t with records := t.records ++ [r], nextSeq := (t.nextSeq + 1) % 65536 }) s
    if context = 0 then journalRecords s1 else s1

/-- Slot whose key a crypto operation in progress uses. -/
def opSlot (s : State) (o : CryptoOp) : Nat :=
  match o.kind with
  | .cookie _ | .verify _ => s.keys.lineage
  | .sealSlot p n =>
    match (port s p).slots.find? (fun q => q.num = n) with
    | some q => (match q.sf.sa with | some a => getNat s (Obj.SA_KEY_SLOT a) | none => s.keys.lineage)
    | none => s.keys.lineage

/-- An enabled source alarms (R357, R360–R364). Context 0 in service, 1 start-up, 2 keep mode. -/
def tamperTake (src context : Nat) (s : State) : State :=
  let act := getNat s (Obj.TAMPER_ACTION src)
  let used := s.crypto.ops.map (opSlot s)
  let aborted := used.foldl min 0xFF
  let zot := used.filter (fun n => (slotOf s n).any (fun k => k.zot))
  let s1 := zeroizeAll zot (restartCrypto s)
  let keepZ : Bool := (decide (context = 0) && decide (1 ≤ act)) || decide (context = 2)
  let s2 := if keepZ then zeroizeAll (keepSlots s1) s1 else s1
  let hold : Bool := decide (context = 1) || (decide (context = 0) && decide (act = 2))
  let ramZ : Bool := decide (context = 0) && decide (act = 2)
  let action := if context = 1 then 2 else if context = 2 then (if act = 2 then 2 else 1) else act
  let flags := (if zot.contains aborted then 1 else 0) + (if keepZ then 2 else 0) + (if ramZ then 4 else 0)
  let s3 := latchRecord src context action aborted flags (setLive (0x0200 + src) true (report (0x0200 + src) 1 {} s2))
  let s4 := if context = 2 ∧ act = 2 then setTamper (fun t => { t with keepHold := true }) s3 else s3
  if hold then
    goAbsent .tamperHold (setN Obj.TAMPER_STATE 2 { s4 with nor := { s4.nor with holdMarker := true } })
  else s4

/-- Context of an alarm (R360–R362); `none` where no rule gives an action. -/
def tamperContext (s : State) : Option Nat :=
  match s.mode with
  | .running => some (if milestone s 6 then 0 else 1)
  | .recovery => some 1
  | .unpowered | .pastS4 => some 2
  | _ => none

/-- KEEP_VOLT watches once it is armed (R489). -/
def tamperWatches (s : State) (src : Nat) : Bool :=
  (getNat s Obj.TAMPER_ENABLE).testBit src && (decide (src ≠ 5) || s.keep.voltArmed)

def tamperAlarm (src keep : Nat) (s0 : State) : State :=
  let s := setN (Obj.TAMPER_LIVE src) 1 (keepAdvance keep s0)
  if getN s0 (Obj.TAMPER_LIVE src) = 1 then s
  else
    let s1 := bump (Obj.TAMPER_EVENTS src) s
    match tamperContext s1 with
    | some c => if tamperWatches s1 src then tamperTake src c s1 else s1
    | none => s1

def execTamperAlarm (src : Fin 8) (keep : Nat) (s : State) : Host.Outcome State Fault Refusal := finish (tamperAlarm src.val keep s)

/-- A source leaves its alarm level (R464). -/
def execTamperAlarmEnd (src : Fin 8) (s : State) : Host.Outcome State Fault Refusal :=
  finish (setLive (0x0200 + src.val) false (setN (Obj.TAMPER_LIVE src.val) 0 s))

/-- At a start, a source already at its alarm level is a start-up alarm (R361); else a hold marker leads to TAMPER_REVIEW (R363). -/
def tamperStart (s : State) : State :=
  match (List.range 8).find? (fun n => tamperWatches s n && decide (getN s (Obj.TAMPER_LIVE n) = 1)) with
  | some n => tamperTake n 1 s
  | none => if s.nor.holdMarker ∨ s.tamper.keepHold then setN Obj.TAMPER_STATE 1 s else s

/-- `TAMPER_ACK` equal to SEQ of the latest HOLD record erases the marker and lets service open (R363). -/
def ruleTamperAck : Rule :=
  { chk := fun s v => if latestHold s = some v.nat then (stOk, []) else (stRange, [])
    eff := fun v s => setN Obj.TAMPER_STATE 0
      (setTamper (fun t => { t with keepHold := false, records := t.records.filter (fun r => r.seq ≠ v.nat) })
        { s with nor := { s.nor with holdMarker := false } }) }

def execTamperAck (q : Req) (s : State) : Host.Outcome State Fault Refusal :=
  finish (ifUp (ownerCommand q Obj.TAMPER_ACK ruleTamperAck) s)

/-- In DEPLOYED only writes that strengthen a source are accepted (R359). -/
def ruleTamper (k : Nat) (bad : Int → Bool) : Rule :=
  { chk := fun s v => if bad v.int then (stRange, []) else if tamperWeaker s k v.nat then (stLifecycle, []) else (stOk, []) }

def ruleTamperEnable : Rule := ruleTamper Obj.TAMPER_ENABLE (fun _ => false)
/-- Bits above 3 are reserved (R400). -/
def ruleTamperPolarity : Rule := ruleTamper Obj.TAMPER_POLARITY (fun v => decide (15 < v))
def ruleTamperDebounce : Rule := ruleTamper Obj.TAMPER_DEBOUNCE (fun _ => false)
def ruleTamperAction (n : Nat) : Rule := ruleTamper (Obj.TAMPER_ACTION n) (fun _ => false)

/-- The KEEP island arms KEEP_VOLT 10 ms after it powers up afresh (R489). -/
def keepArm (s : State) : State :=
  if s.keep.voltArmed ∨ (up s ∧ s.now < s.keep.poweredAt + 10 * msT) then s
  else
    let s1 := { s with keep := { s.keep with voltArmed := true } }
    if getN s1 (Obj.TAMPER_LIVE 5) = 1 ∧ tamperWatches s1 5 then
      match tamperContext s1 with
      | some c => tamperTake 5 c s1
      | none => s1
    else s1

def execKeepVoltArm (s : State) : Host.Outcome State Fault Refusal := finish (keepArm s)

/-- VKEEP and VIN are lost together: the keep counter, the record, slots 248–255 with their attributes, the latched records and sticky
bits are lost (R371, R489). -/
def keepLost (s : State) : State :=
  if s.mode ≠ .unpowered ∧ s.mode ≠ .pastS4 then s
  else
    let s1 := zeroizeAll (keepSlots s) s
    setN Obj.KEEP_VALID 0 (setN Obj.KEEP_COUNT 0 { s1 with keep := {}, tamper := {} })

def execVkeepLoss (s : State) : Host.Outcome State Fault Refusal := finish (keepLost s)

/-- `TAMPER_STICKY`. -/
def tamperSticky (s : State) : Nat :=
  ((List.range 8).filter (fun n => stickyBit s (0x0200 + n))).foldl (fun a n => a + 2 ^ n) 0

end Sys2Proof.Machine
end

