-- ==== Sys2Proof/Machine/Power.lean ====
section
/-! DEFINITION. Machine/Power.lean: supplies, reset, start-up and shutters (R487–R502), resumption (R64, R65), and the closing of ports
(R229, R499). -/
namespace Sys2Proof.Machine

def setPower (f : Power → Power) (s : State) : State := { s with power := f s.power }

/-! ### A start -/

/-- Number objects that outlive a start: NOR, the KEEP island and the slots' own (R63, R330, R342, R351, R371, R510). -/
def outlives (k : Nat) : Bool :=
  let i := k / 256
  let sub := k % 256
  decide (k = Obj.LC_STATE ∨ k = Obj.NTS_EPOCH ∨ k = Obj.NTS_NEXT_ROTATE ∨ k = Obj.KEEP_FREQ_LEARNED ∨ k = Obj.KEEP_COUNT ∨
    k = Obj.KEEP_VALID ∨ k = Obj.UPD_ACTIVE_BANK ∨ i = 0x9420 ∨ i = 0x9421 ∨ k = Obj.PAIR_BOND_STATE ∨
    k = Obj.TAMPER_ENABLE ∨ k = Obj.TAMPER_POLARITY ∨ k = Obj.TAMPER_DEBOUNCE ∨ (0x7011 ≤ i ∧ i < 0x7019 ∧ sub ≤ 2) ∨
    (0x7100 ≤ i ∧ i < 0x7200 ∧ sub ≤ 3) ∨ (0x9D10 ≤ i ∧ i < 0x9E00))

def outlivesB (k : Nat) : Bool :=
  let i := k / 256
  decide (i = 0x9420 ∨ i = 0x9421 ∨ (0x7100 ≤ i ∧ i < 0x7200))

/-- What the journal continues from: the last entry of the NOR tail (R396). -/
def norJournal (s : State) : Journal :=
  match s.journal.tail with
  | [] => {}
  | e :: _ => { tail := s.journal.tail, next := e.seq + 1, chain := e.chain, epoch := e.epoch, disclosed := e.epoch, oldest := e.seq + 1 }

/-- The module starts: everything but NOR, the KEEP island, the production values and the world outside is as at reset. DRAM and the
schedule of an activation are gone; each start during a trial counts (R424, R513, R516). -/
def startUp (cause : Nat) (s : State) : State :=
  let fresh : State := { variant := s.variant, pending := s.pending }
  let s1 : State :=
    { fresh with
      nums := s.nums.filter (fun p => outlives p.1)
      blobs := s.blobs.filter (fun p => outlivesB p.1)
      mode := .running, freeCtr := s.freeCtr, out := s.out
      keep := { s.keep with poweredAt := if s.keep.afresh then 0 else s.keep.poweredAt, tick := 0, written := [] }
      keys := { slots := s.keys.slots.filter (fun k => !k.derived), helper := s.keys.helper, lineage := s.keys.lineage }
      tamper := s.tamper, nor := s.nor
      journal := norJournal s
      mem := { remap := s.mem.remap }
      hinge := { activeIn := s.hinge.activeIn, peerPin := s.hinge.peerPin }
      update := { banks := s.update.banks, trial := s.update.trial.map (fun t => { t with since := 0, coreRaises := 0, starts := t.starts + 1 }) }
      power := { vinPresent := true, resetLow := s.power.resetLow, ddrOn := true } }
  let s2 := s1 |> setN Obj.START_CAUSE cause |> setN (Obj.APLL_STATE 0) 2 |> complete 1 |> complete 2
  let s3 := if getN s2 Obj.PAIR_BOND_STATE = 2 then s2 else setN Obj.PAIR_BOND_STATE 0 s2
  let s4 := if (s3.update.trial.map (·.starts)).getD 0 < 3 then s3 else trialFail s3
  let s5 := if s4.update.trial.isSome then setN Obj.UPD_STATE 5 (setN Obj.UPD_TRIAL_LEFT (getN s4 Obj.UPD_TRIAL) s4) else s4
  tamperStart s5

/-- VIN has held at or above 6.0 V for 10 ms with RESET_N high (R487, "Start-up"). -/
def vinValid (vin keep : Nat) (s : State) : State :=
  if vin < 6000 ∨ 40000 < vin ∨ s.power.resetLow ∨ (s.mode ≠ .unpowered ∧ s.mode ≠ .pastS4) then s
  else setN Obj.VIN_NOW (min vin 65535 : Nat) (startUp 0 (keepAdvance keep s))

def execVinValid (vin keep : Nat) (s : State) : Host.Outcome State Fault Refusal := finish (vinValid vin keep s)

/-- RESET_N is recognised (R492, R493). -/
def resetAssert (ns : Nat) (taken : Bool) (s : State) : State :=
  if ns < 500 ∨ (ns < 1000 ∧ taken = false) then s
  else
    let s1 := setPower (fun p => { p with resetLow := true }) s
    if s.mode = .running then goAbsent .resetHeld (finalKeep s1)
    else if s.mode = .recovery then goAbsent .resetHeld s1
    else s1

def execResetAssert (ns : Nat) (taken : Bool) (s : State) : Host.Outcome State Fault Refusal := finish (resetAssert ns taken s)

/-- RESET_N rises: start-up resumes at milestone 2, and the previous run counts as unclean (R492). -/
def resetRelease (keep : Nat) (s : State) : State :=
  let s1 := setPower (fun p => { p with resetLow := false }) s
  if s.mode = .resetHeld then
    startUp 1 { keepAdvance keep s1 with nor := { s1.nor with cleanStop := false } }
  else s1

def execResetRelease (keep : Nat) (s : State) : Host.Outcome State Fault Refusal := finish (resetRelease keep s)

/-- VIN above 41 V for 20 µs (R488): no final keep record. -/
def overVoltageStop (vin : Nat) (s : State) : State :=
  if vin ≤ 41000 ∨ (s.mode ≠ .running ∧ s.mode ≠ .resetHeld ∧ s.mode ≠ .recovery) then s
  else goAbsent .overVoltage (report 0x0100 1 {} (setN Obj.VIN_NOW (min vin 65535 : Nat) s))

def execOvervoltageStop (vin : Nat) (s : State) : Host.Outcome State Fault Refusal := finish (overVoltageStop vin s)

/-- VIN has stayed within 6.0 to 40 V for 1 s (R488). -/
def overVoltageRestart (vin keep : Nat) (s : State) : State :=
  if s.mode ≠ .overVoltage ∨ vin < 6000 ∨ 40000 < vin ∨ s.power.resetLow then s
  else setN Obj.VIN_NOW vin (startUp 0 { keepAdvance keep s with nor := { s.nor with cleanStop := false } })

def execOvervoltageRestart (vin keep : Nat) (s : State) : Host.Outcome State Fault Refusal := finish (overVoltageRestart vin keep s)

/-- A rail out of regulation for 5 µs ("Supply monitor sources", R491). -/
def railFault (rail mv : Nat) (s : State) : State :=
  let cls := if rail = 1 then 1 else if rail = 5 then 2 else 4
  if rail = 0 ∨ (rail = 5 ∧ hasGnss s.variant = false) then s
  else report (0x0100 + rail) cls {} (setN (Obj.RAIL_MV rail) (min mv 65535 : Nat) s)

def execRailFault (rail : Fin 8) (mv : Nat) (s : State) : Host.Outcome State Fault Refusal := finish (ifUp (railFault rail.val mv) s)

/-- VIN below 4.0 V stops the power stage at once, without a final keep record (R494). -/
def powerStop (vin : Nat) (s : State) : State :=
  if 4000 ≤ vin then s
  else setPower (fun p => { p with vinPresent := false, ddrOn := false, closed := 0 })
    (setN Obj.VIN_NOW vin (goAbsent .unpowered s))

def execPowerStageStop (vin : Nat) (s : State) : Host.Outcome State Fault Refusal := finish (powerStop vin s)

/-! ### Milestone 7 (R64, R65, R497) -/

/-- The time scale from the keep record: the gap in 2⁻⁴⁸ ns, or the cause of the failure (R64, R65). -/
def resume (s : State) : State :=
  let fail (cause : Nat) : State := setN Obj.RESUME_RESULT cause (makeUnbounded s)
  if s.keep.afresh then fail 1
  else match keepRecord s with
    | none => fail 2
    | some r =>
      if s.keep.count < r.keepCount then fail 2
      else
        let dt := divFree (((s.keep.count - r.keepCount) * 30517578125 * ns48 * ten 12 : Nat) : Int)
          (ten 6 * ((ten 12 : Int) + getN s Obj.KEEP_FREQ_LEARNED).toNat) s
        let d := dt.1.toNat
        let grow := cdiv (getNat s Obj.KEEP_FREQ_UNC * d * 1000) (ten 9 * ns48) + 20000
        let m := addHalf (boundM r.bound) grow
        let p := addHalf (boundP r.bound) grow
        let gap := setN Obj.RESUME_GAP (d / ns48 : Nat) dt.2
        if boundFinite r.bound = false ∨ m = halfUnb ∨ p = halfUnb then setN Obj.RESUME_RESULT 3 (makeUnbounded gap)
        else
          let t := addMts r.mts d
          let s1 := { gap with ts := { gap.ts with mts := t, shadow := t, lastEpoch := t / ms48 } }
          let s2 := { s1 with bound :=
            { s1.bound with
              cur := { m := m * 4294967296, p := p * 4294967296, mU := false, pU := false }
              anchorRun := s1.ts.run, lastRun := s1.ts.run, anchorAt := t
              tXo := s1.sensors.xo, tDie := s1.sensors.die, steer := 0, steerAnchor := 0 } }
          let s3 := s2 |> setN Obj.RESUME_RESULT 0 |> setN Obj.BOUND_ANCHOR_REF 0xFE |> setN Obj.BOUND_ANCHOR_AT (t96Of t)
            |> setN Obj.CURRENT_UTC_OFFSET r.utcOffset |> setN Obj.LEAP_PENDING r.leapPending |> setN Obj.LEAP_INSTANT r.leapInstant
          publishBound (leapReached (enterTs 3 s3))

/-- A port whose calibration table fails its checks (R212). -/
def calCheck (s : State) : State :=
  (List.range (nPorts s.variant)).foldl (fun a p =>
    if portCalOk a p then a else report (portFault p) 1 {} (setN (Obj.PORT_CAL_STATE p) 1 a)) s

/-- The starts of milestone 7: the Hinge, MGMT, ports that have a mode, GNSS, crypto lanes (R497, R502). -/
def queueStarts (s : State) : State :=
  let s1 := queueStart 1 (queueStart 0 s)
  let s2 := (List.range (nPorts s.variant)).foldl (fun a p => if getN a (Obj.PORT_MODE p) = 0 then a else queueStart (2 + p) a) s1
  let s3 := if hasGnss s.variant then queueStart 20 s2 else s2
  (List.range (aesLanes s.variant)).foldl (fun a n => queueStart (30 + n) a) s3

def refreshInsts (s : State) : State := (List.range 4).foldl (fun a k => refreshInst k a) s

def timeResume (keep : Nat) (s0 : State) : State :=
  if getN s0 Obj.START_MILESTONE ≠ 6 then s0
  else
    let s := keepAdvance keep s0
    let s1 := resume s
    let s2 := { s1 with
      keep := { s1.keep with afresh := false }, hinge := { s1.hinge with settled := s1.now }
      ts := { s1.ts with keepMark := (s1.keep.count, s1.ts.run), keepLearnTick := s1.now } }
    let s3 := if getN s2 Obj.PAIR_ENABLE = 1 then setJ Obj.PAIR_ROLE 1 (setN Obj.PAIR_ROLE_SINCE (mts96 s2) s2) else s2
    startSd (refreshInsts (evalClks (complete 7 (queueStarts (calCheck s3)))))

def execTimeResume (keep : Nat) (s : State) : Host.Outcome State Fault Refusal := finish (ifUp (timeResume keep) s)

/-! ### Opening service (R496) -/

/-- `INST_SERVE_EARLY` of an enabled instance, or `NTP_SERVE_EARLY`. -/
def serveEarly (s : State) : Bool :=
  decide (getN s Obj.NTP_SERVE_EARLY = 1) ||
    (List.range 4).any (fun k => decide (getN s (Obj.INST_ENABLE k) = 1) && decide (getN s (Obj.INST_SERVE_EARLY k) = 1))

def serviceOpen (s : State) : State :=
  if milestone s 7 = false ∨ milestone s 9 ∨ getN s Obj.TAMPER_STATE ≠ 0 ∨ atBoundary s = false then s
  else if getN s Obj.BOUND_GRADE ≤ 2 ∨ serveEarly s then refreshInsts (complete 9 s)
  else s

def execServiceOpen (s : State) : Host.Outcome State Fault Refusal := finish (ifUp serviceOpen s)

/-- The first reference QUALIFIED completes milestone 8 (R496). -/
def noteQualified (s : State) : State :=
  if milestone s 7 = false ∨ s.power.milestones.any (fun m => m.1 = 8) then s
  else if (List.range 30).any (fun r => refGood s r) then complete 8 s
  else s

/-- `MILESTONE_TIMES` in µs. -/
def milestoneTimes (s : State) : List Byte :=
  (List.range 9).flatMap (fun i =>
    match s.power.milestones.find? (fun m => m.1 = i + 1) with
    | some m => be 4 (m.2 / usT)
    | none => be 4 0xFFFFFFFF)

/-! ### Closing of ports (R229, R499) -/

/-- A port closes: the engines' sessions on it and the Transom sessions that run on it (R229, R311, R374). -/
def portGone (p : Nat) (s : State) : State :=
  let s1 := closePort p s
  let s2 := if p < 16 then ptpClosed p s1 else s1
  let s3 := if p < 16 then setRef (14 + p) (fun x => { x with shut := true }) s2 else s2
  closeSessions 5 (fun x => decide (x.state ≠ 0) && (if p = 16 then decide (x.iface = 1) else decide (x.iface = 2 ∧ x.port = p))) s3

def execPortClose (p : Fin 17) (s : State) : Host.Outcome State Fault Refusal :=
  finish (ifUp (fun t => if closeDue t p.val then portGone p.val t else t) s)

/-- The close order for a port: PTP's last messages go out within the notice (R311, R499). -/
def orderClose (stage p : Nat) (s : State) : State :=
  if (port s p).shut ∨ s.power.notices.any (fun n => n.port = p) then s
  else
    let s1 := setPower (fun w => { w with notices := w.notices ++ [{ port := p, ordered := s.now, stage := stage }] }) s
    let s2 := dropStart (if p = 16 then 1 else 2 + p) s1
    if p < 16 then ptpFarewell p s2 else s2

/-! ### Shutters (R498–R501) -/

/-- Source 0x3400 at C0 and the journal entry of a close or reopening (R498). -/
def shutterEvent (detail : Nat) (s : State) : State :=
  journal { kind := 7, key := Obj.SHUTTER_STAGE, new := be 1 (getNat s Obj.SHUTTER_STAGE) ++ be 1 (getNat s Obj.SHUTTER_CAUSE) }
    (raise 0x3400 0 { detail := detail } s)

def dataPorts (s : State) : List Nat := List.range (nPorts s.variant)

/-- What the closing of a stage does ("Shutter stages"). -/
def closeStage (n : Nat) (byVolt : Bool) (s0 : State) : State :=
  let s1 := setPower (fun w => { w with closed := n }) s0
  let s2 := if n ≤ 3 then setN Obj.SHUTTER_STAGE n s1 else s1
  match n with
  | 1 =>
    let s3 := bump Obj.SHUT_S1 (setN Obj.SHUTTER_CAUSE (if byVolt then 1 else 2) s2)
    let s4 := if byVolt then s3 else bump Obj.BUDGET_TRIPS s3
    let s5 := (List.range 20).foldl (fun a i => dropStart (31 + i) a) s4
    shutterEvent 1 (abortSnap (setLanes (min 1 s5.crypto.lanes) s5))
  | 2 =>
    let mask := getNat s2 Obj.KEEP_PORTS
    let s3 := bump Obj.SHUT_S2 (setPower (fun w => { w with keepMask := mask }) s2)
    let s4 := (dataPorts s3).foldl (fun a p => if mask.testBit p then a else orderClose 2 p a) s3
    shutterEvent 2 (reallocate s4)
  | 3 =>
    let s3 := bump Obj.SHUT_S3 s2
    let s4 := orderClose 3 16 ((dataPorts s3).foldl (fun a p => orderClose 3 p a) s3)
    let s5 := setRef 8 (fun x => { x with shut := true }) (gnssStop s4)
    shutterEvent 3 (evalClks s5)
  | _ =>
    let s3 := bumpBy Obj.SHUT_NOTICE_CUT (s2.power.notices.length : Nat) s2
    let s4 := finalKeep (shutterEvent 4 s3)
    goAbsent .pastS4 { s4 with nor := { s4.nor with cleanStop := true } }

/-- The condition of a stage ("Shutter stages"). -/
def stageDue (s : State) (n vin power : Nat) : Bool :=
  match n with
  | 1 => decide (vin < 5600) || decide (getNat s Obj.POWER_BUDGET < power)
  | 2 => decide (vin < 5200)
  | 3 => decide (vin < 4800)
  | _ => decide (vin < 4400)

/-- Stages close in order, each when its condition holds (R498). -/
def shutterClose (vin power : Nat) (s0 : State) : State :=
  let s := s0 |> setN Obj.VIN_NOW (min vin 65535 : Nat) |> setN Obj.INPUT_POWER (min power 4294967295 : Nat)
  [1, 2, 3, 4].foldl (fun a n =>
    if up a && decide (a.power.closed + 1 = n) && stageDue a n vin power then closeStage n (decide (vin < 5600)) a else a) s

def execShutterClose (vin power : Nat) (s : State) : Host.Outcome State Fault Refusal := finish (ifUp (shutterClose vin power) s)

/-- A port reopens: its lane starts under admission. -/
def reopenPort (p : Nat) (s : State) : State :=
  let s1 := setN (Obj.PORT_LINK p) 0 (setPort p (fun x => { x with shut := false }) s)
  if p = 16 then queueStart 1 s1 else if getN s1 (Obj.PORT_MODE p) = 0 then s1 else queueStart (2 + p) s1

/-- What a reopening does. -/
def reopenStage (n : Nat) (s0 : State) : State :=
  let s1 := setPower (fun w => { w with closed := n - 1, reopened := s0.now }) s0
  let s2 := setN Obj.SHUTTER_STAGE (n - 1 : Nat) (if n = 1 then setN Obj.SHUTTER_CAUSE 0 s1 else s1)
  let held (p : Nat) : Bool := (port s2 p).shut
  let s3 :=
    match n with
    | 1 =>
      let a := (List.range (aesLanes s2.variant - 1)).foldl (fun a i => queueStart (31 + i) a) s2
      (List.range 3).foldl (fun a i => queueStart (41 + i) a) a
    | 2 => (dataPorts s2).foldl (fun a p => if held p then reopenPort p a else a) s2
    | _ =>
      let a := reopenPort 16 s2
      let b := (dataPorts a).foldl (fun c p => if held p ∧ a.power.keepMask.testBit p then reopenPort p c else c) a
      evalClks (if hasGnss b.variant then queueStart 20 b else b)
  shutterEvent (0x10 + n) s3

/-- The deepest closed stage reopens after its dwell of 1 s, counted from the later of its condition and the reopening of the next deeper
stage (R487, R498). -/
def shutterReopen (vin power : Nat) (s0 : State) : State :=
  let s := s0 |> setN Obj.VIN_NOW (min vin 65535 : Nat) |> setN Obj.INPUT_POWER (min power 4294967295 : Nat)
  let ok := match s.power.closed with
    | 1 => decide (5800 ≤ vin) && decide (power + getNat s Obj.POWER_HYST ≤ getNat s Obj.POWER_BUDGET)
    | 2 => decide (5400 ≤ vin)
    | 3 => decide (5000 ≤ vin)
    | _ => false
  if ok && decide (s.power.reopened = 0 ∨ s.power.reopened + sT ≤ s.now) then reopenStage s.power.closed s else s

def execShutterReopen (vin power : Nat) (s : State) : Host.Outcome State Fault Refusal := finish (ifUp (shutterReopen vin power) s)

/-- At most two present ports (R501). -/
def ruleKeepPorts : Rule :=
  { chk := fun s v =>
      let bits := (List.range 16).filter (fun p => v.nat.testBit p)
      if 2 < bits.length ∨ bits.any (fun p => decide (nPorts s.variant ≤ p)) then (stRange, []) else (stOk, []) }

def execKeepPorts (q : Req) (s : State) : Host.Outcome State Fault Refusal :=
  finish (ifUp (ownerWrite q Obj.KEEP_PORTS ruleKeepPorts) s)

/-! ### Admission of starts (R502) -/

/-- A unit starts. -/
def admitUnit (u : Nat) (s : State) : State :=
  if u = 0 then { s with hinge := { s.hinge with lane := true } }
  else if u = 1 then startLane 16 s
  else if u < 20 then startLane (u - 2) s
  else if u < 30 then setPower (fun p => { p with gnssOn := true }) s
  else if u < 40 then setLanes (s.crypto.lanes + 1) s
  else s

/-- A SerDes lane. -/
def isLane (u : Nat) : Bool := decide (u < 20)

/-- The head may start: budget, and groups of at most four lanes 200 µs apart. -/
def admissible (s : State) (r : StartReq) : Bool :=
  let recent := s.power.admitted.filter (fun a => decide (s.now < a.1 + 200 * usT))
  let lanes := recent.filter (fun a => a.2.2)
  decide (r.cost + (recent.map (fun a => a.2.1)).sum ≤ getNat s Obj.INRUSH_BUDGET) &&
    (!isLane r.unit || (decide (lanes.length < 4) && lanes.all (fun a => a.1 = s.now)))

/-- How long a start has waited enters `INRUSH_WAIT_MAX` (µs). -/
def noteWait (r : StartReq) (s : State) : State := setMax Obj.INRUSH_WAIT_MAX ((s.now - r.since) / usT : Nat) s

/-- Start as many heads as may start at this instant. -/
def admitHeads : Nat → State → State
  | 0, s => s
  | n + 1, s =>
    match s.power.queue with
    | [] => s
    | r :: q =>
      if admissible s r then
        admitHeads n (admitUnit r.unit (noteWait r (setPower (fun p =>
          { p with
            queue := q
            admitted := (s.now, r.cost, isLane r.unit) :: p.admitted.filter (fun a => decide (s.now < a.1 + 200 * usT)) }) s)))
      else s

/-- Starts that wait count once (R502). -/
def startAdmit (s : State) : State :=
  let s1 := admitHeads 64 s
  let waiting := s1.power.queue.countP (fun r => !r.counted)
  bumpBy Obj.INRUSH_QUEUED (waiting : Nat)
    (setPower (fun p => { p with queue := p.queue.map (fun r => { r with counted := true }) }) s1)

def execStartAdmit (s : State) : Host.Outcome State Fault Refusal := finish (ifUp startAdmit s)

/-- A start that waits longer than 100 ms raises source 0x3500 (R502). -/
def admitTimeout (s : State) : State :=
  let late (r : StartReq) : Bool := !r.raised && decide (r.since + 100 * msT < s.now)
  let s1 := (s.power.queue.filter late).foldl (fun a r => report 0x3500 1 { detail := (s.now - r.since) / msT } (noteWait r a)) s
  setPower (fun p => { p with queue := p.queue.map (fun r => if late r then { r with raised := true } else r) }) s1

def execStartAdmitTimeout (s : State) : Host.Outcome State Fault Refusal := finish (ifUp admitTimeout s)

end Sys2Proof.Machine
end

