-- ==== Sys2Proof/Machine/MemOps.lean ====
section
/-! DEFINITION. Machine/MemOps.lean: decode faults, regions, poisoning, remapping (R423–R441). -/
namespace Sys2Proof.Machine

/-! ### Decode faults (R429, R434) -/

/-- A DMA channel halts with a status (R430, R434). -/
def dmaHalt (d status iova : Nat) (a : Nat) (access : Nat) (s : State) : State :=
  let s1 := setDma d (fun x => { x with cur := none, next := none }) s
  let s2 := s1 |> setN (Obj.DMA_STATE d) 3 |> setN (Obj.DMA_LAST_STATUS d) status
  let s3 := if status = 3 then s2 else setN (Obj.DMA_FAULT_IOVA d) (iova : Nat) s2
  report (0x2400 + d) 1 { detail := status, master := 0x10 + d, access := access, address := a } (bump (Obj.DMA_FAULTS d) s3)

/-- The matrix does not issue an access (R429). The Pane's is a C1 fault of the Pane (R434). -/
def decodeFault (a : BusAccess) (s : State) : State :=
  let s1 := bump (Obj.MASTER_FAULTS (masterNum a.master)) (bump Obj.DECODE_FAULT s)
  if a.master = 0x24 then report 0x1B00 1 (accessInfo a 0) s1
  else report (0x2200 + a.master) (if a.master < 0x20 then 1 else 2) (accessInfo a 0) s1

/-! ### Remapping (R440) -/

/-- The memory source of an address: the channel or the macro. -/
def memSource (s : State) (a : Nat) : Option Nat :=
  match targetOf s a with
  | some (.dram o) => some (0x2100 + o / 4096 % 2)
  | some (.sram o) => some (0x2110 + o / 0x40000)
  | _ => none

/-- Page or row that an address lies in, its first entry and its number of entries. -/
def remapUnit (s : State) (a : Nat) : Option (Nat × Nat × Nat) :=
  match targetOf s a with
  | some (.dram o) => some (a / 4096 * 4096, 8 * (o / 4096 % 2), 8)
  | some (.sram o) => some (a / 64 * 64, 16 + 4 * (o / 0x40000), 4)
  | _ => none

def entryBusy (s : State) (e : Nat) : Bool := s.mem.remap.any (fun x => x.entry = e) || s.mem.copies.any (fun x => x.entry = e)

/-- A page or row goes to a spare, or stays in place where none is free. -/
def startRemap (a cause : Nat) (s : State) : State :=
  match remapUnit s a with
  | none => s
  | some (pg, first, n) =>
    if s.mem.remap.any (fun x => x.address = pg) ∨ s.mem.copies.any (fun x => x.address = pg) then s
    else
      match ((List.range n).map (first + ·)).find? (fun e => !entryBusy s e) with
      | some e => setMem (fun m => { m with copies := { entry := e, cause := cause, address := pg } :: m.copies }) s
      | none =>
        match memSource s a with
        | some c => report c 1 { address := a } (bump Obj.REMAP_EXHAUSTED s)
        | none => s

/-- Entries free, as the objects show them. -/
def showRemap (s : State) : State :=
  let d := s.mem.remap.countP (fun x => decide (x.entry < 16))
  s |> setN Obj.REMAP_FREE_DRAM ((16 - d : Nat) : Int) |> setN Obj.REMAP_FREE_SRAM ((128 - (s.mem.remap.length - d) : Nat) : Int)

def insertRemap (e : RemapEntry) : List RemapEntry → List RemapEntry
  | [] => [e]
  | x :: r => if e.entry < x.entry then e :: x :: r else x :: insertRemap e r

/-- The 144 entries of `REMAP_TABLE` ("Remap entry"). -/
def remapTable (s : State) : List Byte :=
  (List.range 144).flatMap (fun n =>
    match s.mem.remap.find? (fun x => x.entry = n) with
    | some x => be 1 n ++ be 1 1 ++ be 1 x.cause ++ be 1 0 ++ be 8 x.address ++ t96Bytes x.since
    | none => be 1 n ++ List.replicate 23 0)

/-- A correctable error of a page or row: tracked per page in a table of 32 pages per channel (R440). -/
def trackPage (a : Nat) (s : State) : State :=
  match remapUnit s a with
  | none => s
  | some (pg, first, _) =>
    let same (x : PageErr) : Bool := ((remapUnit s x.address).map (·.2.1)) = some first
    let old := (s.mem.pages.find? (fun x => x.address = pg)).getD { address := pg, count := 0 }
    let due := decide (getNat s Obj.REMAP_CE_TRIGGER ≤ old.count + 1) && !old.tried
    let rest := s.mem.pages.filter (fun x => x.address ≠ pg)
    let kept := if first < 16 then rest.filter (fun x => !same x) ++ (rest.filter same).take 31 else rest
    let s1 := setMem (fun m => { m with pages := { address := pg, count := old.count + 1, tried := old.tried || due } :: kept }) s
    if due then startRemap a 0 s1 else s1

/-! ### Region actions (R438) -/

/-- Entries of the ring with a byte in a line of 64 bytes at an offset of the ring. -/
def ringHit (o : Nat) (e : JEntry) : Bool :=
  let p := e.pos % 268435456
  let n := entryLength e
  decide (p < o + 64 ∧ o < p + n) || decide (p + n > 268435456 ∧ o < p + n - 268435456)

/-- Entries of the ring are lost, and a BREAK entry names them (R397). -/
def journalBreak (o : Nat) (s : State) : State :=
  let lost := s.journal.ring.filter (ringHit o)
  match lost, lost.getLast? with
  | x :: _, some y =>
    let chain := ((s.journal.ring.find? (fun e => e.seq = x.seq + 1)).map (·.chain)).getD 0
    let ring := s.journal.ring.filter (fun e => !ringHit o e)
    let s1 := { s with journal := { s.journal with ring := ring } }
    bump Obj.JOURNAL_BREAKS (bumpBy Obj.JOURNAL_LOST (lost.length : Nat)
      (journal { kind := 12, key := Obj.JOURNAL_ENTRIES, new := be 8 y.seq ++ be 8 x.seq ++ be 16 chain } s1))
  | _, _ => s

/-- The k-th statistics block by ascending source index (R420, R421). -/
def statSources : List Nat := ((List.range 0x9000).map (· + 0x1000)).filter (fun i => !(countersOf i).isEmpty)

/-- The action for the line at an address, and the class it is reported at. -/
def regionAction (r o : Nat) (s : State) : State :=
  match r with
  | 0 => poisonSession (o / 128) s
  | 1 =>
    let b := (o - 0x1000000) / 16
    bumpBy Obj.LOUVRE_RESETS 4 { s with ntp := { s.ntp with buckets := s.ntp.buckets.filter (fun x => decide (x.index < b ∨ b + 4 ≤ x.index)) } }
  | 2 => journalBreak (o - 0x5000000) s
  | 3 =>
    let k := (o - 0x15000000) / 0x200000
    if hasGnss s.variant then
      (if s.gnss.snap.slot = some k then abortSnap s
       else setN (Obj.SNAP_STATE k) 3 s)
    else s
  | 4 =>
    let q := o - 0x16000000
    match statSources[q / 32768]? with
    | some x => { s with stats := s.stats.map (fun t => if (t.seq + 63) % 64 = q % 32768 / 512 then { t with lost := x :: t.lost } else t) }
    | none => s
  | 5 =>
    let n := (o - 0x18000000) / 0x2000000
    report 0x3A00 1 { detail := n } (emptySlot n s)
  | 6 => setCores (fun c => { c with ring := c.ring.filter (fun e => decide (e.1 ≠ (o - 0x1C000000) / 256)) }) s
  | _ => s

/-- A line is poisoned: the region's action, its fault and the replacement of its page or row (R436, R438, R440). -/
def poisonLine (a : BusAccess) (s : State) : State :=
  match targetOf s a.address with
  | none => s
  | some t =>
    match targetRegion t with
    | none => s
    | some r =>
      let line := a.address / 64 * 64
      let s1 := bump (Obj.UE_COUNT r) s |> setN (Obj.LAST_UE_ADDR r) (line : Nat) |> setN (Obj.LAST_UE_AT r) (mts96 s)
      let s2 := if r = 7 ∨ r = 8 then setMem (fun m => { m with poisoned := lineOf s a.address :: m.poisoned }) s1 else s1
      let s3 := match t with | .dram o => regionAction r (o / 64 * 64) s2 | _ => s2
      let cls := if r = 7 ∨ r = 8 then 3 else if r = 9 then (if milestone s 5 then 1 else 4) else 1
      let s4 := startRemap a.address 1 s3
      report (0x2000 + r) cls (accessInfo a r) s4

/-! ### Windows as read -/

/-- `IOMMU_WINDOWS` of a channel. -/
def windowBytes (s : State) (d : Nat) : List Byte :=
  (List.range 16).flatMap (fun i =>
    match (dma s d).windows[i]? with
    | some w => be 8 w.iova ++ be 8 w.phys ++ be 4 w.size ++ be 1 ((if w.read then 1 else 0) + (if w.write then 2 else 0)) ++ be 3 0
    | none => List.replicate 24 0)

end Sys2Proof.Machine
end

