-- ==== Sys2Proof/Machine/Memory.lean ====
section
/-! DEFINITION. Machine/Memory.lean: the commands and events of the memories, the bus matrix and DMA (R423–R441). -/
namespace Sys2Proof.Machine

/-! ### Start of DRAM (R423, R424, R426) -/

/-- The newer configuration copy whose CRC is valid (R403). -/
def newerCopy (s : State) : Option ConfigCopy :=
  let a := s.nor.copyA.filter (·.crcOk)
  let b := s.nor.copyB.filter (·.crcOk)
  match a, b with
  | some x, some y => some (if x.seq < y.seq then y else x)
  | some x, none => some x
  | none, y => y

/-- `DRAM_GEOMETRY` as NOR holds it. -/
def storedGeometry (s : State) : Nat :=
  (((newerCopy s).bind (fun c => lookupKV Obj.DRAM_GEOMETRY c.nums)).getD (dfltNum s.variant Obj.DRAM_GEOMETRY)).toNat

/-- GiB per channel of a geometry. -/
def geometrySize (g : Nat) : Nat := 2 ^ (g / 16 % 16)

def dramTraining (ok retryOk : Bool) (s : State) : State :=
  if getN s Obj.DRAM_STATE ≠ 0 ∨ milestone s 2 = false ∨ milestone s 5 then s
  else if ok then s |> setN Obj.DRAM_STATE 1 |> setN Obj.DRAM_SIZE (geometrySize (storedGeometry s) : Nat)
  else if retryOk then
    let s1 := s |> setN Obj.DRAM_STATE 3 |> setN Obj.DRAM_SIZE (geometrySize (dfltNum s.variant Obj.DRAM_GEOMETRY).toNat : Nat)
    report 0x2101 1 {} (report 0x2100 1 {} s1)
  else report 0x2100 4 {} s

def execDramTraining (ok retryOk : Bool) (s : State) : Host.Outcome State Fault Refusal := finish (ifUp (dramTraining ok retryOk) s)

/-- Every location is 0 with valid check bits; the scrubber starts its laps (R424, R439). -/
def dramFill (s : State) : State :=
  if s.mem.filled ∨ (getN s Obj.DRAM_STATE ≠ 1 ∧ getN s Obj.DRAM_STATE ≠ 3) then s
  else
    let s1 := setMem (fun m => { m with
      cells := m.cells.filter (fun c => decide (c.1 < 0x400000)), poisoned := m.poisoned.filter (fun l => decide (l < 0x10000))
      filled := true, scrub := m.scrub.map (fun x => { x with lapFrom := s.now, last := s.now }) }) s
    showRemap (if getN s Obj.DRAM_STATE = 1 then setN Obj.DRAM_STATE 2 s1 else s1)

def execDramFillDone (s : State) : Host.Outcome State Fault Refusal := finish (ifUp dramFill s)

/-- Milestone 5, after image verification; a JTAG test instruction holds the bit at 0 (R426). -/
def remapBit (s : State) : State :=
  if getN s Obj.START_MILESTONE ≠ 4 ∨ s.mem.filled = false then s
  else complete 5 (setN Obj.REMAP_BIT (if s.keys.jtagTest then 0 else 1) s)

def execRemapBitSet (s : State) : Host.Outcome State Fault Refusal := finish (ifUp remapBit s)

/-- A write of `DRAM_GEOMETRY` ("DRAM_GEOMETRY field map"). -/
def ruleGeometry : Rule :=
  { chk := fun _ v =>
      let g := v.nat
      if 256 ≤ g ∨ g / 16 < 1 ∨ 3 < g / 16 ∨ 1 < g / 4 % 4 ∨ 1 < g % 4 then (stRange, []) else (stOk, []) }

/-! ### Accesses -/

/-- The IOVA at which a channel's windows show a physical address. -/
def iovaOf (ws : List IommuWindow) (p : Nat) : Nat :=
  ((ws.find? (fun w => decide (w.phys ≤ p ∧ p < w.phys + w.size))).map (fun w => w.iova + (p - w.phys))).getD 0

/-- A channel that works on a descriptor meets a fault at an address: STATUS and DONE are written, and it halts (R434). -/
def dmaMeets (status : Nat) (a : BusAccess) (s : State) : State :=
  let d := a.master - 0x10
  match (dma s d).cur with
  | some x =>
    if 0x10 ≤ a.master ∧ a.master < 0x18 then
      dmaHalt d status (iovaOf (dma s d).windows a.address) a.address a.access (dmaStatus d status x s)
    else s
  | none => s

def decodeEvent (a : BusAccess) (s : State) : State :=
  if isMaster a.master = false ∨ accessOk s a then s else dmaMeets 4 a (decodeFault a s)

def execDecodeFault (a : BusAccess) (s : State) : Host.Outcome State Fault Refusal := finish (ifUp (decodeEvent a) s)

/-- Retries of a DRAM command for parity (R435). -/
def caRetries (n : Nat) (a : BusAccess) (s : State) : State :=
  match targetOf s a.address with
  | some (.dram _) => bumpBy Obj.CA_PARITY_RETRY (n : Nat) s
  | _ => s

/-- A correctable error: corrected and written back, counted per region and page (R435, R437, R440). -/
def correctable (a : BusAccess) (s : State) : State :=
  match regionOf s a.address with
  | none => s
  | some r =>
    let b := getNat s (Obj.CE_BUCKET r) + 1
    let s1 := bump (Obj.CE_COUNT r) (setN (Obj.LAST_CE_ADDR r) (a.address : Nat) s)
    let s2 := if b = 1 then setMem (fun m => { m with leakFrom := m.leakFrom.set r s.now }) s1 else s1
    let s3 :=
      if getNat s (Obj.CE_THRESHOLD r) ≤ b then
        report (0x2000 + r) 1 (accessInfo a r) (bump (Obj.CE_BUCKET_TRIPS r) (setN (Obj.CE_BUCKET r) 0 s2))
      else setN (Obj.CE_BUCKET r) (b : Nat) s2
    trackPage a.address s3

def execEccCorrectable (a : BusAccess) (retries : Fin 4) (s : State) : Host.Outcome State Fault Refusal :=
  finish (ifUp (fun s => if retries.val = 0 then correctable a s else caRetries retries.val a s) s)

/-- The bucket falls by 1 each `CE_LEAK_PERIOD` while it is above 0 (R437). -/
def bucketLeak (r : Nat) (s : State) : State :=
  let b := getNat s (Obj.CE_BUCKET r)
  if b = 0 ∨ s.now < s.mem.leakFrom.getD r 0 + getNat s (Obj.CE_LEAK_PERIOD r) * sT then s
  else setN (Obj.CE_BUCKET r) ((b - 1 : Nat) : Int) (setMem (fun m => { m with leakFrom := m.leakFrom.set r s.now }) s)

def execCeBucketLeak (r : Fin 10) (s : State) : Host.Outcome State Fault Refusal := finish (ifUp (bucketLeak r.val) s)

/-! ### DMA (R430–R434) -/

/-- A channel that has a burst ready: its descriptor, or the fetch of the next one. -/
def dmaActive (s : State) (d : Nat) : Bool := (dma s d).cur.isSome || (dma s d).next.isSome

/-- A burst's physical address, or the status that stops it. -/
def dmaAddr (s : State) (d iova n : Nat) (write : Bool) : Nat ⊕ Nat :=
  match translate (dma s d).windows iova n write with
  | none => .inr 2
  | some p =>
    let acc (q : Nat) : Bool := accessOk s { master := 0x10 + d, address := q, access := if write then 2 else 1 }
    if acc p && acc (p + n - 1) then .inl p else .inr 4

/-- A fault stops the channel: what was done stays, the rest is not issued (R434). -/
def dmaStop (d status iova : Nat) (write : Bool) (x : DmaXfer) (s : State) : State :=
  let acc := if write then 2 else 1
  let p := (translate (dma s d).windows iova 1 write).getD 0
  let s1 := if status = 4 then decodeFault { master := 0x10 + d, address := p, access := acc } s else s
  let s2 := dmaStatus d status x s1
  dmaHalt d status iova p acc s2

/-- One burst of at most 128 bytes, whose data may be uncorrectable as it is read; whether the channel goes on. -/
def dmaBurst (d : Nat) (hit : Bool) (x : DmaXfer) (s : State) : State × Option DmaXfer :=
  let n := min 128 (x.len - x.done)
  let src : Nat ⊕ Nat := if x.fill then .inl 0 else dmaAddr s d (x.src + x.done) n false
  match src, dmaAddr s d (x.dst + x.done) n true with
  | .inr st, _ => (dmaStop d st (x.src + x.done) false x s, none)
  | .inl _, .inr st => (dmaStop d st (x.dst + x.done) true x s, none)
  | .inl p, .inl q =>
    let data := if x.fill then List.replicate n (BitVec.ofNat 8 (x.src % 256)) else memBytes s p n
    let bad : Bool := !x.fill && (hit || (linesOf p n).any (isPoisoned s))
    let y := { x with done := x.done + n }
    if bad then
      let s1 := bump (Obj.MASTER_FAULTS 1) s
      match targetOf s q with
      | some (.dram _) =>
        let s2 := bumpBy (Obj.DMA_BYTES d) (n : Nat) (writeBytes q data s1)
        let s3 := (linesOf q n).foldl (fun t l => poisonLine { master := 0x10 + d, address := l, access := 2 } t) s2
        (dmaStop d 3 (x.src + x.done) false y s3, none)
      | _ => (dmaStop d 3 (x.src + x.done) false x s1, none)
    else (bumpBy (Obj.DMA_BYTES d) (n : Nat) (writeBytes q data s), some y)

/-- A descriptor ends: the issuing core is interrupted where NOTIFY asks for it, and the chain goes on at NEXT, or the channel is idle. -/
def dmaEnd (d : Nat) (x : DmaXfer) (s0 : State) : State :=
  let s := if x.notify then emit (.dmaNotify d x.at_) s0 else s0
  let s1 := bump (Obj.DMA_DESCRIPTORS d) (setN (Obj.DMA_LAST_STATUS d) 0 (dmaStatus d 0 x s))
  let s2 := setDma d (fun y => { y with cur := none, next := if x.last then none else some x.next }) s1
  if x.last then setN (Obj.DMA_STATE d) 0 s2 else s2

/-- Bursts that the matrix grants. -/
def dmaBursts : Nat → Nat → State → State
  | 0, _, s => s
  | n + 1, d, s =>
    match (dma s d).cur with
    | none => s
    | some x =>
      match dmaBurst d false x s with
      | (t, none) => t
      | (t, some y) =>
        let u := setDma d (fun z => { z with cur := some y }) t
        if y.len ≤ y.done then dmaEnd d y u else dmaBursts n d u

/-- The channel's next burst reads a line. -/
def dmaReads (s : State) (d : Nat) (x : DmaXfer) (line : Nat) : Bool :=
  !x.fill && (match dmaAddr s d (x.src + x.done) (min 128 (x.len - x.done)) false with
    | .inl p => (linesOf p (min 128 (x.len - x.done))).contains line
    | .inr _ => false)

/-- Uncorrectable data: the line is poisoned and its region acts, once; a boot ROM line reports at each read. The master that read it fares
as "Outcome by master" states: a channel's burst goes on to a destination in DRAM, whose line is poisoned, and the channel halts (R434,
R436, R438). -/
def uncorrectable (a : BusAccess) (s : State) : State :=
  match regionOf s a.address with
  | none => s
  | some r =>
    let s1 := if r ≠ 9 ∧ isPoisoned s a.address then s else poisonLine a s
    let s2 := if a.master = 0x22 ∧ getN s Obj.PAIR_ROLE = 1 then { s1 with hinge := { s1.hinge with testFail := some s.now } } else s1
    let d := a.master - 0x10
    let count (t : State) : State := if a.access = 1 ∨ a.access = 3 then bump (Obj.MASTER_FAULTS (masterNum a.master)) t else t
    match (dma s2 d).cur with
    | some x =>
      if 0x10 ≤ a.master ∧ a.master < 0x18 then
        (if a.access = 1 ∧ dmaReads s2 d x (a.address / 64 * 64) then (dmaBurst d true x s2).1 else dmaMeets 3 a (count s2))
      else count s2
    | none => count s2

def execEccUncorrectable (a : BusAccess) (parity : Bool) (s : State) : Host.Outcome State Fault Refusal :=
  finish (ifUp (fun s => uncorrectable a (if parity then caRetries 3 a s else s)) s)

/-- A descriptor from its 48 bytes; `none` where it is faulty (R430). -/
def dmaParse (iova : Nat) (b : List Byte) : Option DmaXfer :=
  let c := fieldU b 0 4
  let fill := c.testBit 29
  let src := fieldU b 8 8
  let next := fieldU b 24 8
  let last := c.testBit 31
  if fieldU b 4 4 = 0 ∨ c % 2 ^ 29 ≠ 0 ∨ fieldU b 40 8 ≠ 0 ∨ iova % 16 ≠ 0 ∨ (last = false ∧ next % 16 ≠ 0) ∨ (fill ∧ 256 ≤ src) then none
  else some { at_ := iova, last := last, notify := c.testBit 30, fill := fill, len := fieldU b 4 4, src := src, dst := fieldU b 16 8, next := next }

/-- The fetch of the next descriptor. -/
def dmaFetch (d : Nat) (s : State) : State :=
  match (dma s d).cur, (dma s d).next with
  | none, some iova =>
    let x0 : DmaXfer := { at_ := iova, last := true, notify := false, fill := false, len := 0, src := 0, dst := 0, next := 0 }
    match dmaAddr s d iova 48 false with
    | .inr st =>
      if iova % 16 ≠ 0 then dmaStop d 1 iova false x0 s else dmaStop d st iova false x0 s
    | .inl p =>
      if (linesOf p 48).any (isPoisoned s) then dmaStop d 3 iova false x0 (bump (Obj.MASTER_FAULTS 1) s)
      else match dmaParse iova (memBytes s p 48) with
        | none => dmaStop d 1 iova false x0 s
        | some x => setDma d (fun y => { y with cur := some x, next := none }) s
  | _, _ => s

/-- Firmware's setup of a channel that is idle or halted (R430, R431). -/
def dmaSetup (d : Nat) (f : DmaSetup) (s : State) : State :=
  if getN s (Obj.DMA_STATE d) = 1 ∨ getN s (Obj.DMA_STATE d) = 2 then s
  else
    let s1 := f.stores.foldl (fun t w =>
      let a : BusAccess := { master := 0, address := w.1, access := 2 }
      if accessOk t a then writeBytes w.1 w.2 t else decodeFault a t) s
    setN (Obj.DMA_STATE d) 1 (setDma d (fun x => { x with windows := f.windows.take 16, next := some f.first, cur := none }) s1)

/-- Channel d gets `n` bursts; a higher-numbered channel with a burst ready goes first, and a lower one pauses (R432). -/
def dmaRun (d : Nat) (fw : Option DmaSetup) (n : Nat) (s0 : State) : State :=
  let s := match fw with | some f => dmaSetup d f s0 | none => s0
  let pause (e : Nat) (t : State) : State :=
    if getN t (Obj.DMA_STATE e) = 1 then setN (Obj.DMA_STATE e) 2 (bump (Obj.DMA_PREEMPTED e) t) else t
  if getN s (Obj.DMA_STATE d) = 0 ∨ getN s (Obj.DMA_STATE d) = 3 ∨ dmaActive s d = false then s
  else if (List.range 8).any (fun e => decide (d < e) && dmaActive s e) then (if (dma s d).cur.isSome then pause d s else s)
  else
    let s1 := (List.range d).foldl (fun t e => if (dma t e).cur.isSome then pause e t else t) s
    dmaBursts n d (dmaFetch d (setN (Obj.DMA_STATE d) 1 s1))

def execDmaDescriptor (d : Fin 8) (fw : Option DmaSetup) (bursts : Nat) (s : State) : Host.Outcome State Fault Refusal :=
  finish (ifUp (fun t => if milestone t 6 then dmaRun d.val fw bursts t else t) s)

/-! ### The scrubber (R439) -/

/-- Lines of a memory that is scrubbed. -/
def scrubLines (s : State) (m : Nat) : Nat := if m < 2 then chanBytes s / 64 else if m = 2 then 65536 else 4096

/-- One line read; at the end of a lap the lap's length shows. -/
def scrubLine (m : Nat) (s : State) : State :=
  let x := s.mem.scrub.getD m { id := m }
  let put (y : Scrub) (t : State) : State := setMem (fun k => { k with scrub := modAt m (fun _ => y) k.scrub }) t
  if x.line + 1 < scrubLines s m then put { x with line := x.line + 1, last := s.now } s
  else if m = 2 then
    setN Obj.SRAM_SCRUB_LAP_LAST ((s.now - x.lapFrom) / usT : Nat) (put { x with line := 0, last := s.now, lapFrom := s.now } s)
  else if m = 3 then put { x with line := 0, last := s.now, lapFrom := s.now } s
  else
    let other := s.mem.scrub.getD (1 - m) { id := 1 - m }
    if other.covered then
      let lap := (s.now - min x.lapFrom other.lapFrom) / msT
      let s1 := setMem (fun k => { k with scrub := modAt (1 - m) (fun y => { y with covered := false, lapFrom := s.now }) k.scrub }) s
      bump Obj.SCRUB_LAPS (setMax Obj.SCRUB_LAP_MAX (lap : Nat) (setN Obj.SCRUB_LAP_LAST (lap : Nat)
        (put { x with line := 0, last := s.now, covered := false, lapFrom := s.now } s1)))
    else put { x with line := 0, last := s.now, covered := true } s

/-- Ticks between two scrub reads of a memory. -/
def scrubGap (s : State) (m : Nat) : Nat := if m < 2 then getNat s Obj.SCRUB_INTERVAL / 5 else if m = 2 then usT else 0

def scrubRead (m : Nat) (s : State) : State :=
  let x := s.mem.scrub.getD m { id := m }
  if s.mem.filled = false ∨ s.now < x.last + scrubGap s m then s else scrubLine m s

def execScrubRead (m : Fin 4) (s : State) : Host.Outcome State Fault Refusal := finish (ifUp (scrubRead m.val) s)

/-- `SCRUB_STARVE` after the interval, one read is forced. -/
def scrubForced (ch : Nat) (s : State) : State :=
  let x := s.mem.scrub.getD ch { id := ch }
  if s.mem.filled = false ∨ s.now < x.last + scrubGap s ch + getNat s Obj.SCRUB_STARVE * usT then s
  else bump Obj.SCRUB_FORCED (scrubLine ch s)

def execScrubForced (ch : Fin 2) (s : State) : Host.Outcome State Fault Refusal := finish (ifUp (scrubForced ch.val) s)

/-! ### Remapping (R440, R441) -/

/-- A copy is complete: the entry is enabled, or freed. -/
def copyDone (e : Nat) (s : State) : State :=
  match s.mem.copies.find? (fun x => x.entry = e) with
  | none => s
  | some c =>
    let s1 := setMem (fun m => { m with copies := m.copies.filter (fun x => decide (x.entry ≠ e)) }) s
    if c.back then showRemap (setMem (fun m => { m with remap := m.remap.filter (fun x => decide (x.entry ≠ e)) }) s1)
    else
      let r : RemapEntry := { entry := e, cause := c.cause, address := c.address, since := mts96 s }
      bump Obj.REMAP_DONE (showRemap (setMem (fun m =>
        { m with remap := insertRemap r m.remap, pages := m.pages.filter (fun x => decide (x.address ≠ c.address)) }) s1))

def execRemapCopyDone (entry : Nat) (s : State) : Host.Outcome State Fault Refusal := finish (ifUp (copyDone entry) s)

def ruleRemapClear : Rule :=
  { chk := fun s v =>
      if 143 < v.nat then (stRange, [])
      else if s.mem.remap.any (fun x => x.entry = v.nat) then (stOk, []) else (stConflict, [])
    eff := fun v s =>
      match s.mem.remap.find? (fun x => x.entry = v.nat) with
      | some x =>
        if s.mem.copies.any (fun c => c.entry = v.nat) then s
        else setMem (fun m => { m with copies := { entry := x.entry, cause := x.cause, address := x.address, back := true } :: m.copies }) s
      | none => s }

def execRemapClear (q : Req) (s : State) : Host.Outcome State Fault Refusal :=
  finish (ifUp (ownerCommand q Obj.REMAP_CLEAR ruleRemapClear) s)

end Sys2Proof.Machine
end

