-- ==== Sys2Proof/Machine/Cores.lean ====
section
/-! DEFINITION. Machine/Cores.lean: the management cores, their scheduler, restarts, performance counters and sampling (R442–R455). -/
namespace Sys2Proof.Machine

def coreUnit (s : State) (n : Nat) : CoreUnit := s.cores.units.getD n { id := n }

/-! ### Cycles and events (R449–R451) -/

/-- CYCLES of a core now (R449). -/
def coreCycles (s : State) (n : Nat) : Nat := coreHalf s (coreUnit s n) / 2 % 18446744073709551616

/-- An event code that "Event codes" defines (R450). -/
def eventOk (c : Nat) : Bool := decide (c ≤ 0x0E ∨ (0x40 ≤ c ∧ c ≤ 0x48) ∨ (0x50 ≤ c ∧ c ≤ 0x52))

/-- A core's programmable counter now: NONE holds, and no event occurs on a stopped clock (R450). -/
def pmcValue (s : State) (n j : Nat) : Nat :=
  let u := coreUnit s n
  let p := u.pmcs.getD j {}
  let c := getNat s (Obj.PMC_SEL n j)
  if c = 0 ∨ u.runFrom.isNone ∨ (c = 6 ∧ n = 4) then p.value
  else (p.value + (Config.pmcEvents n c s.now - Config.pmcEvents n c p.since)) % 18446744073709551616

/-- A core's clock stops: its counters hold. -/
def stopClock (n : Nat) (s : State) : State :=
  let vals := (List.range 8).map (fun j => ({ value := pmcValue s n j, since := s.now } : Pmc))
  setCoreUnit n (fun u => { u with half := coreHalf s u, runFrom := none, pmcs := vals }) s

def startClock (n : Nat) (s : State) : State :=
  if (coreUnit s n).runFrom.isSome then s
  else setCoreUnit n (fun u => { u with runFrom := some s.now, pmcs := u.pmcs.map (fun p => { p with since := s.now }) }) s

def rulePmcSel (n j : Nat) : Rule :=
  { chk := fun _ v => if eventOk v.nat then (stOk, []) else (stRange, [])
    eff := fun _ s => setCoreUnit n (fun u => { u with pmcs := modAt j (fun _ => { value := 0, since := s.now }) u.pmcs }) s }

def execPmcSel (q : Req) (n : Fin 5) (j : Fin 8) (s : State) : Host.Outcome State Fault Refusal :=
  finish (ifUp (ownerWrite q (Obj.PMC_SEL n.val j.val) (rulePmcSel n.val j.val)) s)

/-- The 96 bytes of a snapshot ("PMC snapshot"). -/
def pmcSnapshot (s : State) (n : Nat) : List Byte :=
  t96Bytes (mts96 s) ++ be 1 (getNat s (Obj.CORE_STATE n)) ++ be 1 0 ++
    (List.range 8).flatMap (fun j => be 1 (getNat s (Obj.PMC_SEL n j))) ++ be 2 0 ++ be 8 (coreCycles s n) ++
    (List.range 8).flatMap (fun j => be 8 (pmcValue s n j))

/-! ### The scheduler (R442–R444, R446) -/

/-- Reserve of a class in µs per frame ("Task classes"). -/
def taskReserve : Nat → Nat
  | 1 => 100 | 2 => 400 | 3 => 300 | 4 => 1000 | 5 => 600 | 6 => 800 | 7 => 200 | 8 => 100 | _ => 0

/-- Work a class offers; a class absent in the variant has none (R443). -/
def offered (s : State) (work : List (Nat × Nat)) (t : Nat) : Nat :=
  if t = 5 ∧ hasGnss s.variant = false then 0 else ((work.filter (fun w => w.1 = t)).map (·.2)).sum

/-- Service cores in service. -/
def coresUp (s : State) : Nat := (List.range 4).countP (fun n => decide (getN s (Obj.CORE_STATE n) = 0))

/-- A pass over classes in priority order: each gets what it may have of the time left. -/
def allotPass (want : Nat → Nat) : List Nat → Nat → List (Nat × Nat)
  | [], _ => []
  | t :: r, left => let g := min (want t) left; (t, g) :: allotPass want r (left - g)

/-- Core time of a frame by class: reserves first, then the rest in priority order (R443, R444). -/
def frameTime (s : State) (work : List (Nat × Nat)) (parked : Bool) : List (Nat × Nat) :=
  let cls := [1, 2, 3, 4, 5, 6, 7, 8]
  let total := 1000 * coresUp s
  let res (t : Nat) : Nat := if parked then taskReserve t / 4 else taskReserve t
  let first := allotPass (fun t => min (offered s work t) (res t)) cls total
  let left := total - (first.map (·.2)).sum
  let got (t : Nat) : Nat := (lookupKV t first).getD 0
  let more := allotPass (fun t => offered s work t - got t) cls left
  first.map (fun p => (p.1, p.2 + (lookupKV p.1 more).getD 0))

/-- The time core runs its classes in priority order (R442). -/
def timeCoreTime (s : State) (work : List (Nat × Nat)) : List (Nat × Nat) :=
  allotPass (offered s work) [16, 17, 18] (if getN s (Obj.CORE_STATE 4) = 0 then 1000 else 0)

/-- Service cores 1–3 park at a frame boundary while S1 is closed, and resume at the first one after their start (R444, R498, R502). -/
def parkCores (s : State) : State :=
  [1, 2, 3].foldl (fun a n =>
    if 1 ≤ a.power.closed then
      (if getN a (Obj.CORE_STATE n) = 0 then setN (Obj.CORE_TASK n) 0 (setN (Obj.CORE_STATE n) 1 (stopClock n a)) else a)
    else if getN a (Obj.CORE_STATE n) = 1 ∧ a.power.queue.all (fun r => decide (r.unit ≠ 40 + n)) then
      setN (Obj.CORE_STATE n) 0 (startClock n a)
    else a) s

/-- The class a core runs now: one of those that got time, which no rule fixes; IDLE where none did. -/
def showTask (n : Nat) (l : List (Nat × Nat)) (s : State) : State :=
  let busy := l.filter (fun p => decide (0 < p.2))
  if getN s (Obj.CORE_STATE n) ≠ 0 ∨ busy.isEmpty then setN (Obj.CORE_TASK n) 0 s
  else nextFree (setN (Obj.CORE_TASK n) ((busy.getD (Config.freeNat s.freeCtr % busy.length) (0, 0)).1 : Nat) s)

def schedFrame (work : List (Nat × Nat)) (s0 : State) : State :=
  if s0.now < s0.cores.frameAt + msT ∨ milestone s0 6 = false then s0
  else
    let s := parkCores (setCores (fun c => { c with frameAt := s0.now }) s0)
    let svc := frameTime s work (decide (1 ≤ s.power.closed))
    let tc := timeCoreTime s work
    let s1 := (svc ++ tc).foldl (fun a p => bumpBy (Obj.TASK_TIME p.1) (p.2 : Nat) a) s
    showTask 4 tc ([0, 1, 2, 3].foldl (fun a n => showTask n svc a) s1)

def execSchedFrame (work : List (Nat × Nat)) (s : State) : Host.Outcome State Fault Refusal := finish (ifUp (schedFrame work) s)

/-! ### Stalls and restarts (R447, R448) -/

/-- A request that the stopped core held has no entry in the ring yet: BUSY, without effect (R447). -/
def heldBusy (h : HeldReq) (s : State) : State :=
  match acceptFrame h.req.hdr h.req.sess s with
  | (none, t) => t
  | (some t, _) =>
    let k := h.index * 256 + h.sub
    let u := acceptRequest h.req.sess t
    let v := h.req.value.take h.req.valueLen
    match h.op with
    | 2 => answer h.req .write k stBusy (heldBytes u k) v [] u
    | 3 => answer h.req .command k stBusy [] v [] u
    | 5 => answerAdd h.req k stBusy u
    | op => respond h.req op stBusy h.index h.sub 1 0 [] u

def coreWatchdog (n : Nat) (held : Option HeldReq) (s : State) : State :=
  if milestone s 6 = false ∨ getN s (Obj.CORE_STATE n) ≠ 0 then s
  else
    let s1 := report (0x2500 + n) 2 { detail := getNat s (Obj.CORE_TASK n), master := n, access := 4 } s
    match held with
    | some h => if up s1 then heldBusy h s1 else s1
    | none => s1

def execCoreWatchdog (n : Fin 4) (held : Option HeldReq) (s : State) : Host.Outcome State Fault Refusal :=
  finish (ifUp (coreWatchdog n.val held) s)

def timeCoreWatchdog (s : State) : State :=
  if milestone s 6 = false ∨ getN s (Obj.CORE_STATE 4) ≠ 0 then s
  else report 0x2504 2 { detail := getNat s (Obj.CORE_TASK 4), master := 4, access := 4 } s

def execTimeCoreWatchdog (s : State) : Host.Outcome State Fault Refusal := finish (ifUp timeCoreWatchdog s)

/-- The restart of the core cluster rewrites the poisoned lines of firmware working memory and of the working SRAM (R438). -/
def clusterDone (s : State) : State :=
  let fix (u : Nat) (f : Nat → Bool) (a : State) : State :=
    if restarting a u then
      endRestart u (setMem (fun m => { m with
        poisoned := m.poisoned.filter (fun l => !f l), cells := m.cells.filter (fun c => !(m.poisoned.contains (c.1 / 64) && f (c.1 / 64))) }) a)
    else a
  fix 0x2008 (fun l => decide (l < 0x10000)) (fix 0x2007 (fun l => decide (0x10000 ≤ l)) s)

/-- A core is back. The service cores of a warm activation end it: the trial begins (R514). -/
def coreRestartDone (n : Nat) (s : State) : State :=
  if getN s (Obj.CORE_STATE n) ≠ 2 then s
  else
    let s1 := endRestart (0x2500 + n) (startClock n (setN (Obj.CORE_STATE n) 0 s))
    if (List.range 5).any (fun i => decide (getN s1 (Obj.CORE_STATE i) = 2)) then s1
    else
      let s2 := clusterDone s1
      if getN s2 Obj.UPD_STATE = 4 then
        let on : Bool := s2.update.trial.isSome
        setUpd (fun u => { u with trial := u.trial.map (fun t => { t with since := s2.now }) })
          (setJ Obj.UPD_STATE (if on then 5 else 0) (setN Obj.UPD_TRIAL_LEFT (if on then getN s2 Obj.UPD_TRIAL else 0) s2))
      else s2

def execCoreRestartDone (n : Fin 5) (s : State) : Host.Outcome State Fault Refusal := finish (ifUp (coreRestartDone n.val) s)

/-! ### Instruction sampling -/

/-- Bits 7 to 5 are reserved (R452). -/
def ruleSampleEnable : Rule := { chk := fun _ v => if v.nat < 32 then (stOk, []) else (stRange, []) }

end Sys2Proof.Machine
end

