-- ==== Sys2Proof/Machine/Faults.lean ====
section
/-! DEFINITION. Machine/Faults.lean: the commands and events of the fault collector (R456–R470). -/
namespace Sys2Proof.Machine

/-! ### Raises -/

/-- "Raised as" of a source: the base classes that the tables of fault sources give it, and C0 for the events of the chapters. -/
def raisedAs (v : Variant) (code : Nat) : List Nat :=
  let n := code % 256
  match code / 256 with
  | 0x00 => [4]
  | 0x01 => if n = 0 ∨ n = 1 then [1] else if n = 5 then [2] else [4]
  | 0x03 => [0, 1, 4]
  | 0x04 => [0, 1, 4]
  | 0x05 | 0x0A | 0x17 | 0x19 | 0x1A | 0x1C | 0x25 => [0, 2]
  | 0x08 => [4]
  | 0x09 => if n = 0 then [2, 4] else [0, 2]
  | 0x0B => [3]
  | 0x10 | 0x12 | 0x16 => [0, 1, 2]
  | 0x20 => if n = 7 ∨ n = 8 then [1, 3] else if n = 9 then [1, 4] else [1]
  | 0x21 => if n < 2 then [1, 4] else [1]
  | 0x22 => if n < 0x20 then [1] else [2]
  | 0x34 => [0]
  | _ => if (srcInfo v code).isSome then [0, 1] else []

/-- The difference of the shadow counter from the master counter, modulo the counter (R23). -/
def shadowDiff (s : State) : Nat := (s.ts.shadow + mts48Mod - s.ts.mts) % mts48Mod

/-- The shadow counter is compared at every tick: a difference of more than one fraction LSB of TIME96 either way is a C4 fault (R23). -/
def compareShadow (s : State) : State :=
  let d := shadowDiff s
  if 4294967296 < d ∧ d + 4294967296 < mts48Mod then report 0x0800 4 { detail := d % 4294967296 } s else s

/-- The shadow counter has slipped: it stands ahead of the master counter by more than one LSB, with these low 32 bits of the
difference. -/
def shadowSlip (detail : Nat) (s : State) : State :=
  { s with ts := { s.ts with shadow := addMts s.ts.mts (8589934592 + detail % 4294967296 : Nat) } }

/-- A unit signals a raise (R456). The collector takes it at a class its source is raised at. -/
def faultRaise (src base detail : Nat) (a : Option BusAccess) (s : State) : State :=
  match srcInfo s.variant src with
  | none => s
  | some si =>
    if si.present = false ∨ (raisedAs s.variant src).contains base = false ∨ milestone s 2 = false then s
    else
      let i : FaultInfo := match a with
        | some x => { detail := detail, master := x.master, access := x.access, address := x.address }
        | none => { detail := detail }
      let s1 := if src = 0x0800 then compareShadow (shadowSlip detail s) else report src base i s
      if base = 0 then journal { kind := 7, key := Obj.FAULT_RECORD, new := be 2 src } s1 else s1

def execFaultRaise (src base detail : Nat) (a : Option BusAccess) (s : State) : Host.Outcome State Fault Refusal :=
  finish (ifUp (faultRaise src base detail a) s)

/-- LEVEL falls by 1 each time W passes without a raise (R461). -/
def levelDecay (src : Nat) (s : State) : State :=
  let f := faultOf s src
  if f.level = 0 ∨ s.now < f.decayFrom + (faultNW s src).2 * sT then s
  else putFault { f with level := f.level - 1, decayFrom := s.now } s

def execFaultLevelDecay (src : Nat) (s : State) : Host.Outcome State Fault Refusal := finish (ifUp (levelDecay src) s)

/-- The window has run for W (R461). -/
def windowExpiry (src : Nat) (s : State) : State :=
  let f := faultOf s src
  match f.window with
  | some w => if w.openedAt + w.w * sT ≤ s.now then putFault { f with window := none } s else s
  | none => s

def execFaultWindowExpiry (src : Nat) (s : State) : Host.Outcome State Fault Refusal := finish (ifUp (windowExpiry src) s)

/-! ### Restarts (R457, R464) -/

/-- A restart that has not completed 1 s after it began raises its source again (R457). -/
def restartTimeout (unit : Nat) (s : State) : State :=
  match s.restarts.find? (fun r => decide (r.unit = unit) && !r.late) with
  | some r =>
    if s.now < r.began + sT then s
    else report r.source r.base {} { s with restarts := s.restarts.map (fun x => if x.unit = unit then { x with late := true } else x) }
  | none => s

def execUnitRestartTimeout (unit : Nat) (s : State) : Host.Outcome State Fault Refusal := finish (ifUp (restartTimeout unit) s)

/-- A unit's restart completes: its sources' LIVE ends and the unit goes on (R456, R464 and the units' chapters). -/
def restartDone (unit : Nat) (s : State) : State :=
  if restarting s unit = false then s
  else
    match unit / 256 with
    | 0x05 => drbgDone s
    | 0x17 => endRestart unit (resumePtp s)
    | 0x20 => coreRestartDone 4 ((List.range 4).foldl (fun a n => coreRestartDone n a) s)
    | 0x25 => coreRestartDone (unit % 256) s
    | _ => endRestart unit s

def execUnitRestartDone (unit : Nat) (s : State) : Host.Outcome State Fault Refusal := finish (ifUp (restartDone unit) s)

/-- The collector's two copies differ (R467): the safe state, directly. -/
def execCollectorMismatch (s : State) : Host.Outcome State Fault Refusal :=
  finish (ifUp (fun t => if milestone t 2 then report 0x0000 4 {} t else t) s)

/-! ### Clearing (R465) -/

def isSticky (s : State) (code : Nat) : Bool := stickyBit s code

def clearSource (code : Nat) (s : State) : State :=
  if isSticky s code = false then s
  else
    let f := { faultOf s code with sticky := false, classSticky := none, level := 0, capture := none }
    let s1 := putFault f { s with keep := { s.keep with stickyOnly := s.keep.stickyOnly.filter (fun p => decide (p.1 ≠ code)) } }
    bump Obj.FAULT_CLEARS (journal { kind := 8, key := Obj.FAULT_CLEAR, new := be 2 code } s1)

/-- Sources whose sticky bit is set. -/
def stickyCodes (s : State) : List Nat :=
  (s.faults.filter (·.sticky)).map (·.code) ++ s.keep.stickyOnly.map (·.1)

def isLive (s : State) (code : Nat) : Bool := (faultOf s code).live

def ruleFaultClear : Rule :=
  { chk := fun s v =>
      if v.nat = 0xFFFF then (stOk, [])
      else match srcInfo s.variant v.nat with
        | none => (stRange, [])
        | some si => if si.present = false then (stUnitAbsent, []) else if isLive s v.nat then (stConflict, []) else (stOk, [])
    refused := fun v s => if (srcInfo s.variant v.nat).any (·.present) then bump Obj.CLEAR_REFUSED s else s
    eff := fun v s =>
      if v.nat = 0xFFFF then
        (stickyCodes s).foldl (fun a c => if isLive s c then bump Obj.CLEAR_REFUSED a else clearSource c a) s
      else clearSource v.nat s
    result := fun s v => if v.nat = 0xFFFF then be 2 ((stickyCodes s).countP (fun c => !isLive s c)) else [] }

def execFaultClear (q : Req) (s : State) : Host.Outcome State Fault Refusal :=
  finish (ifUp (ownerCommand q Obj.FAULT_CLEAR ruleFaultClear) s)

/-! ### Overrides and records (R462, R463, R469) -/

/-- The entries of an override table. -/
def overrideEntries : Nat → List Byte → List (List Byte)
  | 0, _ => []
  | n + 1, b => b.take 6 :: overrideEntries n (b.drop 6)

/-- A code that "Fault sources" names and that is not sticky-only; instance 0xFF names every instance of its unit. -/
def overrideCode (v : Variant) (c : Nat) : Bool :=
  let ok (x : Nat) : Bool := match srcInfo v x with | some si => !si.stickyOnly | none => false
  if c % 256 = 255 then (List.range 256).any (fun n => ok (c / 256 * 256 + n)) else ok c

def overrideOk (v : Variant) (e : List Byte) : Bool :=
  overrideCode v (fieldU e 0 2) && decide (1 ≤ fieldU e 2 1) && decide (fieldU e 3 1 = 0) &&
    decide (1 ≤ fieldU e 4 2 ∧ fieldU e 4 2 ≤ 3600)

def ruleFaultOverrides : Rule :=
  { chk := fun s v =>
      let b := v.bytes
      let l := overrideEntries (b.length / 6) b
      if b.length % 6 ≠ 0 ∨ 16 < b.length / 6 then (stLength, [])
      else if l.all (overrideOk s.variant) = false ∨ (l.map (fun e => fieldU e 0 2)).eraseDups.length ≠ l.length then (stRange, [])
      else (stOk, []) }

def execFaultOverrides (q : Req) (s : State) : Host.Outcome State Fault Refusal :=
  finish (ifUp (ownerWrite q Obj.FAULT_OVERRIDES ruleFaultOverrides) s)

def ruleFaultSelect : Rule :=
  { chk := fun s v => if (srcInfo s.variant v.nat).isSome then (stOk, []) else (stRange, []) }

/-- `FAULT_TABLE`: the records of every source with STICKY or LIVE set, ascending. -/
def faultTable (s : State) : List Byte :=
  let codes := (s.faults.filter (fun f => f.sticky || f.live)).map (·.code) ++ s.keep.stickyOnly.map (·.1)
  let sorted := (codes.foldl (fun a c => insertKV c () a) []).map (·.1)
  sorted.flatMap (fun c => faultRecord s.variant (faultShown s c) (isSticky s c))
where
  /-- A sticky-only bit left set from an earlier run shows with its class (R470). -/
  faultShown (s : State) (c : Nat) : FaultSrc :=
    let f := faultOf s c
    match s.keep.stickyOnly.find? (fun p => p.1 = c) with
    | some p => { f with classSticky := some (max p.2 (f.classSticky.getD 0)), lastBase := if f.lastBase = 0 then p.2 else f.lastBase }
    | none => f

/-- `FAULT_RECORD` of the selected source. -/
def selectedRecord (s : State) : List Byte :=
  let c := getNat s Obj.FAULT_SELECT
  faultRecord s.variant (faultTable.faultShown s c) (isSticky s c)

/-- `LAST_C4` and its journal entry after milestone 6 (R469). -/
def journalLastC4 (s : State) : State :=
  match s.keep.lastC4 with
  | some r =>
    if s.keep.lastC4Journalled then s
    else journal { kind := 7, key := Obj.LAST_C4, new := r } { s with keep := { s.keep with lastC4Journalled := true } }
  | none => s

end Sys2Proof.Machine
end

