-- ==== Sys2Proof/Machine/Update.lean ====
section
/-! DEFINITION. Machine/Update.lean: containers, staging, banks, activation and trial (R503–R516). -/
namespace Sys2Proof.Machine

/-! ### Containers ("Container header", "Component entry") -/

def contCount (b : List Byte) : Nat := fieldU b 6 1
def contSig (b : List Byte) : Nat := fieldU b 16 4

/-- Component entry i. -/
def contEntry (b : List Byte) (i : Nat) : List Byte := slice b (24 + 96 * i) 96

/-- D (R503). -/
def imageDigest (b : List Byte) : List Byte := be 48 (Config.sha384 (b.take (contSig b)))

/-- The component that an entry describes. -/
def contComp (b : List Byte) (i : Nat) : Comp :=
  let e := contEntry b i
  { id := fieldU e 0 1, version := fieldU e 4 4, minPeer := (List.range 5).map (fun j => fieldU e (16 + 4 * j) 4), build := fieldU e 36 4
    digest := slice e 40 48, data := slice b (fieldU e 8 4) (fieldU e 12 4), source := imageDigest b }

def contComps (b : List Byte) : List Comp := (List.range (contCount b)).map (contComp b)

def certLen (b : List Byte) : Nat := fieldU b (contSig b) 2
def cosigFlag (b : List Byte) : Nat := fieldU b (contSig b + 2 + certLen b + 96) 1

/-- The layout of an entry. -/
def entryFormat (b : List Byte) (i : Nat) : Bool :=
  let e := contEntry b i
  let id := fieldU e 0 1
  let off := fieldU e 8 4
  let len := fieldU e 12 4
  decide (1 ≤ id ∧ id ≤ 5 ∧ fieldU e 1 3 = 0 ∧ off % 16 = 0 ∧ 24 + 96 * contCount b ≤ off ∧ 0 < len ∧ off + len ≤ contSig b ∧
    fieldU e (16 + 4 * (id - 1)) 4 = 0 ∧ (id ≤ 2 ∨ fieldU e 36 4 = 0) ∧ fieldU e 88 8 = 0)

/-- Test 2 of "Staging tests". -/
def contFormat (b : List Byte) : Bool :=
  let n := contCount b
  let sig := contSig b
  let ids := (contComps b).map (·.id)
  decide (fieldU b 0 4 = 0x464E494D ∧ fieldU b 4 2 = 1 ∧ 1 ≤ n ∧ n ≤ 5 ∧ fieldU b 7 1 < 16 ∧ fieldU b 8 4 ≤ 25165824 ∧ fieldU b 20 4 = 0 ∧
    24 + 96 * n ≤ sig ∧ 1 ≤ certLen b ∧ certLen b ≤ 1024 ∧ cosigFlag b ≤ 1 ∧ fieldU b (sig + 2 + certLen b + 97) 3 = 0 ∧
    sig + 2 + certLen b + 100 + 96 * cosigFlag b = fieldU b 8 4 ∧ ids.eraseDups.length = ids.length) &&
    (List.range n).all (entryFormat b)

/-- VARIANTS bit and `VARIANT` code of a variant. -/
def variantNum : Variant → Nat
  | .a => 0 | .g => 1 | .s => 2 | .l => 3

/-- Header, component table and signature block of a container, after its D: a record of R511. -/
def contRecord (b : List Byte) : List Byte := imageDigest b ++ b.take (24 + 96 * contCount b) ++ b.drop (contSig b)

/-! ### Banks (R505, R510, R511) -/

/-- What production installed. -/
def productionBank (n : Nat) : Bank :=
  let b := Config.productionImage n
  if contFormat b then { comps := contComps b, records := [contRecord b] } else {}

def bankOf (s : State) (n : Nat) : Bank := ((s.update.banks.getD n none).getD (productionBank n))

def activeBank (s : State) : Nat := getNat s Obj.UPD_ACTIVE_BANK % 2

def bankComp (b : Bank) (id : Nat) : Option Comp := b.comps.find? (fun c => c.id = id)

/-- `BANK_STATE`: 0 EMPTY, 1 VALID, 2 FAILED. -/
def bankState (s : State) (n : Nat) : Nat :=
  if s.update.bankFailed.getD n false then 2 else if (bankOf s n).comps.isEmpty then 0 else 1

/-- `BANK_VERSIONS` and `BANK_RECORD`. -/
def bankVersions (b : Bank) : List Byte := (List.range 5).flatMap (fun i => be 4 (((bankComp b (i + 1)).map (·.version)).getD 0))
def bankRecord (b : Bank) : List Byte := b.records.flatMap (fun r => r.drop 48)

/-- The resulting set: the container's components and those of the active bank that it does not carry (R505). -/
def resultSet (own : List Comp) (active : Bank) : List Comp :=
  own ++ active.comps.filter (fun c => !own.any (fun x => decide (x.id = c.id)))

def compatible (l : List Comp) : Bool :=
  l.all (fun c => l.all (fun d => decide (c.id = d.id ∨ d.minPeer.getD (c.id - 1) 0 ≤ c.version))) &&
    decide ((l.map (fun c => c.data.length)).sum ≤ 25161728)

/-- The bank that an install writes: the set and the records of its source containers. -/
def makeBank (b : List Byte) (active : Bank) : Bank :=
  let set := resultSet (contComps b) active
  let recs := contRecord b :: active.records.filter (fun r => set.any (fun c => decide (c.source = r.take 48)))
  { comps := set, records := recs.eraseDups }

/-! ### Verification (R504, R508) -/

/-- Slot 4 holds a usable owner image key (R343). -/
def imageKey (s : State) : Bool := (slotOf s 4).any (fun k => slotUsable s k useUpdate)

/-- Test 6: the co-signature (R504). -/
def cosignOk (s : State) (b : List Byte) (ok : Bool) : Bool :=
  if imageKey s then
    (if getN s Obj.LC_STATE = 2 then decide (cosigFlag b = 1) && ok else decide (cosigFlag b = 0) || ok)
  else true

/-- "Staging tests" in order: the first that fails, or 0. In recovery R505 checks the container's own set alone (R512). -/
def stageTest (s : State) (b : List Byte) (sigOk cosigOk : Bool) : Nat :=
  let own := contComps b
  if b.length ≠ fieldU b 8 4 then 1
  else if contFormat b = false then 2
  else if (fieldU b 7 1).testBit (variantNum s.variant) = false then 3
  else if own.any (fun c => decide (be 48 (Config.sha384 c.data) ≠ c.digest)) then 4
  else if sigOk = false then 5
  else if cosignOk s b cosigOk = false then 6
  else if compatible (if s.mode = .recovery then own else resultSet own (bankOf s (activeBank s))) = false then 7
  else 0

def stagedBytes (s : State) (n : Nat) : List Byte := s.update.staged.getD n []

/-- Both slots VALID with different D: a C0 event at its beginning (R509). -/
def evalConflict (s : State) : State :=
  let both : Bool := decide (getN s (Obj.STAGE_STATE 0) = 3 ∧ getN s (Obj.STAGE_STATE 1) = 3)
  let c : Bool := both && decide (getB s (Obj.STAGE_DIGEST 0) ≠ getB s (Obj.STAGE_DIGEST 1))
  let s1 := setN Obj.UPD_CONFLICT (if c then 1 else 0) s
  if c ∧ getN s Obj.UPD_CONFLICT = 0 then journal { kind := 7, key := Obj.FAULT_RECORD, new := be 2 0x3A00 } (raise 0x3A00 0 {} s1) else s1

/-- Verification again against the active bank (R508). -/
def reverify (s : State) : State :=
  evalConflict ([0, 1].foldl (fun a n =>
    let ok := compatible (resultSet (contComps (stagedBytes a n)) (bankOf a (activeBank a)))
    if getN a (Obj.STAGE_STATE n) = 3 ∧ ok = false then a |> setN (Obj.STAGE_STATE n) 4 |> setN (Obj.STAGE_CAUSE n) 7
    else if getN a (Obj.STAGE_STATE n) = 4 ∧ getN a (Obj.STAGE_CAUSE n) = 7 ∧ ok then a |> setN (Obj.STAGE_STATE n) 3 |> setN (Obj.STAGE_CAUSE n) 0
    else a) s)

/-! ### Installs (R509, R510) -/

/-- An install begins: the inactive bank is erased. -/
def startInstall (slot : Nat) (auto : Bool) (s : State) : State :=
  let b := 1 - activeBank s
  setJ Obj.UPD_STATE 1 (setUpd (fun u =>
    { u with installing := some slot, autoActivate := auto, banks := u.banks.set b (some {}), bankFailed := u.bankFailed.set b false }) s)

/-- An install, an activation or a trial is in progress. -/
def updateBusy (s : State) : Bool := decide (getN s Obj.UPD_STATE ≠ 0 ∧ getN s Obj.UPD_STATE ≠ 2)

/-- While `UPD_SD_AUTO` is 1 a VALID slot 0 with no conflict is installed, unless a bank holds its image already (R509). -/
def autoInstall (s : State) : State :=
  if getN s Obj.UPD_SD_AUTO = 1 ∧ getN s (Obj.STAGE_STATE 0) = 3 ∧ getN s Obj.UPD_CONFLICT = 0 ∧ updateBusy s = false then
    (if [0, 1].any (fun n => (bankOf s n).records.any (fun r => decide (r.take 48 = getB s (Obj.STAGE_DIGEST 0)))) then s
     else startInstall 0 true s)
  else s

/-- `UPD_SD_AUTO`: set to 1, it acts on the image that slot 0 holds (R509). -/
def ruleSdAuto : Rule := { eff := fun v s => if v.int = 1 then autoInstall s else s }

/-- An event of the update unit: the module runs, or its boot ROM is in recovery (R512). -/
def ifUpdate (f : State → State) (s : State) : State := if up s || decide (s.mode = .recovery) then f s else s

/-- In recovery a passing image goes to bank A, and the module restarts from milestone 1 (R512). -/
def recoverFrom (b : List Byte) (s : State) : State :=
  let s1 := setUpd (fun u => { u with banks := u.banks.set 0 (some { comps := contComps b, records := [contRecord b] }), trial := none }) s
  setN Obj.START_CAUSE (getN s Obj.START_CAUSE) (startUp 0 (setN Obj.UPD_ACTIVE_BANK 0 s1))

def stageDone (n : Nat) (sigOk cosigOk : Bool) (s : State) : State :=
  if getN s (Obj.STAGE_STATE n) ≠ 2 then s
  else
    let b := stagedBytes s n
    let t := stageTest s b sigOk cosigOk
    let s1 := s |> setN (Obj.STAGE_STATE n) (if t = 0 then 3 else 4) |> setN (Obj.STAGE_CAUSE n) t
    let s2 := if t = 0 ∨ 2 < t then s1 |> setB (Obj.STAGE_DIGEST n) (imageDigest b) |> setB (Obj.STAGE_HEADER n) (b.take (24 + 96 * contCount b)) else s1
    if s.mode = .recovery then (if t = 0 ∧ n = 0 then recoverFrom b s2 else s2)
    else
      let s3 := evalConflict s2
      if t = 0 ∧ n = 0 ∧ getN s3 Obj.UPD_SD_AUTO = 1 ∧ getN s3 Obj.UPD_CONFLICT = 0 ∧ updateBusy s3 = false then startInstall 0 true s3 else s3

def execStageVerifyDone (slot : Fin 2) (sigOk cosigOk : Bool) (s : State) : Host.Outcome State Fault Refusal :=
  finish (ifUpdate (stageDone slot.val sigOk cosigOk) s)

/-! ### Staging (R506–R508) -/

/-- SD_CD_N has been low for 100 ms: the card is read (R506, R512). -/
def execSdCardDetect (s : State) : Host.Outcome State Fault Refusal :=
  finish (ifUpdate (fun t => if milestone t 7 ∨ t.mode = .recovery then startSd t else t) s)

def sdDone (r : SdResult) (s : State) : State :=
  if s.update.sdSince.isNone then s
  else
    let s1 := setUpd (fun u => { u with sdSince := none }) s
    let fail (d : Nat) : State := report 0x3900 1 { detail := d } (bump Obj.SD_READ_ERR (emptySlot 0 s1))
    match r with
    | .image b => setN (Obj.STAGE_STATE 0) 2 (setUpd (fun u => { u with staged := u.staged.set 0 b }) s1)
    | .readError => fail 1
    | .noFile => fail 2
    | .unsupported => fail 3

def execSdReadDone (r : SdResult) (s : State) : Host.Outcome State Fault Refusal := finish (ifUpdate (sdDone r) s)

/-- A segment of the image: it streams into slot 1 (R378, R507). -/
def stageSegment (q : Req) (s : State) : Nat × State :=
  let v := q.value.take q.valueLen
  let s1 := if q.offset = 0 then autoInstall (setN (Obj.STAGE_STATE 1) 1 (emptySlot 1 s)) else s
  let held := (stagedBytes s1 1).length
  if q.offset ≠ 0 ∧ (getN s1 (Obj.STAGE_STATE 1) ≠ 1 ∨ q.offset ≠ held) then
    (stRange, if getN s1 (Obj.STAGE_STATE 1) = 1 then emptySlot 1 s1 else s1)
  else if 25165824 < held + v.length then (stLength, emptySlot 1 s1)
  else
    let s2 := setUpd (fun u => { u with staged := modAt 1 (· ++ v) u.staged }) s1
    (stOk, if q.last then setN (Obj.STAGE_STATE 1) 2 s2 else s2)

def stageTransom (q : Req) (s0 : State) : State :=
  match acceptFrame q.hdr q.sess s0 with
  | (none, s) => s
  | (some s1, _) =>
    let s := agentCount (acceptRequest q.sess s1)
    let k := Obj.UPD_STAGE_TRANSOM
    let t := tests1to9 q .write (k / 256) (k % 256) s
    let v := q.value.take q.valueLen
    if t ≠ stOk then answer q .write k t [] v [] s
    else
      let r := stageSegment q s
      if r.1 ≠ stOk then answer q .write k r.1 [] v [] r.2
      else if q.last then answer q .write k stOk [] (stagedBytes r.2 1) [] r.2
      else respond q 2 stOk (k / 256) (k % 256) 0 0 [] r.2

def execUpdStageTransom (q : Req) (s : State) : Host.Outcome State Fault Refusal := finish (ifUp (stageTransom q) s)

def ruleDiscard : Rule :=
  { chk := fun s v =>
      if 1 < v.nat then (stRange, []) else if s.update.installing = some v.nat then (stBusy, []) else (stOk, [])
    eff := fun v s => autoInstall (emptySlot v.nat s) }

def execUpdDiscard (q : Req) (s : State) : Host.Outcome State Fault Refusal :=
  finish (ifUp (ownerCommand q Obj.UPD_DISCARD ruleDiscard) s)

/-! ### Install -/

/-- A VALID slot with a digest. -/
def slotWith (s : State) (d : List Byte) : Option Nat :=
  [0, 1].find? (fun n => decide (getN s (Obj.STAGE_STATE n) = 3 ∧ getB s (Obj.STAGE_DIGEST n) = d))

def ruleInstall : Rule :=
  { chk := fun s v =>
      if (slotWith (reverify s) v.bytes).isNone then (stRange, []) else if updateBusy s then (stBusy, []) else (stOk, [])
    eff := fun v s => let s1 := reverify s; match slotWith s1 v.bytes with | some n => startInstall n false s1 | none => s1
    refused := fun _ s => reverify s }

def execUpdInstall (q : Req) (s : State) : Host.Outcome State Fault Refusal :=
  finish (ifUp (ownerCommand q Obj.UPD_INSTALL ruleInstall) s)

/-- The first whole second at least 10 s after now (R513). -/
def earliestAt (s : State) : Nat := (s.ts.mts + 10 * sec48 + sec48 - 1) / sec48

/-- A schedule is made. -/
def scheduleAt (sec : Nat) (bank : Nat) (rollback : Bool) (s : State) : State :=
  setJ Obj.UPD_STATE 3 (setN Obj.UPD_ACTIVATE_AT ((sec * sec96 : Nat) : Int)
    (setUpd (fun u => { u with schedule := some { sec := some sec, bank := bank, rollback := rollback } }) s))

def installDone (ok : Bool) (s : State) : State :=
  match s.update.installing with
  | none => s
  | some n =>
    let b := 1 - activeBank s
    let auto := s.update.autoActivate
    let s1 := setUpd (fun u => { u with installing := none, autoActivate := false }) s
    if ok ∧ n < 2 ∧ getN s (Obj.STAGE_STATE n) = 3 then
      let s2 := setJ Obj.UPD_STATE 2 (setUpd (fun u =>
        { u with banks := u.banks.set b (some (makeBank (stagedBytes s n) (bankOf s (activeBank s)))) }) s1)
      if auto then scheduleAt (earliestAt s2) b false s2 else s2
    else
      report 0x3800 1 { detail := b } (setJ Obj.UPD_STATE 0 (setUpd (fun u => { u with banks := u.banks.set b (some {}) }) s1))

def execInstallDone (ok : Bool) (s : State) : Host.Outcome State Fault Refusal := finish (ifUp (installDone ok) s)

/-! ### Activation (R513–R516) -/

/-- AT of R513: its range, then the time scale. -/
def atStatus (s : State) (t : Nat) : Nat :=
  if t ≠ 0 ∧ (t % sec96 ≠ 0 ∨ t < mts96 s + 10 * sec96 ∨ mts96 s + 31536000 * sec96 < t) then stRange
  else if t ≠ 0 ∧ getN s Obj.TS_STATE = 0 then stConflict
  else stOk

def atSecond (s : State) (t : Nat) : Nat := if t = 0 then earliestAt s else t / sec96

def ruleActivate : Rule :=
  { chk := fun s v => if getN s Obj.UPD_STATE ≠ 2 then (stConflict, []) else (atStatus s v.nat, [])
    eff := fun v s => scheduleAt (atSecond s v.nat) (1 - activeBank s) false s
    status := stPending }

def execUpdActivate (q : Req) (s : State) : Host.Outcome State Fault Refusal :=
  finish (ifUp (ownerCommand q Obj.UPD_ACTIVATE ruleActivate) s)

/-- The inactive bank must verify under R511. -/
def ruleRollback (bankOk : Bool) : Rule :=
  { chk := fun s v =>
      let busy : Bool := decide (getN s Obj.UPD_STATE = 1 ∨ getN s Obj.UPD_STATE = 3 ∨ getN s Obj.UPD_STATE = 4)
      if busy || (bankOf s (1 - activeBank s)).comps.isEmpty || !bankOk then (stConflict, []) else (atStatus s v.nat, [])
    eff := fun v s => scheduleAt (atSecond s v.nat) (1 - activeBank s) true s
    status := stPending }

def execUpdRollback (q : Req) (bankOk : Bool) (s : State) : Host.Outcome State Fault Refusal :=
  finish (ifUp (ownerCommand q Obj.UPD_ROLLBACK (ruleRollback bankOk)) s)

def ruleCancel : Rule :=
  { chk := fun s _ => if getN s Obj.UPD_STATE = 3 then (stOk, []) else (stConflict, [])
    eff := fun _ s =>
      let back : Bool := (s.update.schedule.map (·.rollback)).getD false
      setJ Obj.UPD_STATE (if back then (if s.update.trial.isSome then 5 else 0) else 2)
        (setN Obj.UPD_ACTIVATE_AT 0 (setUpd (fun u => { u with schedule := none }) s)) }

def execUpdCancel (q : Req) (s : State) : Host.Outcome State Fault Refusal :=
  finish (ifUp (ownerCommand q Obj.UPD_CANCEL ruleCancel) s)

/-- The version of a component differs between two banks. -/
def changed (a b : Bank) (id : Nat) : Bool := decide ((bankComp a id).map (·.version) ≠ (bankComp b id).map (·.version))

/-- Requests that wait are answered BUSY with no effect (R447, R514). -/
def busyWaiting (s : State) : State :=
  let s2 := (List.range 16).foldl (fun a i => refuseWaiting (i + 1) stBusy a) s
  (List.range 16).foldl (fun a i =>
    let x := session a (i + 1)
    (x.held).foldl (fun b h => respond h.2 1 stBusy (h.1 / 256) (h.1 % 256) 1 0 [] b) (setSession (i + 1) { x with held := [] } a)) s2

/-- Cores that a warm activation restarts; whether bursts were in flight is free (R433). -/
def warmCores (l : List Nat) (s : State) : State :=
  l.foldl (fun a n => setN (Obj.CORE_STATE n) 2 (if Config.freeBit a.freeCtr then masterReset n (nextFree a) else nextFree a)) s

/-- What each changed component does at AT ("Warm activation"). -/
def warmComponents (old new : Bank) (s : State) : State :=
  let s1 := if changed old new 1 then warmCores [0, 1, 2, 3] (busyWaiting s) else s
  let s2 := if changed old new 2 then setSel (fun x => { x with interval := none }) (warmCores [4] (bump (Obj.CORE_RESTARTS 4) s1)) else s1
  let s3 := if changed old new 3 ∧ hasGnss s.variant then gnssRestart s2 else s2
  match bankComp new 5 with
  | some c => if changed old new 5 then setN Obj.DICT_VERSION (Config.imageDictVersion c.data) s3 else s3
  | none => s3

/-- The activation at an epoch boundary (R514). A rollback of a failed trial counts and raises (R516). -/
def activate (x : Activation) (s : State) : State :=
  let old := activeBank s
  let failed := x.sec.isNone
  let bad := if getN s (Obj.CORE_STATE 4) = 2 then 2 else if (List.range 4).any (fun n => decide (getN s (Obj.CORE_STATE n) = 2)) then 1 else 0
  let s1 := setN Obj.UPD_ACTIVE_BANK (x.bank : Nat) (setUpd (fun u =>
    { u with
      schedule := none
      trial := if failed then none else some { since := s.now, before := old } }) s)
  let s2 := journal { kind := 6, key := Obj.UPD_ACTIVATE, old := be 1 old, new := be 1 x.bank } (bump Obj.UPD_ACTIVATIONS (setJ Obj.UPD_STATE 4 s1))
  let from' := if failed then 1 - x.bank else old
  let s3 := warmComponents (bankOf s from') (bankOf s x.bank) s2
  let s4 := if failed then report 0x3B00 1 { detail := bad } (bump Obj.UPD_ROLLBACKS s3) else s3
  let s5 := reverify s4
  if (List.range 5).any (fun i => decide (getN s5 (Obj.CORE_STATE i) = 2)) then s5
  else setJ Obj.UPD_STATE (if failed then 0 else 5) s5

/-- AT has come, at an epoch boundary; while S3 is closed it waits (R513, R515). -/
def updActivation (s : State) : State :=
  match s.update.schedule with
  | some x =>
    let due : Bool := match x.sec with | some t => decide (t * sec48 ≤ s.ts.mts) | none => true
    if due && decide (s.power.closed < 3) && milestone s 6 then activate x s else s
  | none => s

def execUpdActivation (s : State) : Host.Outcome State Fault Refusal :=
  finish (ifUp (fun t => if atBoundary t then updActivation t else t) s)

/-- `UPD_TRIAL_LEFT` in s. -/
def trialLeft (s : State) : Nat :=
  match s.update.trial with
  | some t => getNat s Obj.UPD_TRIAL - min (getNat s Obj.UPD_TRIAL) ((s.now - t.since) / sT)
  | none => 0

/-- A trial that runs its course (R516). -/
def trialExpiry (s : State) : State :=
  match s.update.trial with
  | some t =>
    if t.since + getNat s Obj.UPD_TRIAL * sT ≤ s.now ∧ getN s Obj.UPD_STATE = 5 then
      autoInstall (setJ Obj.UPD_STATE 0 (setN Obj.UPD_TRIAL_LEFT 0 (setUpd (fun u => { u with trial := none }) s)))
    else s
  | none => s

def execUpdTrialExpiry (s : State) : Host.Outcome State Fault Refusal := finish (ifUp trialExpiry s)

/-! ### Start (R511, R512) -/

/-- Milestone 4: the bank that the selector names, or the other; with neither, recovery. -/
def imageVerify (okA okB : Bool) (s : State) : State :=
  if getN s Obj.START_MILESTONE ≠ 3 then s
  else
    let ok (n : Nat) : Bool := (if n = 0 then okA else okB) && !(bankOf s n).comps.isEmpty
    let a := activeBank s
    let fail (n : Nat) (t : State) : State := setUpd (fun u => { u with bankFailed := u.bankFailed.set n true }) t
    if ok a then complete 4 s
    else if ok (1 - a) then
      complete 4 (setN Obj.UPD_STATE 0 (setN Obj.UPD_ACTIVE_BANK ((1 - a : Nat) : Int) (setUpd (fun u => { u with trial := none }) (fail a s))))
    else
      let s1 := fail 0 (fail 1 s)
      startSd (setN Obj.REMAP_BIT 0 { s1 with mode := .recovery, restarts := [], restartsDue := [] })

def execImageVerify (okA okB : Bool) (s : State) : Host.Outcome State Fault Refusal := finish (ifUp (imageVerify okA okB) s)

/-- Symbol tables of a bank's component 1 or 2, in pages (R454). -/
def symtabPage (s : State) (bank id page : Nat) : List Byte :=
  match bankComp (bankOf s bank) id with
  | some c => slice (Config.symbolTable c.data) (65536 * page) 65536
  | none => []

/-! ### Instruction sampling (R452, R453) -/

/-- SEQ of the next sample: a lost one leaves a gap (R453). -/
def sampleSeq (s : State) : Nat := getNat s Obj.SAMPLES + getNat s Obj.SAMPLE_DROPPED + 1

/-- BUILD_ID of the symbol table of a core's running firmware (R452, R454). -/
def buildOf (s : State) (core : Nat) : Nat := fieldU (symtabPage s (activeBank s) (if core = 4 then 2 else 1) 0) 8 4

/-- The 256 bytes of an entry ("Sample entry"). -/
def sampleBytes (s : State) (x : SampleIn) : List Byte :=
  let flags := 1 + (if x.branch then 2 else 0) + (if x.excepted then 4 else 0) + (if x.truncated then 8 else 0)
  let st := x.stack.take 16
  be 1 x.core ++ be 1 flags ++ be 1 st.length ++ be 1 x.task ++ be 4 x.latency ++ be 8 (sampleSeq s) ++ be 8 (coreCycles s x.core) ++
    be 8 x.address ++ be 4 x.opcode ++ be 4 (buildOf s x.core) ++ t96Bytes (mts96 s) ++ List.replicate 12 0 ++ st.flatMap (be 8) ++
    List.replicate (8 * (16 - st.length) + 64) 0

/-- Awaiting entries that the bus has written stand in the ring, at consecutive positions. -/
def writeSamples (n : Nat) (s : State) : State :=
  setCores (fun c =>
    { c with awaiting := c.awaiting.drop n, ring := (c.awaiting.take n).foldl (fun r e => insertKV e.1 e.2 r) c.ring }) s

def instrSample (x : SampleIn) (written : Nat) (s0 : State) : State :=
  let s := writeSamples written s0
  if 5 ≤ x.core ∨ (getNat s Obj.SAMPLE_ENABLE).testBit x.core = false ∨ getN s (Obj.CORE_STATE x.core) ≠ 0 then s
  else if 8 ≤ s.cores.awaiting.length then bump Obj.SAMPLE_DROPPED s
  else
    let pos := getNat s Obj.SAMPLES % 4096
    bump Obj.SAMPLES (setN Obj.SAMPLE_HEAD_SEQ (sampleSeq s : Nat)
      (handOnBy 0 <| setCores (fun c => { c with awaiting := c.awaiting ++ [(pos, sampleBytes s x)] }) s))

def execInstrSample (x : SampleIn) (written : Nat) (s : State) : Host.Outcome State Fault Refusal :=
  finish (ifUp (instrSample x written) s)

/-- A page of 256 entries at ring positions 256p to 256p + 255 (R453). -/
def samplePage (s : State) (p : Nat) : List Byte :=
  (List.range 256).flatMap (fun i => (lookupKV (256 * p + i) s.cores.ring).getD (List.replicate 256 0))

end Sys2Proof.Machine
end

