-- ==== Sys2Proof/Machine/Pair.lean ====
section
/-! DEFINITION. Machine/Pair.lean: the Hinge, shadow operation, health, roles and handover (R471–R486). -/
namespace Sys2Proof.Machine

def setHinge (f : Hinge → Hinge) (s : State) : State := { s with hinge := f s.hinge }

/-- `HINGE_STATE` UP. -/
def hingeUp (s : State) : Bool := decide (getN s Obj.HINGE_STATE = 1)

/-- The lane carries frames of an enabled pair (R471). -/
def hingeRuns (s : State) : Bool := s.hinge.lane && decide (getN s Obj.PAIR_ENABLE = 1)

def isStandby (s : State) : Bool := decide (getN s Obj.PAIR_ROLE = 1)

/-- The tag of a frame: AES-CMAC under the Hinge key of the pair secret (R472). -/
def hingeTag (s : State) (kind : Nat) (data : List Byte) : List Byte :=
  be 16 (Config.cmac (Config.kdf (keyOf s 2) (label [0x46, 0x4E, 0x48, 0x4E, 0x47]) [] / 2 ^ 128) (be 1 kind ++ data))

/-- A frame of the pair leaves with its tag: 0 heartbeat, 2 keys, 3 session, 4 journal, 5 to 7 handover. -/
def sendHinge (kind : Nat) (data : List Byte) (s : State) : State := emit (.hinge kind (data ++ hingeTag s kind data)) s

/-! ### Health (R478–R481) -/

def keysSynced (s : State) : Bool := decide (s.hinge.peerKeys = some (getNat s Obj.NTS_EPOCH, getNat s Obj.NTS_NEXT_ROTATE))
def journalSynced (s : State) : Bool := match s.hinge.gapTick with | some t => decide (t + sT ≤ s.now) | none => true
def selftestOk (s : State) : Bool := match s.hinge.testFail with | some t => decide (t + 60 * sT ≤ s.now) | none => true

/-- Bits [23:18] of the health word; each belongs to a standby over a Hinge that is up. -/
def syncBits (s : State) : Nat :=
  let shadow := isStandby s && hingeUp s
  (if hingeUp s then 32 else 0) + (if shadow && s.hinge.locked then 16 else 0) + (if shadow && s.hinge.sessionsSynced then 8 else 0) +
    (if shadow && journalSynced s then 4 else 0) + (if shadow && keysSynced s then 2 else 0) + (if selftestOk s then 1 else 0)

/-- READY. -/
def ready (s : State) : Bool := isStandby s && decide (syncBits s = 63)

/-- "HEALTH_WORD field map" with a SEQ. -/
def healthWord (s : State) (seq : Nat) : Nat :=
  let worst := getNat s Obj.FAULT_WORST_LIVE
  getNat s Obj.PAIR_HOME % 2 * 2 ^ 28 + getNat s Obj.PAIR_ROLE % 4 * 2 ^ 26 + (if fit s then 2 ^ 25 else 0) +
    (if ready s then 2 ^ 24 else 0) + syncBits s * 2 ^ 18 + (if getN s Obj.FAULT_ROLE_HOLD = 1 then 2 ^ 17 else 0) +
    (if getN s Obj.TAMPER_STATE ≠ 0 then 2 ^ 16 else 0) + getNat s Obj.BOUND_GRADE % 8 * 2 ^ 13 + getNat s Obj.TS_STATE % 8 * 2 ^ 10 +
    s.power.closed % 8 * 2 ^ 7 + (if worst = 255 then 7 else worst % 8) * 16 + seq % 16

/-- The word is published at each epoch boundary. -/
def publishHealth (s : State) : State := setN Obj.HEALTH_WORD (healthWord s (getNat s Obj.HEALTH_WORD % 16 + 1) : Nat) s

/-! ### Roles (R480, R482–R484) -/

/-- ROLE, FIT and READY of the peer's word. -/
def peerRole (s : State) : Nat := getNat s Obj.PEER_HEALTH_WORD / 2 ^ 26 % 4
def peerFitReady (s : State) : Bool := (getNat s Obj.PEER_HEALTH_WORD).testBit 25 && (getNat s Obj.PEER_HEALTH_WORD).testBit 24

/-- The role changes: the protocols and outputs take the conduct of the new one. -/
def setRole (r : Nat) (s : State) : State :=
  let s1 := setN Obj.PAIR_ROLE_SINCE (mts96 s) (setJ Obj.PAIR_ROLE r (setHinge (fun h => { h with roleTick := s.now }) s))
  evalClks (refreshInsts s1)

/-- `PAIR_WTR_LEFT` is loaded, and its first second begins (R485). -/
def loadWtr (s : State) : State :=
  if getN s Obj.PAIR_HOME = 1 ∧ getN s Obj.PAIR_REVERTIVE = 1 then
    setN Obj.PAIR_WTR_LEFT (getN s Obj.WTR_PAIR) (setHinge (fun h => { h with wtrSec := mtsSec s }) s)
  else s

def becomeStandby (s : State) : State := loadWtr (setRole 1 s)

/-- One gratuitous ARP or unsolicited Neighbor Advertisement (R337). -/
def announceSvc (p a : Nat) (s : State) : State :=
  let v6 := decide (16 ≤ a)
  let mac := svcMac s a
  let f : Frame :=
    { dst := if v6 then 0x333300000001 else 0xFFFFFFFFFFFF, src := mac, etherType := if v6 then 0x86DD else 0x0806
      body := .tell v6 (octets s (Obj.SVC_ADDR a) 16) mac }
  enqueue p { frame := f, len := if v6 then 90 else 64, queue := engineQ s p, tick := s.now, vlan := getNat s (Obj.SVC_VLAN a) } s

def announceAll (s : State) : State :=
  (List.range 32).foldl (fun a n =>
    if getN a (Obj.SVC_ENABLE n) = 1 then
      (List.range (nPorts a.variant)).foldl (fun b p => if (getNat b (Obj.SVC_PORTS n)).testBit p then announceSvc p n b else b) a
    else a) s

/-- The loops pass from the Hinge to the module's own selection with build-out and no step (R140, R483). -/
def takeLoops (s : State) : State :=
  let s1 := { s with ts := { s.ts with prevMeas := none, acqDone := true, recDone := true } }
  if hingeRef s ∧ activeTime s ≠ 0xFF then
    setSel (fun x => { x with buildOutFrom := s.now }) (bump Obj.SWITCH_COUNT (setN Obj.SWITCH_STATE 1 s1))
  else s1

/-- R483. -/
def becomeActive (s : State) : State :=
  announceAll (resumePtp (clearLouvre (bump Obj.TAKEOVERS (setRole 2 (takeLoops s)))))

/-- Source 0x3200 ("Pairing fault sources"). -/
def arbFault (detail : Nat) (s : State) : State := report 0x3200 1 { detail := detail } s

def dualActive (s : State) : State := arbFault 1 (bump Obj.DUAL_ACTIVE s)

/-- The handover has succeeded (R486). -/
def handoverDone (s : State) : State := bump Obj.HANDBACKS (setHinge (fun h => { h with handover := none, ignoreLow := none }) s)

/-- ACTIVE_IN low is ignored (R486). -/
def ignoresLow (s : State) : Bool := match s.hinge.ignoreLow with | some t => decide (s.now < t) | none => false

/-- The role by ACTIVE_IN and the peer's report (R482). `change` says that ACTIVE_IN has just changed: what a standby counts. -/
def decideRole (change : Bool) (s : State) : State :=
  let h := s.hinge
  let role := getN s Obj.PAIR_ROLE
  let peerActive := hingeUp s && decide (peerRole s = 2)
  if getN s Obj.PAIR_ENABLE = 0 ∨ h.started = false then s
  else if h.activeIn = false then
    if role = 1 then s
    else if role = 3 then handoverDone (becomeStandby s)
    else if ignoresLow s then s
    else becomeStandby s
  else if role = 3 then s
  else if role = 2 then
    -- neither was ACTIVE: both took the role between two heartbeats
    if peerActive && decide (h.beatTick < h.roleTick ∧ getN s Obj.PAIR_HOME = 0) then dualActive (becomeStandby s) else s
  else if fit s = false then (if role = 0 then becomeStandby s else s)
  else if peerActive = false then becomeActive s
  else
    let s1 := if role = 0 then becomeStandby s else s
    if change then dualActive s1 else s1

/-- `PAIR_ENABLE` (R471). -/
def rulePairEnable : Rule :=
  { chk := fun s v => if v.int = 1 ∧ getN s Obj.PAIR_BOND_STATE ≠ 2 then (stConflict, []) else (stOk, [])
    eff := fun v s =>
      if v.int = 0 then
        setRole 0 (setN Obj.PAIR_WTR_LEFT 0 (setHinge (fun h => { h with handover := none, ignoreLow := none, exch := [] }) s))
      else
        let s1 := setN Obj.PEER_HEALTH_PIN (if s.hinge.peerPin then 1 else 0) s
        if s1.hinge.started then decideRole true s1 else becomeStandby s1 }

def execPairEnable (q : Req) (s : State) : Host.Outcome State Fault Refusal :=
  finish (ifUp (ownerWrite q Obj.PAIR_ENABLE rulePairEnable) s)

/-- ACTIVE_IN has held a new level for 10 µs (R482, R486). -/
def activeInChange (level : Bool) (s : State) : State :=
  let s1 := setHinge (fun h => { h with activeIn := level }) s
  if up s1 = false ∨ getN s1 Obj.PAIR_ENABLE = 0 ∨ s.hinge.activeIn = level then s1
  else
    let s2 := match s1.hinge.handover with
      | some x => if level && x.mine && x.acted.isSome && decide (getN s1 Obj.PAIR_ROLE = 2) then handoverDone s1 else s1
      | none => s1
    decideRole true s2

def execActiveInChange (level : Bool) (s : State) : Host.Outcome State Fault Refusal := finish (activeInChange level s)

/-- At start the role is STANDBY until milestone 9 and until the Hinge has been UP or DOWN for 1 s (R484). -/
def startRoleDwell (s : State) : State :=
  if s.hinge.started ∨ milestone s 9 = false ∨ s.now < s.hinge.settled + sT then s
  else decideRole true (setHinge (fun h => { h with started := true }) s)

def execStartRoleDwell (s : State) : Host.Outcome State Fault Refusal := finish (ifUp startRoleDwell s)

/-- PEER_HEALTH_IN into bit 0 of `PEER_HEALTH_PIN` (R471, R481). -/
def peerPinChange (level : Bool) (s : State) : State :=
  let s1 := setHinge (fun h => { h with peerPin := level }) s
  if up s1 = false ∨ getN s1 Obj.PAIR_ENABLE = 0 then s1 else setN Obj.PEER_HEALTH_PIN (if level then 1 else 0) s1

def execPeerHealthInChange (level : Bool) (s : State) : Host.Outcome State Fault Refusal := finish (peerPinChange level s)

/-! ### Handover (R485, R486) -/

/-- The first whole second of MTS at least 2 s ahead. -/
def handoverSecond (s : State) : Nat := (s.ts.mts + 2 * sec48 + sec48 - 1) / sec48

/-- The whole-second count of `PAIR_WTR_LEFT`. -/
def wtrPair (s : State) : State :=
  if isStandby s = false ∨ getN s Obj.PAIR_HOME = 0 ∨ getN s Obj.PAIR_REVERTIVE = 0 then s
  else if fit s = false ∨ ready s = false then loadWtr s
  else if mtsSec s = s.hinge.wtrSec then s
  else setHinge (fun h => { h with wtrSec := mtsSec s })
    (if 0 < getN s Obj.PAIR_WTR_LEFT then setN Obj.PAIR_WTR_LEFT (getN s Obj.PAIR_WTR_LEFT - 1) s else s)

/-- A handover frame: 5 request, 6 acceptance, 7 refusal. -/
def sendHandover (kind sec : Nat) (s : State) : State := sendHinge kind (be 6 sec) s

/-- The count reaches 0: the request (R485). Both homes or neither make none. -/
def wtrExpiry (s : State) : State :=
  if isStandby s && hingeUp s && decide (getN s Obj.PAIR_HOME = 1 ∧ getN s Obj.PAIR_REVERTIVE = 1 ∧ getN s Obj.PAIR_WTR_LEFT = 0) && fit s &&
      ready s && !s.hinge.peerHome && s.hinge.handover.isNone then
    let sec := handoverSecond s
    sendHandover 5 sec (setHinge (fun h => { h with handover := some { mine := true, sec := sec } }) s)
  else s

def execPairWtrExpiry (s : State) : Host.Outcome State Fault Refusal := finish (ifUp wtrExpiry s)

/-- `PAIR_HANDOVER` on the active: the same request for the peer. -/
def rulePairHandover : Rule :=
  { chk := fun s _ => if getN s Obj.PAIR_ROLE = 2 ∧ hingeUp s ∧ peerFitReady s then (stOk, []) else (stConflict, [])
    eff := fun _ s =>
      let sec := handoverSecond s
      sendHandover 5 sec (setHinge (fun h => { h with handover := some { mine := false, sec := sec, accepted := true } }) s) }

def execPairHandover (q : Req) (s : State) : Host.Outcome State Fault Refusal :=
  finish (ifUp (ownerCommand q Obj.PAIR_HANDOVER rulePairHandover) s)

/-- A request arrives: for this module from the active, or from the home module (R485). -/
def handoverRequest (sec : Nat) (s : State) : State :=
  if isStandby s then setHinge (fun h => { h with handover := some { mine := true, sec := sec, accepted := true } }) s
  else if getN s Obj.PAIR_ROLE = 2 ∧ peerFitReady s then
    sendHandover 6 sec (setHinge (fun h => { h with handover := some { mine := false, sec := sec, accepted := true } }) s)
  else sendHandover 7 sec s

/-- The instant S (R486): the active yields, the requester becomes ACTIVE unless its FIT has fallen. -/
def handoverInstant (s : State) : State :=
  match s.hinge.handover with
  | none => s
  | some x =>
    if x.accepted = false ∨ x.acted.isSome ∨ s.ts.mts < x.sec * sec48 then s
    else
      let act (h : Hinge) : Hinge := { h with handover := some { x with acted := some s.now } }
      if x.mine then
        if isStandby s && fit s then
          becomeActive (setHinge (fun h => { act h with ignoreLow := some (s.now + getNat s Obj.PAIR_ARB_TIME * usT) }) s)
        else loadWtr (setHinge (fun h => { h with handover := none }) s)
      else if getN s Obj.PAIR_ROLE = 2 then setRole 3 (setHinge act s)
      else setHinge (fun h => { h with handover := none }) s

def execHandoverInstant (s : State) : Host.Outcome State Fault Refusal :=
  finish (ifUp (fun t => if atBoundary t then handoverInstant t else t) s)

/-- S + `PAIR_ARB_TIME` (R486). -/
def handoverTimeout (s : State) : State :=
  match s.hinge.handover with
  | none => s
  | some x =>
    match x.acted with
    | none => s
    | some t =>
      if s.now < t + getNat s Obj.PAIR_ARB_TIME * usT then s
      else
        let fail (a : State) : State :=
          arbFault 2 (bump Obj.HANDBACK_FAIL (setHinge (fun h => { h with handover := none, ignoreLow := none }) a))
        if x.mine then
          (if s.hinge.activeIn then handoverDone s
           else if getN s Obj.PAIR_ROLE = 2 then fail (becomeStandby s) else fail s)
        else if getN s Obj.PAIR_ROLE = 3 then fail (becomeActive s)
        else setHinge (fun h => { h with handover := none }) s

def execHandoverArbTimeout (s : State) : Host.Outcome State Fault Refusal := finish (ifUp handoverTimeout s)

/-- Both modules, or neither, hold `PAIR_HOME` 1 (R486). -/
def homeConflict (s : State) : State :=
  let due := match s.hinge.conflictTick with | some t => decide (t + 3600 * sT ≤ s.now) | none => true
  if getN s Obj.PAIR_ENABLE = 1 ∧ hingeUp s ∧ s.hinge.peerHome = decide (getN s Obj.PAIR_HOME = 1) ∧ due = true then
    arbFault 3 (setHinge (fun h => { h with conflictTick := some s.now }) s)
  else s

def execHomeConflict (s : State) : Host.Outcome State Fault Refusal := finish (ifUp homeConflict s)

/-! ### Frames (R472, R476, R477) -/

def hingeAuthFail (s : State) : State := report 0x3000 1 { detail := 1 } (bump Obj.HINGE_AUTH_FAIL s)

/-- A valid frame: the run of valid frames goes on, or begins anew after 100 µs without one. -/
def hingeValid (s : State) : State :=
  setHinge (fun h =>
    { h with lastValid := s.now, validFrom := if s.now < h.lastValid + 100 * usT then some (h.validFrom.getD s.now) else some s.now }) s

/-- The standby takes the active's epoch, next rotation and interval (R337, R478). -/
def takeKeys (epoch next rotate : Nat) (s : State) : State :=
  let s1 := setHinge (fun h => { h with peerKeys := some (epoch, next) }) s
  if isStandby s then
    let s2 := setN Obj.NTS_NEXT_ROTATE next (setJ Obj.NTS_EPOCH epoch s1)
    if getNat s2 Obj.NTS_ROTATE = rotate then s2
    else { setJ Obj.NTS_ROTATE rotate s2 with nor := { s2.nor with dirtySince := some (s2.nor.dirtySince.getD s2.now) } }
  else s1

/-- A mirrored session entry (R476). -/
def sessionOfMirror (e : MirrorEntry) : PtpSession :=
  { index := e.index, state := e.state, inst := e.inst, port := e.port, v6 := e.v6, tags := e.tags, vlan := e.vlan, mac := e.mac, addr := e.addr
    peerId := e.peerId, svc := e.svc, sa := e.sa, logSync := e.logSync, logAnn := e.logAnn, logDresp := e.logDresp, syncG := e.syncG
    annG := e.annG, drespG := e.drespG, two := e.two, syncExp := e.syncExp, annExp := e.annExp, drespExp := e.drespExp, seqSync := e.seqSync
    seqAnn := e.seqAnn, nextSync := e.nextSync, nextAnn := e.nextAnn, gen := e.gen }

def mirrorSession (e : MirrorEntry) (s : State) : State :=
  if isStandby s = false ∨ 131072 ≤ e.index then s
  else if e.state = 0 then freeSession e.index s
  else putSession (sessionOfMirror e) s

/-- A mirrored journal entry, and a BREAK entry where the active's SEQ jumps (R477). -/
def mirrorJournal (e : MirrorJournal) (s : State) : State :=
  if isStandby s = false then s
  else
    let s1 := match s.hinge.peerSeq with
      | some q =>
        if e.seq = q + 1 then s
        else setHinge (fun h => { h with gapTick := some s.now })
          (journal { kind := 12, origin := .hinge, key := Obj.JOURNAL_ENTRIES, new := be 8 (q + 1) ++ be 8 (e.seq - 1) } s)
      | none => s
    setHinge (fun h => { h with peerSeq := some e.seq })
      (journal { kind := e.kind, result := e.result, origin := .hinge, key := e.index * 256 + e.sub, flags := e.flags, group := e.group
                 old := e.old, new := e.new, mirror := some (e.session, e.credential, e.oldLen, e.newLen) } s1)

/-- What a frame with a right tag carries. -/
def hingeBody (b : HingeBody) (s : State) : State :=
  match b with
  | .heartbeat w =>
    decideRole false (setN Obj.PEER_HEALTH_WORD (w % 4294967296 : Nat) (setHinge (fun h => { h with peerHome := w.testBit 28 }) s))
  | .keys e n r => takeKeys e n r s
  | .session e => mirrorSession e s
  | .overflow n => bumpBy Obj.MIRROR_OVERFLOW (n : Nat) (setHinge (fun h => { h with sessionsSynced := false, copying := true }) s)
  | .journal e => mirrorJournal e s
  | .request sec => handoverRequest sec s
  | .accept sec =>
    (match s.hinge.handover with
     | some x => if x.mine ∧ x.sec = sec then setHinge (fun h => { h with handover := some { x with accepted := true } }) s else s
     | none => s)
  | .refuse => (match s.hinge.handover with
     | some x => if x.mine then loadWtr (setHinge (fun h => { h with handover := none }) s) else s
     | none => s)
  | .bondCert _ _ _ | .bondKey _ _ => s

/-- A frame from the peer (R472): the tag key rests on the pair secret, and untagged frames are of the bonding exchange only. -/
def hingeFrame (tagged tagOk : Bool) (b : HingeBody) (s : State) : State :=
  if s.hinge.lane = false then s
  else if tagged = false then
    match s.keys.bond, b with
    | some x, .bondCert c d lc => bondCert x c d lc s
    | some x, .bondKey g v => bondKey x g v s
    | _, _ => hingeAuthFail s
  else if tagOk = false ∨ (useKey 2 usePairing s).1 = false then hingeAuthFail s
  else if getN s Obj.PAIR_ENABLE = 0 then s
  else hingeBody b (hingeValid s)

def execHingeFrameRx (tagged tagOk : Bool) (b : HingeBody) (s : State) : Host.Outcome State Fault Refusal :=
  finish (ifUp (hingeFrame tagged tagOk b) s)

/-- A heartbeat every 10 µs; none in the absent-state (R363, R472). -/
def heartbeat (s : State) : State :=
  if hingeRuns s = false ∨ outputsAbsent s ∨ s.now < s.hinge.beatTick + 10 * usT then s
  else sendHinge 0 (be 4 (healthWord s (getNat s Obj.HEALTH_WORD))) (setHinge (fun h => { h with beatTick := s.now }) s)

def execHingeHeartbeatTx (s : State) : Host.Outcome State Fault Refusal := finish (ifUp heartbeat s)

/-- PHASE_LOCKED is cleared (R475). -/
def phaseUnlock (s : State) : State :=
  if s.hinge.locked = false then s
  else report 0x3300 1 { detail := (getN s Obj.HINGE_OFFSET).natAbs * 1000 / 65536 % 4294967296 }
    (bump Obj.LOCK_LOSS (setHinge (fun h => { h with locked := false }) s))

/-- 100 µs without a valid frame (R472, R474, R475). -/
def hingeDown (s : State) : State :=
  if hingeUp s = false ∨ s.now < s.hinge.lastValid + 100 * usT then s
  else
    let s1 := setHinge (fun h =>
      { h with validFrom := none, settled := s.now, exch := [], within := 0, beyond := 0, sessionsSynced := false, copying := false
               peerSeq := none }) { s with ts := { s.ts with prevMeas := none } }
    let s2 := report 0x3000 1 {} (bump Obj.HINGE_DOWN_EVENTS (setN Obj.HINGE_STATE 0 s1))
    decideRole false (phaseUnlock s2)

def execHingeDownTimeout (s : State) : Host.Outcome State Fault Refusal := finish (ifUp hingeDown s)

/-- 1 ms of valid frames (R472). The table is copied anew. -/
def hingeRises (s : State) : State :=
  let due := match s.hinge.validFrom with | some t => decide (t + msT ≤ s.now ∧ s.now < s.hinge.lastValid + 100 * usT) | none => false
  if hingeRuns s = false ∨ hingeUp s ∨ due = false then s
  else
    decideRole false (setN Obj.HINGE_STATE 1
      (setHinge (fun h => { h with settled := s.now, copying := true, sentSessions := [], sentSeq := s.journal.next, sentKeys := none })
        { s with ts := { s.ts with prevMeas := none } }))

def execHingeUp (s : State) : Host.Outcome State Fault Refusal := finish (ifUp hingeRises s)

/-- The copy and the queue behind it are complete (R476). -/
def resyncDone (s : State) : State :=
  if s.hinge.copying && isStandby s && hingeUp s then
    bump Obj.MIRROR_RESYNC (setHinge (fun h => { h with copying := false, sessionsSynced := true }) s)
  else s

def execMirrorResyncDone (s : State) : Host.Outcome State Fault Refusal := finish (ifUp resyncDone s)

/-- The active sends its key epochs at each change and every 1 s. -/
def keysTx (s : State) : State :=
  let k := (getNat s Obj.NTS_EPOCH, getNat s Obj.NTS_NEXT_ROTATE, getNat s Obj.NTS_ROTATE)
  if getN s Obj.PAIR_ROLE ≠ 2 ∨ hingeUp s = false ∨ hingeRuns s = false then s
  else if s.hinge.sentKeys = some k ∧ s.now < s.hinge.keysTick + sT then s
  else sendHinge 2 (be 4 k.1 ++ t96Bytes k.2.1 ++ be 4 k.2.2) (setHinge (fun h => { h with sentKeys := some k, keysTick := s.now }) s)

def execHingeKeysTx (s : State) : Host.Outcome State Fault Refusal := finish (ifUp keysTx s)

/-- The active's new session entries and journal entries leave for the standby (R476, R477): entries kind 3, journal kind 4; a freed
entry is sent as zeros. Updates past the queue's 65,536 places are discarded, and the table is copied anew. -/
def mirrorSend (s : State) : State :=
  if getN s Obj.PAIR_ROLE ≠ 2 ∨ hingeUp s = false ∨ hingeRuns s = false then s
  else
    let old := s.hinge.sentSessions
    let cur := s.ptp.sessions
    let changed := (cur.filter (fun x => !old.contains x)).map (fun x => (x.index, sessionBytes x))
    let freed := (old.filter (fun x => !cur.any (fun y => decide (y.index = x.index)))).map (fun x => (x.index, List.replicate 128 (0 : Byte)))
    let upd := changed ++ freed
    let excess := !old.isEmpty && decide (65536 < upd.length)
    let sent := if excess then upd.take 65536 else upd
    let s1 := sent.foldl (fun a u => sendHinge 3 (be 4 u.1 ++ u.2) a) s
    let s2 := if excess then bumpBy Obj.MIRROR_OVERFLOW ((upd.length - 65536 : Nat) : Int) s1 else s1
    let news := (s2.journal.ring.filter (fun e => decide (s2.hinge.sentSeq ≤ e.seq))).reverse
    let s3 := news.foldl (fun a e => sendHinge 4 (entryBytes e) a) s2
    setHinge (fun h => { h with sentSessions := if excess then [] else cur, sentSeq := s3.journal.next }) s3

/-! ### Time (R473–R475) -/

/-- One exchange: the stamps with `HINGE_DELAY_TX` and `HINGE_DELAY_RX` entered, kept for the mean of eight. -/
def hingeExchange (t1 t2 t3 t4 : Int) (bound : Nat) (s : State) : State :=
  if isStandby s = false ∨ hingeRuns s = false ∨ s.now < s.hinge.exchTick + 125 * usT then s
  else
    let d := ps96 (getF s Obj.HINGE_DELAY_TX - getF s Obj.HINGE_DELAY_RX) s
    setHinge (fun h => { h with exchTick := s.now, activeBound := bound, exch := (((t4 - t3) - (t2 - t1) + d.1) :: h.exch).take 8 }) (hingeValid d.2)

def execHingeTimeExchange (t1 t2 t3 t4 : Int) (bound : Nat) (s : State) : Host.Outcome State Fault Refusal :=
  finish (ifUp (hingeExchange t1 t2 t3 t4 bound) s)

/-- PHASE_LOCKED by 16 consecutive measurements within or beyond 100 ps (R475). -/
def phaseLock (x : Int) (s : State) : State :=
  if x.natAbs * 1000 ≤ 100 * 65536 then
    setHinge (fun h => { h with within := h.within + 1, beyond := 0, locked := h.locked || decide (16 ≤ h.within + 1) }) s
  else
    let s1 := setHinge (fun h => { h with within := 0, beyond := h.beyond + 1 }) s
    if 16 ≤ s1.hinge.beyond then phaseUnlock s1 else s1

/-- The Hinge measurement of a standby (R473, R474). -/
def hingeMeasure (s0 : State) : State :=
  if isStandby s0 = false ∨ hingeUp s0 = false ∨ s0.hinge.exch.length < 8 ∨ s0.now < s0.hinge.measTick + msT then s0
  else
    let q := divFree (s0.hinge.exch.sum) 16 s0
    let s := setN Obj.HINGE_OFFSET q.1 (setHinge (fun h => { h with measTick := s0.now }) (updateBound q.2))
    let asym := (getF s Obj.HINGE_ASYM_UNC).toNat
    let c : Int := s.hinge.activeBound
    if boundFinite c then
      let uM := boundM c + 60 + asym
      let uP := boundP c + 60 + asym
      let m : Meas := { ref := 0xFD, x := q.1, uM := some uM, uP := some uP, atI := s.ts.mts, mark := markNow s }
      let outside := match testMeas s m with | some (ok, _) => !ok | none => false
      phaseLock q.1 (driveLoop m outside (resetBound m uM uP s))
    else phaseLock q.1 s

def execHingeMeasurement (s : State) : Host.Outcome State Fault Refusal := finish (ifUp hingeMeasure s)

/-! ### Self-tests (R479) -/

/-- PRBS31 loopback of a DISABLED port of a standby. -/
def prbs (p errors : Nat) (s : State) : State :=
  let last := s.hinge.prbsTick.getD p 0
  if isStandby s = false ∨ nPorts s.variant ≤ p ∨ getN s (Obj.PORT_MODE p) ≠ 0 ∨ (last ≠ 0 ∧ s.now < last + 60 * sT) then s
  else
    let s1 := setHinge (fun h => { h with prbsTick := h.prbsTick.set p s.now }) s
    if errors = 0 then s1
    else report (0x3100 + p) 1 { detail := errors % 4294967296 }
      (bumpBy Obj.PRBS_ERRORS (errors : Nat) (setHinge (fun h => { h with testFail := some s.now }) s1))

def execPrbsSelftest (p : Fin 16) (errors : Nat) (s : State) : Host.Outcome State Fault Refusal := finish (ifUp (prbs p.val errors) s)

/-- Known-answer tests of every crypto lane; DETAIL names the lane that failed. -/
def kat (ok : Bool) (s : State) : State :=
  if isStandby s = false ∨ (s.hinge.katTick ≠ 0 ∧ s.now < s.hinge.katTick + 10 * sT) then s
  else
    let s1 := setHinge (fun h => { h with katTick := s.now }) s
    if ok then s1
    else report 0x1A00 2 { detail := Config.freeNat s.freeCtr % aesLanes s.variant }
      (setHinge (fun h => { h with testFail := some s.now }) (nextFree s1))

def execCryptoKat (ok : Bool) (s : State) : Host.Outcome State Fault Refusal := finish (ifUp (kat ok) s)

end Sys2Proof.Machine
end

