-- ==== Sys2Proof/Machine/Rules.lean ====
section
/-! DEFINITION. Machine/Rules.lean: the rule of every writable object by its key: what a WRITE, a COMMAND or a commit group tests and
does (step 10 of R408, and the objects' own rules). -/
namespace Sys2Proof.Machine

/-- A value inside a list of alternatives that the range of the type does not state. -/
def ruleIf (ok : State → Int → Bool) : Rule := { chk := fun s v => if ok s v.int then (stOk, []) else (stRange, []) }

/-! ### Increment writes (R30, R43, R92) -/

/-- Frames on the Sill whose L falls after the tick of an open-loop increment are late (R92). -/
def slotsIncred (s : State) : State :=
  { s with ports := s.ports.map (fun x =>
    { x with slots := x.slots.map (fun q => if s.ts.mts < q.l then { q with incred := true } else q) }) }

/-- A written increment is on its way to the TIME island, with the request whose response waits (R43). -/
def incrPut (q : Option Req) (v : Val) (s : State) : State :=
  { s with ts := { s.ts with incrWrites := s.ts.incrWrites ++ [(v.nat, q)] } }

/-- RANGE_ERROR outside 4.000 to 6.000 ns, CONFLICT while the mode in force is CLOSED; in force at the tick that begins next, and
answered after it. -/
def ruleIncrWrite : Rule :=
  { chk := fun s v =>
      if v.int < incrMin ∨ (incrMax : Int) < v.int then (stRange, []) else if loopClosed s then (stConflict, []) else (stOk, [])
    eff := incrPut none
    defer := some (fun q => incrPut (some q)) }

/-- The written increments take effect as the tick begins (R43). -/
def incrTake (s : State) : State := s.ts.incrWrites.foldl (fun a w => applyIncr w.1 a) { s with ts := { s.ts with incrWrites := [] } }

/-- The tick of a written increment has passed: `INCR_APPLIED_AT` holds its MTS, later frames of the Sill are late (R92), and the value is
stored and answered. -/
def incrAnswer (w : Nat × Option Req) (s : State) : State :=
  let s1 := setN Obj.INCR_APPLIED_AT (mts96 s) (slotsIncred s)
  match w.2 with
  | none => s1
  | some q =>
    let v : Val := .num (w.1 : Nat)
    answerLate q .write Obj.INCR_WRITE stOk (heldBytes s1 Obj.INCR_WRITE) (numBytes Obj.INCR_WRITE (w.1 : Nat)) [] (storeVal Obj.INCR_WRITE v s1)

def incrInForce (l : List (Nat × Option Req)) (s : State) : State := l.foldl (fun a w => incrAnswer w a) s

def execIncrWrite (q : Req) (s : State) : Host.Outcome State Fault Refusal := finish (ifUp (ownerWrite q Obj.INCR_WRITE ruleIncrWrite) s)

/-! ### Credentials (R371, R377) -/

/-- The slot holds a VALID type 6 key. -/
def credSlot (s : State) (n : Nat) : Bool := (slotOf s n).any (fun k => !k.bad && decide (k.typ = 6))

/-- Some other usable credential is OWNER_CAPABLE. -/
def otherOwner (s : State) (n : Nat) : Bool := s.keys.slots.any (fun k => decide (k.id ≠ n) && ownerCapable s k.id)

def ruleCred (n f : Nat) : Rule :=
  { chk := fun s v =>
      if f = 3 ∧ (v.nat % 16 ≠ 0 ∨ 2 ^ 48 ≤ v.nat) then (stRange, [])
      else if credSlot s n = false then (stConflict, [])
      else if f = 1 ∧ v.int = 0 ∧ ownerCapable s n ∧ otherOwner s n = false then (stConflict, [])
      else (stOk, []) }

/-! ### The rule of a key -/

/-- Rules of the time scale, the bound, the TDCs, the references and the synthesis block. -/
def ruleTime (i sub : Nat) : Rule :=
  if i = 0x2001 then (if sub = 2 then ruleIncrWrite else {})
  else if i = 0x2003 then
    (match sub with | 1 | 3 | 4 => ruleUtcOwner | 2 => ruleUtcSource | _ => {})
  else if i = 0x2402 then (match sub with | 1 => ruleServeBound | 2 => ruleHoldSpec | _ => {})
  else if 0x3410 ≤ i ∧ i < 0x3420 then ruleTdc (i - 0x3410) sub
  else if i = 0x3440 then
    (match sub with
     | 6 => ruleXoAge
     | 9 => { chk := fun _ v => if v.bytes.length = 260 then (stOk, []) else (stLength, []) }
     | _ => {})
  else if i = 0x3000 then
    (match sub with | 0xD => ruleIf (fun _ v => decide (1 ≤ v ∧ v ≤ 3)) | 0xE => ruleIf (fun _ v => decide (v ≤ 15)) | _ => {})
  else if 0x3010 ≤ i ∧ i < 0x302E then
    (let r := i - 0x3010
     match sub with
     | 1 => ruleRefMode r | 2 => ruleRefUse r | 7 | 8 | 9 => ruleRefinAtom r | 0x10 => ruleRefNom r | 0x11 => ruleRefTdcTime r
     | 0x12 => ruleRefTdcFreq r | 0x13 => ruleRefWinN r | 0x14 => ruleRefTod r | _ => {})
  else if i = 0x3040 then
    (match sub with | 2 => ruleAtomProfile | 6 => ruleIf (fun _ v => decide (1 ≤ v ∧ v ≤ 1000000)) | _ => {})
  else if 0x3050 ≤ i ∧ i < 0x3060 then (if sub = 2 then ruleIf (fun _ v => decide (v = 1 ∨ v = 2)) else {})
  else if 0x3800 ≤ i ∧ i < 0x3804 then
    (match sub with | 1 => ruleDpllMode (i - 0x3800) | 6 => ruleDpllStep (i - 0x3800) | _ => {})
  else if 0x3820 ≤ i ∧ i < 0x382C then
    (let c := i - 0x3820
     match sub with
     | 1 => ruleClkEnable c | 2 => ruleClkField c true | 3 | 4 => ruleClkField c false
     | 5 => ruleIf (fun _ v => decide (v ≤ 3)) | _ => {})
  else if 0x3C00 ≤ i ∧ i < 0x3C04 then (if sub = 1 then rulePpsEnable (i - 0x3C00) else {})
  else if 0x3C10 ≤ i ∧ i < 0x3C18 then
    (let g := i - 0x3C10
     match sub with
     | 1 => rulePgMode g | 2 => rulePgRoute g | 7 => rulePgField g (fun v => decide (v.nat < 16 ∨ v.nat = 0xFF))
     | 0xA => rulePgField g (fun v => decide (v.nat ≤ 1)) | _ => rulePgField g (fun _ => true))
  else if 0x3C20 ≤ i ∧ i < 0x3C22 then (if sub = 2 then ruleIf (fun _ v => decide (v ≤ 3)) else {})
  else {}

/-- Rules of GNSS, the ports, the switch, the Sill. -/
def ruleNet (i sub : Nat) : Rule :=
  if i = 0x4001 then
    (match sub with
     | 1 => ruleIf (fun _ v => decide (v ≤ 31)) | 2 => ruleIf (fun _ v => decide (1 ≤ v ∧ v ≤ 3)) | 3 => ruleChanLimit | 6 => ruleTimeSystem | _ => {})
  else if i = 0x4002 then
    (match sub with | 1 => ruleGnssPosMode | 3 => ruleSurveyMax | 7 | 8 | 9 | 0xA => ruleGnssPos | _ => {})
  else if i = 0x4003 then (if sub = 4 then ruleIf (fun _ v => decide (v ≤ 3)) else {})
  else if i = 0x4020 then (if sub = 2 then ruleIf (fun _ v => decide (v ≤ 3)) else {})
  else if 0x5010 ≤ i ∧ i < 0x5020 then
    (let p := i - 0x5010
     match sub with
     | 1 => rulePortMode p | 2 => rulePortFec p | 0xC => rulePortPause p | 0xD => rulePortCt | _ => {})
  else if i = 0x5020 then ruleMgmtMode
  else if i = 0x5800 then (match sub with | 1 => ruleBankReserve | 6 => ruleFdbAge | _ => {})
  else if i = 0x5802 then (match sub with | 1 => ruleFdbWrite | 4 => ruleVlanWrite | _ => {})
  else if i = 0x6C00 then ruleIf (fun _ v => decide (v ≤ 1))
  else if 0x6C10 ≤ i ∧ i < 0x6C20 then
    (match sub with
     | 1 => ruleLeadAdapt (i - 0x6C10) | 2 => ruleLead (i - 0x6C10) 0 | 3 => ruleLead (i - 0x6C10) 1 | 4 => ruleLead (i - 0x6C10) 2 | _ => {})
  else {}

/-- Rules of the PTP and NTP engines. -/
def ruleServe (i sub : Nat) : Rule :=
  if i = 0x6000 then
    (match sub with | 7 => ruleUcDurMin | 8 => ruleUcDurMax | 0xE => ruleSessionSelect | _ => {})
  else if 0x6010 ≤ i ∧ i < 0x6014 then
    (let k := i - 0x6010
     match sub with
     | 1 => ruleInst k 0 | 2 => ruleInst k 1 | 3 => ruleInst k 2 | 7 => ruleDegradedClass | 9 => ruleClockId k | 0xB => ruleUpstream
     | _ => {})
  else if 0x6040 ≤ i ∧ i < 0x6060 then
    (let a := i - 0x6040
     match sub with
     | 1 | 4 => ruleSaField a | 2 => ruleSaAlg a | 3 => ruleSaSlot a | 5 => ruleSaNextSlot a | _ => {})
  else if 0x6100 ≤ i ∧ i < 0x6140 then
    (let n := i - 0x6100
     match sub with
     | 1 => rulePtppMode n | 2 => rulePtppEncap n | 3 => rulePtppStep n | 4 | 5 | 0xC => rulePtpLoad | 8 => rulePtppVlan
     | 9 => rulePtppSa n | 0xB => rulePtppBound | _ => {})
  else if 0x6810 ≤ i ∧ i < 0x6830 then
    (let a := i - 0x6810
     match sub with
     | 1 => ruleSvcEnable a | 2 | 3 | 5 => ruleSvcField a | 4 => rulePortMask | _ => {})
  else {}

/-- Rules of the keys, Transom, memory, the cores, faults, pairing, power and update. -/
def ruleSystem (i sub : Nat) : Rule :=
  if i = 0x7010 then
    (match sub with | 2 => ruleTamperEnable | 7 => ruleTamperPolarity | 8 => ruleTamperDebounce | _ => {})
  else if 0x7011 ≤ i ∧ i < 0x7019 then (if sub = 1 then ruleTamperAction (i - 0x7011) else {})
  else if i = 0x9C00 then (if sub = 2 ∨ sub = 9 then ruleIf (fun _ v => decide (v ≤ 4094)) else {})
  else if 0x9D10 ≤ i ∧ i < 0x9E00 then ruleCred (i - 0x9D00) sub
  else if i = 0x8000 then ruleGeometry
  else if i = 0x9800 then (if sub = 1 then ruleSampleEnable else {})
  else if 0x9840 ≤ i ∧ i < 0x9845 then (if 2 ≤ sub ∧ sub < 10 then rulePmcSel (i - 0x9840) (sub - 2) else {})
  else if i = 0x8801 then (if sub = 3 then ruleFaultOverrides else {})
  else if i = 0x8802 then (if sub = 2 then ruleFaultSelect else {})
  else if i = 0x8C00 then (if sub = 1 then rulePairEnable else {})
  else if i = 0x9001 then (if sub = 3 then ruleKeepPorts else {})
  else if i = 0x9401 then (if sub = 1 then ruleSdAuto else {})
  else {}

/-- The rule of the writable object with key k. -/
def ruleOf (k : Nat) : Rule :=
  let i := k / 256
  let sub := k % 256
  if i < 0x4000 then ruleTime i sub else if i < 0x6000 ∨ (0x6C00 ≤ i ∧ i < 0x6D00) then ruleNet i sub
  else if i < 0x7000 then ruleServe i sub else ruleSystem i sub

/-! ### Ranges of a write that need no other object (R385) -/

/-- The rule's RANGE_ERROR rests on other objects: a commit tests it, an addition to a group tests the value alone. -/
def rangeElsewhere (k : Nat) : Option (Int → Bool) :=
  let i := k / 256
  let sub := k % 256
  let any : Option (Int → Bool) := some (fun _ => true)
  if k = Obj.SERVE_BOUND ∨ k = Obj.INCR_WRITE then none
  else if k = Obj.HOLD_SPEC then some (fun v => decide (1000 ≤ v))
  else if 0x3410 ≤ i ∧ i < 0x3420 ∧ (sub = 1 ∨ sub = 3 ∨ sub = 4) then any
  else if 0x3010 ≤ i ∧ i < 0x302E ∧ sub = 2 then some (fun v => decide (v ≤ 3))
  else if 0x3820 ≤ i ∧ i < 0x382C ∧ sub = 1 then any
  else if k = Obj.GNSS_SURVEY_MAX then some (fun v => decide (v ≤ 604800))
  else if 0x5010 ≤ i ∧ i < 0x5020 ∧ (sub = 1 ∨ sub = 2) then some (fun v => decide (v ≤ 4))
  else if 0x6C10 ≤ i ∧ i < 0x6C20 ∧ 2 ≤ sub ∧ sub ≤ 4 then some (fun v => decide (2000 ≤ v ∧ v ≤ 40000))
  else if k = Obj.UC_DUR_MIN ∨ k = Obj.UC_DUR_MAX then some (fun v => decide (1 ≤ v ∧ v ≤ 1000))
  else if 0x6010 ≤ i ∧ i < 0x6014 ∧ sub = 3 then some (fun v => decide (v ≤ 127))
  else if 0x6100 ≤ i ∧ i < 0x6140 ∧ (sub = 2 ∨ sub = 3) then any
  else if 0x6810 ≤ i ∧ i < 0x6830 ∧ sub = 1 then any
  else none

/-- The status that a write's own length and range give it, other objects aside (R385, R399, R400). -/
def ownStatus (s : State) (k : Nat) (v : Val) : Nat :=
  match rangeElsewhere k with
  | some ok => if ok v.int then stOk else stRange
  | none =>
    if k = Obj.SERVE_BOUND then stOk
    else
      let c := ((ruleOf k).chk s v).1
      if c = stRange ∨ c = stLength then c else stOk

/-! ### Sessions that a write moves (R374) -/

/-- An object of the transport differs between two states. -/
def moved (a b : State) (k : Nat) : Bool := decide (getN a k ≠ getN b k ∨ getB a k ≠ getB b k)

/-- The objects a session runs on have changed: it closes with reason 4. -/
def sessionMoved (a b : State) (x : Session) : Bool :=
  if x.state = 0 then false
  else match x.iface with
    | 1 => moved a b Obj.TRANSOM_UDP_PORT || moved a b Obj.MGMT_VLAN || (mgmtAddr a x.own && !mgmtAddr b x.own)
    | 2 => moved a b Obj.TRANSOM_UDP_PORT || moved a b Obj.TRANSOM_VLAN ||
        ((svcOf a x.port x.vlan (!isV4 x.own) x.own).isSome && (svcOf b x.port x.vlan (!isV4 x.own) x.own).isNone)
    | _ => false

/-- After the response to the write. -/
def closeMoved (a b : State) : State := closeSessions 4 (sessionMoved a b) b

/-- A WRITE of any writable object (R369–R408): the image objects stream into their slot. -/
def writeObject (q : Req) (index sub : Nat) (s : State) : State :=
  let k := index * 256 + sub
  if k = Obj.UPD_STAGE_TRANSOM then stageTransom q s else closeMoved s (ownerWrite q k (ruleOf k) s)

def execWrite (q : Req) (index sub : Nat) (s : State) : Host.Outcome State Fault Refusal := finish (ifUp (writeObject q index sub) s)

end Sys2Proof.Machine
end

