-- ==== Sys2Proof/Machine/Transom.lean ====
section
/-! DEFINITION. Machine/Transom.lean: the host link, sessions, the Latch, commit groups, enrolment and the journal's own events
(R365–R397). -/
namespace Sys2Proof.Machine

/-! ### The host link (R367, R368) -/

def setHost (f : HostLink → HostLink) (s : State) : State := { s with host := f s.host }

def writeFrame (f : List Byte) (agree : Bool) (s : State) : State :=
  if 8 ≤ s.host.written.length then bump Obj.SPI_OVERRUN s
  else if agree = false ∨ 1408 < f.length then bump Obj.TRANSOM_LEN_DROP s
  else setHost (fun h => { h with written := h.written ++ [f] }) s

def execWriteFrame (frame : List Byte) (agree : Bool) (s : State) : Host.Outcome State Fault Refusal :=
  finish (ifUp (writeFrame frame agree) s)

/-- A READ_FRAME cut short keeps its frame; one read whole makes room for a response that waits. -/
def readFrame (whole : Bool) (s : State) : State :=
  match s.host.read with
  | [] => emit (.hostFrame []) s
  | f :: r =>
    if whole then
      emit (.hostFrame f) (setHost (fun h => { h with read := r ++ h.waiting.take 1, waiting := h.waiting.drop 1 }) s)
    else s

def execReadFrame (whole : Bool) (s : State) : Host.Outcome State Fault Refusal := finish (ifUp (readFrame whole) s)

/-- Bit 0 a frame waits, bit 1 the write buffer has room. -/
def statusByte (s : State) : Nat := (if s.host.read.isEmpty then 0 else 1) + (if s.host.written.length < 8 then 2 else 0)

def execReadStatus (s : State) : Host.Outcome State Fault Refusal := finish (ifUp (fun s => emit (.hostStatus (statusByte s)) s) s)

/-! ### Sessions (R370–R374) -/

/-- A frame outside the sessions: transport, then test 1 of R370. -/
def frameIn (h : FrameHdr) (s0 : State) : Bool × State :=
  let s := takeFrame h s0
  if transportOk s h = false then (false, s)
  else if !h.udpOk || decide (1408 < h.bytes) || h.version ≠ 1 || !h.lengthOk then (false, bump Obj.TRANSOM_LEN_DROP s)
  else (true, s)

/-- A frame without TAG: enrolment (R370). -/
def plainFrame (kind : Nat) (body : List Byte) : List Byte := be 1 1 ++ be 1 kind ++ be 2 0 ++ be 4 0 ++ be 2 body.length ++ be 2 0 ++ body

/-- The peer that a frame came from, as the one that its answer goes to. -/
def peerOf (h : FrameHdr) : Session :=
  { iface := h.iface, port := if h.iface = 2 then h.port else 0xFF, peer := h.peer, own := h.own, vlan := h.vlan }

def sessionsIn (s : State) (st : Nat) : Nat := s.sessions.countP (fun x => x.state = st)

/-- OPEN_RESP (R372): the session, 0 where none is allocated. -/
def openResp (x : Session) (n status : Nat) (s : State) : State :=
  sendOn x false (taggedFrame s x 1 n 0 (be 1 status ++ be 3 0 ++ be 16 x.serverNonce)) (emit (.openResp x.iface n status x.serverNonce) s)

/-- The lowest free session ID. -/
def lowestFree (s : State) : Option Nat := ((List.range 16).find? (fun i => (session s (i + 1)).state = 0)).map (· + 1)

def openReq (h : FrameHdr) (key nonce : Nat) (s0 : State) : State :=
  match frameIn h s0 with
  | (false, s) => s
  | (true, s) =>
    match s.keys.slots.find? (fun k => decide (k.keyId = key) && credUsable s k.id) with
    | none => bump Obj.OPEN_FAIL s
    | some k =>
      if h.tagOk = false ∨ 4 ≤ sessionsIn s 1 then bump Obj.OPEN_FAIL s
      else if drbgDown s then bump Obj.OPEN_FAIL (starved s)
      else
        let d := draw s
        let x : Session :=
          { peerOf h with
            state := 1, keyId := key, slot := k.id, openedAt := mts96 s, openedTick := s.now, lastAccepted := s.now,
            serverNonce := d.1 % 2 ^ 128, clientNonce := nonce % 2 ^ 128 }
        match lowestFree s with
        | none => openResp x 0 stBusy d.2
        | some n => openResp x n stOk (setSession n { x with requests := (session s n).requests } d.2)

def execOpenReq (h : FrameHdr) (keyId nonce : Nat) (s : State) : Host.Outcome State Fault Refusal := finish (ifUp (openReq h keyId nonce) s)

def closeFrame (h : FrameHdr) (n : Nat) (s : State) : State :=
  match acceptFrame h n s with
  | (none, s1) => s1
  | (some s1, _) => closeSession n 0 s1

def execClose (h : FrameHdr) (sess : Nat) (s : State) : Host.Outcome State Fault Refusal := finish (ifUp (closeFrame h sess) s)

/-- A PENDING session closes after 2 s (R374). -/
def pendingTimeout (n : Nat) (s : State) : State :=
  if (session s n).state = 1 ∧ (session s n).openedTick + 2 * sT ≤ s.now then closeSession n 1 s else s

def execSessionPendingTimeout (sess : Fin 16) (s : State) : Host.Outcome State Fault Refusal :=
  finish (ifUp (pendingTimeout (sess.val + 1)) s)

/-- No accepted frame for `TRANSOM_IDLE` (R374). -/
def idleTimeout (n : Nat) (s : State) : State :=
  if (session s n).state = 2 ∧ (session s n).lastAccepted + getNat s Obj.TRANSOM_IDLE * sT ≤ s.now then closeSession n 1 s else s

def execSessionIdleTimeout (sess : Fin 16) (s : State) : Host.Outcome State Fault Refusal :=
  finish (ifUp (idleTimeout (sess.val + 1)) s)

/-- SEQ would pass 0xFFFF_FFFF in either direction (R370). -/
def seqSpent (x : Session) : Bool := decide (x.state ≠ 0) && decide (4294967295 ≤ max x.rxHigh x.txSeq)

/-! ### Requests that name no object -/

/-- An accepted REQUEST passes to its operation. -/
def request (q : Req) (s0 : State) (body : State → State) : State :=
  match acceptFrame q.hdr q.sess s0 with
  | (none, s) => s
  | (some s1, _) => body (agentCount (acceptRequest q.sess s1))

/-- The tests of a record (R375, R378): the status of the first that fails. -/
def recordTests (q : Req) (s : State) : Nat :=
  let x := session s q.sess
  if 64 ≤ x.inFlight.length then stBusy
  else if x.inFlight.contains q.tag then stConflict
  else if q.value.length < q.valueLen then stLength
  else if q.reservedOk = false then stRange
  else stOk

/-- The same, with the test of R377. -/
def ownerTests (q : Req) (s : State) : Nat :=
  let t := recordTests q s
  if t ≠ stOk then t else if s.latch.holder ≠ q.sess then stNotOwner else stOk

/-- The response of an operation without an object. -/
def reply (q : Req) (op status : Nat) (value : List Byte) (s : State) : State := respond q op status 0 0 1 value.length value s

/-- A record that fails its tests. -/
def turnedAway (q : Req) (op status : Nat) (value : List Byte) (s : State) : State := reply q op status value (countBusy status s)

/-! ### The Latch (R380–R383) -/

/-- The holder's session, as a Latch request's CONFLICT carries it (R379). -/
def holderBytes (s : State) : List Byte := be 2 s.latch.holder

/-- VALUE of a Latch request that its record's tests turn away. -/
def latchDetail (s : State) (t : Nat) : List Byte := if t = stConflict then holderBytes s else []

def latchClaim (q : Req) (s0 : State) : State :=
  request q s0 (fun s =>
    let t := recordTests q s
    if t ≠ stOk then turnedAway q 8 t (latchDetail s t) s
    else if ownerCapable s (session s q.sess).slot = false then reply q 8 stAccessDenied [] s
    else if s.latch.holder ≠ 0 then reply q 8 stConflict (holderBytes s) s
    else
      let x := session s q.sess
      setN Obj.LATCH_STATE 1 (setLatch (fun l =>
        { l with electionFrom := some (l.electionFrom.getD s.now), claims := l.claims ++ [(q.sess, q.tag)] })
        (setSession q.sess { x with inFlight := q.tag :: x.inFlight } s)))

def execLatchClaim (q : Req) (s : State) : Host.Outcome State Fault Refusal := finish (ifUp (latchClaim q) s)

/-- The claim that wins: highest `CRED_RANK`, then the lowest session ID (R380). -/
def winner (s : State) (l : List (Nat × Nat)) : Nat :=
  l.foldl (fun w c =>
    let r (n : Nat) : Nat := getNat s (Obj.CRED_RANK (session s n).slot)
    if w = 0 ∨ r w < r c.1 ∨ (r w = r c.1 ∧ c.1 < w) then c.1 else w) 0

/-- The response to a claim. -/
def answerClaim (w : Nat) (c : Nat × Nat) (s : State) : State :=
  let x := session s c.1
  let q : Req := { hdr := { iface := x.iface, seq := 0 }, sess := c.1, tag := c.2, valueLen := 0, value := [] }
  let s1 := setSession c.1 { x with inFlight := x.inFlight.erase c.2 } s
  if c.1 = w then reply q 8 stOk [] s1 else reply q 8 stConflict (be 2 w) s1

/-- The window of 500 ms ends (R380). -/
def electionEnd (s : State) : State :=
  match s.latch.electionFrom with
  | none => s
  | some t =>
    if s.now < t + 500 * msT then s
    else
      let l := s.latch.claims
      let w := winner s l
      let s1 := setLatch (fun x => { x with electionFrom := none, claims := [] }) (setN Obj.LATCH_STATE 0 s)
      l.foldl (fun a c => answerClaim w c a) (if w = 0 then s1 else latchChange w (.session w) s1)

def execLatchElectionEnd (s : State) : Host.Outcome State Fault Refusal := finish (ifUp electionEnd s)

def latchRenew (q : Req) (s0 : State) : State :=
  request q s0 (fun s =>
    let t := recordTests q s
    if t ≠ stOk then turnedAway q 9 t (latchDetail s t) s
    else if s.latch.holder = q.sess then reply q 9 stOk [] s
    else reply q 9 stConflict (holderBytes s) s)

def execLatchRenew (q : Req) (s : State) : Host.Outcome State Fault Refusal := finish (ifUp (latchRenew q) s)

/-- To the session named in VALUE, which must be OPEN and OWNER_CAPABLE; a fresh lease starts (R382). -/
def latchHand (q : Req) (s0 : State) : State :=
  request q s0 (fun s =>
    let t := ownerTests q s
    let v := q.value.take q.valueLen
    let n := ofBe v
    if t ≠ stOk then turnedAway q 10 t (latchDetail s t) s
    else if v.length ≠ 2 then reply q 10 stLength [] s
    else if 1 ≤ n ∧ n ≤ 16 ∧ (session s n).state = 2 ∧ ownerCapable s (session s n).slot then
      reply q 10 stOk [] (latchChange n (.session q.sess) (setLatch (fun l => { l with leaseFrom := s.now }) s))
    else reply q 10 stConflict (holderBytes s) s)

def execLatchHand (q : Req) (s : State) : Host.Outcome State Fault Refusal := finish (ifUp (latchHand q) s)

def latchRelease (q : Req) (s0 : State) : State :=
  request q s0 (fun s =>
    let t := ownerTests q s
    if t ≠ stOk then turnedAway q 11 t (latchDetail s t) s
    else reply q 11 stOk [] (latchChange 0 (.session q.sess) s))

def execLatchRelease (q : Req) (s : State) : Host.Outcome State Fault Refusal := finish (ifUp (latchRelease q) s)

/-- The lease of 3,000 ms runs out (R381). -/
def leaseExpiry (s : State) : State :=
  if s.latch.holder ≠ 0 ∧ s.latch.leaseFrom + 3000 * msT ≤ s.now then latchChange 0 .module s else s

def execLatchLeaseExpiry (s : State) : Host.Outcome State Fault Refusal := finish (ifUp leaseExpiry s)

/-- `LATCH_LEASE_LEFT` in ms. -/
def leaseLeft (s : State) : Nat := if s.latch.holder = 0 then 0 else (s.latch.leaseFrom + 3000 * msT - s.now) / msT

/-! ### Commit groups (R384–R389) -/

def groupOf (s : State) (n : Nat) : Option Group := s.groups.find? (fun g => g.id = n)
def dropGroup (n : Nat) (s : State) : State := { s with groups := s.groups.filter (fun g => g.id ≠ n) }
def setGroup (n : Nat) (f : Group → Group) (s : State) : State :=
  { s with groups := s.groups.map (fun g => if g.id = n then f g else g) }

/-- IDs run from 1 to 65,535, wrapping and skipping those in use (R384). -/
def nextGroupId (s : State) : Nat :=
  (((List.range 9).map (fun i => (s.nextGroup - 1 + i) % 65535 + 1)).find? (fun n => (groupOf s n).isNone)).getD 1

def groupOpen (q : Req) (s0 : State) : State :=
  request q s0 (fun s =>
    let t := ownerTests q s
    if t ≠ stOk then turnedAway q 4 t [] s
    else if 8 ≤ s.groups.length then reply q 4 stBusy [] s
    else
      let n := nextGroupId s
      reply q 4 stOk (be 2 n)
        { s with
          nextGroup := n % 65535 + 1
          groups := s.groups ++ [{ id := n, session := q.sess, opened := (session s q.sess).openedTick }] })

def execGroupOpen (q : Req) (s : State) : Host.Outcome State Fault Refusal := finish (ifUp (groupOpen q) s)

/-- An open group of the session. -/
def openGroup (s : State) (q : Req) : Option Group := s.groups.find? (fun g => g.id = q.group && g.state = 0 && g.session = q.sess)

def groupAdd (q : Req) (index sub : Nat) (s0 : State) : State :=
  request q s0 (fun s =>
    let k := index * 256 + sub
    let v := q.value.take q.valueLen
    let t := tests1to9 q .groupAdd index sub s
    if t ≠ stOk then answerAdd q k t (countBusy t s)
    else match openGroup s q with
      | none => answerAdd q k stRange s
      | some g =>
        if 256 ≤ g.writes.length then answerAdd q k stAccessDenied s
        else
          let d := decodeVal k (objKind index sub) v
          let o := if d.1 ≠ stOk then d.1 else ownStatus s k d.2
          if o ≠ stOk then answerAdd q k o s
          else if 16384 < g.bytes + v.length then answerAdd q k stAccessDenied s
          else answerAdd q k stOk (setGroup g.id (fun x =>
            { x with writes := x.writes ++ [{ key := k, val := d.2 }], bytes := x.bytes + v.length }) s))

def execGroupAdd (q : Req) (index sub : Nat) (s : State) : Host.Outcome State Fault Refusal := finish (ifUp (groupAdd q index sub) s)

/-! The check and the effect of a whole group (R386, R387, R404, R415) -/

/-- The last write of each object. -/
def finalWrites (l : List GWrite) : List GWrite := l.foldl (fun a w => a.filter (fun x => x.key ≠ w.key) ++ [w]) []

/-- The object holds the value already (R404). -/
def holdsVal (s : State) (w : GWrite) : Bool :=
  match w.val with
  | .num v => decide (getN s w.key = v)
  | .oct b => decide (getB s w.key = b)

/-- A write that gives up a resource: `REF_MODE`, `TDC_SOURCE`, `CLK_ENABLE`, `PPS_ENABLE` and `PG_ROUTE` at 0. -/
def givesUp (w : GWrite) : Bool :=
  let i := w.key / 256
  let sub := w.key % 256
  decide (w.val.int = 0) &&
    (decide (0x3010 ≤ i ∧ i < 0x302E ∧ sub = 1) || decide (0x3410 ≤ i ∧ i < 0x3420 ∧ sub = 1) ||
      decide (0x3820 ≤ i ∧ i < 0x382C ∧ sub = 1) || decide (0x3C00 ≤ i ∧ i < 0x3C04 ∧ sub = 1) || decide (0x3C10 ≤ i ∧ i < 0x3C18 ∧ sub = 2))

/-- Release the claims of a claimant in a class. -/
def releaseOf (cls kind knum : Nat) (s : State) : State :=
  { s with claims := s.claims.filter (fun c => !(c.cls = cls && c.kind = kind && c.knum = knum && !c.permanent)) }

/-- What a write of the group releases before any claim of the group is tested (R415). -/
def preRelease (s : State) (w : GWrite) : State :=
  let i := w.key / 256
  let sub := w.key % 256
  if 0x3010 ≤ i ∧ i < 0x302E ∧ sub = 1 then (if w.val.int = 0 then releaseRef (i - 0x3010) s else s)
  else if 0x3010 ≤ i ∧ i < 0x302E ∧ sub = 0x14 then releaseOf 0x1109 kindRef (i - 0x3010) s
  else if 0x3410 ≤ i ∧ i < 0x3420 ∧ sub = 1 then (if w.val.int = 0 then releaseOf 0x1100 kindMonitor (i - 0x3410) s else s)
  else if 0x3C00 ≤ i ∧ i < 0x3C04 ∧ sub = 1 then (if w.val.int = 0 then releaseOf 0x1106 kindPpsNative (i - 0x3C00) s else s)
  else if 0x3C10 ≤ i ∧ i < 0x3C18 ∧ sub = 2 then releaseOf 0x1106 kindPg (i - 0x3C10) s
  else if 0x3820 ≤ i ∧ i < 0x382C ∧ sub = 1 then (if w.val.int = 0 then releaseOf 0x1104 3 (i - 0x3820) s else s)
  else s

/-- A group under its check: the status so far, its detail, the first object that failed, and the state with the group applied. -/
structure GroupRun where
  status : Nat
  detail : List Byte := []
  object : Nat := 0
  state : State

/-- One write under the rule of its object: the object's own old value, every other object as the group leaves it. -/
def groupWrite (old : State) (a : GroupRun) (w : GWrite) : GroupRun :=
  if a.status ≠ stOk then a
  else
    let r := ruleOf w.key
    let t := match w.val with
      | .num _ => setN w.key (getN old w.key) a.state
      | .oct _ => setB w.key (getB old w.key) a.state
    let c := r.chk t w.val
    if c.1 ≠ stOk then { a with status := c.1, detail := c.2, object := w.key }
    else { a with state := r.eff w.val a.state }

/-- The leap announcement with the whole group applied, at AT (R59). -/
def groupLeap (g : Group) (l : List GWrite) (s : State) : Bool :=
  let t := { s with ts := { s.ts with mts := g.atI } }
  !l.any (fun w => w.key = Obj.LEAP_PENDING || w.key = Obj.LEAP_INSTANT) ||
    leapOk t (getN s Obj.LEAP_PENDING) (getNat s Obj.LEAP_INSTANT)

/-- Check and apply a group: a write of the value held changes nothing. -/
def groupRun (g : Group) (s : State) : GroupRun :=
  let l := (finalWrites g.writes).filter (fun w => !holdsVal s w)
  let s1 := l.foldl (fun a w => storeVal w.key w.val a) s
  if groupLeap g l s1 = false then { status := stRange, object := Obj.LEAP_INSTANT, state := s }
  else
    let s2 := l.foldl preRelease s1
    (l.filter givesUp ++ l.filter (fun w => !givesUp w)).foldl (groupWrite s) { status := stOk, state := s2 }

/-- AT in 2⁻⁴⁸ ns, or the status of R386. -/
def commitAt (s : State) (t : Nat) : Nat ⊕ Nat :=
  let first := (s.ts.mts + 5 * ms48 + ms48 - 1) / ms48 * ms48
  if t = 0 then .inr first
  else if t % 65536 ≠ 0 ∨ t / 65536 % 1000000 ≠ 0 ∨ of96 t < s.ts.mts + 5 * ms48 ∨ s.ts.mts + 31536000 * sec48 < of96 t then .inl stRange
  else if getN s Obj.TS_STATE = 0 then .inl stConflict
  else .inr (of96 t)

/-- An entry of kind GROUP (R391). -/
def groupEntry (o : Origin) (result n : Nat) (new : List Byte) (s : State) : State :=
  journal { kind := 10, result := result, origin := o, key := Obj.GROUP_LIST, group := n, new := new } s

def groupCommit (q : Req) (s0 : State) : State :=
  request q s0 (fun s =>
    let t := ownerTests q s
    let v := q.value.take q.valueLen
    if t ≠ stOk then turnedAway q 6 t [] s
    else if v.length ≠ 12 then reply q 6 stLength [] s
    else match t96OfBytes v, openGroup s q with
      | some a, some g =>
        (match commitAt s a with
         | .inl st => reply q 6 st [] s
         | .inr i =>
           let r := groupRun { g with atI := i } s
           if r.status ≠ stOk then reply q 6 r.status r.detail s
           else
             reply q 6 stPending [] (groupEntry (.session q.sess) stPending g.id (t96Bytes (t96Of i))
               { setGroup g.id (fun x => { x with state := 1, atI := i, order := s.commits }) s with commits := s.commits + 1 }))
      | _, _ => reply q 6 stRange [] s)

def execGroupCommit (q : Req) (s : State) : Host.Outcome State Fault Refusal := finish (ifUp (groupCommit q) s)

/-- Any owner cancels a group before it is staged (R389). -/
def groupAbort (q : Req) (s0 : State) : State :=
  request q s0 (fun s =>
    let t := ownerTests q s
    if t ≠ stOk then turnedAway q 7 t [] s
    else match groupOf s q.group with
      | none => reply q 7 stRange [] s
      | some g => if g.state = 2 then reply q 7 stBusy [] s else reply q 7 stOk [] (dropGroup g.id s))

def execGroupAbort (q : Req) (s : State) : Host.Outcome State Fault Refusal := finish (ifUp (groupAbort q) s)

/-- The agent stages a committed group between 1,000 ms and 2 ms before AT (R387). -/
def groupStage (n : Nat) (s : State) : State :=
  match groupOf s n with
  | some g =>
    if g.state = 1 ∧ g.atI ≤ s.ts.mts + 1000 * ms48 ∧ s.ts.mts + 2 * ms48 ≤ g.atI then setGroup n (fun x => { x with state := 2 }) s else s
  | none => s

def execGroupStage (id : Nat) (s : State) : Host.Outcome State Fault Refusal := finish (ifUp (groupStage id) s)

/-- The bytes of a value. -/
def valBytes (k : Nat) : Val → List Byte
  | .num v => numBytes k v
  | .oct b => b

/-- The entries of the writes of an applied group, with the value each replaced. -/
def groupEntries (o : Origin) (n : Nat) (old : State) (l : List GWrite) (s : State) : State :=
  (l.foldl (fun (a : List GWrite × State) w =>
    let was := match a.1.find? (fun x => x.key = w.key) with
      | some x => valBytes x.key x.val
      | none => heldBytes old w.key
    (w :: a.1, journal { kind := 0, origin := o, key := w.key, flags := 4, group := n, old := was, new := valBytes w.key w.val } a.2))
    ([], s)).2

/-- The committing session is still open. -/
def groupSession (s : State) (g : Group) : Bool := (session s g.session).state = 2 && (session s g.session).openedTick = g.opened

/-- NOTIFY GROUP_DONE (R387). -/
def groupDone (g : Group) (status object : Nat) (s : State) : State :=
  if groupSession s g then notify g.session 3 g.id status object s else s

/-- A group at AT: all its writes or none (R387). -/
def applyGroup (s0 : State) (g : Group) : State :=
  let s := dropGroup g.id s0
  let o : Origin := if groupSession s g then .session g.session else .module
  if g.state ≠ 2 then groupDone g stBusy 0 (groupEntry o stBusy g.id [] (bump Obj.GROUP_LATE s))
  else
    let r := groupRun g s
    if r.status ≠ stOk then groupDone g r.status r.object (groupEntry o r.status g.id (be 3 r.object) s)
    else
      let nums (l : List (Nat × Int)) : List (Nat × Int) := g.writes.foldl (fun a w =>
        match w.val with | .num v => insertKV w.key v a | .oct _ => a) l
      let s1 := { r.state with inForce := nums r.state.inForce }
      closeMoved s (groupDone g stOk 0 (groupEntry o stOk g.id [] (groupEntries o g.id s g.writes s1)))

/-- Order by AT, then by commit. -/
def insertDue (g : Group) : List Group → List Group
  | [] => [g]
  | h :: r => if g.atI < h.atI ∨ (g.atI = h.atI ∧ g.order < h.order) then g :: h :: r else h :: insertDue g r

/-- Committed groups whose AT has come. -/
def dueGroups (s : State) : List Group :=
  (s.groups.filter (fun g => decide (g.state ≠ 0) && decide (g.atI ≤ s.ts.mts))).foldl (fun a g => insertDue g a) []

/-- Releases due at a boundary come before its groups (R126, R415). -/
def releasesDue (s : State) : State :=
  foldRefs (fun r a => if getN a (Obj.REF_MODE r) = 0 then releaseRef r a else a) s

def groupsDue (s : State) : State := if (dueGroups s).isEmpty then s else (dueGroups s).foldl applyGroup (releasesDue s)

/-- An epoch boundary, before its evaluations or with them (R387). -/
def execGroupApply (s : State) : Host.Outcome State Fault Refusal :=
  finish (ifUp (fun a => if boundaryDue a || atBoundary a then groupsDue a else a) s)

/-- `GROUP_LIST`. -/
def groupList (s : State) : List Byte :=
  s.groups.flatMap (fun g => be 2 g.id ++ be 1 g.state ++ be 1 (g.writes.length % 256) ++ t96Bytes (t96Of g.atI) ++ be 2 g.session)

/-! ### Enrolment (R390) -/

/-- "FNENROL". -/
def enrolLabel : List Byte := [0x46, 0x4E, 0x45, 0x4E, 0x52, 0x4F, 0x4C]

def refuseEnrol (s : State) : State := bump Obj.ENROL_REFUSED s

def enrolReq (h : FrameHdr) (point : List Byte) (nonce shared : Nat) (s0 : State) : State :=
  match frameIn h s0 with
  | (false, s) => s
  | (true, s) =>
    if (h.iface ≠ 1 ∧ h.iface ≠ 3) ∨ getN s Obj.LC_STATE ≠ 1 ∨ s.keys.slots.any (fun k => ownerCapable s k.id) ∨ s.enrol.isSome then
      refuseEnrol s
    else if drbgDown s then refuseEnrol (starved s)
    else if (useKey 0 useIdentity s).1 = false then refuseEnrol (useKey 0 useIdentity s).2
    else
      let d := draw s
      let own := Config.publicPoint d.1
      let digest := Config.sha384 (enrolLabel ++ point ++ own ++ be 16 nonce)
      let cert := getB s Obj.DEVICE_CERT
      let body := own ++ Config.sign (keyOf s 0) digest ++ be 2 cert.length ++ cert
      let key := Config.kdf shared (label [0x46, 0x4E, 0x45, 0x4E, 0x52]) (be 48 digest)
      sendOn (peerOf h) false (plainFrame 7 body) (emit (.enrolResp h.iface (ofBe own))
        { d.2 with enrol := some { iface := h.iface, peer := h.peer, began := s.now, shared := key } })

def execEnrolReq (h : FrameHdr) (point : List Byte) (nonce shared : Nat) (s : State) : Host.Outcome State Fault Refusal :=
  finish (ifUp (enrolReq h point nonce shared) s)

/-- The status of ENROL_KEY: a KEY_IMPORT argument of TYPE 6 (R344). -/
def enrolStatus (s : State) (value : List Byte) (unwrapOk : Bool) : Nat :=
  let st := importStatus s value unwrapOk
  if st ≠ stLength ∧ fieldU value 1 1 ≠ 6 then stRange else st

/-- The credential is stored with its attributes, and the enrolment journalled. -/
def enrolled (value : List Byte) (material : Nat) (s : State) : State :=
  let n := fieldU value 0 1
  let s1 := journal { kind := 2, key := Obj.KEY_IMPORT, new := keyEntry false material value } (putSlot (argSlot value false material) s)
  s1 |> setJ (Obj.CRED_ROLE n) 1 |> setJ (Obj.CRED_RANK n) 15 |> setJ (Obj.CRED_READ_MASK n) (dfltNum s.variant (Obj.CRED_READ_MASK n))

def enrolKey (h : FrameHdr) (value : List Byte) (unwrapOk : Bool) (material : Nat) (s0 : State) : State :=
  match frameIn h s0 with
  | (false, s) => s
  | (true, s) =>
    match s.enrol with
    | none => s
    | some e =>
      if e.iface ≠ h.iface ∨ (h.iface ≠ 3 ∧ e.peer ≠ h.peer) ∨ e.began + 10 * sT < s.now then s
      else
        let st := enrolStatus s value unwrapOk
        let s1 := { s with enrol := none }
        let s2 := if st = stOk then enrolled value material s1 else s1
        sendOn (peerOf h) false (plainFrame 9 (be 1 st)) (emit (.enrolDone h.iface st) s2)

def execEnrolKey (h : FrameHdr) (value : List Byte) (unwrapOk : Bool) (material : Nat) (s : State) : Host.Outcome State Fault Refusal :=
  finish (ifUp (enrolKey h value unwrapOk material) s)

/-- 10 s without ENROL_KEY. -/
def enrolTimeout (s : State) : State :=
  match s.enrol with
  | some e => if e.began + 10 * sT ≤ s.now then { s with enrol := none } else s
  | none => s

def execEnrolTimeout (s : State) : Host.Outcome State Fault Refusal := finish (ifUp enrolTimeout s)

/-! ### The journal (R394, R396) -/

/-- Close the open epoch: an EPOCH entry under the next one, and only then the disclosure (R394). -/
def closeEpoch (s : State) : State :=
  let e := s.journal.epoch
  let s1 := journal { kind := 11, key := Obj.JOURNAL_EPOCH, old := be 4 e, new := be 4 (e + 1) }
    { s with journal := { s.journal with epoch := e + 1, openedAt := s.now } }
  { s1 with journal := { s1.journal with disclosed := e + 1 } }

def epochPeriod (s : State) : State :=
  if milestone s 6 ∧ s.journal.openedAt + getNat s Obj.JOURNAL_EPOCH_PERIOD * sT ≤ s.now then closeEpoch s else s

def execJournalEpochClose (s : State) : Host.Outcome State Fault Refusal := finish (ifUp epochPeriod s)

/-- The newest entries that fit into so many bytes. -/
def newest : Nat → List JEntry → List JEntry
  | _, [] => []
  | n, e :: r => if entryLength e ≤ n then e :: newest (n - entryLength e) r else []

/-- The copy to NOR every 10 s, up to 8 MiB (R396). -/
def tailCopy (s : State) : State :=
  if milestone s 6 ∧ s.journal.lastTailCopy + 10 * sT ≤ s.now then
    { s with journal := { s.journal with tail := newest 8388608 s.journal.ring, lastTailCopy := s.now } }
  else s

def execJournalTailCopy (s : State) : Host.Outcome State Fault Refusal := finish (ifUp tailCopy s)

end Sys2Proof.Machine
end

