-- ==== Sys2Proof/Machine/Dict.lean ====
section
/-! DEFINITION. Machine/Dict.lean: reads: the objects that are formed at a read, the Pane and the agent, DOMAIN segments, the journal
objects, the catalogue, statistics, and the configuration in NOR (R375–R378, R395–R422). -/
namespace Sys2Proof.Machine

/-! ### The catalogue (R418) -/

/-- A configuration object (R403). -/
def isConfig (o : ObjInfo) : Bool := o.journalled && (o.acc = .rw || o.acc = .rwc || o.acc = .prv)

/-- Families of the statistics blocks: one per family of indexes that hold counters. -/
def statFamilies : List (Nat × Nat) :=
  (((List.range 40).map (· + 4)).flatMap objRows).foldl (fun a o => if o.counter then insertKV o.base o.count a else a) []

/-- The index of a source's block (R420). -/
def statBlock (x : Nat) : Nat :=
  if 0x1000 ≤ x ∧ x < 0x1100 then 0xA300 + (x - 0x1000)
  else if 0x6200 ≤ x ∧ x < 0x6240 then 0xB100 + (x - 0x6200)
  else if 0x7100 ≤ x ∧ x < 0x7200 then 0xB500 + (x - 0x7100)
  else 0xA000 + 0x100 * ((x - 0x2000) / 1024) + x % 256

/-- Every family of objects, subindex 00 apart. -/
def families : List ObjInfo :=
  let rows := ((List.range 40).map (· + 4)).flatMap objRows
  rows.flatMap (fun o => (List.range o.nsub).map (fun j => { o with sub := o.sub + j, nsub := 1 })) ++
    ((List.range 11).map (· + 0x1100)).flatMap (fun i => (List.range (resourceCount i)).map (fun j => objKind i (j + 1))) ++
    (List.range 64).map (fun j => { objKind 0x1110 (j + 1) with count := 16 }) ++
    statFamilies.flatMap (fun f => [1, 2, 3].map (fun j => { objKind (statBlock f.1) j with count := f.2 }))

/-- Largest length of an OCTETS object. -/
def octMax (i sub : Nat) : Nat :=
  match octLen (i * 256 + sub) with
  | some n => n
  | none =>
    if 0x1100 ≤ i ∧ i < 0x1120 then 20
    else if 0xA000 ≤ i then 24 + 12 * (countersOf ((statSource i).getD 0)).length
    else if i = 0x4000 then 80 else if i = 0x6000 then 128 else if i = 0x7002 ∨ (0x7100 ≤ i ∧ i < 0x7200) then 97
    else if i = 0x9840 then 96 else if i = 0x8802 then 56 else if i = 0x9000 then 36 else if i = 0x9410 ∨ i = 0x9411 then 48
    else if i = 0x9420 ∨ i = 0x9421 then 20 else if 0x6010 ≤ i ∧ i < 0x6014 then 10 else if 0x9C10 ≤ i ∧ i < 0x9C20 then 18 else 6

/-- Largest length of a DOMAIN object: what its layout states, else that of the type. -/
def domMax (k : Nat) : Nat :=
  if k = Obj.UPD_STAGE_TRANSOM then 25165824
  else if k = Obj.JOURNAL_ENTRIES then 268435456
  else if k = Obj.JOURNAL_KEY then 16
  else if k / 256 ≥ 0x4030 ∧ k / 256 < 0x4038 then 1600064
  else if k = Obj.XO_COMP_TABLE then 260
  else if k = Obj.DEVICE_CERT then 1024
  else if k = Obj.GROUP_LIST then 144
  else if k = Obj.REMAP_TABLE then 3456
  else if k / 256 ≥ 0x6010 ∧ k / 256 < 0x6014 then 72
  else 65536

def maxLen (o : ObjInfo) : Nat :=
  match o.typ with
  | .str => 64
  | .oct => octMax o.base o.sub
  | .dom => domMax (o.base * 256 + o.sub)
  | t => t.bytes

/-- "Catalogue descriptor". -/
def descriptor (o : ObjInfo) : List Byte :=
  be 2 o.base ++ be 1 o.sub ++ be 1 o.typ.code ++ be 1 o.acc.code ++
    be 1 ((if o.mirrored then 1 else 0) + (if o.journalled then 2 else 0) + (if isConfig o then 4 else 0) + (if o.counter then 8 else 0)) ++
    be 2 o.count ++ be 2 (if o.count = 1 then 0 else 1) ++ be 2 0 ++ be 4 (maxLen o)

/-- `DICT_CATALOGUE`: ascending INDEX, then SUB. -/
def catalogue : List Byte :=
  ((families.foldl (fun a o => insertKV (o.base * 256 + o.sub) o a) []).map (fun p => descriptor p.2)).flatten

/-! ### Values formed at a read (R402, R410) -/

/-- The half-open run of instances of a family. -/
def inst (i base n : Nat) : Option Nat := if base ≤ i ∧ i < base + n then some (i - base) else none

/-- What the module measures of itself (see `Config.measured`), within its type. -/
def measuredNum (s : State) (k : Nat) (t : DType) : Int := (Config.measured k s.now : Int) % (t.hi + 1)

/-- `UTC_NOW` (R56, R61). -/
def utcNow (s : State) : Int := utcSec s * (sec96 : Int) + (mts96 s % sec96 : Nat)

/-- Objects of a session that is not CLOSED (R374). -/
def sessNum (s : State) (n sub : Nat) : Option Int :=
  let x := session s n
  match sub with
  | 1 => some x.state
  | 2 => some (if x.state = 0 then 0 else x.iface)
  | 4 => some (if x.state = 0 then 0 else x.keyId)
  | 5 => some x.inFlight.length
  | 6 => some (if x.state = 0 then 0 else x.openedAt)
  | 7 => some x.requests
  | _ => none

/-- Numbers of the time scale, the host's identity and the engine's clock. -/
def formTime (s : State) (k : Nat) : Option Int :=
  if k = Obj.MTS_NOW then some (mts96 s)
  else if k = Obj.INCR_CURRENT then some s.ts.incr
  else if k = Obj.TCLK_TICKS then some s.now
  else if k = Obj.UTC_VALID then some (if utcValidNow s then 1 else 0)
  else if k = Obj.UTC_NOW then some (utcNow s)
  else if k = Obj.UTC_FLAGS then some (utcFlags s)
  else if k = Obj.SINCE_ANCHOR then some (((s.ts.run - s.bound.anchorRun) / ms48 : Nat) : Int)
  else if k = Obj.VARIANT then some (variantNum s.variant)
  else if k = Obj.DICT_FAMILIES then some (families.length : Nat)
  else none

/-- Numbers of Transom and the journal. -/
def formTransom (s : State) (k : Nat) : Option Int :=
  if k = Obj.LATCH_LEASE_LEFT then some (leaseLeft s)
  else if k = Obj.JOURNAL_HEAD_SEQ then some ((s.journal.next - 1 : Nat) : Int)
  else if k = Obj.JOURNAL_OLDEST_SEQ then some s.journal.oldest
  else if k = Obj.JOURNAL_EPOCH then some (s.journal.epoch : Int)
  else if k = Obj.JOURNAL_NOR_SEQ then some ((s.journal.tail.head?.map (·.seq)).getD 0 : Nat)
  else match inst (k / 256) 0x9C10 16 with
    | some n => sessNum s (n + 1) (k % 256)
    | none => none

/-- Numbers of the other units. -/
def formUnit (s : State) (k : Nat) : Option Int :=
  let i := k / 256
  let sub := k % 256
  if k = Obj.LC_CHALLENGE then some (s.keys.challenge.getD 0 : Nat)
  else if k = Obj.TAMPER_STICKY then some (tamperSticky s)
  else if k = Obj.FW_WM_SIZE then some (sizeOfRegion s 7)
  else if k = Obj.LAST_C4_VALID then some (if s.keep.lastC4.isSome then 1 else 0)
  else if k = Obj.UPD_TRIAL_LEFT then some (trialLeft s)
  else match inst i 0x8010 10, inst i 0x9840 5, inst i 0x9420 2 with
    | some r, _, _ => if sub = 1 then some (baseOfRegion s r) else if sub = 2 then some (sizeOfRegion s r) else none
    | _, some n, _ => if sub = 1 then some (coreCycles s n) else if 0xA ≤ sub ∧ sub < 0x12 then some (pmcValue s n (sub - 0xA)) else none
    | _, _, some n => if sub = 1 then some (bankState s n) else none
    | _, _, _ => none

/-- The quantities that only a measurement gives. -/
def isMeasured (k : Nat) : Bool :=
  decide (k = Obj.VKEEP_NOW ∨ k = Obj.DDR_VDDQ_CURRENT ∨ k = Obj.PANE_LATENCY_MAX ∨ k = Obj.AGENT_LATENCY_MAX ∨ k = Obj.AGENT_QUEUE ∨
    k = Obj.OUTSTANDING_NOW ∨ k = Obj.OUTSTANDING_PEAK ∨ k = Obj.HELD_BACK ∨ (0x8060 ≤ k / 256 ∧ k / 256 < 0x8067 ∧ k % 256 = 2))

/-- A number object as a read returns it. -/
def readNum (s : State) (k : Nat) (t : DType) : Int :=
  match formTime s k with
  | some v => v
  | none =>
    match formTransom s k with
    | some v => v
    | none =>
      match formUnit s k with
      | some v => v
      | none => if isMeasured k then measuredNum s k t else getN s k

/-- "FN7263-A" and its companions. -/
def partNumber (v : Variant) : List Byte :=
  let letter : Byte := match v with | .a => 0x41 | .g => 0x47 | .s => 0x53 | .l => 0x4C
  [0x46, 0x4E, 0x37, 0x32, 0x36, 0x33, 0x2D, letter]

/-- Byte objects formed from the units' state, and their stored value otherwise. -/
def readBytes (s : State) (k : Nat) : List Byte :=
  let i := k / 256
  let sub := k % 256
  if k = Obj.PART_NUMBER then partNumber s.variant
  else if k = Obj.DICT_CATALOGUE then catalogue
  else if k = Obj.TAP_LIST then tapList s
  else if k = Obj.FDB_DUMP then fdbDump s
  else if k = Obj.VLAN_TABLE then vlanDump s
  else if k = Obj.SESSION_ENTRY then sessionEntry s
  else if k = Obj.TAMPER_RECORDS then tamperRecords s
  else if k = Obj.GROUP_LIST then groupList s
  else if k = Obj.REMAP_TABLE then remapTable s
  else if k = Obj.FAULT_TABLE then faultTable s
  else if k = Obj.FAULT_RECORD then selectedRecord s
  else if k = Obj.LAST_C4 then s.keep.lastC4.getD (List.replicate 56 0)
  else if k = Obj.MILESTONE_TIMES then milestoneTimes s
  else if 0x3410 ≤ i ∧ i < 0x3420 ∧ sub = 0x1B then edgeLogBytes s (i - 0x3410)
  else if 0x5010 ≤ i ∧ i < 0x5020 ∧ sub = 8 then portCal s (i - 0x5010)
  else if 0x6C10 ≤ i ∧ i < 0x6C20 then slotsDump s (i - 0x6C10)
  else if 0x8040 ≤ i ∧ i < 0x8048 then windowBytes s (i - 0x8040)
  else if i = 0x9811 then samplePage s (sub - 1)
  else if 0x9820 ≤ i ∧ i < 0x9824 then
    symtabPage s (if i < 0x9822 then activeBank s else 1 - activeBank s) (if i % 2 = 0 then 1 else 2) (sub - 1)
  else if 0x4030 ≤ i ∧ i < 0x4038 then (if getN s (Obj.SNAP_STATE (i - 0x4030)) = 2 then getB s k else [])
  else if 0x9840 ≤ i ∧ i < 0x9845 then pmcSnapshot s (i - 0x9840)
  else if i = 0x9420 ∨ i = 0x9421 then
    (if sub = 2 then bankVersions (bankOf s (i - 0x9420)) else bankRecord (bankOf s (i - 0x9420)))
  else if 0x9C10 ≤ i ∧ i < 0x9C20 then (session s (i - 0x9C0F)).peer
  else getB s k

/-! ### Statistics (R419–R421) -/

/-- The unit whose restart marks a source's block. -/
def unitOfIndex (i : Nat) : Nat :=
  match portOfIndex i with
  | some p => if i < 0x6000 ∨ 0x6C00 ≤ i then 0x1400 + p else 0x1700
  | none =>
    if (0x4000 ≤ i ∧ i < 0x4040) ∨ i = 0x2011 then 0x1300
    else if 0x3410 ≤ i ∧ i < 0x3420 then 0x1200 + (i - 0x3410)
    else if 0x5800 ≤ i ∧ i < 0x5C00 then 0x1600
    else if 0x6000 ≤ i ∧ i < 0x6400 then 0x1700
    else if 0x6800 ≤ i ∧ i < 0x6C00 then 0x1900
    else if i = 0x1002 then 0x1B00
    else if 0x8040 ≤ i ∧ i < 0x8048 then 0x2400 + (i - 0x8040)
    else if 0x8C00 ≤ i ∧ i < 0x9000 then 0x3000
    else if 0x9840 ≤ i ∧ i < 0x9845 then 0x2500 + (i - 0x9840)
    else if i = 0x9C02 then 0x1C00
    else 0

/-- A counter's value. -/
def counterVal (s : State) (k : Nat) : Int := readNum s k (objKind (k / 256) (k % 256)).typ

/-- A block of a snapshot ("Statistics block"). -/
def blockBytes (x : Nat) (t : StatSnap) : List Byte :=
  let c := countersOf x
  be 4 t.seq ++ t96Bytes t.takenAt ++ be 2 x ++ be 1 c.length ++
    be 1 ((if t.unknown then 1 else 0) + (if t.restarting.contains (unitOfIndex x) then 2 else 0)) ++ be 4 0 ++
    c.flatMap (fun sub => be 1 sub ++ be 3 0 ++ be 8 (((lookupKV (x * 256 + sub) t.counters).getD 0).toNat))

/-- `STAT_BLOCK` before the first snapshot: its header with COUNT entries of 0. -/
def noSnap : StatSnap := { seq := 0, takenAt := 0, unknown := false, restarting := [], counters := [] }

/-- The 64 most recent snapshots of a block, oldest first (R421). -/
def historyBytes (s : State) (x : Nat) : List Byte := ((s.stats.filter (fun t => !t.lost.contains x)).reverse).flatMap (blockBytes x)

/-- Counters of present indexes that are not 0, by key. -/
def takeCounters (s : State) : List (Nat × Int) :=
  (statSources.filter (fun x => !absentObj s.variant x 1)).flatMap (fun x =>
    (countersOf x).filterMap (fun sub =>
      let v := counterVal s (x * 256 + sub)
      if v = 0 then none else some (x * 256 + sub, v)))

/-- A second whose snapshot has been taken, among runs of seconds a period apart (R54). -/
def wasTaken (n : Nat) (l : List (Nat × Nat × Nat)) : Bool :=
  l.any (fun i => decide (i.1 ≤ n ∧ n ≤ i.2.1 ∧ (n - i.1) % max i.2.2 1 = 0))

/-- One more snapshot, a period after the last one or after a gap. -/
def markTaken (n per : Nat) : List (Nat × Nat × Nat) → List (Nat × Nat × Nat)
  | (a, b, p) :: r => if p = per ∧ b + p = n then (a, n, p) :: r else (n, n, per) :: (a, b, p) :: r
  | [] => [(n, n, per)]

/-- A whole second that is a multiple of `STAT_PERIOD` (R419) and was not acted on before (R54). -/
def statSnapshot (s : State) : State :=
  let t := mtsSec s
  if t % max (getNat s Obj.STAT_PERIOD) 1 ≠ 0 ∨ us48 ≤ s.ts.mts % sec48 ∨ wasTaken t s.statsDone then s
  else
    let n := (getNat s Obj.STAT_SEQ + 1) % 4294967296
    let x : StatSnap :=
      { seq := n, takenAt := t * sec96, unknown := decide (getN s Obj.TS_STATE = 0), restarting := s.restarts.map (·.unit)
        counters := takeCounters s }
    setN Obj.STAT_SEQ n
      { s with stats := (x :: s.stats).take 64, statsDone := markTaken t (max (getNat s Obj.STAT_PERIOD) 1) s.statsDone }

def execStatSnapshot (s : State) : Host.Outcome State Fault Refusal := finish (ifUp statSnapshot s)

/-! ### READ (R375–R378, R409) -/

/-- The whole value that a read of an object returns. -/
def readValue (s : State) (index sub : Nat) : List Byte :=
  let k := index * 256 + sub
  if sub = 0 then be 1 (subCount index)
  else if 0 < resourceCount index then claimBytes index (sub - 1) (claimOf s index (sub - 1))
  else if 0xA000 ≤ index then
    (let x := (statSource index).getD 0
     match sub with
     | 1 => blockBytes x (s.stats.headD noSnap)
     | 2 => historyBytes s x
     | _ => be 2 x)
  else
    let t := (objKind index sub).typ
    match t with
    | .oct | .dom | .str => readBytes s k
    | _ => encodeNum t (readNum s k t)

/-- The SEQ that an OFFSET names: the nearest one with those low bits that is not above the next (R395). -/
def seqOfOffset (s : State) (off : Nat) : Int := (s.journal.next : Int) - (((s.journal.next : Int) - off) % 4294967296)

/-- Whole entries, oldest first, up to a number of bytes. -/
def wholeEntries : Nat → List JEntry → List JEntry
  | _, [] => []
  | n, e :: r => if entryLength e ≤ n then e :: wholeEntries (n - entryLength e) r else []

/-- A READ of `JOURNAL_ENTRIES`: status, VALUE and LAST (R395). -/
def journalRead (s : State) (off : Nat) : Nat × List Byte × Bool :=
  let n := seqOfOffset s off
  if n < s.journal.oldest then (stRange, be 8 s.journal.oldest, true)
  else
    let l := wholeEntries 1280 ((s.journal.ring.reverse).filter (fun e => decide (n ≤ (e.seq : Int))))
    let last := match l.getLast? with | some e => decide (s.journal.ring.head?.map (·.seq) = some e.seq) | none => true
    (stOk, l.flatMap entryBytes, last)

/-- A READ of `JOURNAL_KEY`: OFFSET is the epoch (R394). -/
def keyRead (s : State) (e : Nat) : Nat × List Byte :=
  if e < s.journal.disclosed then (stOk, be 16 (epochKey (s.keys.root 3) e)) else (stRange, [])

/-- Objects whose value is a timestamp that the CORE replica gives at the read (R15, R20). -/
def stampedRead (k : Nat) : Bool :=
  decide (k = Obj.MTS_NOW ∨ k = Obj.UTC_NOW ∨ (0x9840 ≤ k / 256 ∧ k / 256 < 0x9845 ∧ k % 256 = 0x15))

/-- Answer a READ whose tests have passed. -/
def answerRead (q : Req) (index sub : Nat) (mirrored : Bool) (s : State) : State :=
  let k := index * 256 + sub
  let fl (last : Bool) : Nat := (if last then 1 else 0) + (if mirrored then 2 else 0)
  let say (st : Nat) (last : Bool) (total : Nat) (v : List Byte) (t : State) : State := respond q 1 st index sub (fl last) total v t
  let x := session s q.sess
  if k = Obj.JOURNAL_ENTRIES then
    (let r := journalRead s q.offset
     say r.1 r.2.2 r.2.1.length r.2.1 s)
  else if k = Obj.JOURNAL_KEY then
    (let r := keyRead s q.offset
     say r.1 true r.2.length r.2 s)
  else if (objKind index sub).typ ≠ .dom then
    (if q.offset ≠ 0 then say stRange true 0 [] s
     else
       let s1 := if k = Obj.LC_CHALLENGE then readChallenge s else if stampedRead k then handOnBy 0 s else s
       let v := readValue s1 index sub
       say stOk true v.length v s1)
  else if q.offset = 0 then
    (match x.seg with
     | .writing _ _ => say stBusy true 0 [] s
     | _ =>
       let v := readValue s index sub
       say stOk (decide (v.length ≤ 1280)) v.length (v.take 1280) 
         (setSession q.sess { x with seg := .readCopy k v (decide (v.length ≤ 1280)) } s))
  else
    match x.seg with
    | .readCopy k' v sent =>
      let last := decide (v.length ≤ q.offset + 1280)
      if k' = k then
        say stOk last v.length (slice v q.offset 1280) (setSession q.sess { x with seg := .readCopy k v (sent || last) } s)
      else say stRange true 0 [] s
    | _ => say stRange true 0 [] s

/-- A READ at the moment it may be answered: the Pane answers mirrored objects, the agent the rest (R377, R408, R409). -/
def tryRead (q : Req) (index sub : Nat) (s : State) : State :=
  let t := tests1to9 q .read index sub s
  let mirrored := (objKind index sub).mirrored && decide (q.offset = 0)
  if t = stOk then
    answerRead q index sub mirrored (if mirrored then bump Obj.PANE_READS s else agentCount s)
  else
    respond q 1 t index sub 1 0 [] (countBusy t (if t = stUnitAbsent ∧ mirrored then s else agentCount s))

/-- An ORDERED read waits while an earlier request of its session has no response (R376). -/
def readObject (q : Req) (index sub : Nat) (s0 : State) : State :=
  match acceptFrame q.hdr q.sess s0 with
  | (none, s) => s
  | (some s1, _) =>
    let s := acceptRequest q.sess s1
    let x := session s q.sess
    if q.ordered ∧ x.inFlight ≠ [] ∧ x.inFlight.length < 64 ∧ x.inFlight.contains q.tag = false then
      setSession q.sess { x with inFlight := q.tag :: x.inFlight, held := x.held ++ [(index * 256 + sub, q)] } s
    else tryRead q index sub s

/-- Held reads of a session whose earlier requests have their responses, oldest first (R376). -/
def releaseReads : Nat → Nat → State → State
  | 0, _, s => s
  | n + 1, sess, s =>
    let x := session s sess
    match x.held with
    | [] => s
    | h :: r =>
      if x.inFlight.getLast? = some h.2.tag then
        releaseReads n sess (tryRead h.2 (h.1 / 256) (h.1 % 256)
          (setSession sess { x with held := r, inFlight := x.inFlight.dropLast } s))
      else s

def execRead (q : Req) (index sub : Nat) (s : State) : Host.Outcome State Fault Refusal := finish (ifUp (readObject q index sub) s)

def execJournalEntriesRead (q : Req) (s : State) : Host.Outcome State Fault Refusal :=
  finish (ifUp (readObject q (Obj.JOURNAL_ENTRIES / 256) (Obj.JOURNAL_ENTRIES % 256)) s)

def execJournalKeyRead (q : Req) (s : State) : Host.Outcome State Fault Refusal :=
  finish (ifUp (readObject q (Obj.JOURNAL_KEY / 256) (Obj.JOURNAL_KEY % 256)) s)

/-- A read of `PMC_SNAPSHOT` latches a core's counters in one cycle (R451). -/
def execPmcSnapshot (q : Req) (n : Fin 5) (s : State) : Host.Outcome State Fault Refusal :=
  finish (ifUp (readObject q (0x9840 + n.val) 0x15) s)

/-- A read of `SAMPLE_PAGE` (R453). -/
def execSamplePageRead (q : Req) (page : Fin 16) (s : State) : Host.Outcome State Fault Refusal :=
  finish (ifUp (readObject q 0x9811 (page.val + 1)) s)

/-! ### Configuration in NOR (R403) -/

/-- A key of the configuration that NOR's two copies hold. -/
def configKey (k : Nat) : Bool :=
  (match objInfo (k / 256) (k % 256) with | some o => isConfig o | none => false) && !outlives k

def configNums (s : State) : List (Nat × Int) := s.nums.filter (fun p => configKey p.1)
def configBlobs (s : State) : List (Nat × List Byte) := s.blobs.filter (fun p => configKey p.1)

/-- The configuration differs from the newer copy. -/
def configDue (s : State) : Bool :=
  s.nor.dirtySince.isSome ||
    (match newerCopy s with | some c => decide (c.nums ≠ configNums s ∨ c.blobs ≠ configBlobs s) | none => true)

/-- The copy that is not the newer valid one takes the configuration. -/
def configStore (s : State) : State :=
  if milestone s 6 = false ∨ configDue s = false then s
  else
    let seq := match newerCopy s with | some c => c.seq + 1 | none => 1
    let c : ConfigCopy := { seq := seq, crcOk := true, nums := configNums s, blobs := configBlobs s }
    let onB : Bool := match s.nor.copyB with | some b => b.crcOk && decide (some b = newerCopy s) | none => false
    { s with nor :=
      if onB ∨ s.nor.copyA.isNone then { s.nor with copyA := some c, dirtySince := none }
      else { s.nor with copyB := some c, dirtySince := none } }

def execConfigStore (s : State) : Host.Outcome State Fault Refusal := finish (ifUp configStore s)

/-- What the loaded values claim and start (R106, R126, R165, R177, R153). -/
def configEffects (s : State) : State :=
  let has (k : Nat) : Bool := decide (getN s k ≠ 0)
  let s1 := (List.range 16).foldl (fun a c => if has (Obj.TDC_SOURCE c) then monitorClaim c a else a)
    (foldRefs (fun r a => if has (Obj.REF_MODE r) ∧ (isRefin r ∨ isAtom r) then claimRef r a else a) s)
  let s2 := (List.range 4).foldl (fun a n =>
    if has (Obj.PPS_ENABLE n) then claim { cls := 0x1106, num := n, kind := kindPpsNative, knum := n, index := 0x3C00 + n, sub := 1 } a
    else releaseOf 0x1106 kindPpsNative n a) s1
  let s3 := (List.range 8).foldl (fun a g => if has (Obj.PG_ROUTE g) then (rulePgRoute g).eff (.num (getN a (Obj.PG_ROUTE g))) a else a) s2
  let s4 := (List.range 12).foldl (fun a c => if has (Obj.CLK_ENABLE c) then applyClkEnable c ((ruleClkEnable c).eff (.num 1) a) else a) s3
  let s5 := if (getB s4 Obj.ATOM_PROFILE).isEmpty then s4 else ruleAtomProfile.eff (.oct (getB s4 Obj.ATOM_PROFILE)) s4
  setN Obj.SW_SHARED_SIZE (49152 - getN s5 Obj.SW_BANK_RESERVE * (nPorts s5.variant : Int)) s5

/-- The position held from the start on: the owner's in FIXED, else the one that a survey left in NOR (R185, R186). -/
def restorePosition (s : State) : State :=
  if getN s Obj.GNSS_POS_MODE = 1 then setGnss (fun g => { g with held := true }) s
  else match s.nor.gnssPos with
  | some p => setGnss (fun g => { g with held := true })
      (s |> setN Obj.GNSS_POS_X p.1 |> setN Obj.GNSS_POS_Y p.2.1 |> setN Obj.GNSS_POS_Z p.2.2.1 |> setN Obj.GNSS_POS_UNC p.2.2.2)
  | none => s

/-- The ring again: the NOR tail, then what this start has written so far (R396). -/
def reloadRing (s : State) : State :=
  let l := (s.journal.ring ++ s.journal.tail).reverse
  let r := l.foldl (fun (a : List JEntry × Nat) e => ({ e with pos := a.2 } :: a.1, a.2 + entryLength e)) ([], 0)
  { s with journal :=
    { s.journal with
      ring := r.1, head := r.2, oldest := (l.head?.map (·.seq)).getD s.journal.next, lastTailCopy := s.now, openedAt := s.now } }

/-- The open epoch closes at each start; the START entry tells an unclean stop (R394, R396). -/
def startEntry (s : State) : State :=
  let s1 := if s.journal.tail.isEmpty then s else closeEpoch s
  let s2 := journal { kind := 13, key := Obj.START_CAUSE, flags := if s.nor.cleanStop then 0 else 8,
                      new := be 1 (getNat s1 Obj.START_CAUSE) } s1
  { s2 with nor := { s2.nor with cleanStop := false } }

/-- Milestone 6: the configuration is loaded, the time core starts, the journal goes on (R397, R403, R358, R469, R511). -/
def configLoad (s0 : State) : State :=
  if getN s0 Obj.START_MILESTONE ≠ 5 then s0
  else
    let s := startEntry (reloadRing s0)
    let s1 := match newerCopy s with
      | some c =>
        { s with
          nums := c.nums.foldl (fun a p => if configKey p.1 then insertKV p.1 p.2 a else a) s.nums
          blobs := c.blobs.foldl (fun a p => if configKey p.1 then insertKV p.1 p.2 a else a) s.blobs }
      | none => report 0x0600 1 {} s
    let s2 := restorePosition (configEffects s1)
    let s3 := { s2 with inForce := s2.nums }
    let s4 := journalLastC4 (journalRecords s3)
    let s5 := (List.range 2).foldl (fun a n => if a.update.bankFailed.getD n false then report 0x3800 1 { detail := n } a else a) s4
    complete 6 ((List.range 5).foldl (fun a n => startClock n a) s5)

def execConfigLoad (s : State) : Host.Outcome State Fault Refusal := finish (ifUp configLoad s)

end Sys2Proof.Machine
end

