-- ==== Sys2Proof/Machine/Epoch.lean ====
section
/-! DEFINITION. Machine/Epoch.lean: the epoch boundary (R136 and what the other chapters do at a boundary), the step tick (R48–R55)
and the tick of TCLK that passes while no command waits. -/
namespace Sys2Proof.Machine

/-! ### The epoch boundary -/

/-- The boundary lies at the first millisecond of a second. -/
def wholeSecond (s : State) : Bool := decide (s.ts.mts / ms48 / 1000 ≠ s.ts.lastEpoch / 1000)

/-- A written `LOOP_MODE` takes effect (R42, R44). -/
def applyLoopMode (s : State) : State :=
  let m := getF s Obj.LOOP_MODE
  if m = getN s Obj.LOOP_MODE_NOW then s
  else
    let s1 := setN Obj.LOOP_MODE_NOW m s
    if m = 0 then
      let r := integOfIncr s1.ts.incr s1
      setRefIncr { r.2 with ts := { r.2.ts with integ := r.1, prevMeas := none } }
    else setRefIncr { s1 with ts := { s1.ts with nextIncr := none } }

/-- Parameters as last written come into force (R24); the time core hands over none while it restarts (R448). -/
def parametersInForce (s : State) : State := if getN s (Obj.CORE_STATE 4) = 2 then s else { s with inForce := s.nums }

/-- Channels at the boundary: windows whose time is over, written configurations, path delay, calibration state (R104, R109, R113,
R114). -/
def tdcBoundary (c : Nat) (s : State) : State :=
  let s1 := if winMaxDue s c then closeWindow c s else s
  evalCal c (setPathDelay c (applyTdcConfig c s1))

def tdcsBoundary (s : State) : State := (List.range (nTdcs s.variant)).foldl (fun a c => tdcBoundary c a) s

/-- The measurements closed since the previous boundary, oldest first (R136). -/
def applyClosed (s : State) : State := s.meas.foldl (fun a m => applyMeas m { a with meas := a.meas.erase m }) s

/-- The channels at whose inputs the prescalers have seen no edge for two nominal periods (R134). -/
def setSilent (l : List Nat) (s : State) : State := { s with tdcs := s.tdcs.map (fun t => { t with silent := l.contains t.id }) }

/-- A second of a SyncE reference that yields no ratio is a missed measurement (R129, R133). -/
def synceMissed (ratios : List (Nat × Int)) (r : Nat) (s : State) : State :=
  if isSyncE r ∧ (portUp s (r - 14) = false ∨ !ratios.any (fun q => q.1 = r - 14)) then measMissed r s else s

/-- A port's average ratio over the second that has ended (R129). -/
def synceSecond (q : Nat × Int) (s : State) : State :=
  let r := 14 + q.1
  if refPresent s.variant r = false ∨ isSyncE r = false ∨ portUp s q.1 = false ∨ getN s (Obj.REF_MODE r) = 0 ∨ refState s r = 0 then s
  else
    let f := combineFreq q.2 s
    measArrived r true none (setFreq r f.1 8000 f.2)

/-- The five evaluations of references, disputes and roles, in the order of R136. -/
def evalReferences (s : State) : State :=
  let s1 := foldRefs updateQn (pulseTimeout s)
  let s2 := foldRefs (fun r a => countWtr r (transition r a)) s1
  foldRefs nameActive (selectFreq (selectTime (evalDisputes s2)))

/-- What R136 orders, from the time references on to the model set, and the rates that follow it. -/
def evalTime (s : State) : State :=
  let before := s.sel.disputes
  let s1 := evalTs (buildOutTimeout (evalReferences s))
  applyHoldRate (selectModel before (raiseUnc s1))

/-- Bound, grade and advertised quality of the coming epoch (R87, R89, R93–R97). -/
def boundBoundary (s : State) : State := advertise (evalGrade (publishBound (violExpiry s)))

/-- Ports at the boundary (R209, R265). -/
def portsBoundary (s : State) : State :=
  (List.range (nPorts s.variant)).foldl (fun a p => applyLead p (portOffsets p a)) s

/-- The marks of a whole second of MTS. -/
def secondMark (s : State) : State :=
  if wholeSecond s then setGnss (fun g => { g with secMark := (mtsSec s, markNow s) }) s else s

/-- The replicas that are late to return (R22). -/
def replicasLate (s : State) : State :=
  (List.range (nPorts s.variant)).foldl (fun a p => replicaLate (16 + p) a) (replicaLate 1 (replicaLate 0 s))

/-- What the other units do at a boundary: synthesis, ATOM and ESMC, NTP, PTP, keys, the pair and the update agent. -/
def unitsBoundary (s : State) : State :=
  let s1 := learnTick (esmcEvents (portsBoundary (synthTick (applyProfile (evalAtomLock s)))))
  let s2 := instClasses (ntpStatus (ntsRevokeDue (ntsRotate s1)))
  let s3 := snapStale (replicasLate (secondMark s2))
  let s4 := lcApply (lineageRevert (lineageApply s3))
  updActivation (decideRole false (handoverInstant (wtrPair (publishHealth (noteQualified s4)))))

/-- The marks of a boundary: its tick, the silent inputs, and whether build-out runs as it begins (R134, R141). -/
def beginBoundary (silent : List Nat) (s : State) : State :=
  setSel (fun x => { x with buildOutBusy := decide (getN s Obj.SWITCH_STATE = 1) })
    (setSilent silent { s with ts := { s.ts with epochTick := some s.now } })

/-- The boundary: growth, releases and groups, parameters, the crystal, the channels, and then the evaluations of R136. -/
def boundary (ratios : List (Nat × Int)) (silent : List Nat) (s0 : State) : State :=
  let s := beginBoundary silent s0
  let s1 := parametersInForce (groupsDue (latchSensors (updateBound s)))
  let s2 := cancelAnnounced (applyLoopMode (xoComp s1))
  let s3 := applyClosed (tdcsBoundary s2)
  let s4 := if wholeSecond s then foldRefs (synceMissed ratios) (ratios.foldl (fun a q => synceSecond q a) s3) else s3
  let s5 := freqSwitchDone (unitsBoundary (boundBoundary (evalTime s4)))
  let s6 := foldRefs clearArrived s5
  { s6 with ts := { s6.ts with lastEpoch := s.ts.mts / ms48 } }

/-- The epoch boundary (R136). -/
def execEpochBoundary (x : BoundaryIn) (s : State) : Host.Outcome State Fault Refusal :=
  finish (ifUp (fun s => if boundaryDue s then boundary x.ratios x.silent s else s) s)

/-! ### The step tick (R48–R55) -/

/-- The coming tick is the step tick. -/
def stepDue (s : State) : Option PendingStep :=
  match s.ts.step with
  | some p => if p.atI ≤ addMts s.ts.mts s.ts.incr then some p else none
  | none => none

/-- Instants of MTS kept for an elapsed time move with the time scale. -/
def shiftMarks (d : Int) (s : State) : State :=
  let f (t : Nat) : Nat := ((t : Int) + d).toNat
  let s1 := { s with
    ts := { s.ts with prevMeas := s.ts.prevMeas.map f, lastBig := f s.ts.lastBig, since := f s.ts.since }
    bound := { s.bound with anchorAt := f s.bound.anchorAt, shadows := s.bound.shadows.map (fun x => { x with atI := f x.atI }) }
    meas := s.meas.map (fun m => { m with atI := f m.atI }) }
  foldRefs (fun r a => setRef r (fun x =>
    { x with freqAt := x.freqAt.map f, lastTested := x.lastTested.map (fun p => (f p.1, p.2)) }) a) s1

/-- The bound at a step: a module's step translates it, an owner's makes both halves unbounded (R52, R75); the shadow pairs are
translated (R76). -/
def stepBound (p : PendingStep) (d : Int) (s : State) : State :=
  let sh := s.bound.shadows.map (fun x => { x with pair := translatePair x.pair d })
  let s1 := { s with bound := { s.bound with shadows := sh } }
  if p.owner then makeUnbounded s1 else { s1 with bound := { s1.bound with cur := translatePair s1.bound.cur d } }

/-- The pair now as a BOUND80 code. -/
def pairNow (s : State) : Int := bound80 (publishHalf s.bound.cur.m s.bound.cur.mU) (publishHalf s.bound.cur.p s.bound.cur.pU)

/-- The entry of a step: OLD the bound before; NEW the offset, the instant and the bound after (R55). -/
def stepEntry (p : PendingStep) (old : Nat) (before : Int) (s : State) : State :=
  journal
    { kind := if p.owner then 1 else 2
      key := if p.setTime then Obj.SET_TIME else if p.owner then Obj.STEP_APPLY else Obj.STEP_STATUS
      origin := if p.owner then .session p.session else .module
      old := numBytes Obj.BOUND before
      new := numBytes Obj.LAST_STEP_OFFSET p.offset ++ t96Bytes (t96Of old) ++ numBytes Obj.BOUND (pairNow s) } s

/-- Slots whose L lies at or after the step tick are late for STEP (R266). -/
def slotsStepped (p : PendingStep) (d : Int) (s : State) : State :=
  { s with ports := s.ports.map (fun x =>
    { x with
      slots := x.slots.map (fun q => { q with stepped := q.stepped || stepLater p q, shift := q.shift + d })
      guardL := x.guardL.map (fun l => ((l : Int) + d).toNat) }) }

/-- What the step does to the units (R53, R116, R147, R160, R176, R259). -/
def stepUnits (p : PendingStep) (old new : Nat) (d : Int) (s : State) : State :=
  let s1 := (List.range (nTdcs s.variant)).foldl (fun a c => discardWindow c a) s
  let s2 := leapReached (freezeLearning s1)
  let s3 := ptpStepped d (gnssStepped old new <| synthStep p.atI old new d (slotsStepped p d s2))
  sillReleased s3

/-- The tick at which the counter adds the increment and the step offset. -/
def stepNow (p : PendingStep) (s : State) : State :=
  let d : Int := p.offset * 4294967296
  let old := addMts s.ts.mts s.ts.incr
  let s1 := updateBound (tickCounter d s)
  let s2 := shiftMarks d (stepBound p d { s1 with ts := { s1.ts with step := none, lastLeap := none } })
  let s3 := stepUnits p old s1.ts.mts d (publishBound (stepEntry p old (pairNow s1) s2))
  s3 |> setN Obj.STEP_STATUS 2 |> setN Obj.LAST_STEP_OFFSET p.offset |> setN Obj.LAST_STEP_AT (t96Of old : Nat)
    |> setN Obj.STEP_COUNT ((getN s Obj.STEP_COUNT + 1) % counterMod Obj.STEP_COUNT)

def stepTickOf (s0 : State) : State :=
  let s := incrTake (loopApply s0)
  match stepDue s with | some p => compareShadow (incrInForce s0.ts.incrWrites (stepNow p s)) | none => s0

def execStepTick (s : State) : Host.Outcome State Fault Refusal := finish (ifUp stepTickOf s)

/-! ### A tick of TCLK -/

/-- The restarts whose raise has been taken act on their units (R457). -/
def doRestarts (s : State) : State := s.restartsDue.foldl (fun a u => unitRestart u a) { s with restartsDue := [] }

/-- What the ports finish by themselves: transmissions whose last byte has left, frames that wait for a Sill slot. -/
def portTick (p : Nat) (s : State) : State := serveWait 64 p (finishTx p s)

/-- What the Transom does by itself: ORDERED reads whose turn has come, sessions whose SEQ is spent (R374, R376). -/
def hostTick (s : State) : State :=
  closeSessions 2 seqSpent ((List.range 16).foldl (fun a i => releaseReads 64 (i + 1) a) s)

/-- One tick of TCLK: the counter adds the increment (R28), that of the loop or one that was written (R40, R43). -/
def tick (s : State) : State :=
  let s1 := compareShadow (incrInForce s.ts.incrWrites (tickCounter 0 (incrTake (loopApply (doRestarts s)))))
  if up s1 then mirrorSend (hostTick ((List.range 17).foldl (fun a p => portTick p a) s1)) else s1

/-- What the block does while no command waits: one tick of TCLK, where it runs. -/
def idle (s : State) : Host.Outcome State Fault Refusal := finish (ifUp tick s)

end Sys2Proof.Machine
end

