-- ==== Sys2Proof/Machine/Dispatch.lean ====
section
/-! DEFINITION. Machine/Dispatch.lean: one arm per command of the table. -/
namespace Sys2Proof.Machine

def exec (i : Instr) (s : State) : Host.Outcome State Fault Refusal :=
  match i with
  | .epochBoundary x => Sys2Proof.Machine.execEpochBoundary x s
  | .syncStrobe r corr => Sys2Proof.Machine.execSyncStrobe r corr s
  | .replicaStrobeTimeout r => Sys2Proof.Machine.execReplicaStrobeTimeout r s
  | .strobeRemeasure r delay => Sys2Proof.Machine.execStrobeRemeasure r delay s
  | .loopMode q => Sys2Proof.Machine.execLoopMode q s
  | .incrWrite q => Sys2Proof.Machine.execIncrWrite q s
  | .loopIncrApply => Sys2Proof.Machine.execLoopIncrApply s
  | .stepApply q => Sys2Proof.Machine.execStepApply q s
  | .setTime q => Sys2Proof.Machine.execSetTime q s
  | .stepTick => Sys2Proof.Machine.execStepTick s
  | .capture q keep => Sys2Proof.Machine.execCapture q keep s
  | .leapInstantReached => Sys2Proof.Machine.execLeapInstantReached s
  | .keepRecordWrite keep => Sys2Proof.Machine.execKeepRecordWrite keep s
  | .keepFreqLearn keep => Sys2Proof.Machine.execKeepFreqLearn keep s
  | .tsLocked => Sys2Proof.Machine.execTsLocked s
  | .measurementArrival r => Sys2Proof.Machine.execMeasurementArrival r s
  | .boundGradeDwell => Sys2Proof.Machine.execBoundGradeDwell s
  | .refFreqUncViolExpiry => Sys2Proof.Machine.execRefFreqUncViolExpiry s
  | .tdcEdge c k => Sys2Proof.Machine.execTdcEdge c k s
  | .tdcWindowMax c => Sys2Proof.Machine.execTdcWindowMax c s
  | .tdcCalHistogramDone c hits a b => Sys2Proof.Machine.execTdcCalHistogramDone c hits a b s
  | .tdcCoreSwap c => Sys2Proof.Machine.execTdcCoreSwap c s
  | .tdcCalFailed c => Sys2Proof.Machine.execTdcCalFailed c s
  | .tdcSource c f q => Sys2Proof.Machine.execTdcSource c f q s
  | .sensorConversion xo die => Sys2Proof.Machine.execSensorConversion xo die s
  | .refMode r q => Sys2Proof.Machine.execRefMode r q s
  | .refUse r q => Sys2Proof.Machine.execRefUse r q s
  | .refQualified r => Sys2Proof.Machine.execRefQualified r s
  | .refLost r => Sys2Proof.Machine.execRefLost r s
  | .refWtrExpiry r => Sys2Proof.Machine.execRefWtrExpiry r s
  | .refDisqualHoldExpiry r => Sys2Proof.Machine.execRefDisqualHoldExpiry r s
  | .buildOutTimeout => Sys2Proof.Machine.execBuildOutTimeout s
  | .freqSwitchDone => Sys2Proof.Machine.execFreqSwitchDone s
  | .disputeBegin a b => Sys2Proof.Machine.execDisputeBegin a b s
  | .disputeEnd a b => Sys2Proof.Machine.execDisputeEnd a b s
  | .disputeUnresolved a b => Sys2Proof.Machine.execDisputeUnresolved a b s
  | .learnPoint => Sys2Proof.Machine.execLearnPoint s
  | .atomSteerUpdate => Sys2Proof.Machine.execAtomSteerUpdate s
  | .atomProfile q => Sys2Proof.Machine.execAtomProfile q s
  | .atomStatusPoll => Sys2Proof.Machine.execAtomStatusPoll s
  | .atomStatusResponse bytes => Sys2Proof.Machine.execAtomStatusResponse bytes s
  | .atomRespTimeout => Sys2Proof.Machine.execAtomRespTimeout s
  | .atomLockChange high => Sys2Proof.Machine.execAtomLockChange high s
  | .esmcPduRx p valid ql ecode cascade => Sys2Proof.Machine.execEsmcPduRx p valid ql ecode cascade s
  | .esmcInfoTx p => Sys2Proof.Machine.execEsmcInfoTx p s
  | .esmcQlFailed p => Sys2Proof.Machine.execEsmcQlFailed p s
  | .dpllMode n q => Sys2Proof.Machine.execDpllMode n q s
  | .apllSearchStep n higher outer => Sys2Proof.Machine.execApllSearchStep n higher outer s
  | .apllLockWindow n diff => Sys2Proof.Machine.execApllLockWindow n diff s
  | .clkEnable c q => Sys2Proof.Machine.execClkEnable c q s
  | .clkSquelch c => Sys2Proof.Machine.execClkSquelch c s
  | .clkSync c q => Sys2Proof.Machine.execClkSync c q s
  | .pulseEdgeCommit o => Sys2Proof.Machine.execPulseEdgeCommit o s
  | .pulseEdgeEmit o => Sys2Proof.Machine.execPulseEdgeEmit o s
  | .ppsOffset n q => Sys2Proof.Machine.execPpsOffset n q s
  | .pgArm g q => Sys2Proof.Machine.execPgArm g q s
  | .pgMode g q => Sys2Proof.Machine.execPgMode g q s
  | .pgRoute g q => Sys2Proof.Machine.execPgRoute g q s
  | .alignWindowMiss g => Sys2Proof.Machine.execAlignWindowMiss g s
  | .todSentenceStart t => Sys2Proof.Machine.execTodSentenceStart t s
  | .todinSentence t x ago => Sys2Proof.Machine.execTodinSentence t x ago s
  | .gnssChanAlloc cands => Sys2Proof.Machine.execGnssChanAlloc cands s
  | .gnssSurveyStart q => Sys2Proof.Machine.execGnssSurveyStart q s
  | .gnssNavSecond n => Sys2Proof.Machine.execGnssNavSecond n s
  | .gnssTimingSolution x => Sys2Proof.Machine.execGnssTimingSolution x s
  | .gnssppsEdge => Sys2Proof.Machine.execGnssppsEdge s
  | .isbInvalidTimeout q => Sys2Proof.Machine.execIsbInvalidTimeout q s
  | .antCurrentSample cur aboveUs => Sys2Proof.Machine.execAntCurrentSample cur aboveUs s
  | .antSupplyRetry => Sys2Proof.Machine.execAntSupplyRetry s
  | .gnssExcludeExpiry sys => Sys2Proof.Machine.execGnssExcludeExpiry sys s
  | .gnssNoiseMeasure l1 l5 => Sys2Proof.Machine.execGnssNoiseMeasure l1 l5 s
  | .gnssSnapArm q => Sys2Proof.Machine.execGnssSnapArm q s
  | .gnssSnapStart => Sys2Proof.Machine.execGnssSnapStart s
  | .gnssSnapComplete data agc1 agc2 lo1 lo5 rate => Sys2Proof.Machine.execGnssSnapComplete data agc1 agc2 lo1 lo5 rate s
  | .portMode q p => Sys2Proof.Machine.execPortMode q p s
  | .portFec q p => Sys2Proof.Machine.execPortFec q p s
  | .maxFrame q => Sys2Proof.Machine.execMaxFrame q s
  | .frameHeadArrival p f x => Sys2Proof.Machine.execFrameHeadArrival p f x s
  | .rxFrame p e => Sys2Proof.Machine.execRxFrame p e s
  | .pauseExpiry p => Sys2Proof.Machine.execPauseExpiry p s
  | .backpressureRepeat p => Sys2Proof.Machine.execBackpressureRepeat p s
  | .txFrameStart p block place => Sys2Proof.Machine.execTxFrameStart p block place s
  | .ctUnderrun p => Sys2Proof.Machine.execCtUnderrun p s
  | .ctRungDown p => Sys2Proof.Machine.execCtRungDown p s
  | .ctLadderReset q p => Sys2Proof.Machine.execCtLadderReset q p s
  | .linkDown p => Sys2Proof.Machine.execLinkDown p s
  | .linkUp x => Sys2Proof.Machine.execLinkUp x s
  | .portClose p => Sys2Proof.Machine.execPortClose p s
  | .switchCellSlot rx tx => Sys2Proof.Machine.execSwitchCellSlot rx tx s
  | .replicateFrame p => Sys2Proof.Machine.execReplicateFrame p s
  | .fdbAgeExpiry mac vid => Sys2Proof.Machine.execFdbAgeExpiry mac vid s
  | .fdbWrite q => Sys2Proof.Machine.execFdbWrite q s
  | .fdbFlush q => Sys2Proof.Machine.execFdbFlush q s
  | .vlanWrite q => Sys2Proof.Machine.execVlanWrite q s
  | .tableWriteReturn vlan => Sys2Proof.Machine.execTableWriteReturn vlan s
  | .tableGenTimeout vlan => Sys2Proof.Machine.execTableGenTimeout vlan s
  | .bufEccError e => Sys2Proof.Machine.execBufEccError e s
  | .cryptoOpComplete tag => Sys2Proof.Machine.execCryptoOpComplete tag s
  | .slotWaitTimeout p => Sys2Proof.Machine.execSlotWaitTimeout p s
  | .sillReadyDeadline p n => Sys2Proof.Machine.execSillReadyDeadline p n s
  | .sillPreambleStart p n => Sys2Proof.Machine.execSillPreambleStart p n s
  | .sillLaunch p n x => Sys2Proof.Machine.execSillLaunch p n x s
  | .leadAdaptWindow p => Sys2Proof.Machine.execLeadAdaptWindow p s
  | .leadLimits q p f => Sys2Proof.Machine.execLeadLimits q p f s
  | .ptpSyncRx p => Sys2Proof.Machine.execPtpSyncRx p s
  | .ptpFollowUpRx p => Sys2Proof.Machine.execPtpFollowUpRx p s
  | .ptpDelayReqRx p => Sys2Proof.Machine.execPtpDelayReqRx p s
  | .ptpDelayRespRx p => Sys2Proof.Machine.execPtpDelayRespRx p s
  | .ptpPdelayReqRx p => Sys2Proof.Machine.execPtpPdelayReqRx p s
  | .ptpPdelayRespRx p => Sys2Proof.Machine.execPtpPdelayRespRx p s
  | .ptpAnnounceRx p => Sys2Proof.Machine.execPtpAnnounceRx p s
  | .requestUnicastTransmission p => Sys2Proof.Machine.execRequestUnicastTransmission p s
  | .cancelUnicastTransmission p => Sys2Proof.Machine.execCancelUnicastTransmission p s
  | .grantUnicastTransmission p => Sys2Proof.Machine.execGrantUnicastTransmission p s
  | .syncDue k p j => Sys2Proof.Machine.execSyncDue k p j s
  | .announceDue k p j => Sys2Proof.Machine.execAnnounceDue k p j s
  | .bmcaDecision k => Sys2Proof.Machine.execBmcaDecision k s
  | .announceReceiptTimeout k p => Sys2Proof.Machine.execAnnounceReceiptTimeout k p s
  | .grantExpiry j => Sys2Proof.Machine.execGrantExpiry j s
  | .sessionCancel q => Sys2Proof.Machine.execSessionCancel q s
  | .ucReqStale p => Sys2Proof.Machine.execUcReqStale p s
  | .ucRenewDue k => Sys2Proof.Machine.execUcRenewDue k s
  | .saKeyRoll a => Sys2Proof.Machine.execSaKeyRoll a s
  | .saOverlapExpiry a => Sys2Proof.Machine.execSaOverlapExpiry a s
  | .shedFactorUpdate => Sys2Proof.Machine.execShedFactorUpdate s
  | .instEnable q k f => Sys2Proof.Machine.execInstEnable q k f s
  | .ntpRequestRx p => Sys2Proof.Machine.execNtpRequestRx p s
  | .ntpRequestParse p => Sys2Proof.Machine.execNtpRequestParse p s
  | .ntsEpochRotation => Sys2Proof.Machine.execNtsEpochRotation s
  | .ntsRevoke q => Sys2Proof.Machine.execNtsRevoke q s
  | .ntsCookieSeal q keys => Sys2Proof.Machine.execNtsCookieSeal q keys s
  | .ntpShutOrder p => Sys2Proof.Machine.execNtpShutOrder p s
  | .pufRegenerate attempts ok ber bad => Sys2Proof.Machine.execPufRegenerate attempts ok ber bad s
  | .keyImport q unwrapOk material => Sys2Proof.Machine.execKeyImport q unwrapOk material s
  | .keyGenerate q => Sys2Proof.Machine.execKeyGenerate q s
  | .keyZeroize x => Sys2Proof.Machine.execKeyZeroize x s
  | .keySlotCheck bad => Sys2Proof.Machine.execKeySlotCheck bad s
  | .drbgReseed failed => Sys2Proof.Machine.execDrbgReseed failed s
  | .drbgRestartDone => Sys2Proof.Machine.execDrbgRestartDone s
  | .lcTransition q => Sys2Proof.Machine.execLcTransition q s
  | .jtagFirstTck => Sys2Proof.Machine.execJtagFirstTck s
  | .pairBond q => Sys2Proof.Machine.execPairBond q s
  | .pairBondTimeout => Sys2Proof.Machine.execPairBondTimeout s
  | .pairLineageApply => Sys2Proof.Machine.execPairLineageApply s
  | .pairUnbond q => Sys2Proof.Machine.execPairUnbond q s
  | .tamperAlarm src keep => Sys2Proof.Machine.execTamperAlarm src keep s
  | .tamperAck q => Sys2Proof.Machine.execTamperAck q s
  | .keepVoltArm => Sys2Proof.Machine.execKeepVoltArm s
  | .writeFrame frame agree => Sys2Proof.Machine.execWriteFrame frame agree s
  | .readFrame whole => Sys2Proof.Machine.execReadFrame whole s
  | .readStatus => Sys2Proof.Machine.execReadStatus s
  | .openReq h keyId nonce => Sys2Proof.Machine.execOpenReq h keyId nonce s
  | .close h sess => Sys2Proof.Machine.execClose h sess s
  | .read q index sub => Sys2Proof.Machine.execRead q index sub s
  | .write q index sub => Sys2Proof.Machine.execWrite q index sub s
  | .groupOpen q => Sys2Proof.Machine.execGroupOpen q s
  | .groupAdd q index sub => Sys2Proof.Machine.execGroupAdd q index sub s
  | .groupCommit q => Sys2Proof.Machine.execGroupCommit q s
  | .groupAbort q => Sys2Proof.Machine.execGroupAbort q s
  | .latchClaim q => Sys2Proof.Machine.execLatchClaim q s
  | .latchRenew q => Sys2Proof.Machine.execLatchRenew q s
  | .latchHand q => Sys2Proof.Machine.execLatchHand q s
  | .latchRelease q => Sys2Proof.Machine.execLatchRelease q s
  | .enrolReq h point nonce shared => Sys2Proof.Machine.execEnrolReq h point nonce shared s
  | .enrolKey h value unwrapOk material => Sys2Proof.Machine.execEnrolKey h value unwrapOk material s
  | .enrolTimeout => Sys2Proof.Machine.execEnrolTimeout s
  | .sessionPendingTimeout sess => Sys2Proof.Machine.execSessionPendingTimeout sess s
  | .sessionIdleTimeout sess => Sys2Proof.Machine.execSessionIdleTimeout sess s
  | .latchElectionEnd => Sys2Proof.Machine.execLatchElectionEnd s
  | .latchLeaseExpiry => Sys2Proof.Machine.execLatchLeaseExpiry s
  | .groupStage id => Sys2Proof.Machine.execGroupStage id s
  | .groupApply => Sys2Proof.Machine.execGroupApply s
  | .journalEpochClose => Sys2Proof.Machine.execJournalEpochClose s
  | .journalTailCopy => Sys2Proof.Machine.execJournalTailCopy s
  | .journalEntriesRead q => Sys2Proof.Machine.execJournalEntriesRead q s
  | .journalKeyRead q => Sys2Proof.Machine.execJournalKeyRead q s
  | .statSnapshot => Sys2Proof.Machine.execStatSnapshot s
  | .configStore => Sys2Proof.Machine.execConfigStore s
  | .dramTraining ok retryOk => Sys2Proof.Machine.execDramTraining ok retryOk s
  | .dramFillDone => Sys2Proof.Machine.execDramFillDone s
  | .remapBitSet => Sys2Proof.Machine.execRemapBitSet s
  | .decodeFault a => Sys2Proof.Machine.execDecodeFault a s
  | .dmaDescriptor d fw bursts => Sys2Proof.Machine.execDmaDescriptor d fw bursts s
  | .eccCorrectable a retries => Sys2Proof.Machine.execEccCorrectable a retries s
  | .eccUncorrectable a parity => Sys2Proof.Machine.execEccUncorrectable a parity s
  | .ceBucketLeak r => Sys2Proof.Machine.execCeBucketLeak r s
  | .scrubRead m => Sys2Proof.Machine.execScrubRead m s
  | .scrubForced ch => Sys2Proof.Machine.execScrubForced ch s
  | .remapCopyDone entry => Sys2Proof.Machine.execRemapCopyDone entry s
  | .remapClear q => Sys2Proof.Machine.execRemapClear q s
  | .schedFrame work => Sys2Proof.Machine.execSchedFrame work s
  | .coreWatchdog n held => Sys2Proof.Machine.execCoreWatchdog n held s
  | .timeCoreWatchdog => Sys2Proof.Machine.execTimeCoreWatchdog s
  | .coreRestartDone n => Sys2Proof.Machine.execCoreRestartDone n s
  | .pmcSel q n j => Sys2Proof.Machine.execPmcSel q n j s
  | .pmcSnapshot q n => Sys2Proof.Machine.execPmcSnapshot q n s
  | .instrSample x written => Sys2Proof.Machine.execInstrSample x written s
  | .samplePageRead q page => Sys2Proof.Machine.execSamplePageRead q page s
  | .faultRaise src base detail a => Sys2Proof.Machine.execFaultRaise src base detail a s
  | .faultLevelDecay src => Sys2Proof.Machine.execFaultLevelDecay src s
  | .faultWindowExpiry src => Sys2Proof.Machine.execFaultWindowExpiry src s
  | .unitRestartTimeout unit => Sys2Proof.Machine.execUnitRestartTimeout unit s
  | .collectorMismatch => Sys2Proof.Machine.execCollectorMismatch s
  | .faultClear q => Sys2Proof.Machine.execFaultClear q s
  | .faultOverrides q => Sys2Proof.Machine.execFaultOverrides q s
  | .pairEnable q => Sys2Proof.Machine.execPairEnable q s
  | .hingeFrameRx tagged tagOk b => Sys2Proof.Machine.execHingeFrameRx tagged tagOk b s
  | .hingeHeartbeatTx => Sys2Proof.Machine.execHingeHeartbeatTx s
  | .hingeDownTimeout => Sys2Proof.Machine.execHingeDownTimeout s
  | .hingeUp => Sys2Proof.Machine.execHingeUp s
  | .hingeTimeExchange t1 t2 t3 t4 bound => Sys2Proof.Machine.execHingeTimeExchange t1 t2 t3 t4 bound s
  | .hingeMeasurement => Sys2Proof.Machine.execHingeMeasurement s
  | .mirrorResyncDone => Sys2Proof.Machine.execMirrorResyncDone s
  | .prbsSelftest p errors => Sys2Proof.Machine.execPrbsSelftest p errors s
  | .cryptoKat ok => Sys2Proof.Machine.execCryptoKat ok s
  | .activeInChange level => Sys2Proof.Machine.execActiveInChange level s
  | .startRoleDwell => Sys2Proof.Machine.execStartRoleDwell s
  | .pairWtrExpiry => Sys2Proof.Machine.execPairWtrExpiry s
  | .pairHandover q => Sys2Proof.Machine.execPairHandover q s
  | .handoverInstant => Sys2Proof.Machine.execHandoverInstant s
  | .handoverArbTimeout => Sys2Proof.Machine.execHandoverArbTimeout s
  | .homeConflict => Sys2Proof.Machine.execHomeConflict s
  | .vinValid vin keep => Sys2Proof.Machine.execVinValid vin keep s
  | .imageVerify okA okB => Sys2Proof.Machine.execImageVerify okA okB s
  | .configLoad => Sys2Proof.Machine.execConfigLoad s
  | .timeResume keep => Sys2Proof.Machine.execTimeResume keep s
  | .serviceOpen => Sys2Proof.Machine.execServiceOpen s
  | .shutterClose vin power => Sys2Proof.Machine.execShutterClose vin power s
  | .shutterReopen vin power => Sys2Proof.Machine.execShutterReopen vin power s
  | .overvoltageStop vin => Sys2Proof.Machine.execOvervoltageStop vin s
  | .overvoltageRestart vin keep => Sys2Proof.Machine.execOvervoltageRestart vin keep s
  | .railFault rail mv => Sys2Proof.Machine.execRailFault rail mv s
  | .resetAssert ns taken => Sys2Proof.Machine.execResetAssert ns taken s
  | .resetRelease keep => Sys2Proof.Machine.execResetRelease keep s
  | .powerStageStop vin => Sys2Proof.Machine.execPowerStageStop vin s
  | .keepPorts q => Sys2Proof.Machine.execKeepPorts q s
  | .startAdmit => Sys2Proof.Machine.execStartAdmit s
  | .startAdmitTimeout => Sys2Proof.Machine.execStartAdmitTimeout s
  | .sdCardDetect => Sys2Proof.Machine.execSdCardDetect s
  | .sdReadDone r => Sys2Proof.Machine.execSdReadDone r s
  | .updStageTransom q => Sys2Proof.Machine.execUpdStageTransom q s
  | .stageVerifyDone slot sigOk cosigOk => Sys2Proof.Machine.execStageVerifyDone slot sigOk cosigOk s
  | .updInstall q => Sys2Proof.Machine.execUpdInstall q s
  | .installDone ok => Sys2Proof.Machine.execInstallDone ok s
  | .updActivate q => Sys2Proof.Machine.execUpdActivate q s
  | .updActivation => Sys2Proof.Machine.execUpdActivation s
  | .updCancel q => Sys2Proof.Machine.execUpdCancel q s
  | .updRollback q bankOk => Sys2Proof.Machine.execUpdRollback q bankOk s
  | .updDiscard q => Sys2Proof.Machine.execUpdDiscard q s
  | .updTrialExpiry => Sys2Proof.Machine.execUpdTrialExpiry s
  | .unitRestartDone unit => Sys2Proof.Machine.execUnitRestartDone unit s
  | .delayReqDue k p => Sys2Proof.Machine.execDelayReqDue k p s
  | .tamperAlarmEnd src => Sys2Proof.Machine.execTamperAlarmEnd src s
  | .peerHealthInChange level => Sys2Proof.Machine.execPeerHealthInChange level s
  | .jtagTestInstruction selected => Sys2Proof.Machine.execJtagTestInstruction selected s
  | .vkeepLoss => Sys2Proof.Machine.execVkeepLoss s
  | .hingeKeysTx => Sys2Proof.Machine.execHingeKeysTx s

end Sys2Proof.Machine
end

