-- ==== Sys2Proof/Safety.lean ====
section
/-! DEFINITION. Safety.lean: what counts as a good state and as a run without a stop, in the terms the statements use. -/
namespace Sys2Proof.Machine

/-- No entry of the object store equals its default, and the keys rise strictly (R402). -/
def storeCanonical (v : Variant) : List (Nat × Int) → Bool
  | [] => true
  | p :: r => decide (p.2 ≠ dfltNum v p.1) && r.all (fun q => decide (p.1 < q.1)) && storeCanonical v r

/-- What every step leaves: a canonical store, the lands driven as the state says (R368, R481, R494, R495), and the summary objects
that count and rank what the state holds (R384, R412, R456, R466). -/
structure Derived (s : State) : Prop where
  store : storeCanonical s.variant s.nums = true
  pins : s.pins = pinsOf s
  roleHold : getN s Obj.FAULT_ROLE_HOLD = if roleHold s then 1 else 0
  stickyCount : getN s Obj.FAULT_STICKY_COUNT =
    (s.faults.filterMap (fun f => if f.sticky then f.classSticky else none) ++ s.keep.stickyOnly.map (·.2)).length
  sessionsOpen : getN s Obj.SESSIONS_OPEN = s.sessions.countP (fun x => x.state = 2)
  groupsHeld : getN s Obj.GROUPS_HELD = s.groups.length
  badKeys : getN s Obj.KEY_BAD_COUNT = s.keys.slots.countP (fun k => k.bad)
  startQueue : getN s Obj.INRUSH_QUEUE = s.power.queue.length

/-- A step or a command goes on. -/
def goesOn (o : Host.Outcome State Fault Refusal) : Prop := ∃ t, o = .next t

/-- The block has nothing of its own to do: no frame under way or waiting for a Sill slot, no restart begun, no filter result waiting,
no read held back, no session whose SEQ is spent, no mirror to feed, and the two counters of the TIME island agree. -/
def idleQuiet (s : State) : Bool :=
  s.pending.isEmpty && up s && s.restartsDue.isEmpty && s.ts.nextIncr.isNone && decide (s.ts.shadow = s.ts.mts) && s.ts.incrWrites.isEmpty &&
    s.ports.all (fun x => x.tx.isNone && x.sillWait.isEmpty) && s.sessions.all (fun x => x.held.isEmpty && !seqSpent x) &&
    decide (getN s Obj.PAIR_ROLE ≠ 2)

/-- The state in which an accepted request acts: its frame accepted (R369, R370), its session OPEN (R374), counted (R409). -/
def acceptedRequest (q : Req) (s : State) : Option State :=
  (acceptFrame q.hdr q.sess s).1.map (fun s1 => agentCount (acceptRequest q.sess s1))

/-- The object of a WRITE that every test of R369, R370 and R408 accepts: its value, and the state in which the write is applied. -/
def acceptedWrite (q : Req) (k : Nat) (r : Rule) (s0 : State) : Option (Val × State) :=
  match (acceptFrame q.hdr q.sess s0).1 with
  | none => none
  | some s1 =>
    let s := agentCount (acceptRequest q.sess s1)
    let o := objKind (k / 256) (k % 256)
    let b := q.value.take q.valueLen
    let d := decodeVal k o b
    if tests1to9 q .write (k / 256) (k % 256) s = stOk ∧ o.typ ≠ .dom ∧ d.1 = stOk ∧ (o.acc = .wo ∨ b ≠ heldBytes s k) ∧
      (r.chk s d.2).1 = stOk
    then some (d.2, s) else none

/-- The argument of a COMMAND that every test accepts, and the state in which it acts. -/
def acceptedCommand (q : Req) (k : Nat) (r : Rule) (s0 : State) : Option (Val × State) :=
  match (acceptFrame q.hdr q.sess s0).1 with
  | none => none
  | some s1 =>
    let s := agentCount (acceptRequest q.sess s1)
    let o := objKind (k / 256) (k % 256)
    let d := decodeVal k o (q.value.take q.valueLen)
    if tests1to9 q .command (k / 256) (k % 256) s = stOk ∧ o.typ ≠ .dom ∧ d.1 = stOk ∧ (r.chk s d.2).1 = stOk
    then some (d.2, s) else none

/-- A DOMAIN value that comes in one segment (R378) and that every test accepts, and the state in which it acts. -/
def acceptedDomain (q : Req) (op : ReqOp) (k : Nat) (r : Rule) (s0 : State) : Option (Val × State) :=
  match (acceptFrame q.hdr q.sess s0).1 with
  | none => none
  | some s1 =>
    let s := agentCount (acceptRequest q.sess s1)
    let o := objKind (k / 256) (k % 256)
    let b := q.value.take q.valueLen
    let s2 := setSession q.sess { session s q.sess with seg := .empty } s
    let d := decodeVal k o b
    if tests1to9 q op (k / 256) (k % 256) s = stOk ∧ o.typ = .dom ∧ q.offset = 0 ∧ q.last = true ∧ b.length ≤ 65536 ∧
      (op = .write → o.acc ≠ .wo → b ≠ heldBytes s k) ∧ (r.chk s2 d.2).1 = stOk
    then some (d.2, s2) else none

/-- The session holds the request as one in flight until its response (R375). -/
def inFlight (q : Req) (s : State) : State :=
  setSession q.sess { session s q.sess with inFlight := q.tag :: (session s q.sess).inFlight } s

/-- The newest response that left the module answers request q with a status. -/
def answered (q : Req) (op status k : Nat) (t : State) : Bool :=
  t.out.any (fun o => match o with
    | .response n p st tag i j _ _ _ _ => decide (n = q.sess ∧ p = op ∧ st = status ∧ tag = q.tag ∧ i = k / 256 ∧ j = k % 256)
    | _ => false)

/-- The objects that `settle` derives. -/
def derivedKeys : List Nat :=
  [Obj.FAULT_WORST_STICKY, Obj.FAULT_WORST_LIVE, Obj.FAULT_STICKY_COUNT, Obj.FAULT_ROLE_HOLD, Obj.SESSIONS_OPEN, Obj.GROUPS_HELD,
    Obj.KEY_BAD_COUNT, Obj.INRUSH_QUEUE]

/-! ### Frames -/

/-- The parts of the state beside the object store, the journal and the lands. -/
inductive Part where
  | blobs | variant | inForce | mode | now | freeCtr | out | faults | restarts | restartsDue | keep | sessions
  | latch | groups | nextGroup | commits | ts | bound | replicas | meas | keys | tamper | nor | power | host | enrol
  | sensors | claims | tdcs | sel | atom | esmc | pulseWait | synth | gnss | ports | sw | crypto | ptpIn | ntpIn
  | ptp | ntp | mem | cores | stats | hinge | update | pending
  deriving DecidableEq, Repr

/-- A part is as before. -/
def samePart (s t : State) : Part → Prop
  | .blobs => t.blobs = s.blobs
  | .variant => t.variant = s.variant
  | .inForce => t.inForce = s.inForce
  | .mode => t.mode = s.mode
  | .now => t.now = s.now
  | .freeCtr => t.freeCtr = s.freeCtr
  | .out => t.out = s.out
  | .faults => t.faults = s.faults
  | .restarts => t.restarts = s.restarts
  | .restartsDue => t.restartsDue = s.restartsDue
  | .keep => t.keep = s.keep
  | .sessions => t.sessions = s.sessions
  | .latch => t.latch = s.latch
  | .groups => t.groups = s.groups
  | .nextGroup => t.nextGroup = s.nextGroup
  | .commits => t.commits = s.commits
  | .ts => t.ts = s.ts
  | .bound => t.bound = s.bound
  | .replicas => t.replicas = s.replicas
  | .meas => t.meas = s.meas
  | .keys => t.keys = s.keys
  | .tamper => t.tamper = s.tamper
  | .nor => t.nor = s.nor
  | .power => t.power = s.power
  | .host => t.host = s.host
  | .enrol => t.enrol = s.enrol
  | .sensors => t.sensors = s.sensors
  | .claims => t.claims = s.claims
  | .tdcs => t.tdcs = s.tdcs
  | .sel => t.sel = s.sel
  | .atom => t.atom = s.atom
  | .esmc => t.esmc = s.esmc
  | .pulseWait => t.pulseWait = s.pulseWait
  | .synth => t.synth = s.synth
  | .gnss => t.gnss = s.gnss
  | .ports => t.ports = s.ports
  | .sw => t.sw = s.sw
  | .crypto => t.crypto = s.crypto
  | .ptpIn => t.ptpIn = s.ptpIn
  | .ntpIn => t.ntpIn = s.ntpIn
  | .ptp => t.ptp = s.ptp
  | .ntp => t.ntp = s.ntp
  | .mem => t.mem = s.mem
  | .cores => t.cores = s.cores
  | .stats => (t.stats, t.statsDone) = (s.stats, s.statsDone)
  | .hinge => t.hinge = s.hinge
  | .update => t.update = s.update
  | .pending => t.pending = s.pending

/-- Every part but those named, and every number object but those named and those that `settle` derives, is as before. -/
def frame (ps : List Part) (ks : List Nat) (s t : State) : Prop :=
  (∀ p, p ∉ ps → samePart s t p) ∧ ∀ k, k ∉ ks → k ∉ derivedKeys → getN t k = getN s k

/-- The outcome is a next state, and it satisfies P. -/
def nextWith (o : Host.Outcome State Fault Refusal) (P : State → Prop) : Prop := ∃ t, o = .next t ∧ P t

/-- The command answers exactly the state u, settled. -/
def acts (c : Instr) (s u : State) : Prop := exec c s = .next (settle u)

/-! ### Requests that are accepted -/

/-- What carrying a request touches: the session and its window, the host link's queues, the Latch's lease, what left the module. -/
def reqParts : List Part := [.sessions, .host, .latch, .out]
def reqKeys : List Nat := [Obj.AGENT_REQUESTS, Obj.NOTIFY_DROP]

/-- A WRITE of the number object k that every test accepts completes: the object holds the value, and beside what carries the request
only the parts ps and the objects ks may change. -/
def writes (c : Req → Instr) (k : Nat) (r : Rule) (ps : List Part) (ks : List Nat) (s : State) : Prop :=
  ∀ q x s2, acceptedWrite q k r s = some (.num x, s2) →
    nextWith (exec (c q) s) (fun t => getN t k = x ∧ frame (.nor :: reqParts ++ ps) (k :: reqKeys ++ ks) s t)

/-- A COMMAND that every test accepts completes with P of its argument, the state before and the state after; beside what carries the
request only the parts ps and the objects ks may change. -/
def commands (c : Req → Instr) (k : Nat) (r : Rule) (ps : List Part) (ks : List Nat) (P : Val → State → Prop) (s : State) : Prop :=
  ∀ q v s2, acceptedCommand q k r s = some (v, s2) →
    nextWith (exec (c q) s) (fun t => P v t ∧ frame (reqParts ++ ps) (reqKeys ++ ks) s t)

/-- A WRITE that every test accepts answers exactly the state that the rules give: the value stored (R405), the effect of the object's
rule, one entry (R391) and the response. -/
def writesBy (c : Req → Instr) (k : Nat) (r : Rule) (s : State) : Prop :=
  ∀ q v s2, acceptedWrite q k r s = some (v, s2) →
    exec (c q) s = .next (settle (answer q .write k r.status (heldBytes s2 k) (q.value.take q.valueLen) []
      (r.eff v (storeVal k v s2))))

/-- The same for a DOMAIN object in one segment. -/
def writesDomain (c : Req → Instr) (k : Nat) (r : Rule) (s : State) : Prop :=
  ∀ q v s2, acceptedDomain q .write k r s = some (v, s2) →
    exec (c q) s = .next (settle (answer q .write k r.status (heldBytes s2 k) (q.value.take q.valueLen) [] (r.eff v (storeVal k v s2))))

/-- A COMMAND that every test accepts answers exactly the state that the rules give: the effect of its rule, one entry and the response
with what the rule returns. -/
def commandsBy (c : Req → Instr) (k : Nat) (r : Rule) (s : State) : Prop :=
  ∀ q v s2, acceptedCommand q k r s = some (v, s2) →
    exec (c q) s = .next (settle (answer q .command k r.status [] (r.jnew (q.value.take q.valueLen)) (r.result s2 v) (r.eff v s2)))

end Sys2Proof.Machine
end

