-- ==== Sys2Proof/Certificates/Slice0/Obligations.lean ====
section
/-! DEFINITION. Certificates/Slice0/Obligations.lean: the statements about the block. -/
open Sys2Proof Sys2Proof.Machine

/-- A step takes the command at the front of the queue and runs it with the queue's rest. The model's own choices in it: log entry 1. -/
def Obligations.StepRunsFront : Prop :=
  ∀ (c : Instr) (s : State), step { s with pending := c :: s.pending } = exec c s

/-- No command stops the block: every command in every state answers a next state, and so does an empty queue. A module that does not run
hears nothing: an event of a unit leaves it as it is (R494). The model's own choices in it: log entries 1 and 10. Completion: `acts c s u`
says that exec completes and answers exactly the settled state u. -/
def Obligations.EveryCommandGoesOn : Prop :=
  ((∀ (c : Instr) (s : State), goesOn (exec c s)) ∧ ∀ s, goesOn (step s)) ∧
  (∀ s, up s = false → step { s with pending := [] } = .next (settle { s with pending := [] }) ∧
    (∀ q i j, acts (.write q i j) s s) ∧ (∀ q i j, acts (.read q i j) s s) ∧ (∀ p f raw, acts (.frameHeadArrival p f raw) s s) ∧
    (∀ c e, acts (.tdcEdge c e) s s) ∧ (∀ x, acts (.epochBoundary x) s s) ∧ acts .stepTick s s ∧ (∀ t o b, acts (.hingeFrameRx t o b) s s))

/-- What a step leaves, whatever the state before: the store of objects canonical (R402), the lands driven as the state says (R368, R481,
R494, R495), and the summary objects that count and rank what the state holds (R384, R412, R456, R466). The model's own choices in it: log
entries 2 and 11. -/
def Obligations.StepKeepsDerived : Prop :=
  ∀ s t, Derived s → step s = .next t → Derived t

/-- The state after reset meets that invariant; no command waits, no session is open (R374), no group is held (R384), no fault is recorded
(R456), memory lists nothing, the Latch is free and the time scale is UNKNOWN. The model's own choices in it: log entry 4. -/
def Obligations.ResetState : Prop :=
  Derived State.reset ∧ State.reset.pending = [] ∧ State.reset.sessions.all (fun x => decide (x.state = 0)) = true ∧
  State.reset.groups = [] ∧ State.reset.faults = [] ∧ State.reset.mem.cells = [] ∧ State.reset.latch.holder = 0 ∧
  getN State.reset Obj.LATCH_STATE = 0 ∧ getN State.reset Obj.TS_STATE = 0 ∧ State.reset.pins = pinsOf State.reset

/-- While nothing is commanded and the block has nothing of its own to do, n ticks of TCLK add n increments to the counter (R28) and
change no object, and the block stays idle. The model's own choices in it: log entries 1 and 2. -/
def Obligations.IdleRun : Prop :=
  ∀ n s, idleQuiet s = true → s.ts.mts < mts48Mod → ∃ t, Host.Core.run core n s = .next t ∧ idleQuiet t = true ∧
    t.now = s.now + n ∧ t.ts.mts = (s.ts.mts + n * s.ts.incr) % mts48Mod ∧ t.ts.run = s.ts.run + n * s.ts.incr ∧ t.ts.incr = s.ts.incr ∧
    t.out = s.out ∧ t.sessions = s.sessions ∧ t.mem = s.mem ∧ ∀ k, k ∉ derivedKeys → getN t k = getN s k

/-- Encodings (R9, R398, R400): a value of any fixed-length type within its range is read back from its bytes; the bytes have the type's
length; a TIME96 whose nanoseconds exceed 999,999,999 is invalid. Bounds (R67, R90): the halves of a BOUND80 are read back; a served pair
adds its budget to each half, and is unbounded on both sides where either half is. -/
def Obligations.Encodings : Prop :=
  ((∀ t v, t ≠ .str → t ≠ .oct → t ≠ .dom → t.lo ≤ v → v ≤ t.hi → decodeNum t (encodeNum t v) = some v ∧ (encodeNum t v).length = t.bytes) ∧
  (∀ t b v, t ≠ .str → t ≠ .oct → t ≠ .dom → b.length = t.bytes → decodeNum t b = some v → t.lo ≤ v ∧ v ≤ t.hi ∧ encodeNum t v = b) ∧
  (∀ b, 999999999 < ofBe ((b.drop 6).take 4) → decodeNum .time96 b = none) ∧
  (∀ b : List Byte, b.length = 1 → (decodeNum .bool b = none ↔ 1 < ofBe b))) ∧
  ((∀ m p, p < 2 ^ 40 → boundM (bound80 m p) = m ∧ boundP (bound80 m p) = p) ∧
  (∀ c bm bp, boundFinite c = false → servedPair c bm bp = unbounded80) ∧
  (∀ c bm bp, boundFinite c = true → boundM c + bm < halfUnb → boundP c + bp < halfUnb → servedPair c bm bp = bound80 (boundM c + bm) (boundP c + bp)) ∧
  (∀ c bm bp, boundFinite c = true → halfUnb ≤ boundM c + bm → boundM (servedPair c bm bp) = halfUnb) ∧
  boundFinite unbounded80 = false)

/-- Plain WRITES complete: the object holds the accepted value (R405), and nothing else changes but what the rule of the object names: the
claims of a channel, an output or a route (R106, R168, R174, R414), a generator's run (R175), a counter that restarts (R450). WRITES whose
objects' rules act complete (R404, R405, R408): the value is stored, the rule of the object acts, one entry is appended (R391), the
response goes out; a written increment is stored and answered after its tick (R43). Completion: `acts c s u` says that exec completes and
answers exactly the settled state u. -/
def Obligations.Writes : Prop :=
  (∀ s, up s = true →
    writes .loopMode Obj.LOOP_MODE {} [] [] s ∧
    writes .maxFrame Obj.MAX_FRAME {} [] [] s ∧
    writes .keepPorts Obj.KEEP_PORTS ruleKeepPorts [] [] s ∧
    (∀ n, writes (.ppsOffset n) (Obj.PPS_OFFSET n.val) {} [] [] s) ∧
    (∀ n, writes (.dpllMode n) (Obj.DPLL_MODE n.val) (ruleDpllMode n.val) [] [] s) ∧
    (∀ c, writes (.clkEnable c) (Obj.CLK_ENABLE c.val) (ruleClkEnable c.val) [.claims] [] s) ∧
    (∀ g, writes (.pgMode g) (Obj.PG_MODE g.val) (rulePgMode g.val) [.synth] [Obj.PG_STATE g.val] s) ∧
    (∀ g, writes (.pgRoute g) (Obj.PG_ROUTE g.val) (rulePgRoute g.val) [.claims] [] s) ∧
    (∀ r, writes (.refUse r) (Obj.REF_USE r.val) (ruleRefUse r.val) [] [] s) ∧
    (∀ c f, writes (.tdcSource c f) (Obj.TDC_SOURCE c.val + f.val) (ruleTdc c.val (f.val + 1)) [.claims] [] s) ∧
    (∀ p f, writes (fun q => .leadLimits q p f) (leadKey p.val f.val) (ruleLead p.val f.val) [] [] s) ∧
    (∀ n j, writes (fun q => .pmcSel q n j) (Obj.PMC_SEL n.val j.val) (rulePmcSel n.val j.val) [.cores] [] s)) ∧
  (∀ s, up s = true →
    (∀ q v s2, acceptedWrite q Obj.INCR_WRITE ruleIncrWrite s = some (v, s2) → acts (.incrWrite q) s (incrPut (some q) v (inFlight q s2))) ∧
    (∀ v q, getN (incrAnswer (v, some q) s) Obj.INCR_WRITE = v ∧ getN (incrAnswer (v, some q) s) Obj.INCR_APPLIED_AT = mts96 s) ∧
    (∀ r : Fin 30, writesBy (.refMode r) (Obj.REF_MODE r.val) (ruleRefMode r.val) s) ∧
    (∀ p : Fin 16, writesBy (fun q => .portMode q p) (Obj.PORT_MODE p.val) (rulePortMode p.val) s) ∧
    (∀ p : Fin 16, writesBy (fun q => .portFec q p) (Obj.PORT_FEC p.val) (rulePortFec p.val) s) ∧
    (∀ (k : Fin 4) (f : Fin 3), writesBy (fun q => .instEnable q k f) (instKey k.val f.val) (ruleInst k.val f.val) s) ∧
    writesBy .pairEnable Obj.PAIR_ENABLE rulePairEnable s ∧
    writesDomain .atomProfile Obj.ATOM_PROFILE ruleAtomProfile s ∧
    writesDomain .faultOverrides Obj.FAULT_OVERRIDES ruleFaultOverrides s)

/-- COMMANDS complete (R404, R408): the rule of the object acts, one entry is appended (R391), the response goes out with what the rule
returns. The model's own choices in it: log entries 86 and 109. Completion: `acts c s u` says that exec completes and answers exactly the
settled state u. -/
def Obligations.ActingCommands : Prop :=
  ∀ s, up s = true →
    (∀ q v s2, acceptedCommand q Obj.STEP_APPLY (ruleStepApply q.sess) s = some (v, s2) →
      acts (.stepApply q) s (answer q .command Obj.STEP_APPLY stOk [] (q.value.take q.valueLen) [] ((ruleStepApply q.sess).eff v s2))) ∧
    (∀ q v s2, acceptedCommand q Obj.SET_TIME (ruleSetTime q.sess) s = some (v, s2) →
      acts (.setTime q) s (answer q .command Obj.SET_TIME stOk [] (q.value.take q.valueLen) [] ((ruleSetTime q.sess).eff v s2))) ∧
    (∀ keep, commandsBy (fun q => .capture q keep) Obj.CAPTURE (ruleCapture keep) s) ∧
    (∀ c : Fin 12, commandsBy (.clkSync c) (Obj.CLK_SYNC c.val) (ruleClkSync c.val) s) ∧
    (∀ g : Fin 8, commandsBy (.pgArm g) (Obj.PG_ARM g.val) (rulePgArm g.val) s) ∧
    commandsBy .gnssSurveyStart Obj.GNSS_SURVEY_START ruleSurveyStart s ∧
    commandsBy .gnssSnapArm Obj.GNSS_SNAP_ARM ruleSnapArm s ∧
    (∀ p : Fin 16, commandsBy (fun q => .ctLadderReset q p) (Obj.CT_LADDER_RESET p.val) (ruleLadderReset p.val) s) ∧
    commandsBy .sessionCancel Obj.SESSION_CANCEL ruleSessionCancel s ∧
    commandsBy .ntsRevoke Obj.NTS_REVOKE ruleNtsRevoke s ∧
    commandsBy .keyGenerate Obj.KEY_GENERATE (ruleKeyGenerate (draw s).1) s ∧
    (∀ ok, commandsBy (fun q => .keyZeroize { req := q, tagOk := ok }) Obj.KEY_ZEROIZE (ruleKeyZeroize ok) s) ∧
    (∀ q v s2, acceptedCommand q Obj.LC_TRANSITION (ruleLcTransition q.sess) s = some (v, s2) →
      acts (.lcTransition q) s (answer q .command Obj.LC_TRANSITION stOk [] (q.value.take q.valueLen) [] ((ruleLcTransition q.sess).eff v s2))) ∧
    commandsBy .pairBond Obj.PAIR_BOND rulePairBond s ∧
    commandsBy .pairUnbond Obj.PAIR_UNBOND rulePairUnbond s ∧
    commandsBy .tamperAck Obj.TAMPER_ACK ruleTamperAck s ∧
    commandsBy .remapClear Obj.REMAP_CLEAR ruleRemapClear s ∧
    commandsBy .faultClear Obj.FAULT_CLEAR ruleFaultClear s ∧
    commandsBy .pairHandover Obj.PAIR_HANDOVER rulePairHandover s ∧
    commandsBy .updInstall Obj.UPD_INSTALL ruleInstall s ∧
    commandsBy .updActivate Obj.UPD_ACTIVATE ruleActivate s ∧
    commandsBy .updCancel Obj.UPD_CANCEL ruleCancel s ∧
    (∀ ok, commandsBy (fun q => .updRollback q ok) Obj.UPD_ROLLBACK (ruleRollback ok) s) ∧
    commandsBy .updDiscard Obj.UPD_DISCARD ruleDiscard s ∧
    (∀ q ok m v s2, acceptedDomain q .command Obj.KEY_IMPORT (ruleKeyImport ok m) s = some (v, s2) →
      acts (.keyImport q ok m) s (answer q .command Obj.KEY_IMPORT stOk [] (keyEntry false m (q.value.take q.valueLen)) [] (putSlot (argSlot v.bytes false m) s2))) ∧
    (∀ q keys v s2, acceptedDomain q .command Obj.NTS_COOKIE_SEAL (ruleCookieSeal keys) s = some (v, s2) →
      acts (.ntsCookieSeal q keys) s (respond q 3 (ruleCookieSeal keys).status (Obj.NTS_COOKIE_SEAL / 256) (Obj.NTS_COOKIE_SEAL % 256) 1
        ((ruleCookieSeal keys).result s2 v).length ((ruleCookieSeal keys).result s2 v) ((ruleCookieSeal keys).eff v s2)))

/-- Writes of the tables (R246, R247): accepted, they wait for the frames of the old generation and are answered later; one at a time
commits. An accepted write of the VLAN table commits its entries at one edge and the generation adds 1 (R246). The model's own choices in
it: log entry 39. Completion: `acts c s u` says that exec completes and answers exactly the settled state u. -/
def Obligations.TableWrites : Prop :=
  (∀ s, up s = true →
    (∀ q v s2, acceptedDomain q .write Obj.FDB_WRITE ruleFdbWrite s = some (v, s2) →
      acts (.fdbWrite q) s (acceptTable false { req := q, key := Obj.FDB_WRITE, value := q.value.take q.valueLen } (inFlight q s2))) ∧
    (∀ q v s2, acceptedDomain q .write Obj.VLAN_WRITE ruleVlanWrite s = some (v, s2) →
      acts (.vlanWrite q) s (acceptTable true { req := q, key := Obj.VLAN_WRITE, value := q.value.take q.valueLen } (inFlight q s2))) ∧
    (∀ q v s2, acceptedCommand q Obj.FDB_FLUSH ruleFdbFlush s = some (v, s2) →
      acts (.fdbFlush q) s (acceptTable false { req := q, key := Obj.FDB_FLUSH, value := be 2 v.nat } (inFlight q s2))) ∧
    (∀ vlan w, tableWrites s vlan ≠ [] → tableWrites (acceptTable vlan w s) vlan = tableWrites s vlan ++ [w])) ∧
  (∀ s w,
    (w.key = Obj.VLAN_WRITE → getN (commitTable w s).2 Obj.VLAN_GEN = (getN s Obj.VLAN_GEN + 1) % 4294967296 ∧
      (commitTable w s).2.sw.vlans = (entriesOf 12 256 w.value).foldl (fun a e => vlanApply e a) s.sw.vlans ∧
      getN (commitTable w s).2 Obj.FDB_GEN = getN s Obj.FDB_GEN) ∧
    (w.key = Obj.FDB_FLUSH → getN (commitTable w s).2 Obj.FDB_GEN = (getN s Obj.FDB_GEN + 1) % 4294967296 ∧
      (∀ e ∈ (commitTable w s).2.sw.fdb, e ∈ s.sw.fdb) ∧ (∀ e ∈ s.sw.fdb, e.static = true → e ∈ (commitTable w s).2.sw.fdb)))

/-- A WRITE that any test of R408 turns away changes no object but the agent's own counters (R404), whatever its object and its rule, and
answers the status of the first test that fails. -/
def Obligations.RefusedRequests : Prop :=
  (∀ q k r s s2, acceptFrame q.hdr q.sess s = (none, s2) → ownerWrite q k r s = s2 ∧ ownerCommand q k r s = s2) ∧
  ∀ q k r s s1, (acceptFrame q.hdr q.sess s).1 = some s1 →
    (tests1to9 q .write (k / 256) (k % 256) (agentCount (acceptRequest q.sess s1)) ≠ stOk →
      ∀ i, i ∉ [Obj.AGENT_REQUESTS, Obj.NOTIFY_DROP, Obj.REQ_BUSY] → getN (ownerWrite q k r s) i = getN s i) ∧
    (tests1to9 q .command (k / 256) (k % 256) (agentCount (acceptRequest q.sess s1)) ≠ stOk →
      ∀ i, i ∉ [Obj.AGENT_REQUESTS, Obj.NOTIFY_DROP, Obj.REQ_BUSY] → getN (ownerCommand q k r s) i = getN s i) ∧
    (∀ op i j t, (session t q.sess).inFlight.length < 64 → (session t q.sess).inFlight.contains q.tag = false → q.valueLen ≤ q.value.length →
      q.reservedOk = true → op ≠ .read → t.latch.holder ≠ q.sess → tests1to9 q op i j t = stNotOwner) ∧
    (∀ op i j t, tests1to9 q op i j t = stOk → defined i j = true ∧ absentObj t.variant i j = false ∧ admits (objKind i j).acc op = true ∧
      (op ≠ .read → t.latch.holder = q.sess))

/-- What single commands do: the capture latches one tick's values (R32); a step is announced (R49, R50); a key leaves its slot (R345); a
ladder is reset (R226); a revoke, a snapshot and a lifecycle transition wait for their moment (R201, R332, R351). The model's own choices
in it: log entries 86 and 109. -/
def Obligations.CommandEffects : Prop :=
  ∀ s v,
    (∀ keep, getN ((ruleCapture keep).eff v s) Obj.CAP_MTS = mts96 s ∧ getN ((ruleCapture keep).eff v s) Obj.CAP_INCR = s.ts.incr ∧
      getN ((ruleCapture keep).eff v s) Obj.CAP_TCLK_TICKS = s.now ∧
      getN ((ruleCapture keep).eff v s) Obj.CAP_KEEP_COUNT = ((s.keep.count + keep) % 2 ^ 48 : Nat) ∧
      getN ((ruleCapture keep).eff v s) Obj.CAP_UTC_OFFSET = getN s Obj.CURRENT_UTC_OFFSET ∧
      getN ((ruleCapture keep).eff v s) Obj.CAP_SEQ = (getN s Obj.CAP_SEQ + 1) % 4294967296) ∧
    (∀ n, getN ((ruleStepApply n).eff v s) Obj.STEP_STATUS = 1 ∧ ((ruleStepApply n).eff v s).ts.mts = s.ts.mts ∧
      (((ruleStepApply n).eff v s).ts.step.map (fun p => (p.offset, p.owner))) = some (getN s Obj.STEP_OFFSET, true)) ∧
    (∀ n, ((ruleSetTime n).eff v s).ts.step.map (fun p => p.offset) = some (v.int - (if getN s Obj.STEP_AT ≠ 0 then getN s Obj.STEP_AT
      else (t96Of (stepTick s) : Int)))) ∧
    (∀ ok, ∀ k ∈ ((ruleKeyZeroize ok).eff v s).keys.slots, k.id ≠ v.nat) ∧
    (∀ p, getN ((ruleLadderReset p).eff v s) (Obj.CT_RUNG p) = 0) ∧
    (ruleNtsRevoke.eff v s).ntp.revoke = true ∧
    (ruleSnapArm.eff v s).gnss.snap.armed = some (of96 (getNat s Obj.GNSS_SNAP_AT)) ∧
    (∀ n, ((ruleLcTransition n).eff v s).keys.lcPending = some (fieldU v.bytes 0 1, n)) ∧
    (∀ c, (clkDivider (clkOut s c).source).isSome = true → ((ruleClkSync c).eff v s).synth = (setClk c (fun x => { x with synced := true }) s).synth) ∧
    (∀ n, v = .num n → 0 ≤ n → n < 2 → getN (ruleDiscard.eff v s) (Obj.STAGE_STATE n.toNat) = 0)

/-- The tests of a WRITE, whatever its object and its rule: a PRV object outside PROVISIONED answers LIFECYCLE (R12); a TIME96 whose
nanoseconds exceed 999,999,999 is invalid and answers RANGE_ERROR (R9); a write that changes nothing answers OK, is journalled with OLD
equal to NEW and has no other effect, and an accepted COMMAND acts each time (R404). -/
def Obligations.WriteTests : Prop :=
  (∀ b, 999999999 < ofBe ((b.drop 6).take 4) → decodeNum .time96 b = none) ∧
  ∀ q k r s s1 u b, (acceptFrame q.hdr q.sess s).1 = some s1 → u = agentCount (acceptRequest q.sess s1) → b = q.value.take q.valueLen →
    ((session u q.sess).inFlight.length < 64 → (session u q.sess).inFlight.contains q.tag = false → q.valueLen ≤ q.value.length →
      q.reservedOk = true → u.latch.holder = q.sess → defined (k / 256) (k % 256) = true → absentObj u.variant (k / 256) (k % 256) = false →
      (objKind (k / 256) (k % 256)).acc = .prv → getN u Obj.LC_STATE ≠ 1 →
      ownerWrite q k r s = answer q .write k stLifecycle (heldBytes u k) b [] u) ∧
    (tests1to9 q .write (k / 256) (k % 256) u = stOk → (objKind (k / 256) (k % 256)).typ = .time96 → b.length = 12 →
      999999999 < ofBe ((b.drop 6).take 4) → ownerWrite q k r s = answer q .write k stRange (heldBytes u k) b [] u) ∧
    (tests1to9 q .write (k / 256) (k % 256) u = stOk → (objKind (k / 256) (k % 256)).typ ≠ .dom → (objKind (k / 256) (k % 256)).acc ≠ .wo →
      (decodeVal k (objKind (k / 256) (k % 256)) b).1 = stOk → b = heldBytes u k → ownerWrite q k r s = answer q .write k stOk b b [] u) ∧
    (∀ u2, tests1to9 q .write (k / 256) (k % 256) u = stOk → (objKind (k / 256) (k % 256)).typ = .dom → (objKind (k / 256) (k % 256)).acc ≠ .wo →
      domainSegment q k u = (stOk, some (heldBytes u k), u2) →
      ownerWrite q k r s = answer q .write k stOk (heldBytes u k) (heldBytes u k) [] u2) ∧
    (∀ v s2, acceptedCommand q k r s = some (v, s2) → r.defer = none → r.unlogged = false →
      ownerCommand q k r s = answer q .command k r.status [] (r.jnew b) (r.result s2 v) (r.eff v s2))

/-- The bucket of a memory region (R437): each correctable error adds 1; at `CE_THRESHOLD` a C1 fault of the region's source is raised,
CE_BUCKET_TRIPS adds 1 and the bucket returns to 0; above 0 it falls by 1 every `CE_LEAK_PERIOD`. Completion: `acts c s u` says that exec
completes and answers exactly the settled state u; `nextWith` says that exec completes and answers a next state of which the facts hold.
-/
def Obligations.CeBucket : Prop :=
  ∀ s, up s = true →
    (∀ a r, regionOf s a.address = some r → getNat s (Obj.CE_BUCKET r) + 1 < getNat s (Obj.CE_THRESHOLD r) →
      nextWith (exec (.eccCorrectable a 0) s) (fun t => getN t (Obj.CE_BUCKET r) = ((getNat s (Obj.CE_BUCKET r) + 1 : Nat) : Int) ∧
        getN t (Obj.CE_BUCKET_TRIPS r) = getN s (Obj.CE_BUCKET_TRIPS r) ∧ faultOf t (0x2000 + r) = faultOf s (0x2000 + r))) ∧
    (∀ a r, regionOf s a.address = some r → getNat s (Obj.CE_THRESHOLD r) ≤ getNat s (Obj.CE_BUCKET r) + 1 →
      nextWith (exec (.eccCorrectable a 0) s) (fun t => getN t (Obj.CE_BUCKET r) = 0 ∧
        getN t (Obj.CE_BUCKET_TRIPS r) = (getN s (Obj.CE_BUCKET_TRIPS r) + 1) % counterMod (Obj.CE_BUCKET_TRIPS r) ∧
        (faultOf t (0x2000 + r)).raises = ((faultOf s (0x2000 + r)).raises + 1) % 4294967296 ∧ (faultOf t (0x2000 + r)).lastBase = 1)) ∧
    (∀ r : Fin 10, getNat s (Obj.CE_BUCKET r) ≠ 0 → s.mem.leakFrom.getD r 0 + getNat s (Obj.CE_LEAK_PERIOD r) * sT ≤ s.now →
      nextWith (exec (.ceBucketLeak r) s) (fun t => getN t (Obj.CE_BUCKET r) = ((getNat s (Obj.CE_BUCKET r) - 1 : Nat) : Int) ∧
        t.mem = { s.mem with leakFrom := s.mem.leakFrom.set r s.now } ∧ frame [.mem] [Obj.CE_BUCKET r] s t)) ∧
    (∀ r : Fin 10, (getNat s (Obj.CE_BUCKET r) = 0 ∨ s.now < s.mem.leakFrom.getD r 0 + getNat s (Obj.CE_LEAK_PERIOD r) * sT) →
      acts (.ceBucketLeak r) s s)

/-- The lease of the Latch (R381, R382): it runs from the gain or the holder's last accepted REQUEST; the holder's renewal is OK, any
other's CONFLICT with the holder, or 0; when it runs out the Latch is free; a hand passes it at once to an OPEN, OWNER_CAPABLE session,
and is CONFLICT for any other; a release frees it. Completion: `acts c s u` says that exec completes and answers exactly the settled state
u. -/
def Obligations.LatchLease : Prop :=
  (∀ s n o, s.latch.holder ≠ n → (latchChange n o s).latch.holder = n ∧ (latchChange n o s).latch.leaseFrom = s.now) ∧
  (∀ s n, s.latch.holder = n → (acceptRequest n s).latch.leaseFrom = s.now) ∧
  (∀ s n, s.latch.holder ≠ n → (acceptRequest n s).latch = s.latch) ∧
  ∀ s, up s = true →
    (∀ q s1, acceptedRequest q s = some s1 → recordTests q s1 = stOk → s1.latch.holder = q.sess → acts (.latchRenew q) s (reply q 9 stOk [] s1)) ∧
    (∀ q s1, acceptedRequest q s = some s1 → recordTests q s1 = stOk → s1.latch.holder ≠ q.sess →
      acts (.latchRenew q) s (reply q 9 stConflict (be 2 s1.latch.holder) s1)) ∧
    (s.latch.holder ≠ 0 → s.latch.leaseFrom + 3000 * msT ≤ s.now → acts .latchLeaseExpiry s (latchChange 0 .module s)) ∧
    ((s.latch.holder = 0 ∨ s.now < s.latch.leaseFrom + 3000 * msT) → acts .latchLeaseExpiry s s) ∧
    (∀ q s1, acceptedRequest q s = some s1 → ownerTests q s1 = stOk → q.valueLen = 2 →
      (session s1 (ofBe (q.value.take 2))).state = 2 → ownerCapable s1 (session s1 (ofBe (q.value.take 2))).slot = true →
      1 ≤ ofBe (q.value.take 2) → ofBe (q.value.take 2) ≤ 16 →
      acts (.latchHand q) s (reply q 10 stOk [] (latchChange (ofBe (q.value.take 2)) (.session q.sess) (setLatch (fun l => { l with leaseFrom := s1.now }) s1)))) ∧
    (∀ q s1, acceptedRequest q s = some s1 → ownerTests q s1 = stOk → q.valueLen = 2 →
      (ofBe (q.value.take 2) = 0 ∨ 16 < ofBe (q.value.take 2) ∨ (session s1 (ofBe (q.value.take 2))).state ≠ 2 ∨
        ownerCapable s1 (session s1 (ofBe (q.value.take 2))).slot = false) →
      acts (.latchHand q) s (reply q 10 stConflict (be 2 s1.latch.holder) s1)) ∧
    (∀ q s1, acceptedRequest q s = some s1 → ownerTests q s1 = stOk → acts (.latchRelease q) s (reply q 11 stOk [] (latchChange 0 (.session q.sess) s1)))

/-- Restarts (R457): a raise of a C2 source whose unit restarts already is counted and begins no second restart; a restart that has run
for 1 s raises its source again at the base class that started it. Completion: `acts c s u` says that exec completes and answers exactly
the settled state u. -/
def Obligations.RestartRaises : Prop :=
  ∀ s, up s = true →
    (∀ code si d, srcInfo s.variant code = some si → si.present = true → si.stickyOnly = false → si.cap.getD 2 ≤ 3 → unitOf code ≠ 0 →
      restarting s (unitOf code) = true →
      (raiseWith unitRestart code 2 { detail := d } s).restarts = s.restarts ∧
      (faultOf (raiseWith unitRestart code 2 { detail := d } s) code).raises = ((faultOf s code).raises + 1) % 4294967296) ∧
    (∀ u r, s.restarts.find? (fun r => decide (r.unit = u) && !r.late) = some r → r.began + sT ≤ s.now →
      acts (.unitRestartTimeout u) s (report r.source r.base {}
        { s with restarts := s.restarts.map (fun x => if x.unit = u then { x with late := true } else x) })) ∧
    (∀ u r, s.restarts.find? (fun r => decide (r.unit = u) && !r.late) = some r → s.now < r.began + sT → acts (.unitRestartTimeout u) s s)

/-- PHASE_LOCKED (R475): set after 16 consecutive Hinge measurements within 100 ps; cleared after 16 consecutive ones beyond, and at Hinge
loss; each clearing adds 1 to LOCK_LOSS and raises source 0x3300 at C1. Completion: `acts c s u` says that exec completes and answers
exactly the settled state u. -/
def Obligations.PhaseLock : Prop :=
  (∀ s (x : Int), x.natAbs * 1000 ≤ 6553600 →
    (phaseLock x s).hinge = { s.hinge with
      within := s.hinge.within + 1, beyond := 0, locked := s.hinge.locked || decide (16 ≤ s.hinge.within + 1) }) ∧
  (∀ s (x : Int), 6553600 < x.natAbs * 1000 → s.hinge.beyond + 1 < 16 →
    (phaseLock x s).hinge = { s.hinge with within := 0, beyond := s.hinge.beyond + 1 }) ∧
  (∀ s (x : Int), 6553600 < x.natAbs * 1000 → 16 ≤ s.hinge.beyond + 1 → (phaseLock x s).hinge.locked = false) ∧
  (∀ s, up s = true → s.hinge.locked = true → (phaseUnlock s).hinge.locked = false ∧
    getN (phaseUnlock s) Obj.LOCK_LOSS = (getN s Obj.LOCK_LOSS + 1) % counterMod Obj.LOCK_LOSS ∧
    (faultOf (phaseUnlock s) 0x3300).raises = ((faultOf s 0x3300).raises + 1) % 4294967296 ∧ (faultOf (phaseUnlock s) 0x3300).lastBase = 1) ∧
  (∀ s (x : Int), 6553600 < x.natAbs * 1000 → 16 ≤ s.hinge.beyond + 1 →
    phaseLock x s = phaseUnlock (setHinge (fun h => { h with within := 0, beyond := h.beyond + 1 }) s)) ∧
  ∀ s, up s = true → hingeUp s = true → s.hinge.lastValid + 100 * usT ≤ s.now →
    acts .hingeDownTimeout s (decideRole false (phaseUnlock (report 0x3000 1 {} (bump Obj.HINGE_DOWN_EVENTS (setN Obj.HINGE_STATE 0
      (setHinge (fun h => { h with
        validFrom := none, settled := s.now, exch := [], within := 0, beyond := 0, sessionsSynced := false, copying := false, peerSeq := none })
        { s with ts := { s.ts with prevMeas := none } }))))))

/-- A strobe within 8 ps leaves a FRESH replica FRESH and brings it the epoch bound (R18, R21, R89); after 1.25 µs without one it is STALE
(R18); a due measurement of its strobe path is stored (R16). A measurement that waits for the bound unit. One taken across an absence is
recorded and not used; a finite one of the active time reference, in an unbounded bound (so not tested, R83) and with the loop open,
resets the bound (R77, R79) and shows its offset (R37). The model's own choices in it: log entries 9, 10 and 17. Completion: `nextWith`
says that exec completes and answers a next state of which the facts hold. -/
def Obligations.ReplicasAndMeasurements : Prop :=
  (∀ s (r : ReplicaId), up s = true → replicaPresent s.variant (repNum r) = true →
    (∀ corr, (16 ≤ repNum r → portUp s (repNum r - 16) = true) → replicaFresh s (repNum r) = true → corr.natAbs ≤ 8 →
      nextWith (exec (.syncStrobe r corr) s) (fun t =>
        getN t (Obj.REPLICA_LAST_CORR (repNum r)) = corr ∧
        (∀ x ∈ t.replicas, x.id = repNum r → x.lastStrobe = s.now ∧ x.bound = getNat s Obj.BOUND) ∧
        frame [.replicas] [Obj.REPLICA_LAST_CORR (repNum r)] s t)) ∧
    (replicaFresh s (repNum r) = true → (replica s (repNum r)).lastStrobe + 250 ≤ s.now →
      (∀ x ∈ s.ports, x.slots.all (fun q => !q.started) = true) →
      nextWith (exec (.replicaStrobeTimeout r) s) (fun t =>
        getN t (Obj.REPLICA_STATE (repNum r)) = 1 ∧
        getN t (Obj.REPLICA_STALE (repNum r)) = (getN s (Obj.REPLICA_STALE (repNum r)) + 1) % counterMod (Obj.REPLICA_STALE (repNum r)))) ∧
    (∀ delay, remeasureDue s (repNum r) = true → delay < 4294967296 →
      nextWith (exec (.strobeRemeasure r delay) s) (fun t =>
        getN t (Obj.STROBE_DELAY (repNum r)) = delay ∧ getN t (Obj.STROBE_DELAY_AT (repNum r)) = mts96 s ∧
        frame [.replicas] [Obj.STROBE_DELAY (repNum r), Obj.STROBE_DELAY_AT (repNum r)] s t))) ∧
  (∀ s (r : Fin 30) m, up s = true → s.meas.find? (fun m => m.ref = r.val) = some m →
    (m.stale = true →
      nextWith (exec (.measurementArrival r) s) (fun t =>
        getN t (Obj.LAST_OFFSET r.val) = m.x ∧ getN t (Obj.LAST_VERDICT r.val) = 0 ∧ getN t (Obj.LAST_MEAS_AT r.val) = t96Of m.atI ∧
        frame [.bound, .meas] [Obj.LAST_UNC r.val, Obj.LAST_OFFSET r.val, Obj.LAST_VERDICT r.val, Obj.LAST_MEAS_AT r.val] s t)) ∧
    (∀ a b, m.stale = false → m.uM = some a → m.uP = some b → (pairAt (updateBound s) m).mU = true →
      refState s r.val = 4 → useTime s r.val = true → activeTime s = r.val → getN s Obj.PAIR_ROLE ≠ 1 → loopClosed s = false →
      nextWith (exec (.measurementArrival r) s) (fun t =>
        getN t Obj.MEASURED_OFFSET = m.x ∧ getN t Obj.BOUND_ANCHOR_REF = r.val ∧ getN t Obj.BOUND_ANCHOR_AT = t96Of m.atI)))

/-- A completed filter's increment comes into force (R40); a leap second that is reached is applied (R60); the keep record is written at
the first keep tick after a whole second (R62); the keep oscillator is measured every 64 s (R63). The lock criterion holds at an epoch
boundary (R33, R34), the dwell of a better grade is over (R94), a day has passed without a violation (R87). The model's own choices in it:
log entries 10, 13, 85, 86 and 87. Completion: `nextWith` says that exec completes and answers a next state of which the facts hold. -/
def Obligations.TimeEvents : Prop :=
  (∀ s, up s = true →
    (∀ v, s.ts.nextIncr = some v →
      nextWith (exec .loopIncrApply s) (fun t => t.ts.incr = v ∧ t.ts.nextIncr = none ∧ t.ts.mts = s.ts.mts)) ∧
    ((getN s Obj.LEAP_PENDING = 1 ∨ getN s Obj.LEAP_PENDING = 2) → getNat s Obj.LEAP_INSTANT ≤ mts96 s →
      nextWith (exec .leapInstantReached s) (fun t =>
        getN t Obj.LEAP_PENDING = 0 ∧
        getN t Obj.CURRENT_UTC_OFFSET = getN s Obj.CURRENT_UTC_OFFSET + (if getN s Obj.LEAP_PENDING = 1 then 1 else -1) ∧
        frame [.ts] [Obj.LEAP_PENDING, Obj.CURRENT_UTC_OFFSET] s t)) ∧
    (∀ keep, keepRecordDue s = true →
      nextWith (exec (.keepRecordWrite keep) s) (fun t =>
        t.keep.count = (s.keep.count + keep) % 2 ^ 48 ∧ getN t Obj.KEEP_VALID = 1 ∧ wasDone (mtsSec s) t.keep.written = true ∧
        (∃ r, keepRecord t = some r ∧ r.mts = s.ts.mts ∧ r.bound = getNat s Obj.BOUND ∧
          r.utcOffset = getN s Obj.CURRENT_UTC_OFFSET) ∧
        frame [.keep] [Obj.KEEP_COUNT, Obj.KEEP_VALID] s t)) ∧
    (∀ keep, s.ts.keepLearnTick + 64 * sT ≤ s.now →
      nextWith (exec (.keepFreqLearn keep) s) (fun t =>
        t.ts.keepLearnTick = s.now ∧ t.ts.keepMark = (t.keep.count, s.ts.run) ∧
        frame [.keep, .ts, .freeCtr] [Obj.KEEP_COUNT, Obj.KEEP_FREQ_LEARNED] s t))) ∧
  (∀ s, up s = true →
    ((getN s Obj.TS_STATE = 1 ∨ getN s Obj.TS_STATE = 4) → (activeTime s ≠ 0xFF ∨ hingeRef s = true) → lockDue s = true → atBoundary s = true →
      tsChanged s = false → nextWith (exec .tsLocked s) (fun t => getN t Obj.TS_STATE = 2 ∧ getN t Obj.TS_STATE_SINCE = mts96 s ∧ t.ts.mts = s.ts.mts)) ∧
    (∀ g, betterGrade s = some g →
      nextWith (exec .boundGradeDwell s) (fun t => getN t Obj.BOUND_GRADE = g ∧ g < getNat s Obj.BOUND_GRADE ∧
        frame [] [Obj.BOUND_GRADE] s t)) ∧
    (∀ v, s.bound.violTick = some v → v + 86400 * sT ≤ s.now →
      nextWith (exec .refFreqUncViolExpiry s) (fun t => getN t Obj.REF_FREQ_UNC_VIOL = 0 ∧ frame [] [Obj.REF_FREQ_UNC_VIOL] s t)))

/-- The boundary and the step (R24, R48–R55, R68, R136): a boundary that is due completes, once per millisecond of MTS; the counter takes
a step at the tick whose value would reach the instant, and the objects of the step name it. The model's own choices in it: log entries
14, 15 and 16. Completion: `acts c s u` says that exec completes and answers exactly the settled state u; `nextWith` says that exec
completes and answers a next state of which the facts hold. -/
def Obligations.BoundaryAndStep : Prop :=
  ∀ s, up s = true →
    (∀ x, boundaryDue s = false → acts (.epochBoundary x) s s) ∧
    (∀ x, boundaryDue s = true →
      nextWith (exec (.epochBoundary x) s) (fun t => t.ts.lastEpoch = s.ts.mts / ms48)) ∧
    (stepDue (incrTake (loopApply s)) = none → acts .stepTick s s) ∧
    (∀ p, stepDue (incrTake (loopApply s)) = some p →
      nextWith (exec .stepTick s) (fun t => getN t Obj.STEP_STATUS = 2 ∧ getN t Obj.LAST_STEP_OFFSET = p.offset ∧
        getN t Obj.LAST_STEP_AT = (t96Of (addMts (incrTake (loopApply s)).ts.mts (incrTake (loopApply s)).ts.incr) : Nat)))

/-- A decimated edge of a channel that measures (R99, R106, R110, R111): one that comes less than 4 µs after the last accepted one is
missed; any other is accepted. A window closes at the boundary at which its time has passed (R114). A complete histogram is taken or
counted as discarded (R102), the cores swap roles while the measuring core does not convert (R103), and 120 s without a table make the
channel FAILED (R104). A sensor conversion (R121): the readings are kept for the boundary; a reading outside −70 °C to +150 °C, or more
than 4 K from the one before, marks its sensor failed. The model's own choices in it: log entries 10, 26 and 90. Completion: `acts c s u`
says that exec completes and answers exactly the settled state u; `nextWith` says that exec completes and answers a next state of which
the facts hold. -/
def Obligations.ChannelEvents : Prop :=
  (∀ s (c : Fin 16),
    (∀ k, tdcRuns s c = false → acts (.tdcEdge c k) s s) ∧
    (∀ k t, tdcRuns s c = true → (tdc s c).lastTick = some t → s.now < t + 800 →
      acts (.tdcEdge c k) s (bump (Obj.EDGE_MISSED c) (setTdc c (fun x => { x with missed := true })
        (setTdc c (fun x => { x with index := x.index + 1, seenTick := s.now }) s)))) ∧
    (∀ k, tdcRuns s c = true → (∀ t, (tdc s c).lastTick = some t → t + 800 ≤ s.now) →
      acts (.tdcEdge c k) s (acceptEdge c k (setTdc c (fun x => { x with index := x.index + 1, seenTick := s.now }) s))) ∧
    (up s = true → atBoundary s = true → ∀ w, (tdc s c).window = some w → w.firstMts + w.max0 * ms48 ≤ s.ts.mts →
      acts (.tdcWindowMax c) s (deliverWindow c w (publishWindow c w s))) ∧
    (up s = true → ∀ hits a b, c < nTdcs s.variant → hits.sum = 16777216 → (tdc s c).ready = none →
      (tableOk hits (rangeWith a (rangeWith b (tdc s c).calRange)) = true → acts (.tdcCalHistogramDone c hits a b) s (setTdc c (fun t =>
        { t with ready := some hits, acceptedTick := s.now, readyTemp := s.sensors.die }) s)) ∧
      (tableOk hits (rangeWith a (rangeWith b (tdc s c).calRange)) = false → acts (.tdcCalHistogramDone c hits a b) s
        (bump Obj.TDC_CAL_DISCARD (setTdc c (fun t => { t with calRange := none }) s)))) ∧
    (up s = true → converting s c = false → acts (.tdcCoreSwap c) s (setTdc c (fun t => match t.ready with
      | some h =>
        { t with table := some h, ready := none, tableTick := t.acceptedTick, tableTemp := t.readyTemp, calRange := none, converting := false }
      | none => t) s)) ∧
    (up s = true → converting s c = true → acts (.tdcCoreSwap c) s s) ∧
    (up s = true → atBoundary s = true → c < nTdcs s.variant → getN s (Obj.TDC_CAL_STATE c) ≠ 1 → getN s (Obj.TDC_CAL_STATE c) ≠ 3 →
      (tdc s c).acceptedTick + 120 * sT ≤ s.now →
      acts (.tdcCalFailed c) s (raise (tdcFault c) 2 { detail := 3 } (setN (Obj.WIN_UNC c) 4294967295
        (discardWindow c (setN (Obj.TDC_CAL_STATE c) 3 s)))))) ∧
  (∀ s xo die, up s = true → s.sensors.first = false → s.sensors.xoFailed = false → s.sensors.dieFailed = false →
    (-71680 ≤ xo ∧ xo ≤ 153600 ∧ (xo - s.sensors.lastXo).natAbs ≤ 4096) → (-71680 ≤ die ∧ die ≤ 153600 ∧ (die - s.sensors.lastDie).natAbs ≤ 4096) →
    nextWith (exec (.sensorConversion xo die) s) (fun t => t.sensors = { s.sensors with lastXo := xo, lastDie := die } ∧
      getN t Obj.SENSOR_STATUS = 0))

/-- The selector's events, at an epoch boundary (R133–R136, R139, R140, R143): a reference qualifies, is lost, waits to restore, returns
to QUALIFYING; a build-out ends at `BUILD_OUT_MAX`; a frequency switch ends when every rate has arrived. Disputes (R144, R145), at an
epoch boundary: a comparison that reaches `DISPUTE_PERSIST` begins a dispute; one whose conditions no longer hold ends; the votes of the
other references disqualify the outvoted one, and no majority is the C0 event, once in an hour of MTS. The model's own choices in it: log
entries 10, 27 and 92. Completion: `acts c s u` says that exec completes and answers exactly the settled state u. -/
def Obligations.SelectionEvents : Prop :=
  (∀ s (r : Fin 30), up s = true →
    (atBoundary s = true → refState s r = 2 → qualDue s r = true →
      acts (.refQualified r) s (setN (Obj.REF_WTR_LEFT r) (getF s (Obj.REF_WTR r)) (setRef r (fun x =>
        { x with wtrFrom := some s.now, wtrLoad := (getF s (Obj.REF_WTR r)).toNat })
        (s |> setJ (Obj.REF_STATE r) 3 |> setN (Obj.REF_STATE_SINCE r) (mts96 s))))) ∧
    (atBoundary s = true → (refState s r = 2 ∨ refGood s r = true) → lostDue s r = true →
      acts (.refLost r) s (disqualify r (disqCause s r) s)) ∧
    (∀ t, atBoundary s = true → (ref s r).wtrFrom = some t → (ref s r).wtrLoad ≤ (s.now - t) / sT →
      acts (.refWtrExpiry r) s (setRef r (fun x => { x with wtrFrom := none }) (setN (Obj.REF_WTR_LEFT r) 0 s))) ∧
    (atBoundary s = true → refState s r = 6 → requalDue s r = true → acts (.refDisqualHoldExpiry r) s (requalify r s)) ∧
    (atBoundary s = true → getN s Obj.SWITCH_STATE = 1 → s.sel.buildOutFrom + (getF s Obj.BUILD_OUT_MAX).toNat * sT ≤ s.now →
      acts .buildOutTimeout s (bump Obj.BUILD_OUT_TIMEOUT (setN Obj.SWITCH_STATE 0 s))) ∧
    (atBoundary s = true → s.sel.freqSwitch = true → freqSwitchOver s = true →
      acts .freqSwitchDone s (setSel (fun x => { x with freqSwitch := false }) s)) ∧
    (∀ x cause, getN (disqualify r cause x) (Obj.REF_STATE r) = 6 ∧ getN (disqualify r cause x) (Obj.REF_DISQ_CAUSE r) = cause) ∧
    (atBoundary s = false → acts (.refQualified r) s s ∧ acts (.refLost r) s s ∧ acts (.refWtrExpiry r) s s ∧
      acts (.refDisqualHoldExpiry r) s s ∧ acts .buildOutTimeout s s ∧ acts .freqSwitchDone s s)) ∧
  (∀ s (a b : Fin 30), up s = true → a.val < b.val → atBoundary s = true →
    ((disputeOf s a b).begun = false → comparable s a b = true → ((ref s a).newFreq || (ref s b).newFreq) = true →
      freqFresh s a = true → freqFresh s b = true → disagrees s a b = true →
      (getF s Obj.DISPUTE_PERSIST).toNat ≤ (disputeOf s a b).disagree + 1 →
      acts (.disputeBegin a b) s (beginDispute a b (putDispute { disputeOf s a b with disagree := (disputeOf s a b).disagree + 1, agree := 0 } s))) ∧
    ((disputeOf s a b).begun = true → comparable s a b = false → acts (.disputeEnd a b) s (endDispute a b s)) ∧
    ((disputeOf s a b).begun = true → outvotedIn s (disputeOf s a b) = none → acts (.disputeUnresolved a b) s
      (if (disputeOf (endLapsed s) a b).begun then unresolved (disputeOf s a b).a (disputeOf s a b).b (endLapsed s) else endLapsed s)) ∧
    (∀ r, (disputeOf s a b).begun = true → outvotedIn s (disputeOf s a b) = some r →
      acts (.disputeUnresolved a b) s (voteOn [disputeOf s a b] s)) ∧
    (∀ r d, outvotedIn s d = some r → voteOn [d] s =
      if (disputeOf (endLapsed (disqualify r 3 s)) d.a d.b).begun then unresolved d.a d.b (endLapsed (disqualify r 3 s))
      else endLapsed (disqualify r 3 s)) ∧
    (∀ t, (disputeOf s a b).eventSec = some t → mtsSec s < t + 3600 → unresolved a b s = s))

/-- The atomic oscillator's interface (R150–R152): the steering value in force once per second, the status poll, its response and its
timeout, and the lock input. Learning waits for the end of its interval (R147). A learning point (R147–R149) ends the interval: the counts
restart, and the point is kept with those of the span. The model's own choices in it: log entries 10, 29, 91 and 93. Completion: `acts c s
u` says that exec completes and answers exactly the settled state u; `nextWith` says that exec completes and answers a next state of which
the facts hold. -/
def Obligations.AtomEvents : Prop :=
  (∀ s, up s = true →
    (s.sel.interval = none → acts .learnPoint s s) ∧
    (∀ t, s.sel.interval = some t → s.now < t + 64 * sT → acts .learnPoint s s) ∧
    (s.now < s.atom.lastSteer + sT → acts .atomSteerUpdate s s) ∧
    (s.atom.lastSteer + sT ≤ s.now → getN s Obj.ATOM_STEER_MODE = 2 → atomProfile s = none →
      nextWith (exec .atomSteerUpdate s) (fun t => t.atom.steer = getN s Obj.ATOM_STEER_SET * 1000 ∧ t.atom.lastSteer = s.now ∧
        getN t Obj.ATOM_DAC_CODE = s.atom.lastZero ∧ t.out = .dac s.atom.lastZero :: s.out ∧
        frame [.atom, .out, .freeCtr] [Obj.ATOM_STEER_NOW, Obj.ATOM_DAC_CODE] s t)) ∧
    (∀ b, atomProfile s = some b → (fieldU b 8 1).testBit 1 = true → fieldU b 42 2 ≠ 0 →
      (∀ t, s.atom.lastPoll = some t → t + fieldU b 26 2 * msT ≤ s.now) →
      acts .atomStatusPoll s (emit (.uart (expandTpl (uartClamp b (uartRaw b s).1) (slice b (fieldU b 40 2) (fieldU b 42 2)) []))
        (setAtom (fun a => { a with lastPoll := some s.now, awaiting := some s.now }) (uartRaw b s).2))) ∧
    (∀ bytes b, s.atom.profile = some b → containsBytes (slice b (fieldU b 44 2) (fieldU b 46 2)) bytes = true →
      acts (.atomStatusResponse bytes) s (evalAtomLock (setAtom (fun a => { a with awaiting := none, lastMatch := some s.now }) s))) ∧
    (∀ t b, s.atom.awaiting = some t → s.atom.profile = some b → t + fieldU b 48 2 * msT ≤ s.now →
      acts .atomRespTimeout s (bump Obj.ATOM_NO_RESP (setAtom (fun a => { a with awaiting := none }) s))) ∧
    (∀ high, s.atom.profile = none → nextWith (exec (.atomLockChange high) s) (fun t =>
      getN t Obj.ATOM_LOCK_STATE = (if high then 1 else 0) ∧ t.atom = { s.atom with lockHigh := high } ∧
      frame [.atom] [Obj.ATOM_LOCK_STATE] s t))) ∧
  (∀ s t, up s = true → s.sel.interval = some t → t + 64 * sT ≤ s.now → s.sel.intCount ≠ 0 →
    nextWith (exec .learnPoint s) (fun u => u.sel.interval = some s.now ∧ u.sel.intCount = 0 ∧ u.sel.intSum = 0 ∧
      u.sel.points.tail = within s (getF s Obj.LEARN_SPAN).toNat s.sel.points ∧
      getN u Obj.LEARN_POINTS = (within s (getF s Obj.LEARN_SPAN).toNat s.sel.points).length + 1 ∧ u.ts = s.ts ∧ u.bound = s.bound))

/-- ESMC (R154, R155): a port absent hears nothing; a malformed PDU is counted; an information PDU leaves once per second with the QL of
R155; 5 s without a valid PDU fail the QL. The best source is a port's own receive side: the port sends "do not use" (R155), and a standby
sends it on every port (R480). The model's own choices in it: log entries 10 and 30. Completion: `acts c s u` says that exec completes and
answers exactly the settled state u; `nextWith` says that exec completes and answers a next state of which the facts hold. -/
def Obligations.EsmcEvents : Prop :=
  (∀ s (p : Fin 16), up s = true → p < nPorts s.variant →
    (∀ ql e c, acts (.esmcPduRx p false ql e c) s (bump (Obj.ESMC_BAD p) s)) ∧
    (∀ ql e c, acts (.esmcPduRx p true ql e c) s (esmcEvents (bump (Obj.ESMC_RX p) (setN (Obj.SSM_RX_ECODE p) e.val (setN (Obj.SSM_RX_QL p) ql.val
      (setEsmc p (fun x => { x with lastRx := some s.now, failed := false, rxCascade := c }) s)))))) ∧
    (portUp s p = true → (∀ t, (esmcOf s p).lastTx = some t → t + sT ≤ s.now) →
      nextWith (exec (.esmcInfoTx p) s) (fun t => getN t (Obj.SSM_TX_QL p) = (txQl s p).1 ∧ t.out = .esmc p (txQl s p).1 (txQl s p).2.1 false :: s.out ∧
        frame [.esmc, .out] [Obj.SSM_TX_QL p, Obj.ESMC_TX p] s t)) ∧
    ((esmcOf s p).failed = false → (esmcOf s p).lastRx.getD s.power.started + 5 * sT ≤ s.now →
      acts (.esmcQlFailed p) s (esmcEvents (bump (Obj.QL_FAILED p) (setEsmc p (fun x => { x with failed := true }) s))))) ∧
  (∀ s p, (activeFreq s = 14 + p ∨ quiet s = true) → (txQl s p).1 = 0x0F)

/-- The analog PLLs (R161–R163): a step of the search halves the set of bands; a window that counts within 2 in tracking and completes the
count locks; one off by more than 8 while locked loses the lock and searches again. A clock output that is enabled is squelched while a
condition of R167 holds, each start counted, and is ACTIVE otherwise; one that is not enabled is OFF (R165). The model's own choices in
it: log entries 9, 10 and 94. Completion: `acts c s u` says that exec completes and answers exactly the settled state u; `nextWith` says
that exec completes and answers a next state of which the facts hold. -/
def Obligations.ClockEvents : Prop :=
  (∀ s (n : Fin 4), up s = true →
    (∀ higher outer, getN s (Obj.APLL_STATE n) = 0 → (apll s n).steps < 6 →
      acts (.apllSearchStep n higher outer) s
        (setN (Obj.APLL_BAND n) (if higher then (apll s n).lo + (apll s n).size / 2 else (apll s n).lo : Nat)
          (setApll n (fun x => { x with
            steps := (apll s n).steps + 1, lo := if higher then (apll s n).lo + (apll s n).size / 2 else (apll s n).lo, size := (apll s n).size / 2 }) s))) ∧
    (∀ higher (outer : Fin 3), getN s (Obj.APLL_STATE n) = 0 → 6 ≤ (apll s n).steps →
      nextWith (exec (.apllSearchStep n higher outer) s) (fun t => getN t (Obj.APLL_STATE n) = 1 ∧
        getN t (Obj.APLL_BAND n) = (if outer.val = 1 then (apll s n).lo - 1 else if outer.val = 2 then min 63 ((apll s n).lo + 1)
          else (apll s n).lo : Nat))) ∧
    (∀ diff, getN s (Obj.APLL_STATE n) = 1 → diff ≤ 2 → getNat s (Obj.APLL_LOCK_COUNT n) ≤ (apll s n).good + 1 →
      nextWith (exec (.apllLockWindow n diff) s) (fun t => getN t (Obj.APLL_STATE n) = 2)) ∧
    (∀ diff, getN s (Obj.APLL_STATE n) = 2 → diff ≤ 8 →
      acts (.apllLockWindow n diff) s (setLive (0x0900 + n) false s)) ∧
    (∀ diff, n ≠ 0 → getN s (Obj.APLL_STATE n) = 2 → 8 < diff →
      nextWith (exec (.apllLockWindow n diff) s) (fun t => getN t (Obj.APLL_STATE n) = 0 ∧
        getN t (Obj.APLL_UNLOCK n) = (getN s (Obj.APLL_UNLOCK n) + 1) % counterMod (Obj.APLL_UNLOCK n)))) ∧
  (∀ s (c : Fin 12), up s = true →
    ((clkOut s c).enabled = false →
      nextWith (exec (.clkSquelch c) s) (fun t => getN t (Obj.CLK_STATE c) = 0 ∧ frame [] [Obj.CLK_STATE c] s t)) ∧
    ((clkOut s c).enabled = true → squelched s c = false →
      nextWith (exec (.clkSquelch c) s) (fun t => getN t (Obj.CLK_STATE c) = 1 ∧ frame [] [Obj.CLK_STATE c] s t)) ∧
    ((clkOut s c).enabled = true → squelched s c = true → getN s (Obj.CLK_STATE c) ≠ 2 →
      nextWith (exec (.clkSquelch c) s) (fun t => getN t (Obj.CLK_STATE c) = 2 ∧
        getN t (Obj.CLK_SQUELCHES c) = (getN s (Obj.CLK_SQUELCHES c) + 1) % counterMod (Obj.CLK_SQUELCHES c) ∧
        frame [] [Obj.CLK_STATE c, Obj.CLK_SQUELCHES c] s t)) ∧
    (silentOutputs s = true → squelched s c = true))

/-- A native edge whose instant is at most 2 µs away is committed (R170, R172); at its instant it leaves, unless it is squelched, and is
described to the TOD outputs (R171, R173, R178). A generator's edge within 2 µs is committed (R174), and leaves at its instant (R171); an
ALIGNED generator whose window closes empty flywheels, or is ALIGN_LOST at `PG_ALIGN_HOLD` in a row (R175). Time of day (R130, R178–R180):
a sentence starts at its delay after the edge and takes the line; one that fails its validation, or matches no pulse, is counted. The
model's own choices in it: log entries 10, 32, 33, 95 and 96. Completion: `acts c s u` says that exec completes and answers exactly the
settled state u; `nextWith` says that exec completes and answers a next state of which the facts hold. -/
def Obligations.PulseEvents : Prop :=
  (∀ s (n : Fin 4), up s = true →
    (∀ (o : Fin 12), o.val = n.val → (pps s n).enabled = false → acts (.pulseEdgeCommit o) s s) ∧
    (∀ (o : Fin 12), o.val = n.val → (pps s n).enabled = true → (pps s n).changed = false →
      (∀ l, (pps s n).lastAt = some l → l < (nativeAt (pps s n).offset (lastNative (pps s n).offset (s.ts.mts + 2 * us48))).toNat) →
      0 ≤ nativeAt (pps s n).offset (lastNative (pps s n).offset (s.ts.mts + 2 * us48)) →
      commitDue s (nativeAt (pps s n).offset (lastNative (pps s n).offset (s.ts.mts + 2 * us48))).toNat = true →
      acts (.pulseEdgeCommit o) s
        (countSquelch (makeEdge s (some n) (getN s (Obj.PPS_POLARITY n)) (getNat s (Obj.PPS_WIDTH n)) (nativeAt (pps s n).offset (lastNative (pps s n).offset (s.ts.mts + 2 * us48))).toNat)
          (setPps n (fun y => { y with edges := y.edges ++
              [makeEdge s (some n) (getN s (Obj.PPS_POLARITY n)) (getNat s (Obj.PPS_WIDTH n)) (nativeAt (pps s n).offset (lastNative (pps s n).offset (s.ts.mts + 2 * us48))).toNat] })
            (setPps n (fun y => { y with lastAt := some (nativeAt (pps s n).offset (lastNative (pps s n).offset (s.ts.mts + 2 * us48))).toNat, changed := false }) s)))) ∧
    (∀ (o : Fin 12) e rest, o.val = n.val → (pps s n).edges = e :: rest → e.atI ≤ s.ts.mts → edgeHidden s e = false →
      nextWith (exec (.pulseEdgeEmit o) s) (fun t => getN t (Obj.PPS_LAST_EDGE n) = t96Of e.atI ∧ getN t (Obj.PPS_LAST_BOUND n) = e.pair ∧
        getN t (Obj.PPS_STATE n) = 1 ∧ t.out = .ppsEdge n (t96Of e.atI) e.rising e.width :: s.out ∧
        frame [.synth, .out] [Obj.PPS_LAST_EDGE n, Obj.PPS_LAST_BOUND n, Obj.PPS_EMITTED n, Obj.PPS_STATE n] s t)) ∧
    (∀ (o : Fin 12) e rest, o.val = n.val → (pps s n).edges = e :: rest → e.atI ≤ s.ts.mts → edgeHidden s e = true →
      nextWith (exec (.pulseEdgeEmit o) s) (fun t => t.out = s.out ∧ frame [.synth] [] s t))) ∧
  (∀ s (g : Fin 8) (o : Fin 12), up s = true → o.val = g.val + 4 →
    (∀ d rest, (pg s g).due = d :: rest → commitDue s d = true → getN s (Obj.PG_MODE g) ≠ 1 →
      acts (.pulseEdgeCommit o) s (pgPublish g (countSquelch (makeEdge s (pgRouteOf s g) (getN s (Obj.PG_POLARITY g)) (getNat s (Obj.PG_WIDTH g)) d)
        (setPg g (fun y => { y with edges := y.edges ++ [makeEdge s (pgRouteOf s g) (getN s (Obj.PG_POLARITY g)) (getNat s (Obj.PG_WIDTH g)) d], due := rest }) s)))) ∧
    (∀ e rest, (pg s g).edges = e :: rest → e.atI ≤ s.ts.mts → e.route = none → edgeHidden s e = false → getN s (Obj.PG_MODE g) ≠ 1 →
      acts (.pulseEdgeEmit o) s (bump (Obj.PG_EMITTED g) (setPg g (fun y => { y with edges := rest }) s))) ∧
    (∀ t, (pg s g).anchor = some t → (getN s (Obj.PG_STATE g) = 2 ∨ getN s (Obj.PG_STATE g) = 3) →
      8 * of96 t + 9 * of96 (getNat s (Obj.PG_PERIOD g)) < 8 * s.ts.mts → getNat s (Obj.PG_ALIGN_HOLD g) ≤ (pg s g).misses + 1 →
      nextWith (exec (.alignWindowMiss g) s) (fun u => getN u (Obj.PG_STATE g) = 5 ∧
        getN u (Obj.ALIGN_MISS g) = (getN s (Obj.ALIGN_MISS g) + 1) % counterMod (Obj.ALIGN_MISS g) ∧
        frame [.synth] [Obj.PG_STATE g, Obj.ALIGN_MISS g] s u)) ∧
    (∀ t, (pg s g).anchor = some t → (getN s (Obj.PG_STATE g) = 2 ∨ getN s (Obj.PG_STATE g) = 3) →
      8 * of96 t + 9 * of96 (getNat s (Obj.PG_PERIOD g)) < 8 * s.ts.mts → (pg s g).misses + 1 < getNat s (Obj.PG_ALIGN_HOLD g) →
      nextWith (exec (.alignWindowMiss g) s) (fun u => getN u (Obj.PG_STATE g) = 3 ∧
        frame [.synth] [Obj.PG_STATE g, Obj.ALIGN_MISS g, Obj.PG_NEXT g] s u))) ∧
  (∀ s (t : Fin 2), up s = true →
    ((tod s t).due = [] → acts (.todSentenceStart t) s s) ∧
    (∀ x rest, (tod s t).due = x :: rest → of96 x.edge + getNat s (Obj.TOD_DELAY t) * us48 ≤ s.ts.mts → silentOutputs s = false →
      outputsAbsent s = false → s.now < (tod s t).busyUntil →
      acts (.todSentenceStart t) s (bump (Obj.TOD_SKIPPED t) (setTod t (fun y => { y with due := rest }) s))) ∧
    (∀ x rest, (tod s t).due = x :: rest → of96 x.edge + getNat s (Obj.TOD_DELAY t) * us48 ≤ s.ts.mts → silentOutputs s = false →
      outputsAbsent s = false → (tod s t).busyUntil ≤ s.now → getNat s (Obj.TOD_FORMAT t) = 0 →
      nextWith (exec (.todSentenceStart t) s) (fun u => u.out = .sentence t (fntdBytes x (tod s t).seq) :: s.out ∧
        getN u (Obj.TOD_SENT t) = (getN s (Obj.TOD_SENT t) + 1) % counterMod (Obj.TOD_SENT t) ∧
        frame [.synth, .out] [Obj.TOD_SENT t] s u)) ∧
    (∀ x ago, todSecond s t x = none → acts (.todinSentence t x ago) s (bump (Obj.TODIN_BAD t) s)) ∧
    (∀ x ago sec, todSecond s t x = some sec → s.pulseWait = [] → acts (.todinSentence t x ago) s (bump (Obj.TODIN_ORPHAN t) s)) ∧
    (∀ x ago sec p m, todSecond s t x = some sec → s.pulseWait = [p] → p.todin = t → p.said = none → p.tick ≤ s.now - ago →
      s.now - ago ≤ p.tick + getNat s (Obj.TODIN_WINDOW t) * msT → p.meas = some m →
      acts (.todinSentence t x ago) s (queueMeas (saidMeas m p.sec sec) (bump (Obj.TODIN_GOOD t) (setN (Obj.TODIN_LAST_SEC t) sec
        { s with pulseWait := [{ p with said := some sec, meas := none }] })))))

/-- The receiver's cores (R183–R187, R195, R196). GNSSPPS leaves at the selected tick, or is squelched (R192, R193); the antenna's supply
is cut on a short and tried again after 10 s (R197); an excluded system returns (R198); the noise rise and JAM (R199). A snapshot that is
armed starts at its instant in the slot after the last one written, and is dropped where every slot is being read (R201); complete, it is
stored behind its header (R202). The model's own choices in it: log entries 9, 10 and 97. Completion: `acts c s u` says that exec
completes and answers exactly the settled state u; `nextWith` says that exec completes and answers a next state of which the facts hold.
-/
def Obligations.GnssEvents : Prop :=
  (∀ s, gnssRuns s = true →
    (∀ c, acts (.gnssChanAlloc c) s (chanAlloc c s)) ∧
    (∀ n, acts (.gnssNavSecond n) s (navSecond n s)) ∧
    (∀ x, secondOver s (mtsSec s) = true → acts (.gnssTimingSolution x) s s) ∧
    (∀ x, secondOver s (mtsSec s) = false →
      nextWith (exec (.gnssTimingSolution x) s) (fun t => wasDone (mtsSec s) t.gnss.solved = true ∧
        getN t Obj.GNSS_TM_SEQ = (getN s Obj.GNSS_TM_SEQ + 1) % 4294967296)) ∧
    (∀ q : Fin 4, getN s (Obj.ISB_SOLVED_VALID q) = 1 → (isbOf s q).lastInput + 600 * sT ≤ s.now →
      acts (.isbInvalidTimeout q) s (setN (Obj.ISB_SOLVED_UNC q) 4294967295 (setN (Obj.ISB_SOLVED_VALID q) 0
        (setGnss (fun g => { g with isb := modAt q (fun _ => {}) g.isb }) s))))) ∧
  (∀ s, gnssRuns s = true →
    (∀ t r edge, s.gnss.ppsNext = (t, false) :: r → t ≤ s.now → getN s Obj.GNSSPPS_ENABLE ≠ 0 → outputsAbsent s = false →
      edge = t96Of (s.ts.mts - (s.now - t) * s.ts.incr + getNat s Obj.GNSSPPS_PATH_DELAY * ns48 / 1000) →
      nextWith (exec .gnssppsEdge s) (fun u => u.out = .gnssPps edge (getNat s Obj.GNSSPPS_WIDTH) :: s.out ∧
        getN u Obj.GNSSPPS_LAST_EDGE = edge ∧ u.gnss = { s.gnss with ppsNext := r } ∧
        frame [.gnss, .out] [Obj.GNSSPPS_LAST_EDGE] s u)) ∧
    (∀ t r, s.gnss.ppsNext = (t, true) :: r → t ≤ s.now →
      nextWith (exec .gnssppsEdge s) (fun u => u.gnss = { s.gnss with ppsNext := r } ∧ frame [.gnss] [] s u)) ∧
    (∀ cur us, getN s Obj.GNSS_ANT_SUPPLY = 0 → acts (.antCurrentSample cur us) s
      (setN Obj.GNSS_ANT_STATE 0 (setGnss (fun g => { g with antCut := none }) (setN Obj.GNSS_ANT_CURRENT (cur % 65536 : Nat) s)))) ∧
    (∀ cur us, getN s Obj.GNSS_ANT_SUPPLY ≠ 0 → s.gnss.antCut = none → getNat s Obj.GNSS_ANT_I_LIMIT * 10 < cur → 100 ≤ us →
      acts (.antCurrentSample cur us) s (raise 0x1300 1 { detail := 2 } (bump Obj.ANT_SHORT (setN Obj.GNSS_ANT_STATE 3
        (setGnss (fun g => { g with antCut := some s.now }) (setN Obj.GNSS_ANT_CURRENT (cur % 65536 : Nat) s)))))) ∧
    (∀ cur us, getN s Obj.GNSS_ANT_SUPPLY ≠ 0 → s.gnss.antCut = none → cur ≤ getNat s Obj.GNSS_ANT_I_LIMIT * 10 →
      acts (.antCurrentSample cur us) s (setN Obj.GNSS_ANT_STATE (if cur < 30 then 1 else 2)
        (setN Obj.GNSS_ANT_CURRENT (cur % 65536 : Nat) s))) ∧
    (∀ t, s.gnss.antCut = some t → t + 10 * sT ≤ s.now → acts .antSupplyRetry s (setGnss (fun g => { g with antCut := none }) s)) ∧
    (∀ y : Fin 5, acts (.gnssExcludeExpiry y) s
      (setGnss (fun g => { g with excluded := g.excluded.filter (fun p => !decide (p.1 = y.val ∧ p.2 ≤ s.now)) }) s)) ∧
    (∀ l1 l5, l1 ≤ getN s Obj.GNSS_JAM_THRESHOLD → l5 ≤ getN s Obj.GNSS_JAM_THRESHOLD →
      nextWith (exec (.gnssNoiseMeasure l1 l5) s) (fun t => t.gnss = { s.gnss with jam := false } ∧
        getN t Obj.GNSS_JN_L1 = clampInt (-32768) 32767 l1 ∧ getN t Obj.GNSS_JN_L5 = clampInt (-32768) 32767 l5 ∧
        frame [.gnss] [Obj.GNSS_JN_L1, Obj.GNSS_JN_L5] s t)) ∧
    (∀ l1 l5, s.gnss.jam = false → (getN s Obj.GNSS_JAM_THRESHOLD < l1 ∨ getN s Obj.GNSS_JAM_THRESHOLD < l5) →
      nextWith (exec (.gnssNoiseMeasure l1 l5) s) (fun t => t.gnss.jam = true ∧
        getN t Obj.JAM_EVENTS = (getN s Obj.JAM_EVENTS + 1) % counterMod Obj.JAM_EVENTS))) ∧
  (∀ s, gnssRuns s = true →
    (∀ t, s.gnss.snap.armed = some t → t ≤ s.ts.mts → nextSlot s = none →
      acts .gnssSnapStart s (bump Obj.SNAP_DROPPED (setGnss (fun g => { g with snap := { g.snap with armed := none } }) s))) ∧
    (∀ t k, s.gnss.snap.armed = some t → t ≤ s.ts.mts → nextSlot s = some k →
      nextWith (exec .gnssSnapStart s) (fun u => getN u (Obj.SNAP_STATE k) = 1 ∧ u.gnss.snap.armed = none ∧ u.gnss.snap.slot = some k ∧
        u.gnss.snap.first = mts96 s ∧ frame [.gnss] [Obj.SNAP_STATE k] s u)) ∧
    (∀ data a1 a5 o1 o5 rate k, s.gnss.snap.slot = some k → k < 8 → s.gnss.snap.began + s.gnss.snap.len * msT ≤ s.now →
      nextWith (exec (.gnssSnapComplete data a1 a5 o1 o5 rate) s) (fun u => getN u (Obj.SNAP_STATE k) = 2 ∧
        getN u Obj.GNSS_SNAP_LAST = k ∧ u.gnss.snap.slot = none ∧ (getB u (Obj.SNAP_DATA k)).take 64 =
          snapHeader s.gnss.snap (s.gnss.snap.stale || !replicaFresh s 1) a1 a5 o1 o5 rate ∧
        frame [.gnss, .blobs] [Obj.SNAP_STATE k, Obj.GNSS_SNAP_LAST] s u)))

/-- Links (R227, R228) and flow control (R222): a PCS that comes up raises the link, in SGMII only at 1000 Mb/s, full duplex (R205); a
link that goes down stays down and is counted; paused queues whose quanta have run out resume. Back-pressure that still holds is repeated
every 32,768 quanta (R236); an underrun stomps the frame and raises the rung (R225); 65,536 clean frames lower it (R226). The model's own
choices in it: log entries 10, 100, 104 and 105. Completion: `acts c s u` says that exec completes and answers exactly the settled state
u; `nextWith` says that exec completes and answers a next state of which the facts hold. -/
def Obligations.LinkEvents : Prop :=
  (∀ s, up s = true →
    (∀ p : Fin 17, portUp s p = false → acts (.linkDown p) s s) ∧
    (∀ p : Fin 17, portUp s p = true → acts (.linkDown p) s (linkLoss p s)) ∧
    (∀ (p : Fin 17) speed full, (port s p).lane = true → (port s p).mode ≠ 0 → (port s p).shut = false → portUp s p = false →
      ((port s p).mode = 2 → speed = 1000 ∧ full = true) →
      nextWith (exec (.linkUp { port := p, speed := speed, full := full }) s) (fun t => getN t (Obj.PORT_LINK p) = 1 ∧
        (p.val < 16 → getN t (Obj.LEAD_NOW p) = getF s (Obj.LEAD_DEFAULT p)) ∧
        frame [.ports] [Obj.PORT_LINK p, Obj.LEAD_NOW p] s t)) ∧
    (∀ (p : Fin 17) speed full, (port s p).mode = 2 → (speed ≠ 1000 ∨ full = false) → acts (.linkUp { port := p, speed := speed, full := full }) s s) ∧
    (∀ p : Fin 17, closeDue s p = true → nextWith (exec (.portClose p) s) (fun t => getN t (Obj.PORT_LINK p) = 2)) ∧
    (∀ p : Fin 16, acts (.pauseExpiry p) s
      (setPort p (fun x => { x with paused := x.paused.map (fun t => if t ≤ psNow s then 0 else t) }) s))) ∧
  (∀ s (p : Fin 16), up s = true →
    (∀ o, (port s p).xoff = some o → xoffDue s p = true → o.sent * 5000 + quantaPs s p 32768 ≤ psNow s →
      acts (.backpressureRepeat p) s (sendPause p (getNat s (Obj.PORT_PAUSE p)) 0xFFFF (xoffClasses s p)
        (setPort p (fun x =>
          { x with xoff := some { mode := getNat s (Obj.PORT_PAUSE p), sent := s.now, classes := xoffClasses s p } }) s))) ∧
    (∀ o, (port s p).xoff = some o → xoffDue s p = false →
      acts (.backpressureRepeat p) s (sendPause p o.mode 0 o.classes (setPort p (fun x => { x with xoff := none }) s))) ∧
    ((port s p).tx = none → acts (.ctUnderrun p) s s) ∧
    (∀ t i f c, (port s p).tx = some t → t.kind = .copy i → coreFrame s i = some f → t.cut = true → t.stomped = false →
      c ∈ s.sw.copies → c.frame = i → c.out = p → c.started = true → f.written ≤ c.read → c.read < f.cells.length →
      acts (.ctUnderrun p) s (swDerive (setRung p (min 4 (getNat s (Obj.CT_RUNG p) + 1) : Nat) (stompTx p (bump (Obj.UNDERRUN p) s))))) ∧
    (65536 ≤ getNat s (Obj.CT_CLEAN_RUN p) →
      nextWith (exec (.ctRungDown p) s) (fun t => getN t (Obj.CT_RUNG p) = (getNat s (Obj.CT_RUNG p) - 1 : Nat) ∧ getN t (Obj.CT_CLEAN_RUN p) = 0 ∧
        frame [] [Obj.CT_RUNG p, Obj.CT_CLEAN_RUN p] s t)) ∧
    (getNat s (Obj.CT_CLEAN_RUN p) < 65536 → acts (.ctRungDown p) s s))

/-- Reception (R207, R213–R216, R231, R234): a head on a link that is down, or behind a frame in reception, changes nothing; the head of a
frame that is not for the core is held with its stamp, its row and what `PORT_TAG_MODE` says of it, one that the core admits has its
cells; at its end a frame that is a runt, a giant, has a bad FCS or too little data, or is refused counts in exactly one counter; one that
is accepted counts RX_OK and goes where its row says. The classes of a received frame are exhaustive and judged in the order of R213: its
length first, then its FCS, then its data, then its type. The model's own choices in it: log entries 36, 40, 101 and 102. Completion:
`acts c s u` says that exec completes and answers exactly the settled state u. -/
def Obligations.Reception : Prop :=
  (∀ s, up s = true →
    (∀ (p : Fin 17) f x, (portUp s p = false ∨ (port s p).rx.isSome = true) → acts (.frameHeadArrival p f x) s s) ∧
    (∀ f x, portUp s 16 = true → (port s 16).rx = none → (port s 16).tx = none →
      acts (.frameHeadArrival 16 f x) s
        (setPort 16 (fun y => { y with rx := some { frame := f, maxFrame := getNat s Obj.MAX_FRAME, ts := 0, bound := unbounded80 } }) s)) ∧
    (∀ (p : Fin 16) f x raw u, portUp s p = true → (port s p).rx = none → (port s p).tx = none → (raw, u) = rawStamp p x false s →
      toCore (classify s p f) f (tagRefused s p f) = false →
      acts (.frameHeadArrival ⟨p.val, by omega⟩ f x) s
        (setPort p (fun y => { y with rx := some { frame := f, maxFrame := getNat s Obj.MAX_FRAME, ts := (stampIn u p raw).1, bound := (stampIn u p raw).2, tick := s.now, vlan := vlanOf s p f, refused := tagRefused s p f, row := classify s p f, svc := svcFor s p f } })
          (setReplica (16 + p) (fun r => { r with held := r.held + 1 }) u))) ∧
    (∀ (p : Fin 16) f x raw u v i, portUp s p = true → (port s p).rx = none → (port s p).tx = none → (raw, u) = rawStamp p x false s →
      toCore (classify s p f) f (tagRefused s p f) = true →
      (some i, v) = admitCore p (classify s p f) f (stampIn u p raw).1 (stampIn u p raw).2 u →
      acts (.frameHeadArrival ⟨p.val, by omega⟩ f x) s (swDerive (evalXoff p
        (setPort p (fun y => { y with rx := some { frame := f, maxFrame := getNat s Obj.MAX_FRAME, ts := (stampIn u p raw).1, bound := (stampIn u p raw).2, tick := s.now, core := some i, vlan := vlanOf s p f, refused := tagRefused s p f, row := classify s p f, svc := svcFor s p f } })
          (setReplica (16 + p) (fun r => { r with held := r.held + 1 }) v))))) ∧
    (∀ (p : Fin 17) e, (port s p).rx = none → acts (.rxFrame p e) s (sortPtp (bumpBy (Obj.SYMBOL_ERR p) e.symbols s))) ∧
    (∀ (p : Fin 17) r e u, (port s p).rx = some r → r.core = none →
      u = bumpBy (Obj.SYMBOL_ERR p) e.symbols (setPort p (fun x => { x with rx := none }) s) →
      (ingress s p r e = .runt → acts (.rxFrame p e) s (sortPtp (bump (Obj.RUNT p) u))) ∧
      (ingress s p r e = .giant → acts (.rxFrame p e) s (sortPtp (bump (Obj.GIANT p) u))) ∧
      (ingress s p r e = .fcs → acts (.rxFrame p e) s (sortPtp (bump (Obj.FCS_ERR p) u))) ∧
      (ingress s p r e = .len → acts (.rxFrame p e) s (sortPtp (bump (Obj.LEN_ERR p) u))) ∧
      (ingress s p r e = .tagged → acts (.rxFrame p e) s (sortPtp (bump (Obj.ADMIT_DROP p) u))) ∧
      (ingress s p r e = .ctrl → ∀ n, r.frame.body = .pause n →
        acts (.rxFrame p e) s (sortPtp (applyPause p (.pause n) (bump (Obj.PAUSE_RX p) u)))) ∧
      (ingress s p r e = .ok → p.val = 16 →
        acts (.rxFrame p e) s (sortPtp (mgmtFrame r.frame (bumpBy (Obj.RX_OCTETS p) e.len (bump (Obj.RX_OK p) u))))) ∧
      (ingress s p r e = .ok → p.val ≠ 16 →
        acts (.rxFrame p e) s (sortPtp (dispatch p r e (bumpBy (Obj.RX_OCTETS p) e.len (bump (Obj.RX_OK p) u)))))) ∧
    (∀ (p : Fin 17) r e i u, (port s p).rx = some r → r.core = some i →
      u = bumpBy (Obj.SYMBOL_ERR p) e.symbols (setPort p (fun x => { x with rx := none }) s) →
      (ingress s p r e = .giant → acts (.rxFrame p e) s (sortPtp (coreBad i e.len (bump (Obj.GIANT p) u)))) ∧
      (ingress s p r e = .fcs → e.codeError = false → acts (.rxFrame p e) s (sortPtp (coreBad i (e.len - 4) (bump (Obj.FCS_ERR p) u)))) ∧
      (ingress s p r e = .ok → p.val ≠ 16 →
        acts (.rxFrame p e) s (sortPtp (swDerive (evalXoff p (coreWhole i e.len (bumpBy (Obj.RX_OCTETS p) e.len (bump (Obj.RX_OK p) u))))))))) ∧
  (∀ s p r e,
    (e.len ≤ 63 → ingress s p r e = .runt) ∧
    (63 < e.len → r.maxFrame < e.len → ingress s p r e = .giant) ∧
    (63 < e.len → e.len ≤ r.maxFrame → (e.fcsOk = false ∨ e.codeError = true) → ingress s p r e = .fcs) ∧
    (63 < e.len → e.len ≤ r.maxFrame → e.fcsOk = true → e.codeError = false → r.frame.etherType < 0x600 →
      e.len - 18 - 4 * r.frame.tags.length < r.frame.etherType → ingress s p r e = .len) ∧
    (ingress s p r e = .ok → p < 16 → 64 ≤ e.len ∧ e.len ≤ r.maxFrame ∧ e.fcsOk = true ∧ e.codeError = false ∧ r.frame.etherType ≠ 0x8808 ∧
      r.refused = false))

/-- Egress (R219–R221): on a link that is down or a wire that is busy nothing starts; a waiting MAC control frame goes before the queues;
with nothing waiting nothing starts; a frame that would run into a launch slot waits; an engine's frame starts, and so does a copy that
its output was granted to, while a grant that another frame outranks is given up. Frames that the front end has sent enter their queue
first. The model's own choices in it: log entries 37 and 103. Completion: `acts c s u` says that exec completes and answers exactly the
settled state u. -/
def Obligations.Egress : Prop :=
  ∀ s u (p : Fin 17) (x : PcsStamp), up s = true → (port s p).tx = none → u = takeNet p s →
    (portUp u p = false → acts (.txFrameStart p x.block x.place) s u) ∧
    (wireReady u p = false → acts (.txFrameStart p x.block x.place) s u) ∧
    (∀ f r, portUp u p = true → wireReady u p = true → (port u p).ctrl = f :: r → guarded u p 64 = true → acts (.txFrameStart p x.block x.place) s u) ∧
    (∀ f r, portUp u p = true → wireReady u p = true → (port u p).ctrl = f :: r → guarded u p 64 = false →
      acts (.txFrameStart p x.block x.place) s (startTx p 8 64 .ctrl false false f 0 (setPort p (fun y => { y with ctrl := r }) u))) ∧
    (portUp u p = true → wireReady u p = true → (port u p).ctrl = [] → nextHead u p = none → acts (.txFrameStart p x.block x.place) s u) ∧
    (∀ e, portUp u p = true → wireReady u p = true → (port u p).ctrl = [] → nextHead u p = some (.eng e) →
      acts (.txFrameStart p x.block x.place) s (if guarded u p (engineTag u p e).2 then u else startEngine p e x u)) ∧
    (∀ c, portUp u p = true → wireReady u p = true → (port u p).ctrl = [] → nextHead u p = some (.copy c) → granted u p = some c →
      acts (.txFrameStart p x.block x.place) s (if guarded u p (copyLen u c) then u else startCopy p c x u)) ∧
    (∀ c, portUp u p = true → wireReady u p = true → (port u p).ctrl = [] → nextHead u p = some (.copy c) → granted u p ≠ some c →
      acts (.txFrameStart p x.block x.place) s (unlock p u))

/-- The switch core (R238–R241, R243): a cell slot; replication of the oldest frame; a learned entry past its age leaves the table. Table
writes and buffer errors (R246, R247, R254): a write returns when no frame of the old generation remains; at `SW_GEN_TIMEOUT` the frames
that remain are flushed first; a corrected buffer error is counted, one in a descriptor clears the core. The model's own choices in it:
log entries 10, 36, 39 and 103. Completion: `acts c s u` says that exec completes and answers exactly the settled state u; `nextWith` says
that exec completes and answers a next state of which the facts hold. -/
def Obligations.SwitchEvents : Prop :=
  (∀ s, up s = true →
    (∀ rx tx, acts (.switchCellSlot rx tx) s (cellSlot rx tx s)) ∧
    (∀ p : Fin 16, s.sw.backlog = [] → acts (.replicateFrame p) s s) ∧
    (∀ (p : Fin 16) i r f, s.sw.backlog = i :: r → coreFrame s i = some f → f.port = p →
      nextWith (exec (.replicateFrame p) s) (fun t => t.sw.copies = s.sw.copies ++
        (f.dests.take 4).map (fun d => { frame := i, out := d.port, inp := p, cls := f.cls, action := d.action, tick := s.now }))) ∧
    (∀ mac vid e, fdbEntry s mac vid = some e → e.static = false → getNat s Obj.FDB_AGE_TIME ≠ 0 →
      e.hit + getNat s Obj.FDB_AGE_TIME * sT ≤ s.now →
      acts (.fdbAgeExpiry mac vid) s (fdbCounts (setSw (fun w => { w with fdb := w.fdb.filter (· ≠ e) }) s))) ∧
    (∀ mac vid, (fdbEntry s mac vid = none ∨ getNat s Obj.FDB_AGE_TIME = 0) → acts (.fdbAgeExpiry mac vid) s s)) ∧
  (∀ s, up s = true →
    (∀ vlan w r t g, tableWrites s vlan = w :: r → w.commit = some (t, g) → s.sw.frames.any (oldFrame vlan g) = false →
      acts (.tableWriteReturn vlan) s (returnTable vlan s)) ∧
    (∀ vlan w r t g, tableWrites s vlan = w :: r → w.commit = some (t, g) → s.sw.frames.any (oldFrame vlan g) = true →
      acts (.tableWriteReturn vlan) s s) ∧
    (∀ vlan, tableWrites s vlan = [] → acts (.tableWriteReturn vlan) s s ∧ acts (.tableGenTimeout vlan) s s) ∧
    (∀ vlan w r t g, tableWrites s vlan = w :: r → w.commit = some (t, g) → s.now < t + getNat s Obj.SW_GEN_TIMEOUT * msT →
      acts (.tableGenTimeout vlan) s s) ∧
    (∀ vlan w r t g, tableWrites s vlan = w :: r → w.commit = some (t, g) → s.sw.frames = [] → s.sw.copies = [] → s.sw.backlog = [] →
      t + getNat s Obj.SW_GEN_TIMEOUT * msT ≤ s.now →
      nextWith (exec (.tableGenTimeout vlan) s) (fun u => (tableWrites u vlan).length = r.length)) ∧
    acts (.bufEccError .correctable) s (bump Obj.BUF_ECC_CORR s) ∧
    acts (.bufEccError .descriptor) s (raiseWith (fun _ => clearCore) 0x1600 2 { detail := Config.freeNat s.freeCtr } (nextFree s)))

/-- The Sill (R258, R261–R268, R271): a slot past its deadline is tested; at the preamble a frame that is ready is sent and one that is
not is late; the launch is checked; frames that have waited longer than `LEAD_MAX` are dropped; the lead adapts at the end of a window.
The model's own choices in it: log entries 10, 42, 43, 98 and 105. Completion: `acts c s u` says that exec completes and answers exactly
the settled state u; `nextWith` says that exec completes and answers a next state of which the facts hold. -/
def Obligations.SillEvents : Prop :=
  ∀ s (p : Fin 16), up s = true →
    (∀ n q, (port s p).slots.find? (fun q => q.num = n.val) = some q → q.started = false → reached s (slotAt q (500 * ns48)) = true →
      acts (.sillReadyDeadline p n) s (testSlot p q true s)) ∧
    (∀ n q, (port s p).tx = none → (port s p).slots.find? (fun q => q.num = n.val) = some q → q.started = false →
      reached s (slotAt q (7 * oct48 s p)) = true → lateReason s p q q.ready.isNone = none →
      acts (.sillPreambleStart p n) s (startTx p q.sf.queue q.sf.len (.launch n) false false (q.sf.launch.getD q.sf.frame) (t96Of (q.l + oct48 s p))
        (setPort p (fun x => { x with slots := x.slots.map (fun y => if y.num = n.val then { y with started := true } else y) }) s))) ∧
    (∀ n q r, (port s p).tx = none → (port s p).slots.find? (fun q => q.num = n.val) = some q → q.started = false →
      reached s (slotAt q (7 * oct48 s p)) = true → lateReason s p q q.ready.isNone = some r →
      acts (.sillPreambleStart p n) s (lateSlot p q r s)) ∧
    (∀ n q x, (port s p).slots.find? (fun q => q.num = n.val) = some q → q.started = true → reached s q.l = true →
      acts (.sillLaunch p n x) s (serveWait 64 p (finishTx p (launchCheck p q (rawStamp p x true s).1 (rawStamp p x true s).2)))) ∧
    acts (.slotWaitTimeout p) s (((port s p).sillWait.filter (waitedLong s p)).foldl (fun a sf => releaseJob sf (bump (Obj.SLOT_WAIT_DROP p) a))
      (setPort p (fun x => { x with sillWait := x.sillWait.filter (fun sf => !waitedLong s p sf) }) s)) ∧
    (s.now < (port s p).winFrom + 10 * msT → acts (.leadAdaptWindow p) s s) ∧
    ((port s p).winFrom + 10 * msT ≤ s.now → getN s (Obj.LEAD_ADAPT p) = 1 → 0 < (port s p).winLaunched → (port s p).winLate = false →
      2000 ≤ (port s p).winSlack →
      nextWith (exec (.leadAdaptWindow p) s) (fun t => getN t (Obj.LEAD_NOW p) = max (getF s (Obj.LEAD_MIN p)) (getN s (Obj.LEAD_NOW p) - 250) ∧
        getN t (Obj.SLACK_MIN_LAST p) = (port s p).winSlack ∧ frame [.ports] [Obj.LEAD_NOW p, Obj.SLACK_MIN_LAST p] s t))

/-- PTP messages (R277, R293, R308): an event takes the oldest waiting message of its type; one that is dropped or refused goes no
further; one of another than the parent, or over UDP without a grant (R274), changes nothing; a two-step Sync of the parent waits for its
Follow_Up, which completes it; an Announce is counted and kept. A Delay_Req (R294, R300, R305) on a port that is no time transmitter is
dropped; on an L2 port without a token it is policed; one that is admitted and verified is answered. The model's own choices in it: log
entries 40, 44 and 106. Completion: `acts c s u` says that exec completes and answers exactly the settled state u; `nextWith` says that
exec completes and answers a next state of which the facts hold. -/
def Obligations.PtpMessages : Prop :=
  (∀ s (p : Fin 16) x s1, up s = true → ptpUp s = true →
    (∀ s2, takeMsg p (fun m => m.msg.typ = 0) s = some (x, s1) → ptpAccept x s1 = (none, s2) → acts (.ptpSyncRx p) s s2) ∧
    (∀ k s2, takeMsg p (fun m => m.msg.typ = 0) s = some (x, s1) → ptpAccept x s1 = (some k, s2) →
      (follows s2 k x = false ∨ grantedBy s2 k 0 x = false) → acts (.ptpSyncRx p) s s2) ∧
    (∀ k s2, takeMsg p (fun m => m.msg.typ = 0) s = some (x, s1) → ptpAccept x s1 = (some k, s2) → follows s2 k x = true → grantedBy s2 k 0 x = true → x.msg.two = true →
      acts (.ptpSyncRx p) s (setPtpPort (16 * k + x.port)
        (fun y => { y with sync := some { seq := x.msg.seq, t := x.ts, bound := x.bound, corr := x.msg.corr } }) s2)) ∧
    (∀ k s2, takeMsg p (fun m => m.msg.typ = 0) s = some (x, s1) → ptpAccept x s1 = (some k, s2) → follows s2 k x = true → grantedBy s2 k 0 x = true → x.msg.two = false →
      acts (.ptpSyncRx p) s (acceptSync k x.port x.ts x.bound ((x.msg.ts : Int) + x.msg.corr) x.msg.bound s2)) ∧
    (∀ k s2 y, takeMsg p (fun m => m.msg.typ = 8) s = some (x, s1) → ptpAccept x s1 = (some k, s2) →
      (ptpPort s2 (16 * k + x.port)).sync = some y → follows s2 k x = true → grantedBy s2 k 0 x = true → y.seq = x.msg.seq →
      acts (.ptpFollowUpRx p) s (acceptSync k x.port y.t y.bound ((x.msg.ts : Int) + y.corr + x.msg.corr) x.msg.bound
        (setPtpPort (16 * k + x.port) (fun z => { z with sync := none }) s2))) ∧
    (∀ k s2 r t3 b3, takeMsg p (fun m => m.msg.typ = 9) s = some (x, s1) → ptpAccept x s1 = (some k, s2) →
      (ptpPort s2 (16 * k + x.port)).req = some r → follows s2 k x = true → grantedBy s2 k 9 x = true → r.seq = x.msg.seq → x.msg.req = portIdentity s2 k x.port →
      r.t = some (t3, b3) → boundFinite b3 = false →
      acts (.ptpDelayRespRx p) s (notePair (16 * k + x.port) x.msg.bound (setPtpPort (16 * k + x.port) (fun y => { y with req := none }) s2))) ∧
    (∀ k s2, takeMsg p (fun m => m.msg.typ = 2) s = some (x, s1) → ptpAccept x s1 = (some k, s2) →
      acts (.ptpPdelayReqRx p) s (pdelayReqRx k x s2)) ∧
    (∀ k s2, takeMsg p (fun m => m.msg.typ = 3 || m.msg.typ = 10) s = some (x, s1) → ptpAccept x s1 = (some k, s2) →
      acts (.ptpPdelayRespRx p) s (pdelayRespRx k x s2)) ∧
    (∀ k s2 a, takeMsg p (fun m => m.msg.typ = 11) s = some (x, s1) → ptpAccept x s1 = (some k, s2) → grantedBy s2 k 11 x = true → x.msg.ann = some a →
      nextWith (exec (.ptpAnnounceRx p) s) (fun t =>
        getN t (Obj.ANN_RX (16 * k + x.port)) = (getN s2 (Obj.ANN_RX (16 * k + x.port)) + 1) % counterMod (Obj.ANN_RX (16 * k + x.port))))) ∧
  (∀ s (p : Fin 16) x s1 k s2, up s = true → ptpUp s = true → takeMsg p (fun m => m.msg.typ = 1) s = some (x, s1) → ptpParse x s1 = (some k, s2) →
    (ptpState s2 (16 * k + x.port) ≠ 3 → acts (.ptpDelayReqRx p) s s2) ∧
    (isP2P s2 k = false → ptpState s2 (16 * k + x.port) = 3 → ptpEncap s2 (16 * k + x.port) = 0 →
      (takeToken (16 * k + x.port) x.tick (bump (Obj.DREQ_RX (16 * k + x.port)) s2)).1 = false →
      acts (.ptpDelayReqRx p) s (bump (Obj.DREQ_POLICED (16 * k + x.port)) (takeToken (16 * k + x.port) x.tick (bump (Obj.DREQ_RX (16 * k + x.port)) s2)).2)) ∧
    (isP2P s2 k = false → ptpState s2 (16 * k + x.port) = 3 → ptpEncap s2 (16 * k + x.port) ≠ 0 → sessionOf (bump (Obj.DREQ_RX (16 * k + x.port)) s2) k x.port (rxPeer x).addr = none →
      acts (.ptpDelayReqRx p) s (bump (Obj.DREQ_NO_GRANT (16 * k + x.port)) (bump (Obj.DREQ_RX (16 * k + x.port)) s2))) ∧
    (∀ e b u, isP2P s2 k = false → ptpState s2 (16 * k + x.port) = 3 → ptpEncap s2 (16 * k + x.port) = 0 →
      takeToken (16 * k + x.port) x.tick (bump (Obj.DREQ_RX (16 * k + x.port)) s2) = (true, u) → takeEvent u = (true, e) →
      authCheck k x.port x.msg e = (true, b) →
      acts (.ptpDelayReqRx p) s (answerDreq k x none (getN (bump (Obj.DREQ_RX (16 * k + x.port)) s2) (Obj.PTPP_LOG_MIN_DREQ (16 * k + x.port))) b)))

/-- What the engine sends by itself (R278, R281, R284, R286, R287): a Sync that is due and withheld is counted and not sent; an Announce
that is due leaves; a delay request leaves at its interval; the BMCA runs; the parent's Announce times out. A security association (R295):
at `SA_ROLL_AT` the next key becomes current and the sequence starts at 0, or the roll is missed; the previous key ends with the overlap.
The shed factor of R307 follows the loads. The model's own choices in it: log entries 10, 45, 46, 48 and 107. Completion: `acts c s u`
says that exec completes and answers exactly the settled state u; `nextWith` says that exec completes and answers a next state of which
the facts hold. -/
def Obligations.PtpTimers : Prop :=
  (∀ s (k : Fin 4) (p : Fin 16), up s = true →
    (∀ j, ptpUp s = false → acts (.syncDue k p j) s s) ∧
    (∀ t, ptpUp s = true → (ptpPort s (16 * k.val + p.val)).nextSync = some t → t ≤ mts96 s → ptpState s (16 * k.val + p.val) = 3 →
      ptpEncap s (16 * k.val + p.val) = 0 → quiet s = false → ptpWithheld s k = true →
      acts (.syncDue k p none) s (bump (Obj.SYNC_WITHHELD (16 * k.val + p.val)) (setPtpPort (16 * k.val + p.val) (fun y => { y with
        nextSync := some (nextDue t (mts96 s) (logSpan (getN s (Obj.PTPP_LOG_SYNC (16 * k.val + p.val))))) }) s))) ∧
    (∀ t, ptpUp s = true → (ptpPort s (16 * k.val + p.val)).nextSync = some t → t ≤ mts96 s → ptpState s (16 * k.val + p.val) = 3 →
      ptpEncap s (16 * k.val + p.val) = 0 → quiet s = false → ptpWithheld s k = false →
      acts (.syncDue k p none) s (sendSync k p none (ptpPort s (16 * k.val + p.val)).syncSeq
        (setPtpPort (16 * k.val + p.val) (fun y => { y with syncSeq := (y.syncSeq + 1) % 65536 })
          (setPtpPort (16 * k.val + p.val) (fun y => { y with
            nextSync := some (nextDue t (mts96 s) (logSpan (getN s (Obj.PTPP_LOG_SYNC (16 * k.val + p.val))))) }) s)))) ∧
    (∀ t, ptpUp s = true → (ptpPort s (16 * k.val + p.val)).nextAnn = some t → t ≤ mts96 s → ptpState s (16 * k.val + p.val) = 3 →
      ptpEncap s (16 * k.val + p.val) = 0 → quiet s = false →
      acts (.announceDue k p none) s (sendAnnounce k p none (ptpPort s (16 * k.val + p.val)).annSeq
        (announceData s k (getNat s Obj.BOUND_GRADE) (portServed s p))
        (setPtpPort (16 * k.val + p.val) (fun y => { y with
          nextAnn := some (nextDue t (mts96 s) (logSpan (getN s (Obj.PTPP_LOG_ANNOUNCE (16 * k.val + p.val)))))
          annSeq := (y.annSeq + 1) % 65536 }) s))) ∧
    (ptpUp s = true → acts (.bmcaDecision k) s (bmcaDecision k s)) ∧
    (∀ t, (ptpState s (16 * k.val + p.val) = 6 ∨ ptpState s (16 * k.val + p.val) = 5) → (ptpPort s (16 * k.val + p.val)).annUntil = some t → t ≤ s.now →
      nextWith (exec (.announceReceiptTimeout k p) s) (fun u => getN u (Obj.PTPP_STATE (16 * k.val + p.val)) = 1)) ∧
    (ptpUp s = true → isP2P s k = false → (ptpState s (16 * k.val + p.val) = 6 ∨ ptpState s (16 * k.val + p.val) = 5) →
      ptpEncap s (16 * k.val + p.val) = 0 → (ptpPort s (16 * k.val + p.val)).nextReq.getD 0 ≤ mts96 s →
      acts (.delayReqDue k p) s (sendPtp k p none (ptpBase s k p none 1 (ptpPort s (16 * k.val + p.val)).reqSeq 127) 0 0
        (setPtpPort (16 * k.val + p.val) (fun y => { y with
          reqSeq := (y.reqSeq + 1) % 65536, req := some { seq := (ptpPort s (16 * k.val + p.val)).reqSeq }, pdresp := none,
          nextReq := some (mts96 s + logSpan (getN s (Obj.PTPP_LOG_MIN_DREQ (16 * k.val + p.val)))) }) s)))) ∧
  (∀ s (a : Fin 32), up s = true →
    (getNat s (Obj.SA_ROLL_AT a) ≠ 0 → getNat s (Obj.SA_ROLL_AT a) ≤ mts96 s → (s.ptp.sas.getD a { id := a }).rolledAt ≠ getNat s (Obj.SA_ROLL_AT a) →
      getN s (Obj.SA_NEXT_SLOT a) ≠ 0xFF →
      nextWith (exec (.saKeyRoll a) s) (fun t => getN t (Obj.SA_KEY_SLOT a) = getN s (Obj.SA_NEXT_SLOT a) ∧
        getN t (Obj.SA_KEY_ID a) = getN s (Obj.SA_NEXT_ID a) ∧ getN t (Obj.SA_TX_SEQ a) = 0 ∧
        frame [.ptp] [Obj.SA_KEY_SLOT a, Obj.SA_KEY_ID a, Obj.SA_TX_SEQ a] s t)) ∧
    (getNat s (Obj.SA_ROLL_AT a) ≠ 0 → getNat s (Obj.SA_ROLL_AT a) ≤ mts96 s → (s.ptp.sas.getD a { id := a }).rolledAt ≠ getNat s (Obj.SA_ROLL_AT a) →
      getN s (Obj.SA_NEXT_SLOT a) = 0xFF →
      acts (.saKeyRoll a) s (bump (Obj.ROLL_MISSED a) (setSa a (fun x => { x with rolledAt := getNat s (Obj.SA_ROLL_AT a) }) s))) ∧
    (∀ i j t, (s.ptp.sas.getD a { id := a }).prev = some (i, j, t) → t ≤ s.now →
      acts (.saOverlapExpiry a) s (setSa a (fun x => { x with prev := none }) s)) ∧
    ((s.ptp.sessions.map (sessionShed s)).sum + (s.ptp.sessions.map (sessionAnn s)).sum ≤ 16 * shaLanes s * 1785714 →
      acts .shedFactorUpdate s (setPtp (fun x => { x with f := 1 }) s)))

/-- Unicast negotiation (R297, R299, R301, R302): cancels are reached first, renewals before other requests, each task acting on the TLVs
of its class; grants are taken; requests too old are discarded, and what else their messages hold waits on; a grant whose time is over
stops; half-way through its duration a grant held from an upstream is renewed. The decision on a request ("Grant decision"): its tests in
their order. The model's own choices in it: log entries 10, 47 and 107. Completion: `acts c s u` says that exec completes and answers
exactly the settled state u; `nextWith` says that exec completes and answers a next state of which the facts hold. -/
def Obligations.UnicastEvents : Prop :=
  (∀ s, up s = true →
    (∀ (p : Fin 16) x s1, ptpUp s = true → takeMsg p (hasTlv isCancel) s = some (x, s1) →
      acts (.cancelUnicastTransmission p) s (signaling (fun _ _ _ => isCancel) x s1)) ∧
    (∀ (p : Fin 16) x s1, ptpUp s = true → takeMsg p (hasTlv isGrant) s = some (x, s1) →
      acts (.grantUnicastTransmission p) s (signaling (fun _ _ _ => isGrant) x s1)) ∧
    (∀ (p : Fin 16), (reqStale p s).ptpIn.any (hasTlv isCancel) = true → acts (.requestUnicastTransmission p) s (reqStale p s)) ∧
    (∀ (p : Fin 16) x s1 u, u = reqStale p s → u.ptpIn.any (hasTlv isCancel) = false → u.ptpIn.any (isRenewal u) = true → ptpUp u = true →
      takeMsg p (isRenewal u) u = some (x, s1) → acts (.requestUnicastTransmission p) s (signaling renews x s1)) ∧
    (∀ (p : Fin 16) x s1 u, u = reqStale p s → u.ptpIn.any (hasTlv isCancel) = false → u.ptpIn.any (isRenewal u) = false → ptpUp u = true →
      takeMsg p (hasTlv isRequest) u = some (x, s1) → acts (.requestUnicastTransmission p) s (signaling (fun _ _ _ => isRequest) x s1)) ∧
    (∀ (p : Fin 16), nextWith (exec (.ucReqStale p) s) (fun t =>
      t.ptpIn = s.ptpIn.filterMap (fun x => if x.port = p.val && hasTlv isRequest x && stale s x then withoutRequests x else some x) ∧
      frame [.ptpIn] [Obj.UC_REQ_STALE] s t)) ∧
    (∀ (j : Fin 131072), sessionAt s j = none → acts (.grantExpiry j) s s) ∧
    (∀ (j : Fin 131072) x, sessionAt s j = some x → x.syncG = true → x.syncExp ≤ mtsSec s → x.drespG = false → x.annG = false →
      acts (.grantExpiry j) s (stopGrant j 0 s)) ∧
    (∀ k : Fin 4, ptpUp s = true → s.ptp.grants = [] → acts (.ucRenewDue k) s (ucRequests k s))) ∧
  (∀ s k x typ log dur,
    (ptpState s (16 * k + x.port) ≠ 3 → grantDecision s k x typ log dur = .inl Obj.UC_DENIED_STATE) ∧
    (ptpState s (16 * k + x.port) = 3 → (dur = 0 ∨ logOk s typ log = false) → grantDecision s k x typ log dur = .inl Obj.UC_DENIED_PARAM) ∧
    (ptpState s (16 * k + x.port) = 3 → dur ≠ 0 → logOk s typ log = true → typ ≠ 11 →
      (holds (sessionOf s k x.port (rxPeer x).addr) 11 = false ∨ annExpired s (sessionOf s k x.port (rxPeer x).addr) = true) → grantDecision s k x typ log dur = .inl Obj.UC_DENIED_PARAM) ∧
    (∀ z, grantDecision s k x typ log dur = .inr z → ptpState s (16 * k + x.port) = 3 ∧ dur ≠ 0 ∧ logOk s typ log = true ∧
      z = grantedSession s k x typ log (min (max dur (getNat s Obj.UC_DUR_MIN)) (getNat s Obj.UC_DUR_MAX))))

/-- NTP (R316, R318, R338): a request on arrival joins its port's queue, or is dropped while the engine restarts or where 32 wait; the
parser takes the oldest, at most one per 250 ns; a crypto operation that has started is matched by its tag, and frees its place (R25); a
port about to close serves no more (R338). The master key's epoch (R330): no rotation while the time scale is unset, nor between epoch
boundaries; the first instant is set, and from then on each rotation adds 1 to `NTS_EPOCH` and `NTS_ROTATE` seconds to the next instant,
at most once per boundary. The model's own choices in it: log entries 10, 40, 52 and 108. Completion: `acts c s u` says that exec
completes and answers exactly the settled state u; `nextWith` says that exec completes and answers a next state of which the facts hold.
-/
def Obligations.NtpEvents : Prop :=
  (∀ s (p : Fin 16), up s = true →
    (∀ x, s.ntpIn.find? (fun x => x.port = p.val) = some x → restarting s 0x1900 = true →
      acts (.ntpRequestRx p) s (bump (Obj.NTP_RESTART_DROP p) { s with ntpIn := s.ntpIn.erase x })) ∧
    (∀ x, s.ntpIn.find? (fun x => x.port = p.val) = some x → restarting s 0x1900 = false → 32 ≤ s.ntp.queue.countP (fun y => y.port = p.val) →
      acts (.ntpRequestRx p) s (bump (Obj.NTP_QUEUE_DROP p) { s with ntpIn := s.ntpIn.erase x })) ∧
    (∀ x, s.ntpIn.find? (fun x => x.port = p.val) = some x → restarting s 0x1900 = false → s.ntp.queue.countP (fun y => y.port = p.val) < 32 →
      nextWith (exec (.ntpRequestRx p) s) (fun t => t.ntpIn = s.ntpIn.erase x ∧ t.ntp = { s.ntp with queue := s.ntp.queue ++ [x] } ∧
        frame [.ntpIn, .ntp] [] s t)) ∧
    (s.ntp.queue.find? (fun x => x.port = p.val) = none → acts (.ntpRequestParse p) s s) ∧
    (∀ x, s.ntp.queue.find? (fun x => x.port = p.val) = some x → (∀ t, s.ntp.taken.getD p none = some t → t + 50 ≤ s.now) →
      restarting s 0x1900 = false →
      acts (.ntpRequestParse p) s (ntpRows x { s with ntp := { s.ntp with queue := s.ntp.queue.erase x, taken := s.ntp.taken.set p (some s.now) } })) ∧
    (∀ tag, s.crypto.ops.find? (fun o => o.tag = tag && o.started) = none → acts (.cryptoOpComplete tag) s s) ∧
    (∀ tag o u, restarting s 0x1A00 = false → s.crypto.ops.find? (fun o => o.tag = tag && o.started) = some o →
      u = serveOps { s with crypto := { s.crypto with ops := s.crypto.ops.filter (fun x => x.tag ≠ tag) } } →
      acts (.cryptoOpComplete tag) s (match o.kind with
        | .cookie c => cookieDone c u
        | .verify c => verifyDone c u
        | .sealSlot q n => sealDone q n u)) ∧
    nextWith (exec (.ntpShutOrder p) s) (fun t => frame [.power] [] s t ∧ (∀ n ∈ t.power.notices,
      n.port = p.val → n.ordered + 35 * msT ≤ s.now + getNat s Obj.NTP_SHUT_NOTICE * msT → n.ntpOrdered = true))) ∧
  (∀ s, up s = true →
    ((getN s Obj.TS_STATE = 0 ∨ atBoundary s = false) → acts .ntsEpochRotation s s) ∧
    (atBoundary s = true → getN s Obj.TS_STATE ≠ 0 → s.ntp.rotatedMs ≠ some (s.ts.mts / ms48) → getN s Obj.NTS_NEXT_ROTATE = 0 →
      nextWith (exec .ntsEpochRotation s) (fun t => getN t Obj.NTS_NEXT_ROTATE = (t96Of (s.ts.mts / ms48 * ms48) : Nat) + getN s Obj.NTS_ROTATE * (sec96 : Int) ∧
        frame [.ntp] [Obj.NTS_NEXT_ROTATE] s t)) ∧
    (atBoundary s = true → getN s Obj.TS_STATE ≠ 0 → s.ntp.rotatedMs ≠ some (s.ts.mts / ms48) → 0 < getN s Obj.NTS_NEXT_ROTATE → getNat s Obj.NTS_NEXT_ROTATE ≤ t96Of s.ts.mts →
      nextWith (exec .ntsEpochRotation s) (fun t => getN t Obj.NTS_EPOCH = (getN s Obj.NTS_EPOCH + 1) % 4294967296 ∧
        getN t Obj.NTS_NEXT_ROTATE = getN s Obj.NTS_NEXT_ROTATE + getN s Obj.NTS_ROTATE * (sec96 : Int) ∧
        frame [.ntp] [Obj.NTS_NEXT_ROTATE, Obj.NTS_EPOCH] s t)))

/-- The rows of "Request handling" are tested in their order (R316): a standby answers nothing, then the length, the checksum, the version
and the mode; each refusal counts in the counter of its row and leaves the rest as it was. The model's own choices in it: log entry 51. -/
def Obligations.NtpRows : Prop :=
  ∀ s x h, x.frame.ip = some h →
    (quiet s = true → ntpRows x s = bump (Obj.NTP_STANDBY_DROP x.port) s) ∧
    (quiet s = false → ntpLenOk x.req = false → ntpRows x s = bump (Obj.NTP_LEN_DROP x.port) s) ∧
    (quiet s = false → ntpLenOk x.req = true → (x.req.csumOk = false ∨ (h.v6 = true ∧ h.csum = 0)) → ntpRows x s = bump (Obj.NTP_CSUM_DROP x.port) s) ∧
    (quiet s = false → ntpLenOk x.req = true → x.req.csumOk = true → h.v6 = false → x.req.vn ≠ 3 → x.req.vn ≠ 4 →
      ntpRows x s = bump (Obj.NTP_VERSION_DROP x.port) s) ∧
    (quiet s = false → ntpLenOk x.req = true → x.req.csumOk = true → h.v6 = false → x.req.vn = 4 → x.req.mode = 6 →
      ntpRows x s = bump (Obj.MODE6_DROP x.port) s) ∧
    (quiet s = false → ntpLenOk x.req = true → x.req.csumOk = true → h.v6 = false → x.req.vn = 4 → x.req.mode = 3 →
      extParse (x.req.ext.map (·.len)) (extLen x.req) = true → getN s (Obj.SVC_NTP x.svc) ≠ 2 →
      ntpRows x s = louvreRow x h s)

/-- The root (R339, R340), the DRBG (R348) and the periodic check of the slots (R346). JTAG (R353, R426) and the pair bond (R354, R355):
the first TCK in PROVISIONED is one C0 event; the TAP is dead outside BLANK and PROVISIONED; a bond not completed in 60 s fails with cause
1 and stores nothing; a completed one takes force at a boundary. The model's own choices in it: log entries 8, 10, 56 and 58. Completion:
`acts c s u` says that exec completes and answers exactly the settled state u; `nextWith` says that exec completes and answers a next
state of which the facts hold. -/
def Obligations.KeyEvents : Prop :=
  (∀ s, up s = true →
    (∀ n ok ber bad, getN s Obj.START_MILESTONE ≠ 2 → acts (.pufRegenerate n ok ber bad) s s) ∧
    (∀ n ber bad, getN s Obj.START_MILESTONE = 2 → s.keys.helper = true →
      acts (.pufRegenerate n false ber bad) s (report 0x0300 4 {} (setN Obj.PUF_ATTEMPTS 3 (setN Obj.PUF_ATTEMPTS (min 3 (max 1 n) : Nat) s)))) ∧
    (∀ n ber, getN s Obj.START_MILESTONE = 2 → s.keys.helper = true → ber ≤ 1500 → s.keys.slots.all (fun k => !k.bad) = true →
      nextWith (exec (.pufRegenerate n true ber []) s) (fun t => getN t Obj.PUF_BER = ber ∧ getN t Obj.PUF_ATTEMPTS = (min 3 (max 1 n) : Nat))) ∧
    (∀ bad, s.now < s.keys.checkTick + 60 * sT → acts (.keySlotCheck bad) s s) ∧
    (s.keys.checkTick + 60 * sT ≤ s.now → milestone s 3 = true →
      acts (.keySlotCheck []) s (slotCheck [] (setN Obj.KEY_CHECK_LAST (mts96 s) (setKeys (fun k => { k with checkTick := s.now }) s)))) ∧
    (∀ f, drbgDown s = false → f ≠ 0 → acts (.drbgReseed f) s (report 0x0500 2 { detail := f } s)) ∧
    (drbgDown s = false → (s.keys.drbgReseed + sT ≤ s.now ∨ 65536 ≤ s.keys.drbgRequests) →
      acts (.drbgReseed 0) s (setKeys (fun k => { k with drbgRequests := 0, drbgReseed := s.now }) s)) ∧
    (drbgDown s = true → nextWith (exec .drbgRestartDone s) (fun t => getN t Obj.DRBG_STATE = 0 ∧ t.keys.drbgRestart = none ∧ t.keys.challenge = none)) ∧
    (drbgDown s = false → acts .drbgRestartDone s s)) ∧
  (∀ s, up s = true →
    (s.keys.tckSeen = true → acts .jtagFirstTck s s) ∧
    (s.keys.tckSeen = false → getN s Obj.LC_STATE = 1 → acts .jtagFirstTck s
      (journal { kind := 7, key := Obj.FAULT_RECORD, new := be 2 0x0400 } (raise 0x0400 0 {} (setKeys (fun k => { k with tckSeen := true }) s)))) ∧
    (∀ b, 1 < getN s Obj.LC_STATE → acts (.jtagTestInstruction b) s s) ∧
    (∀ b, getN s Obj.LC_STATE ≤ 1 → nextWith (exec (.jtagTestInstruction b) s) (fun t =>
      getN t Obj.REMAP_BIT = (if b = false ∧ milestone s 5 = true then 1 else 0) ∧ t.keys = { s.keys with jtagTest := b } ∧
      frame [.keys] [Obj.REMAP_BIT] s t)) ∧
    (∀ x, s.keys.bond = some x → x.keyOk = false → x.began + 60 * sT ≤ s.now →
      nextWith (exec .pairBondTimeout s) (fun t => t.keys = { s.keys with bond := none } ∧ getN t Obj.PAIR_BOND_STATE = 3 ∧ getN t Obj.PAIR_BOND_CAUSE = 1 ∧
        frame [.keys] [Obj.PAIR_BOND_STATE, Obj.PAIR_BOND_CAUSE] s t)) ∧
    (∀ x, s.keys.bond = some x → (x.keyOk = true ∨ s.now < x.began + 60 * sT) → acts .pairBondTimeout s s) ∧
    (∀ x t, s.keys.bond = some x → x.applyFrom = some t → (t + ms48 - 1) / ms48 * ms48 ≤ s.ts.mts → atBoundary s = true →
      nextWith (exec .pairLineageApply s) (fun u => getN u Obj.PAIR_BOND_STATE = 2 ∧ u.keys.lineage = 2 ∧ u.keys.bond = none ∧
        getN u Obj.NTS_LINEAGE_ID = (((slotOf s 2).map (·.keyId)).getD 0 % 65536 : Nat))) ∧
    (atBoundary s = false → acts .pairLineageApply s s))

/-- Tamper (R357, R359–R364, R489): an alarm that is already live changes only the keep counter; a source that is not watched is counted
and acts on nothing; one that ends leaves no LIVE; without VKEEP in service nothing is lost. The model's own choices in it: log entries 9
and 57. Completion: `acts c s u` says that exec completes and answers exactly the settled state u; `nextWith` says that exec completes and
answers a next state of which the facts hold. -/
def Obligations.TamperEvents : Prop :=
  ∀ s (src : Fin 8),
    (∀ keep, getN s (Obj.TAMPER_LIVE src) = 1 → acts (.tamperAlarm src keep) s (setN (Obj.TAMPER_LIVE src) 1 (keepAdvance keep s))) ∧
    (∀ keep, s.mode = .running → getN s (Obj.TAMPER_LIVE src) ≠ 1 → (getNat s Obj.TAMPER_ENABLE).testBit src = false →
      nextWith (exec (.tamperAlarm src keep) s) (fun t => getN t (Obj.TAMPER_LIVE src) = 1 ∧
        getN t (Obj.TAMPER_EVENTS src) = (getN s (Obj.TAMPER_EVENTS src) + 1) % counterMod (Obj.TAMPER_EVENTS src) ∧
        t.keys = s.keys ∧ t.tamper = s.tamper ∧ t.mode = s.mode)) ∧
    (∀ keep, s.mode = .running → milestone s 6 = true → getN s (Obj.TAMPER_LIVE src) ≠ 1 → (getNat s Obj.TAMPER_ENABLE).testBit src = true → src ≠ 5 →
      acts (.tamperAlarm src keep) s (tamperTake src 0 (bump (Obj.TAMPER_EVENTS src) (setN (Obj.TAMPER_LIVE src) 1 (keepAdvance keep s))))) ∧
    nextWith (exec (.tamperAlarmEnd src) s) (fun t => getN t (Obj.TAMPER_LIVE src) = 0 ∧ t.keys = s.keys ∧ t.tamper = s.tamper) ∧
    (s.keep.voltArmed = true → acts .keepVoltArm s s) ∧
    (s.keep.voltArmed = false → (up s = false ∨ s.keep.poweredAt + 10 * msT ≤ s.now) → getN s (Obj.TAMPER_LIVE 5) ≠ 1 →
      acts .keepVoltArm s { s with keep := { s.keep with voltArmed := true } }) ∧
    (s.mode = .running → acts .vkeepLoss s s) ∧
    (s.mode = .unpowered → nextWith (exec .vkeepLoss s) (fun t => getN t Obj.KEEP_VALID = 0 ∧ getN t Obj.KEEP_COUNT = 0 ∧
      t.keep = {} ∧ t.tamper = {} ∧ ∀ k ∈ t.keys.slots, k.id < 248))

/-- The host link (R367, R368): a ninth frame written is an overrun; a frame whose length disagrees is dropped; others wait. A read
empties the read queue front first, and one cut short keeps its frame. Frames of a session (R370, R371): one whose tag fails, that comes
another way, or whose SEQ was seen or is 64 behind is dropped and counted, and changes nothing else; one that is accepted is remembered.
The model's own choices in it: log entries 8 and 110. Completion: `acts c s u` says that exec completes and answers exactly the settled
state u; `nextWith` says that exec completes and answers a next state of which the facts hold. -/
def Obligations.HostLinkFrames : Prop :=
  (∀ s, up s = true →
    (∀ f agree, 8 ≤ s.host.written.length → acts (.writeFrame f agree) s (bump Obj.SPI_OVERRUN s)) ∧
    (∀ f agree, s.host.written.length < 8 → (agree = false ∨ 1408 < f.length) → acts (.writeFrame f agree) s (bump Obj.TRANSOM_LEN_DROP s)) ∧
    (∀ f, s.host.written.length < 8 → f.length ≤ 1408 →
      nextWith (exec (.writeFrame f true) s) (fun t => t.host = { s.host with written := s.host.written ++ [f] } ∧ frame [.host] [] s t)) ∧
    (s.host.read = [] → ∀ w, acts (.readFrame w) s (emit (.hostFrame []) s)) ∧
    (∀ f r, s.host.read = f :: r → acts (.readFrame false) s s) ∧
    (∀ f r, s.host.read = f :: r →
      nextWith (exec (.readFrame true) s) (fun t => t.out = .hostFrame f :: s.out ∧
        t.host = { s.host with read := r ++ s.host.waiting.take 1, waiting := s.host.waiting.drop 1 } ∧ frame [.host, .out] [] s t)) ∧
    nextWith (exec .readStatus s) (fun t => t.out = .hostStatus ((if s.host.read = [] then 0 else 1) + (if s.host.written.length < 8 then 2 else 0)) :: s.out ∧
      frame [.out] [] s t)) ∧
  (∀ h n s0 s, s = takeFrame h s0 → transportOk s h = true → h.udpOk = true → h.bytes ≤ 1408 → h.version = 1 → h.lengthOk = true →
    ((h.tagOk = false ∨ (session s n).state = 0 ∨ (session s n).iface ≠ h.iface ∨
      (h.iface ≠ 3 ∧ ((session s n).peer ≠ h.peer ∨ (session s n).port ≠ h.port))) → acceptFrame h n s0 = (none, bump Obj.FRAME_AUTH_FAIL s)) ∧
    ((session s n).state ≠ 0 → (session s n).iface = h.iface → (session s n).peer = h.peer → (session s n).port = h.port → h.tagOk = true →
      (h.seq + 64 ≤ (session s n).rxHigh ∨ h.seq ∈ (session s n).rxSeen) → acceptFrame h n s0 = (none, bump Obj.FRAME_REPLAY s)) ∧
    ((session s n).state ≠ 0 → (session s n).iface = h.iface → (session s n).peer = h.peer → (session s n).port = h.port → h.tagOk = true →
      (session s n).rxHigh < h.seq + 64 → h.seq ∉ (session s n).rxSeen → 1 ≤ n → n ≤ s.sessions.length →
      ∃ t, (acceptFrame h n s0).1 = some t ∧ h.seq ∈ (session t n).rxSeen ∧ (session t n).rxHigh = max (session s n).rxHigh h.seq ∧
        (session t n).lastAccepted = s.now))

/-- Sessions (R370–R374): an open whose key is unknown, or whose tag is bad, fails and is counted; with no session free it is answered
BUSY; an accepted CLOSE closes with reason 0; the two timeouts close with reason 1. A session that closes is CLOSED: nothing of it is left
but its count of requests (R374), it holds no Latch (R383) and no open group (R389). The model's own choices in it: log entries 8 and 59.
Completion: `acts c s u` says that exec completes and answers exactly the settled state u; `nextWith` says that exec completes and answers
a next state of which the facts hold. -/
def Obligations.SessionEvents : Prop :=
  (∀ s, up s = true →
    (∀ h key nonce s1, frameIn h s = (true, s1) → s1.keys.slots.find? (fun k => decide (k.keyId = key) && credUsable s1 k.id) = none →
      acts (.openReq h key nonce) s (bump Obj.OPEN_FAIL s1)) ∧
    (∀ h key nonce s1 k n, frameIn h s = (true, s1) → s1.keys.slots.find? (fun k => decide (k.keyId = key) && credUsable s1 k.id) = some k →
      h.tagOk = true → sessionsIn s1 1 < 4 → drbgDown s1 = false → lowestFree s1 = some n → s1.sessions.length = 16 →
      nextWith (exec (.openReq h key nonce) s) (fun t => (session t n).state = 1 ∧ (session t n).keyId = key ∧ (session t n).slot = k.id ∧
        (session t n).iface = h.iface ∧ (session t n).peer = h.peer ∧ t.out.head? = some (.openResp h.iface n stOk ((draw s1).1 % 2 ^ 128)))) ∧
    (∀ h key nonce s1 k, frameIn h s = (true, s1) → s1.keys.slots.find? (fun k => decide (k.keyId = key) && credUsable s1 k.id) = some k →
      h.tagOk = true → sessionsIn s1 1 < 4 → drbgDown s1 = false → lowestFree s1 = none →
      nextWith (exec (.openReq h key nonce) s) (fun t => t.sessions = s1.sessions ∧
        t.out.head? = some (.openResp h.iface 0 stBusy ((draw s1).1 % 2 ^ 128)))) ∧
    (∀ h n s1 s2, acceptFrame h n s = (some s1, s2) → acts (.close h n) s (closeSession n 0 s1)) ∧
    (∀ h n s2, acceptFrame h n s = (none, s2) → acts (.close h n) s s2) ∧
    (∀ n : Fin 16, (session s (n.val + 1)).state = 1 → (session s (n.val + 1)).openedTick + 2 * sT ≤ s.now →
      acts (.sessionPendingTimeout n) s (closeSession (n.val + 1) 1 s)) ∧
    (∀ n : Fin 16, (session s (n.val + 1)).state = 2 → (session s (n.val + 1)).lastAccepted + getNat s Obj.TRANSOM_IDLE * sT ≤ s.now →
      acts (.sessionIdleTimeout n) s (closeSession (n.val + 1) 1 s)) ∧
    (∀ n : Fin 16, (session s (n.val + 1)).state ≠ 2 → acts (.sessionIdleTimeout n) s s)) ∧
  (∀ s n reason, 1 ≤ n → n ≤ 16 → s.sessions.length = 16 → (session s n).state ≠ 0 →
    (session (closeSession n reason s) n).state = 0 ∧ (closeSession n reason s).latch.holder ≠ n ∧
    (∀ g ∈ (closeSession n reason s).groups, g.session = n → g.state ≠ 0))

/-- The election of the Latch (R380): a claim on a free Latch opens a window of 500 ms or joins it; one from an observer is ACCESS_DENIED,
one on a held Latch CONFLICT with the holder; at the end of the window its winner takes the Latch and every claim is answered. A release
by another session is NOT_OWNER (R377). The model's own choices in it: log entry 61. Completion: `acts c s u` says that exec completes and
answers exactly the settled state u; `nextWith` says that exec completes and answers a next state of which the facts hold. -/
def Obligations.LatchElection : Prop :=
  ∀ s, up s = true →
    (∀ q s1, acceptedRequest q s = some s1 → recordTests q s1 = stOk → ownerCapable s1 (session s1 q.sess).slot = true → s1.latch.holder = 0 →
      acts (.latchClaim q) s (setN Obj.LATCH_STATE 1 (setLatch (fun l => { l with electionFrom := some (l.electionFrom.getD s1.now), claims := l.claims ++ [(q.sess, q.tag)] })
        (setSession q.sess { session s1 q.sess with inFlight := q.tag :: (session s1 q.sess).inFlight } s1)))) ∧
    (∀ q s1, acceptedRequest q s = some s1 → recordTests q s1 = stOk → ownerCapable s1 (session s1 q.sess).slot = false →
      acts (.latchClaim q) s (reply q 8 stAccessDenied [] s1)) ∧
    (∀ q s1, acceptedRequest q s = some s1 → recordTests q s1 = stOk → ownerCapable s1 (session s1 q.sess).slot = true → s1.latch.holder ≠ 0 →
      acts (.latchClaim q) s (reply q 8 stConflict (be 2 s1.latch.holder) s1)) ∧
    (∀ q s1, acceptedRequest q s = some s1 → recordTests q s1 = stOk → s1.latch.holder ≠ q.sess → acts (.latchRelease q) s (reply q 11 stNotOwner [] s1)) ∧
    (∀ t, s.latch.electionFrom = some t → s.now < t + 500 * msT → acts .latchElectionEnd s s) ∧
    (∀ t, s.latch.electionFrom = some t → t + 500 * msT ≤ s.now → s.latch.claims = [] →
      nextWith (exec .latchElectionEnd s) (fun u => u.latch.electionFrom = none ∧ u.latch.holder = s.latch.holder ∧ getN u Obj.LATCH_STATE = 0)) ∧
    (∀ t, s.latch.electionFrom = some t → t + 500 * msT ≤ s.now →
      acts .latchElectionEnd s (s.latch.claims.foldl (fun a c => answerClaim (winner s s.latch.claims) c a)
        (if winner s s.latch.claims = 0 then setLatch (fun x => { x with electionFrom := none, claims := [] }) (setN Obj.LATCH_STATE 0 s)
          else latchChange (winner s s.latch.claims) (.session (winner s s.latch.claims))
            (setLatch (fun x => { x with electionFrom := none, claims := [] }) (setN Obj.LATCH_STATE 0 s)))))

/-- The winner of a window is one of its claimants, and none of them outranks it (R380). -/
def Obligations.ElectionWinner : Prop :=
  ∀ s (l : List (Nat × Nat)), l ≠ [] → (∀ c ∈ l, c.1 ≠ 0) →
    (∃ c ∈ l, c.1 = winner s l) ∧
    ∀ c ∈ l, getNat s (Obj.CRED_RANK (session s c.1).slot) ≤ getNat s (Obj.CRED_RANK (session s (winner s l)).slot) ∧
      (getNat s (Obj.CRED_RANK (session s c.1).slot) = getNat s (Obj.CRED_RANK (session s (winner s l)).slot) → winner s l ≤ c.1)

/-- Commit groups (R384–R389): opened with a fresh ID, at most 8; a write is added to an open group of the session; a commit answers
PENDING; any owner aborts a group before it is staged; staged between 1,000 ms and 2 ms before AT; applied at the epoch boundary AT. The
model's own choices in it: log entry 62. Completion: `acts c s u` says that exec completes and answers exactly the settled state u. -/
def Obligations.GroupRequests : Prop :=
  ∀ s, up s = true →
    (∀ q s1, acceptedRequest q s = some s1 → ownerTests q s1 = stOk → 8 ≤ s1.groups.length → acts (.groupOpen q) s (reply q 4 stBusy [] s1)) ∧
    (∀ q s1, acceptedRequest q s = some s1 → ownerTests q s1 = stOk → s1.groups.length < 8 →
      acts (.groupOpen q) s (reply q 4 stOk (be 2 (nextGroupId s1))
        { s1 with nextGroup := nextGroupId s1 % 65535 + 1, groups := s1.groups ++ [{ id := nextGroupId s1, session := q.sess, opened := (session s1 q.sess).openedTick }] })) ∧
    (∀ q i j s1 g, acceptedRequest q s = some s1 → tests1to9 q .groupAdd i j s1 = stOk → openGroup s1 q = some g → g.writes.length < 256 →
      (decodeVal (i * 256 + j) (objKind i j) (q.value.take q.valueLen)).1 = stOk →
      ownStatus s1 (i * 256 + j) (decodeVal (i * 256 + j) (objKind i j) (q.value.take q.valueLen)).2 = stOk →
      g.bytes + (q.value.take q.valueLen).length ≤ 16384 →
      acts (.groupAdd q i j) s (answerAdd q (i * 256 + j) stOk (setGroup g.id (fun x =>
        { x with writes := x.writes ++ [{ key := i * 256 + j, val := (decodeVal (i * 256 + j) (objKind i j) (q.value.take q.valueLen)).2 }],
                 bytes := x.bytes + (q.value.take q.valueLen).length }) s1))) ∧
    (∀ q i j s1, acceptedRequest q s = some s1 → tests1to9 q .groupAdd i j s1 = stOk → openGroup s1 q = none →
      acts (.groupAdd q i j) s (answerAdd q (i * 256 + j) stRange s1)) ∧
    (∀ q s1 a g i, acceptedRequest q s = some s1 → ownerTests q s1 = stOk → (q.value.take q.valueLen).length = 12 →
      t96OfBytes (q.value.take q.valueLen) = some a → openGroup s1 q = some g → commitAt s1 a = .inr i → (groupRun { g with atI := i } s1).status = stOk →
      acts (.groupCommit q) s (reply q 6 stPending [] (groupEntry (.session q.sess) stPending g.id (t96Bytes (t96Of i))
        { setGroup g.id (fun x => { x with state := 1, atI := i, order := s1.commits }) s1 with commits := s1.commits + 1 }))) ∧
    (∀ q s1 g, acceptedRequest q s = some s1 → ownerTests q s1 = stOk → groupOf s1 q.group = some g → g.state ≠ 2 →
      acts (.groupAbort q) s (reply q 7 stOk [] (dropGroup g.id s1))) ∧
    (∀ q s1 g, acceptedRequest q s = some s1 → ownerTests q s1 = stOk → groupOf s1 q.group = some g → g.state = 2 →
      acts (.groupAbort q) s (reply q 7 stBusy [] s1)) ∧
    (∀ n g, groupOf s n = some g → g.state = 1 → g.atI ≤ s.ts.mts + 1000 * ms48 → s.ts.mts + 2 * ms48 ≤ g.atI →
      acts (.groupStage n) s (setGroup n (fun x => { x with state := 2 }) s)) ∧
    ((dueGroups s = [] ∨ (boundaryDue s = false ∧ atBoundary s = false)) → acts .groupApply s s) ∧
    ((boundaryDue s = true ∨ atBoundary s = true) → dueGroups s ≠ [] → acts .groupApply s ((dueGroups s).foldl applyGroup (releasesDue s)))

/-- A group is applied whole or not at all (R387): where the check of any of its writes fails, no object changes but what the journal and
the notice of the failure take, and a group not yet staged at AT is late. The model's own choices in it: log entry 62. -/
def Obligations.GroupAllOrNone : Prop :=
  ∀ s g,
    (g.state ≠ 2 → ∀ k, k ≠ Obj.GROUP_LATE → k ≠ Obj.NOTIFY_DROP → getN (applyGroup s g) k = getN s k) ∧
    (g.state = 2 → (groupRun g (dropGroup g.id s)).status ≠ stOk → ∀ k, k ≠ Obj.NOTIFY_DROP → getN (applyGroup s g) k = getN s k) ∧
    (g.state ≠ 2 → getN (applyGroup s g) Obj.GROUP_LATE = (getN s Obj.GROUP_LATE + 1) % counterMod Obj.GROUP_LATE) ∧
    (g.state ≠ 2 → ∀ h ∈ (applyGroup s g).groups, h.id ≠ g.id)

/-- Enrolment (R390): refused on a data port, outside PROVISIONED, once an owner-capable credential exists or while one is under way; the
key is taken from the peer that asked, within 10 s, and ends the enrolment. The model's own choices in it: log entry 63. Completion: `acts
c s u` says that exec completes and answers exactly the settled state u; `nextWith` says that exec completes and answers a next state of
which the facts hold. -/
def Obligations.Enrolment : Prop :=
  ∀ s, up s = true →
    (∀ h point nonce shared s1, frameIn h s = (true, s1) → h.iface = 2 → acts (.enrolReq h point nonce shared) s (bump Obj.ENROL_REFUSED s1)) ∧
    (∀ h point nonce shared s1, frameIn h s = (true, s1) → getN s1 Obj.LC_STATE ≠ 1 → acts (.enrolReq h point nonce shared) s (bump Obj.ENROL_REFUSED s1)) ∧
    (∀ h point nonce shared s1, frameIn h s = (true, s1) → (h.iface = 1 ∨ h.iface = 3) → getN s1 Obj.LC_STATE = 1 →
      s1.keys.slots.any (fun k => ownerCapable s1 k.id) = false → s1.enrol = none → drbgDown s1 = false →
      (useKey 0 useIdentity s1).1 = true →
      nextWith (exec (.enrolReq h point nonce shared) s) (fun t => ∃ e, t.enrol = some e ∧ e.iface = h.iface ∧ e.peer = h.peer ∧ e.began = s.now)) ∧
    (∀ h value ok m s1, frameIn h s = (true, s1) → s1.enrol = none → acts (.enrolKey h value ok m) s s1) ∧
    (∀ h value ok m s1 e, frameIn h s = (true, s1) → s1.enrol = some e → e.iface = h.iface → (h.iface ≠ 3 → e.peer = h.peer) → s1.now ≤ e.began + 10 * sT →
      enrolStatus s1 value ok ≠ stOk →
      nextWith (exec (.enrolKey h value ok m) s) (fun t => t.enrol = none ∧ t.keys = s1.keys ∧ t.out = .enrolDone h.iface (enrolStatus s1 value ok) :: s1.out)) ∧
    (∀ h value ok m s1 e, frameIn h s = (true, s1) → s1.enrol = some e → e.iface = h.iface → (h.iface ≠ 3 → e.peer = h.peer) → s1.now ≤ e.began + 10 * sT →
      enrolStatus s1 value ok = stOk → acts (.enrolKey h value ok m) s (sendOn (peerOf h) false (plainFrame 9 (be 1 stOk))
        (emit (.enrolDone h.iface stOk) (enrolled value m { s1 with enrol := none })))) ∧
    (∀ e, s.enrol = some e → e.began + 10 * sT ≤ s.now → nextWith (exec .enrolTimeout s) (fun t => t.enrol = none ∧ frame [.enrol] [] s t)) ∧
    (s.enrol = none → acts .enrolTimeout s s)

/-- Reads (R375–R378, R398, R408, R409): a READ whose tests pass answers OK with the object's bytes; one whose tests fail answers the
status of the first that does, without a value. A WRITE whose tests pass acts as its object's rule says. The journal by OFFSET (R394,
R395): `JOURNAL_ENTRIES` answers whole entries from the SEQ that OFFSET names, `JOURNAL_KEY` the key of a closed epoch only. The other
reads of one object each act as READ of that object. Keys of the journal's epochs (R394): those of closed epochs are disclosed and no
other; closing discloses one more. The model's own choices in it: log entry 60. Completion: `acts c s u` says that exec completes and
answers exactly the settled state u. -/
def Obligations.Reads : Prop :=
  (∀ s, up s = true →
    (∀ q i j s1 u v, (acceptFrame q.hdr q.sess s).1 = some s1 → q.ordered = false → tests1to9 q .read i j (acceptRequest q.sess s1) = stOk →
      (objKind i j).typ ≠ .dom → (objKind i j).mirrored = false → i * 256 + j ≠ Obj.JOURNAL_ENTRIES → i * 256 + j ≠ Obj.JOURNAL_KEY →
      i * 256 + j ≠ Obj.LC_CHALLENGE → q.offset = 0 → u = agentCount (acceptRequest q.sess s1) →
      v = (if stampedRead (i * 256 + j) then handOnBy 0 u else u) →
      acts (.read q i j) s (respond q 1 stOk i j 1 (readValue v i j).length (readValue v i j) v)) ∧
    (∀ q i j s1, (acceptFrame q.hdr q.sess s).1 = some s1 → q.ordered = false → tests1to9 q .read i j (acceptRequest q.sess s1) ≠ stOk →
      (objKind i j).mirrored = false →
      acts (.read q i j) s (respond q 1 (tests1to9 q .read i j (acceptRequest q.sess s1)) i j 1 0 []
        (countBusy (tests1to9 q .read i j (acceptRequest q.sess s1)) (agentCount (acceptRequest q.sess s1))))) ∧
    (∀ q i j v s2, i * 256 + j ≠ Obj.UPD_STAGE_TRANSOM → (ruleOf (i * 256 + j)).defer = none →
      acceptedWrite q (i * 256 + j) (ruleOf (i * 256 + j)) s = some (v, s2) →
      acts (.write q i j) s (closeMoved s (answer q .write (i * 256 + j) (ruleOf (i * 256 + j)).status (heldBytes s2 (i * 256 + j)) (q.value.take q.valueLen) []
        ((ruleOf (i * 256 + j)).eff v (storeVal (i * 256 + j) v s2)))))) ∧
  (∀ s, up s = true →
    (∀ q s1, (acceptFrame q.hdr q.sess s).1 = some s1 → q.ordered = false →
      tests1to9 q .read (Obj.JOURNAL_ENTRIES / 256) (Obj.JOURNAL_ENTRIES % 256) (acceptRequest q.sess s1) = stOk →
      acts (.journalEntriesRead q) s (respond q 1 (journalRead (agentCount (acceptRequest q.sess s1)) q.offset).1 (Obj.JOURNAL_ENTRIES / 256) (Obj.JOURNAL_ENTRIES % 256)
        (if (journalRead (agentCount (acceptRequest q.sess s1)) q.offset).2.2 then 1 else 0)
        (journalRead (agentCount (acceptRequest q.sess s1)) q.offset).2.1.length (journalRead (agentCount (acceptRequest q.sess s1)) q.offset).2.1
        (agentCount (acceptRequest q.sess s1)))) ∧
    (∀ q s1, (acceptFrame q.hdr q.sess s).1 = some s1 → q.ordered = false →
      tests1to9 q .read (Obj.JOURNAL_KEY / 256) (Obj.JOURNAL_KEY % 256) (acceptRequest q.sess s1) = stOk →
      acts (.journalKeyRead q) s (respond q 1 (keyRead (agentCount (acceptRequest q.sess s1)) q.offset).1 (Obj.JOURNAL_KEY / 256) (Obj.JOURNAL_KEY % 256) 1
        (keyRead (agentCount (acceptRequest q.sess s1)) q.offset).2.length (keyRead (agentCount (acceptRequest q.sess s1)) q.offset).2
        (agentCount (acceptRequest q.sess s1)))) ∧
    (∀ q (n : Fin 5), acts (.pmcSnapshot q n) s (readObject q (0x9840 + n.val) 0x15 s)) ∧
    (∀ q (n : Fin 16), acts (.samplePageRead q n) s (readObject q 0x9811 (n.val + 1) s))) ∧
  (∀ s,
    (∀ e, s.journal.disclosed ≤ e → keyRead s e = (stRange, [])) ∧
    (∀ e, e < s.journal.disclosed → keyRead s e = (stOk, be 16 (epochKey (s.keys.root 3) e))) ∧
    (closeEpoch s).journal.epoch = s.journal.epoch + 1 ∧ (closeEpoch s).journal.disclosed = s.journal.epoch + 1 ∧
    (up s = true → milestone s 6 = true → s.journal.openedAt + getNat s Obj.JOURNAL_EPOCH_PERIOD * sT ≤ s.now →
      acts .journalEpochClose s (closeEpoch s)) ∧
    (up s = true → s.now < s.journal.openedAt + getNat s Obj.JOURNAL_EPOCH_PERIOD * sT → acts .journalEpochClose s s) ∧
    (up s = true → milestone s 6 = true → s.journal.lastTailCopy + 10 * sT ≤ s.now →
      acts .journalTailCopy s { s with journal := { s.journal with tail := newest 8388608 s.journal.ring, lastTailCopy := s.now } }))

/-- One entry (R391–R393): SEQ adds 1, the entry carries the instant, the epoch and the chain over all before it, and nothing but the
journal changes. The model's own choices in it: log entry 8. -/
def Obligations.JournalAppend : Prop :=
  ∀ r s, r.mirror = none → r.time = none →
    (journal r s).journal.next = s.journal.next + 1 ∧
    (∃ e, (journal r s).journal.chain = e.chain ∧ e.seq = s.journal.next ∧ e.kind = r.kind ∧ e.result = r.result ∧ e.time = mts96 s ∧
      e.epoch = s.journal.epoch ∧ e.index = r.key / 256 ∧ e.sub = r.key % 256 ∧ e.old = storedValue r.old ∧ e.new = storedValue r.new ∧
      e.chain = Config.cmac (epochKey (s.keys.root 3) s.journal.epoch) (be 16 s.journal.chain ++ entryBody { e with chain := 0 }) ∧
      ∀ x ∈ (journal r s).journal.ring, x = e ∨ x ∈ s.journal.ring) ∧
    (∀ p, samePart s (journal r s) p) ∧ ∀ k, getN (journal r s) k = getN s k

/-- Statistics (R419) and the configuration in NOR (R403): a snapshot at each multiple of `STAT_PERIOD`, newest first, 64 kept, none for a
second that has had its own (R54); a changed configuration is stored in the copy that is not the newer. The model's own choices in it: log
entries 10, 66 and 70. Completion: `acts c s u` says that exec completes and answers exactly the settled state u; `nextWith` says that
exec completes and answers a next state of which the facts hold. -/
def Obligations.KeptRecords : Prop :=
  ∀ s, up s = true →
    ((mtsSec s % max (getNat s Obj.STAT_PERIOD) 1 ≠ 0 ∨ wasTaken (mtsSec s) s.statsDone = true) → acts .statSnapshot s s) ∧
    (mtsSec s % max (getNat s Obj.STAT_PERIOD) 1 = 0 → s.ts.mts % sec48 < us48 → wasTaken (mtsSec s) s.statsDone = false →
      nextWith (exec .statSnapshot s) (fun t => getN t Obj.STAT_SEQ = (getN s Obj.STAT_SEQ + 1) % 4294967296 ∧ t.stats.tail = s.stats.take 63 ∧
        (t.stats.head?.map (·.takenAt)) = some (mtsSec s * sec96) ∧ frame [.stats] [Obj.STAT_SEQ] s t)) ∧
    ((milestone s 6 = false ∨ configDue s = false) → acts .configStore s s) ∧
    (milestone s 6 = true → configDue s = true →
      nextWith (exec .configStore s) (fun t => t.nor.dirtySince = none ∧
        (∃ c, (t.nor.copyA = some c ∨ t.nor.copyB = some c) ∧ c.crcOk = true ∧ c.nums = configNums s ∧ c.blobs = configBlobs s) ∧
        frame [.nor] [] s t))

/-- Memories (R423–R441): training and the fill of DRAM, the map of milestone 5, a decode fault, retries for parity, a line poisoned, the
scrubber, a page's copy. DMA (R430–R434): a channel that firmware sets up and that no other contends with runs its bursts; a faulty
descriptor, an address no window holds and a poisoned source each stop the channel with their status; the memory's cells keep their
canonical form. The model's own choices in it: log entries 5, 10, 71, 72 and 113. Completion: `acts c s u` says that exec completes and
answers exactly the settled state u; `nextWith` says that exec completes and answers a next state of which the facts hold. -/
def Obligations.MemoryEvents : Prop :=
  (∀ s, up s = true →
    (∀ r, getN s Obj.DRAM_STATE = 0 → milestone s 2 = true → milestone s 5 = false →
      nextWith (exec (.dramTraining true r) s) (fun t => getN t Obj.DRAM_STATE = 1 ∧
        getN t Obj.DRAM_SIZE = (geometrySize (storedGeometry s) : Nat) ∧ frame [] [Obj.DRAM_STATE, Obj.DRAM_SIZE] s t)) ∧
    (getN s Obj.DRAM_STATE = 0 → milestone s 2 = true → milestone s 5 = false →
      acts (.dramTraining false true) s (report 0x2101 1 {} (report 0x2100 1 {} (setN Obj.DRAM_SIZE
        (geometrySize (dfltNum s.variant Obj.DRAM_GEOMETRY).toNat : Nat) (setN Obj.DRAM_STATE 3 s))))) ∧
    (getN s Obj.DRAM_STATE = 0 → milestone s 2 = true → milestone s 5 = false →
      acts (.dramTraining false false) s (report 0x2100 4 {} s)) ∧
    (s.mem.filled = false → getN s Obj.DRAM_STATE = 1 →
      nextWith (exec .dramFillDone s) (fun t => getN t Obj.DRAM_STATE = 2 ∧ t.mem.filled = true ∧ (∀ c ∈ t.mem.cells, c.1 < 0x400000) ∧
        t.mem.remap = s.mem.remap ∧ frame [.mem] [Obj.DRAM_STATE, Obj.REMAP_FREE_DRAM, Obj.REMAP_FREE_SRAM] s t)) ∧
    (getN s Obj.START_MILESTONE = 4 → s.mem.filled = true →
      nextWith (exec .remapBitSet s) (fun t => getN t Obj.REMAP_BIT = (if s.keys.jtagTest then 0 else 1) ∧ getN t Obj.START_MILESTONE = 5 ∧
        frame [.power] [Obj.REMAP_BIT, Obj.START_MILESTONE] s t)) ∧
    (∀ a, accessOk s a = true → acts (.decodeFault a) s s) ∧
    (∀ a, isMaster a.master = true → accessOk s a = false → acts (.decodeFault a) s (dmaMeets 4 a (decodeFault a s))) ∧
    (∀ a (n : Fin 4) o, n.val ≠ 0 → targetOf s a.address = some (.dram o) → acts (.eccCorrectable a n) s (bumpBy Obj.CA_PARITY_RETRY (n.val : Nat) s)) ∧
    (∀ a r, a.access = 2 → a.master < 0x10 → regionOf s a.address = some r → r ≠ 9 → isPoisoned s a.address = true →
      acts (.eccUncorrectable a false) s s) ∧
    (∀ a r, a.access = 2 → a.master < 0x10 → regionOf s a.address = some r → isPoisoned s a.address = false →
      acts (.eccUncorrectable a false) s (poisonLine a s)) ∧
    (∀ m : Fin 4, s.mem.filled = true → (s.mem.scrub.getD m { id := m }).last + scrubGap s m ≤ s.now →
      (s.mem.scrub.getD m { id := m }).line + 1 < scrubLines s m →
      nextWith (exec (.scrubRead m) s) (fun t => t.mem = { s.mem with scrub := modAt m (fun _ =>
        { s.mem.scrub.getD m { id := m } with line := (s.mem.scrub.getD m { id := m }).line + 1, last := s.now }) s.mem.scrub } ∧
        frame [.mem] [] s t)) ∧
    (∀ m : Fin 4, (s.mem.filled = false ∨ s.now < (s.mem.scrub.getD m { id := m }).last + scrubGap s m) → acts (.scrubRead m) s s) ∧
    (∀ c : Fin 2, s.mem.filled = true → (s.mem.scrub.getD c { id := c }).last + scrubGap s c + getNat s Obj.SCRUB_STARVE * usT ≤ s.now →
      acts (.scrubForced c) s (bump Obj.SCRUB_FORCED (scrubLine c s))) ∧
    (∀ e c, s.mem.copies.find? (fun x => x.entry = e) = some c → c.back = true →
      nextWith (exec (.remapCopyDone e) s) (fun t => t.mem.remap = s.mem.remap.filter (fun x => decide (x.entry ≠ e)) ∧
        frame [.mem] [Obj.REMAP_FREE_DRAM, Obj.REMAP_FREE_SRAM] s t)) ∧
    (∀ e c, s.mem.copies.find? (fun x => x.entry = e) = some c → c.back = false →
      nextWith (exec (.remapCopyDone e) s) (fun t => t.mem.remap = insertRemap { entry := e, cause := c.cause, address := c.address, since := mts96 s } s.mem.remap ∧
        getN t Obj.REMAP_DONE = (getN s Obj.REMAP_DONE + 1) % counterMod Obj.REMAP_DONE ∧
        frame [.mem] [Obj.REMAP_FREE_DRAM, Obj.REMAP_FREE_SRAM, Obj.REMAP_DONE] s t))) ∧
  (∀ s (d : Fin 8), up s = true → milestone s 6 = true → s.mem.dmas.length = 8 →
    (∀ f n, (getN s (Obj.DMA_STATE d) = 0 ∨ getN s (Obj.DMA_STATE d) = 3) → (∀ e, e ≠ d.val → dmaActive s e = false) → f.stores = [] →
      acts (.dmaDescriptor d (some f) n) s (dmaBursts n d (dmaFetch d (setN (Obj.DMA_STATE d) 1 (setN (Obj.DMA_STATE d) 1
        (setDma d (fun x => { x with windows := f.windows.take 16, next := some f.first, cur := none }) s)))))) ∧
    (∀ n, (getN s (Obj.DMA_STATE d) = 0 ∨ getN s (Obj.DMA_STATE d) = 3) → acts (.dmaDescriptor d none n) s s) ∧
    (∀ x hit, x.fill = false → translate (dma s d).windows (x.src + x.done) (min 128 (x.len - x.done)) false = none →
      dmaBurst d hit x s = (dmaStop d 2 (x.src + x.done) false x s, none)) ∧
    (∀ status iova a access, getN (dmaHalt d status iova a access s) (Obj.DMA_STATE d) = 3 ∧
      getN (dmaHalt d status iova a access s) (Obj.DMA_LAST_STATUS d) = status) ∧
    (∀ a b, Memory.wf s.mem.cells = true → Memory.wf (writeBytes a b s).mem.cells = true))

/-- The management cores (R442–R453): a frame that is not due changes nothing, one that is due is noted; a stalled core raises its source
and restarts; a core that is back runs again; a sample is held for the ring, or dropped where 8 wait. The model's own choices in it: log
entries 10, 74 and 98. Completion: `acts c s u` says that exec completes and answers exactly the settled state u; `nextWith` says that
exec completes and answers a next state of which the facts hold. -/
def Obligations.CoreEvents : Prop :=
  ∀ s, up s = true →
    (∀ work, (s.now < s.cores.frameAt + msT ∨ milestone s 6 = false) → acts (.schedFrame work) s s) ∧
    (∀ work, s.cores.frameAt + msT ≤ s.now → milestone s 6 = true →
      nextWith (exec (.schedFrame work) s) (fun t => t.cores.frameAt = s.now ∧ t.out = s.out ∧ t.mem = s.mem)) ∧
    (∀ n : Fin 4, milestone s 6 = true → getN s (Obj.CORE_STATE n) = 0 →
      acts (.coreWatchdog n none) s (report (0x2500 + n.val) 2 { detail := getNat s (Obj.CORE_TASK n), master := n.val, access := 4 } s)) ∧
    (milestone s 6 = true → getN s (Obj.CORE_STATE 4) = 0 →
      acts .timeCoreWatchdog s (report 0x2504 2 { detail := getNat s (Obj.CORE_TASK 4), master := 4, access := 4 } s)) ∧
    (∀ n : Fin 5, getN s (Obj.CORE_STATE n) ≠ 2 → acts (.coreRestartDone n) s s) ∧
    (∀ (n m : Fin 5), n ≠ m → getN s (Obj.CORE_STATE n) = 2 → getN s (Obj.CORE_STATE m) = 2 →
      acts (.coreRestartDone n) s (endRestart (0x2500 + n.val) (startClock n (setN (Obj.CORE_STATE n) 0 s)))) ∧
    (∀ x, x.core < 5 → (getNat s Obj.SAMPLE_ENABLE).testBit x.core = true → getN s (Obj.CORE_STATE x.core) = 0 → 8 ≤ s.cores.awaiting.length →
      acts (.instrSample x 0) s (bump Obj.SAMPLE_DROPPED (writeSamples 0 s))) ∧
    (∀ x, x.core < 5 → (getNat s Obj.SAMPLE_ENABLE).testBit x.core = true → getN s (Obj.CORE_STATE x.core) = 0 → s.cores.awaiting.length < 8 →
      nextWith (exec (.instrSample x 0) s) (fun t => t.cores = { s.cores with awaiting := s.cores.awaiting ++ [(getNat s Obj.SAMPLES % 4096, sampleBytes s x)] } ∧
        getN t Obj.SAMPLES = (getN s Obj.SAMPLES + 1) % counterMod Obj.SAMPLES ∧ frame [.cores, .replicas] [Obj.SAMPLES, Obj.SAMPLE_HEAD_SEQ] s t))

/-- Core time of a frame (R443, R444): no more than the running cores have, to a class no more than it offers. -/
def Obligations.FrameBudget : Prop :=
  ∀ s work parked,
    ((frameTime s work parked).map (·.2)).sum ≤ 1000 * coresUp s ∧
    (∀ t g, (t, g) ∈ frameTime s work parked → g ≤ offered s work t) ∧
    (frameTime s work parked).map (·.1) = [1, 2, 3, 4, 5, 6, 7, 8] ∧
    coresUp s ≤ 4

/-- The fault collector (R456–R464, R467): a code absent from the table changes nothing; LEVEL falls and a window ends when W has passed;
a restart that is late raises again; a mismatch of the copies takes the safe state. The model's own choices in it: log entries 10, 12, 75
and 88. Completion: `acts c s u` says that exec completes and answers exactly the settled state u; `nextWith` says that exec completes and
answers a next state of which the facts hold. -/
def Obligations.FaultEvents : Prop :=
  ∀ s, up s = true →
    (∀ src base d a, srcInfo s.variant src = none → acts (.faultRaise src base d a) s s) ∧
    (∀ src base d si, srcInfo s.variant src = some si → si.present = true → (raisedAs s.variant src).contains base = true → milestone s 2 = true →
      base ≠ 0 → src ≠ 0x0800 → acts (.faultRaise src base d none) s (report src base { detail := d } s)) ∧
    (∀ d, milestone s 2 = true → s.ts.mts < mts48Mod →
      acts (.faultRaise 0x0800 4 d none) s (report 0x0800 4 { detail := d % 4294967296 } (shadowSlip d s))) ∧
    (∀ src, (faultOf s src).level ≠ 0 → (faultOf s src).decayFrom + (faultNW s src).2 * sT ≤ s.now →
      nextWith (exec (.faultLevelDecay src) s) (fun t => faultOf t src = { faultOf s src with level := (faultOf s src).level - 1, decayFrom := s.now } ∧
        frame [.faults] [] s t)) ∧
    (∀ src, (faultOf s src).level = 0 → acts (.faultLevelDecay src) s s) ∧
    (∀ src w, (faultOf s src).window = some w → w.openedAt + w.w * sT ≤ s.now →
      nextWith (exec (.faultWindowExpiry src) s) (fun t => faultOf t src = { faultOf s src with window := none } ∧ frame [.faults] [] s t)) ∧
    (∀ u, restarting s u = false → acts (.unitRestartDone u) s s) ∧
    (∀ u, restarting s u = true → u / 256 = 0x24 → acts (.unitRestartDone u) s (endRestart u s)) ∧
    (milestone s 2 = true → nextWith (exec .collectorMismatch s) (fun t => t.mode = .safe ∧ getN t Obj.KEEP_VALID = 0 ∧ t.keep.recA = none ∧
      t.keep.recB = none ∧ t.keep.lastC4.isSome = true ∧ t.groups = [] ∧ t.pins.healthOut = false))

/-- A raise (R456, R461, R463): a C0 event counts and sets nothing; a first raise of a source that may act sets STICKY, captures DETAIL
and the instant, and counts in its class; one more than N in a window raises the class by 1 and LEVEL by 1, up to the cap. The model's own
choices in it: log entry 75. -/
def Obligations.RaiseRules : Prop :=
  ∀ s code si (d : Nat) eff, up s = true → srcInfo s.variant code = some si → si.present = true →
    (getN (raiseWith eff code 0 { detail := d } s) Obj.FAULTS_C0 = (getN s Obj.FAULTS_C0 + 1) % counterMod Obj.FAULTS_C0 ∧
      (faultOf (raiseWith eff code 0 { detail := d } s) code).sticky = (faultOf s code).sticky ∧
      (faultOf (raiseWith eff code 0 { detail := d } s) code).raises = ((faultOf s code).raises + 1) % 4294967296) ∧
    (si.stickyOnly = false → (faultOf s code).sticky = false → (faultOf s code).level = 0 → openWindow s (faultOf s code) = none →
      1 ≤ (faultNW s code).1 → 1 ≤ si.cap.getD 1 →
      (faultOf (raiseWith eff code 1 { detail := d } s) code).sticky = true ∧
      ((faultOf (raiseWith eff code 1 { detail := d } s) code).capture.map (fun c => (c.base, c.info.detail, c.firstAt))) = some (1, d, mts96 s) ∧
      (faultOf (raiseWith eff code 1 { detail := d } s) code).level = 0 ∧
      getN (raiseWith eff code 1 { detail := d } s) Obj.FAULTS_C1 = (getN s Obj.FAULTS_C1 + 1) % counterMod Obj.FAULTS_C1) ∧
    (∀ w c, si.stickyOnly = false → (faultOf s code).level = 0 → openWindow s (faultOf s code) = some w → w.n < w.count + 1 → si.cap = some c →
      1 ≤ c → c ≤ 3 →
      (faultOf (raiseWith (fun _ x => x) code 1 { detail := d } s) code).level = 1 ∧
      (faultOf (raiseWith (fun _ x => x) code 1 { detail := d } s) code).window = none ∧
      (faultOf (raiseWith (fun _ x => x) code 1 { detail := d } s) code).classSticky = some (max (min c 2) ((faultOf s code).classSticky.getD 0)) ∧
      getN (raiseWith (fun _ x => x) code 1 { detail := d } s) Obj.ESCALATIONS = (getN s Obj.ESCALATIONS + 1) % counterMod Obj.ESCALATIONS)

/-- The Hinge (R472–R479): frames that are not authentic are counted and raise source 0x3000; an authentic one of an enabled pair acts and
keeps the lane UP; a heartbeat leaves every 10 µs; 1 ms of frames is UP; the exchanges, the measurement and the self-tests. The model's
own choices in it: log entries 10, 77 and 111. Completion: `acts c s u` says that exec completes and answers exactly the settled state u;
`nextWith` says that exec completes and answers a next state of which the facts hold. -/
def Obligations.HingeEvents : Prop :=
  ∀ s, up s = true →
    (∀ tagged ok b, s.hinge.lane = false → acts (.hingeFrameRx tagged ok b) s s) ∧
    (∀ b, s.hinge.lane = true → acts (.hingeFrameRx true false b) s (hingeAuthFail s)) ∧
    (∀ ok b, s.hinge.lane = true → s.keys.bond = none → acts (.hingeFrameRx false ok b) s (hingeAuthFail s)) ∧
    (∀ b, s.hinge.lane = true → (useKey 2 usePairing s).1 = true → getN s Obj.PAIR_ENABLE = 1 →
      acts (.hingeFrameRx true true b) s (hingeBody b (hingeValid s))) ∧
    (hingeRuns s = true → outputsAbsent s = false → s.hinge.beatTick + 10 * usT ≤ s.now →
      nextWith (exec .hingeHeartbeatTx s) (fun t => t.out = .hinge 0 (be 4 (healthWord s (getNat s Obj.HEALTH_WORD)) ++
        hingeTag s 0 (be 4 (healthWord s (getNat s Obj.HEALTH_WORD)))) :: s.out ∧
        t.hinge = { s.hinge with beatTick := s.now } ∧ frame [.hinge, .out] [] s t)) ∧
    ((hingeRuns s = false ∨ outputsAbsent s = true) → acts .hingeHeartbeatTx s s) ∧
    (∀ t, hingeRuns s = true → hingeUp s = false → s.hinge.validFrom = some t → t + msT ≤ s.now → s.now < s.hinge.lastValid + 100 * usT →
      acts .hingeUp s (decideRole false (setN Obj.HINGE_STATE 1 (setHinge (fun h => { h with
        settled := s.now, copying := true, sentSessions := [], sentSeq := s.journal.next, sentKeys := none })
        { s with ts := { s.ts with prevMeas := none } })))) ∧
    (∀ t1 t2 t3 t4 b, isStandby s = true → hingeRuns s = true → s.hinge.exchTick + 125 * usT ≤ s.now →
      nextWith (exec (.hingeTimeExchange t1 t2 t3 t4 b) s) (fun t => t.hinge.activeBound = b ∧ t.hinge.exchTick = s.now ∧
        t.hinge.exch = (((t4 - t3) - (t2 - t1) + (ps96 (getF s Obj.HINGE_DELAY_TX - getF s Obj.HINGE_DELAY_RX) s).1) :: s.hinge.exch).take 8 ∧
        t.hinge.lastValid = s.now ∧ frame [.hinge, .freeCtr] [] s t)) ∧
    (isStandby s = false → acts .hingeMeasurement s s) ∧
    (isStandby s = true → hingeUp s = true → 8 ≤ s.hinge.exch.length → s.hinge.measTick + msT ≤ s.now → boundFinite s.hinge.activeBound = false →
      acts .hingeMeasurement s (phaseLock (divFree s.hinge.exch.sum 16 s).1 (setN Obj.HINGE_OFFSET (divFree s.hinge.exch.sum 16 s).1
        (setHinge (fun h => { h with measTick := s.now }) (updateBound (divFree s.hinge.exch.sum 16 s).2))))) ∧
    (isStandby s = true → hingeUp s = true → 8 ≤ s.hinge.exch.length → s.hinge.measTick + msT ≤ s.now → boundFinite s.hinge.activeBound = true →
      let q := divFree s.hinge.exch.sum 16 s
      let u := setN Obj.HINGE_OFFSET q.1 (setHinge (fun h => { h with measTick := s.now }) (updateBound q.2))
      let uM := boundM s.hinge.activeBound + 60 + (getF u Obj.HINGE_ASYM_UNC).toNat
      let uP := boundP s.hinge.activeBound + 60 + (getF u Obj.HINGE_ASYM_UNC).toNat
      let m : Meas := { ref := 0xFD, x := q.1, uM := some uM, uP := some uP, atI := s.ts.mts, mark := markNow u }
      testMeas u m = none → acts .hingeMeasurement s (phaseLock q.1 (driveLoop m false (resetBound m uM uP u)))) ∧
    (s.hinge.copying = true → isStandby s = true → hingeUp s = true →
      nextWith (exec .mirrorResyncDone s) (fun t => getN t Obj.MIRROR_RESYNC = (getN s Obj.MIRROR_RESYNC + 1) % counterMod Obj.MIRROR_RESYNC ∧
        t.hinge = { s.hinge with copying := false, sessionsSynced := true } ∧ frame [.hinge] [Obj.MIRROR_RESYNC] s t)) ∧
    (∀ (p : Fin 16), isStandby s = true → p < nPorts s.variant → getN s (Obj.PORT_MODE p) = 0 → s.hinge.prbsTick.getD p 0 = 0 →
      acts (.prbsSelftest p 0) s (setHinge (fun h => { h with prbsTick := h.prbsTick.set p s.now }) s)) ∧
    (isStandby s = true → s.hinge.katTick = 0 → acts (.cryptoKat true) s (setHinge (fun h => { h with katTick := s.now }) s)) ∧
    (getN s Obj.PAIR_ROLE = 2 → hingeUp s = true → hingeRuns s = true → s.hinge.sentKeys = none →
      let b := be 4 (getNat s Obj.NTS_EPOCH) ++ t96Bytes (getNat s Obj.NTS_NEXT_ROTATE) ++ be 4 (getNat s Obj.NTS_ROTATE)
      nextWith (exec .hingeKeysTx s) (fun t => t.out = .hinge 2 (b ++ hingeTag s 2 b) :: s.out ∧ frame [.hinge, .out] [] s t)) ∧
    (getN s Obj.PAIR_ROLE ≠ 2 → acts .hingeKeysTx s s)

/-- Roles and handover (R481–R486): a module with the pair disabled only notes ACTIVE_IN; one that is enabled decides its role; an active
that sees ACTIVE_IN low yields; the request, the instant S, its end, a conflict of the homes. The model's own choices in it: log entries
10 and 76. Completion: `acts c s u` says that exec completes and answers exactly the settled state u; `nextWith` says that exec completes
and answers a next state of which the facts hold. -/
def Obligations.PairRoles : Prop :=
  ∀ s,
    (∀ level, getN s Obj.PAIR_ENABLE = 0 → acts (.activeInChange level) s (setHinge (fun h => { h with activeIn := level }) s)) ∧
    (∀ level, up s = true → getN s Obj.PAIR_ENABLE = 1 → s.hinge.activeIn ≠ level → s.hinge.handover = none →
      acts (.activeInChange level) s (decideRole true (setHinge (fun h => { h with activeIn := level }) s))) ∧
    (∀ level, up s = true → getN s Obj.PAIR_ENABLE = 1 →
      nextWith (exec (.peerHealthInChange level) s) (fun t => getN t Obj.PEER_HEALTH_PIN = (if level then 1 else 0) ∧
        t.hinge = { s.hinge with peerPin := level } ∧ frame [.hinge] [Obj.PEER_HEALTH_PIN] s t)) ∧
    (up s = true → (s.hinge.started = true ∨ milestone s 9 = false) → acts .startRoleDwell s s) ∧
    (up s = true → s.hinge.started = false → milestone s 9 = true → s.hinge.settled + sT ≤ s.now →
      acts .startRoleDwell s (decideRole true (setHinge (fun h => { h with started := true }) s))) ∧
    (up s = true → isStandby s = false → acts .pairWtrExpiry s s) ∧
    (up s = true → isStandby s = true → hingeUp s = true → getN s Obj.PAIR_HOME = 1 → getN s Obj.PAIR_REVERTIVE = 1 →
      getN s Obj.PAIR_WTR_LEFT = 0 → fit s = true → ready s = true → s.hinge.peerHome = false → s.hinge.handover = none →
      nextWith (exec .pairWtrExpiry s) (fun t => t.hinge = { s.hinge with handover := some { mine := true, sec := handoverSecond s } } ∧
        t.out = .hinge 5 (be 6 (handoverSecond s) ++ hingeTag s 5 (be 6 (handoverSecond s))) :: s.out ∧ frame [.hinge, .out] [] s t)) ∧
    (up s = true → (s.hinge.handover = none ∨ atBoundary s = false) → acts .handoverInstant s s) ∧
    (∀ x, up s = true → s.hinge.handover = some x → x.accepted = true → x.acted = none → x.sec * sec48 ≤ s.ts.mts → x.mine = false →
      atBoundary s = true → getN s Obj.PAIR_ROLE = 2 → acts .handoverInstant s (setRole 3 (setHinge (fun h => { h with handover := some { x with acted := some s.now } }) s))) ∧
    (∀ x, up s = true → s.hinge.handover = some x → x.accepted = true → x.acted = none → x.sec * sec48 ≤ s.ts.mts → x.mine = true →
      atBoundary s = true → isStandby s = true → fit s = true → acts .handoverInstant s (becomeActive (setHinge (fun h => { h with
        handover := some { x with acted := some s.now }, ignoreLow := some (s.now + getNat s Obj.PAIR_ARB_TIME * usT) }) s))) ∧
    (∀ x t, up s = true → s.hinge.handover = some x → x.acted = some t → s.now < t + getNat s Obj.PAIR_ARB_TIME * usT →
      acts .handoverArbTimeout s s) ∧
    (∀ x t, up s = true → s.hinge.handover = some x → x.acted = some t → t + getNat s Obj.PAIR_ARB_TIME * usT ≤ s.now → x.mine = false →
      getN s Obj.PAIR_ROLE = 3 → acts .handoverArbTimeout s (arbFault 2 (bump Obj.HANDBACK_FAIL (setHinge (fun h => { h with
        handover := none, ignoreLow := none }) (becomeActive s))))) ∧
    (∀ x t, up s = true → s.hinge.handover = some x → x.acted = some t → t + getNat s Obj.PAIR_ARB_TIME * usT ≤ s.now → x.mine = true →
      s.hinge.activeIn = true → acts .handoverArbTimeout s (handoverDone s)) ∧
    (up s = true → getN s Obj.PAIR_ENABLE = 1 → hingeUp s = true → s.hinge.peerHome = decide (getN s Obj.PAIR_HOME = 1) → s.hinge.conflictTick = none →
      acts .homeConflict s (arbFault 3 (setHinge (fun h => { h with conflictTick := some s.now }) s))) ∧
    (up s = true → getN s Obj.PAIR_ENABLE = 1 → hingeUp s = true → s.hinge.peerHome ≠ decide (getN s Obj.PAIR_HOME = 1) → acts .homeConflict s s)

/-- The role by ACTIVE_IN and the peer's report (R482): an active that sees ACTIVE_IN low is a standby, unless it ignores it (R486); a
standby stays one; a standby that is FIT and sees no active peer takes over (R483); one that is not FIT does not. The model's own choices
in it: log entry 76. -/
def Obligations.RoleDecision : Prop :=
  ∀ s change, getN s Obj.PAIR_ENABLE = 1 → s.hinge.started = true →
    (s.hinge.activeIn = false → getN s Obj.PAIR_ROLE = 1 → decideRole change s = s) ∧
    (s.hinge.activeIn = false → getN s Obj.PAIR_ROLE = 2 → ignoresLow s = false → getN (decideRole change s) Obj.PAIR_ROLE = 1 ∧
      (decideRole change s).hinge.roleTick = s.now) ∧
    (s.hinge.activeIn = false → getN s Obj.PAIR_ROLE = 2 → ignoresLow s = true → decideRole change s = s) ∧
    (s.hinge.activeIn = true → getN s Obj.PAIR_ROLE = 1 → fit s = false → decideRole change s = s) ∧
    (s.hinge.activeIn = true → getN s Obj.PAIR_ROLE = 1 → fit s = true → (hingeUp s = false ∨ peerRole s ≠ 2) →
      getN (decideRole change s) Obj.PAIR_ROLE = 2)

/-- Supplies and reset (R487–R494): a start needs VIN from 6.0 to 40 V with RESET_N high; a reset pulse of less than 500 ns is none, one
of 1 µs is; over-voltage, an unregulated rail and VIN below 4.0 V stop the module. The model's own choices in it: log entries 9, 10, 112
and 114. Completion: `acts c s u` says that exec completes and answers exactly the settled state u; `nextWith` says that exec completes
and answers a next state of which the facts hold. -/
def Obligations.PowerEvents : Prop :=
  ∀ s,
    (∀ vin keep, (vin < 6000 ∨ 40000 < vin ∨ s.power.resetLow = true) → acts (.vinValid vin keep) s s) ∧
    (∀ vin keep, 6000 ≤ vin → vin ≤ 40000 → s.power.resetLow = false → (s.mode = .unpowered ∨ s.mode = .pastS4) → s.update.trial = none → (∀ n, n < 8 → getN s (Obj.TAMPER_LIVE n) ≠ 1) →
      nextWith (exec (.vinValid vin keep) s) (fun t => t.mode = .running ∧ getN t Obj.START_CAUSE = 0 ∧ getN t Obj.START_MILESTONE = 2 ∧
        getN t Obj.VIN_NOW = vin ∧ t.now = 0 ∧ t.sessions.all (fun x => decide (x.state = 0)) = true ∧ t.groups = [] ∧ t.variant = s.variant)) ∧
    (∀ ns taken, ns < 500 → acts (.resetAssert ns taken) s s) ∧
    (∀ ns taken, s.mode = .running → 1000 ≤ ns →
      nextWith (exec (.resetAssert ns taken) s) (fun t => t.mode = .resetHeld ∧ t.power.resetLow = true ∧ t.groups = [] ∧ t.keys = s.keys)) ∧
    (∀ keep, s.mode = .running → acts (.resetRelease keep) s (setPower (fun p => { p with resetLow := false }) s)) ∧
    (∀ keep, s.mode = .resetHeld → s.update.trial = none → (∀ n, n < 8 → getN s (Obj.TAMPER_LIVE n) ≠ 1) →
      nextWith (exec (.resetRelease keep) s) (fun t => t.mode = .running ∧ getN t Obj.START_CAUSE = 1 ∧ getN t Obj.START_MILESTONE = 2 ∧
        t.nor.cleanStop = false ∧ t.power.resetLow = false)) ∧
    (∀ vin, vin ≤ 41000 → acts (.overvoltageStop vin) s s) ∧
    (∀ vin, 41000 < vin → s.mode = .running → nextWith (exec (.overvoltageStop vin) s) (fun t => t.mode = .overVoltage ∧ t.keys.ram = false ∧
      t.groups = [])) ∧
    (∀ vin keep, s.mode = .overVoltage → 6000 ≤ vin → vin ≤ 40000 → s.power.resetLow = false → s.update.trial = none →
      (∀ n, n < 8 → getN s (Obj.TAMPER_LIVE n) ≠ 1) →
      nextWith (exec (.overvoltageRestart vin keep) s) (fun t => t.mode = .running ∧ getN t Obj.START_CAUSE = 0 ∧ getN t Obj.VIN_NOW = vin ∧
        t.nor.cleanStop = false)) ∧
    (∀ mv, up s = true → acts (.railFault 0 mv) s s) ∧
    (∀ (r : Fin 8) mv, up s = true → r.val ≠ 0 → r.val ≠ 1 → r.val ≠ 5 →
      nextWith (exec (.railFault r mv) s) (fun t => t.mode = .safe ∧ getN t (Obj.RAIL_MV r) = (min mv 65535 : Nat))) ∧
    (∀ vin, 4000 ≤ vin → acts (.powerStageStop vin) s s) ∧
    (∀ vin, vin < 4000 → nextWith (exec (.powerStageStop vin) s) (fun t => t.mode = .unpowered ∧ getN t Obj.VIN_NOW = vin ∧ t.keys.ram = false ∧
      t.keep = s.keep ∧ t.power.ddrOn = false))

/-- The start (R64, R65, R496, R497, R511): the bank that the selector names, or the other, or recovery; milestones in their order;
service opens at the grade of R496. The shutters (R498–R501) and the admission of starts (R502): a supply that holds closes nothing; the
first stage closes at VIN below 5.6 V or over the budget; the deepest stage reopens after its dwell; a start waits while the budget is
spent. The model's own choices in it: log entries 3, 10, 78, 87 and 112. Completion: `acts c s u` says that exec completes and answers
exactly the settled state u; `nextWith` says that exec completes and answers a next state of which the facts hold. -/
def Obligations.StartEvents : Prop :=
  (∀ s, up s = true →
    (∀ a b, getN s Obj.START_MILESTONE ≠ 3 → acts (.imageVerify a b) s s) ∧
    (∀ b, getN s Obj.START_MILESTONE = 3 → activeBank s = 0 → (bankOf s 0).comps ≠ [] →
      nextWith (exec (.imageVerify true b) s) (fun t => getN t Obj.START_MILESTONE = 4 ∧ t.update = s.update ∧ frame [.power] [Obj.START_MILESTONE] s t)) ∧
    (getN s Obj.START_MILESTONE = 3 → nextWith (exec (.imageVerify false false) s) (fun t => t.mode = .recovery ∧ getN t Obj.REMAP_BIT = 0 ∧
      getN t (Obj.STAGE_STATE 0) = 1)) ∧
    (getN s Obj.START_MILESTONE ≠ 5 → acts .configLoad s s) ∧
    (getN s Obj.START_MILESTONE = 5 → nextWith (exec .configLoad s) (fun t => 6 ≤ getN t Obj.START_MILESTONE ∧
      t.power.milestones.head?.map (·.1) = some 6)) ∧
    (∀ keep, getN s Obj.START_MILESTONE ≠ 6 → acts (.timeResume keep) s s) ∧
    (s.keep.afresh = true → resume s = setN Obj.RESUME_RESULT 1 (makeUnbounded s)) ∧
    (s.keep.afresh = false → keepRecord s = none → resume s = setN Obj.RESUME_RESULT 2 (makeUnbounded s)) ∧
    (∀ keep, getN s Obj.START_MILESTONE = 6 → getN (resume (keepAdvance keep s)) Obj.PAIR_ENABLE ≠ 1 →
      acts (.timeResume keep) s (startSd (refreshInsts (evalClks (complete 7 (queueStarts (calCheck
        { resume (keepAdvance keep s) with
          keep := { (resume (keepAdvance keep s)).keep with afresh := false }
          hinge := { (resume (keepAdvance keep s)).hinge with settled := (resume (keepAdvance keep s)).now }
          ts := { (resume (keepAdvance keep s)).ts with
            keepMark := ((resume (keepAdvance keep s)).keep.count, (resume (keepAdvance keep s)).ts.run)
            keepLearnTick := (resume (keepAdvance keep s)).now } }))))))) ∧
    7 ≤ getN (complete 7 s) Obj.START_MILESTONE ∧
    (milestone s 7 = true → milestone s 9 = false → getN s Obj.TAMPER_STATE = 0 → atBoundary s = true →
      (getN s Obj.BOUND_GRADE ≤ 2 ∨ serveEarly s = true) → acts .serviceOpen s (refreshInsts (complete 9 s))) ∧
    ((milestone s 7 = false ∨ milestone s 9 = true ∨ getN s Obj.TAMPER_STATE ≠ 0 ∨ atBoundary s = false) → acts .serviceOpen s s)) ∧
  (∀ s, up s = true →
    (∀ vin power, s.power.closed = 0 → 5600 ≤ vin → power ≤ getNat s Obj.POWER_BUDGET →
      nextWith (exec (.shutterClose vin power) s) (fun t => getN t Obj.VIN_NOW = (min vin 65535 : Nat) ∧
        getN t Obj.INPUT_POWER = (min power 4294967295 : Nat) ∧ frame [] [Obj.VIN_NOW, Obj.INPUT_POWER] s t)) ∧
    (∀ vin power, s.power.closed = 0 → 5200 ≤ vin → vin < 5600 →
      nextWith (exec (.shutterClose vin power) s) (fun t => t.power.closed = 1 ∧ getN t Obj.SHUTTER_STAGE = 1 ∧ getN t Obj.SHUTTER_CAUSE = 1 ∧
        getN t Obj.SHUT_S1 = (getN s Obj.SHUT_S1 + 1) % counterMod Obj.SHUT_S1 ∧ t.mode = .running)) ∧
    (∀ vin power, s.power.closed = 0 → 5600 ≤ vin → getNat s Obj.POWER_BUDGET < power →
      nextWith (exec (.shutterClose vin power) s) (fun t => t.power.closed = 1 ∧ getN t Obj.SHUTTER_CAUSE = 2 ∧
        getN t Obj.BUDGET_TRIPS = (getN s Obj.BUDGET_TRIPS + 1) % counterMod Obj.BUDGET_TRIPS)) ∧
    (∀ vin power, s.power.closed = 0 →
      nextWith (exec (.shutterReopen vin power) s) (fun t => getN t Obj.VIN_NOW = (min vin 65535 : Nat) ∧
        getN t Obj.INPUT_POWER = (min power 4294967295 : Nat) ∧ frame [] [Obj.VIN_NOW, Obj.INPUT_POWER] s t)) ∧
    (∀ vin power, s.power.closed = 2 → 5400 ≤ vin → s.power.reopened + sT ≤ s.now →
      nextWith (exec (.shutterReopen vin power) s) (fun t => t.power.closed = 1 ∧ getN t Obj.SHUTTER_STAGE = 1 ∧ t.power.reopened = s.now)) ∧
    (s.power.queue = [] → nextWith (exec .startAdmit s) (fun t => t.power = s.power ∧ frame [] [Obj.INRUSH_QUEUED] s t)) ∧
    (∀ r q, s.power.queue = r :: q → admissible s r = false →
      nextWith (exec .startAdmit s) (fun t => t.power.queue = (r :: q).map (fun x => { x with counted := true }) ∧
        frame [.power] [Obj.INRUSH_QUEUED] s t)) ∧
    (∀ r, s.power.queue = [r] → admissible s r = true → r.unit = 0 →
      nextWith (exec .startAdmit s) (fun t => t.power.queue = [] ∧ t.hinge = { s.hinge with lane := true })) ∧
    ((∀ r ∈ s.power.queue, r.raised = true ∨ s.now ≤ r.since + 100 * msT) → acts .startAdmitTimeout s s))

/-- Updates (R503–R516): a card that is seated is read; a segment streams into slot 1; a staged image takes the first test of "Staging
tests" that it fails; an install, an activation and a trial that runs its course. "Staging tests" in their order (R508): the length, the
format, the variant, the digests, the signature. The model's own choices in it: log entries 8, 10, 81 and 112. Completion: `acts c s u`
says that exec completes and answers exactly the settled state u; `nextWith` says that exec completes and answers a next state of which
the facts hold. -/
def Obligations.UpdateEvents : Prop :=
  (∀ s, up s = true →
    (milestone s 7 = true → nextWith (exec .sdCardDetect s) (fun t => getN t (Obj.STAGE_STATE 0) = 1 ∧ t.update.sdSince = some s.now ∧
      t.update.staged = s.update.staged.set 0 [])) ∧
    (milestone s 7 = false → acts .sdCardDetect s s) ∧
    (∀ b t0, s.update.sdSince = some t0 → s.update.staged.length = 2 →
      nextWith (exec (.sdReadDone (.image b)) s) (fun t => getN t (Obj.STAGE_STATE 0) = 2 ∧ stagedBytes t 0 = b ∧ t.update.sdSince = none ∧
        frame [.update] [Obj.STAGE_STATE 0] s t)) ∧
    (∀ t0, s.update.sdSince = some t0 →
      acts (.sdReadDone .noFile) s (report 0x3900 1 { detail := 2 } (bump Obj.SD_READ_ERR (emptySlot 0 (setUpd (fun u => { u with sdSince := none }) s))))) ∧
    (∀ (n : Fin 2) a b, getN s (Obj.STAGE_STATE n) ≠ 2 → acts (.stageVerifyDone n a b) s s) ∧
    (∀ (n : Fin 2) a b, getN s (Obj.STAGE_STATE n) = 2 → stageTest s (stagedBytes s n) a b ≠ 0 →
      nextWith (exec (.stageVerifyDone n a b) s) (fun t => getN t (Obj.STAGE_STATE n) = 4 ∧
        getN t (Obj.STAGE_CAUSE n) = stageTest s (stagedBytes s n) a b ∧ t.update = s.update)) ∧
    (∀ ok, s.update.installing = none → acts (.installDone ok) s s) ∧
    (∀ n, s.update.installing = some n → n < 2 → getN s (Obj.STAGE_STATE n) = 3 → s.update.autoActivate = false →
      nextWith (exec (.installDone true) s) (fun t => getN t Obj.UPD_STATE = 2 ∧ t.update.installing = none ∧
        t.update.banks = s.update.banks.set (1 - activeBank s) (some (makeBank (stagedBytes s n) (bankOf s (activeBank s)))) ∧
        frame [.update] [Obj.UPD_STATE] s t)) ∧
    (∀ n, s.update.installing = some n →
      acts (.installDone false) s (report 0x3800 1 { detail := 1 - activeBank s } (setJ Obj.UPD_STATE 0 (setUpd (fun u =>
        { u with banks := u.banks.set (1 - activeBank s) (some {}) })
        (setUpd (fun u => { u with installing := none, autoActivate := false }) s))))) ∧
    ((s.update.schedule = none ∨ atBoundary s = false) → acts .updActivation s s) ∧
    (∀ x t, s.update.schedule = some x → x.sec = some t → s.ts.mts < t * sec48 → acts .updActivation s s) ∧
    (∀ x, s.update.schedule = some x → x.sec = none → atBoundary s = true → s.power.closed < 3 → milestone s 6 = true → acts .updActivation s (activate x s)) ∧
    (∀ x t, s.update.schedule = some x → x.sec = some t → t * sec48 ≤ s.ts.mts → atBoundary s = true → s.power.closed < 3 → milestone s 6 = true →
      acts .updActivation s (activate x s)) ∧
    (s.update.trial = none → acts .updTrialExpiry s s) ∧
    (∀ x, s.update.trial = some x → getN s Obj.UPD_STATE = 5 → getN s Obj.UPD_SD_AUTO ≠ 1 → x.since + getNat s Obj.UPD_TRIAL * sT ≤ s.now →
      nextWith (exec .updTrialExpiry s) (fun t => getN t Obj.UPD_STATE = 0 ∧ getN t Obj.UPD_TRIAL_LEFT = 0 ∧ t.update = { s.update with trial := none } ∧
        frame [.update] [Obj.UPD_STATE, Obj.UPD_TRIAL_LEFT] s t)) ∧
    (∀ q s1, (acceptFrame q.hdr q.sess s).1 = some s1 →
      tests1to9 q .write (Obj.UPD_STAGE_TRANSOM / 256) (Obj.UPD_STAGE_TRANSOM % 256) (agentCount (acceptRequest q.sess s1)) = stOk →
      (stageSegment q (agentCount (acceptRequest q.sess s1))).1 = stOk → q.last = false →
      acts (.updStageTransom q) s (respond q 2 stOk (Obj.UPD_STAGE_TRANSOM / 256) (Obj.UPD_STAGE_TRANSOM % 256) 0 0 []
        (stageSegment q (agentCount (acceptRequest q.sess s1))).2))) ∧
  (∀ s b sigOk cosigOk,
    (b.length ≠ fieldU b 8 4 → stageTest s b sigOk cosigOk = 1) ∧
    (b.length = fieldU b 8 4 → contFormat b = false → stageTest s b sigOk cosigOk = 2) ∧
    (b.length = fieldU b 8 4 → contFormat b = true → (fieldU b 7 1).testBit (variantNum s.variant) = false → stageTest s b sigOk cosigOk = 3) ∧
    (stageTest s b sigOk cosigOk = 0 → b.length = fieldU b 8 4 ∧ contFormat b = true ∧ (∀ c ∈ contComps b, be 48 (Config.sha384 c.data) = c.digest) ∧
      sigOk = true ∧ cosignOk s b cosigOk = true ∧
      (s.mode ≠ .recovery → compatible (resultSet (contComps b) (bankOf s (activeBank s))) = true)) ∧
    (∀ l, compatible l = true → ∀ c ∈ l, ∀ d ∈ l, c.id ≠ d.id → d.minPeer.getD (c.id - 1) 0 ≤ c.version))

/-- What the block does by itself completes: for each form, the conditions on the state and the operands alone under which the spec gives
it its own effect, and the next state that `exec` then answers. These forms are the events of the time scale, the channels, the
references, the outputs, the receiver, the ports, the switch, the Sill and the protocol engines. The model's own choices in it: log
entries 9, 10, 14, 15, 16, 26, 27, 29, 30, 32, 33, 36, 37, 39, 40, 42, 43, 44, 45, 46, 47, 48, 52, 90, 92, 95, 97, 101, 103 and 107.
Completion: `acts c s u` says that exec completes and answers exactly the settled state u; `nextWith` says that exec completes and answers
a next state of which the facts hold. -/
def Obligations.EventsComplete : Prop :=
  ∀ s, up s = true →
    (∀ x, boundaryDue s = true → nextWith (exec (.epochBoundary x) s) (fun t => t.ts.lastEpoch = s.ts.mts / ms48)) ∧
    (∀ p, stepDue (incrTake (loopApply s)) = some p →
      nextWith (exec .stepTick s) (fun t => getN t Obj.STEP_STATUS = 2 ∧ getN t Obj.LAST_STEP_OFFSET = p.offset)) ∧
    (∀ (c : Fin 16) k, tdcRuns s c = true → (∀ t, (tdc s c).lastTick = some t → t + 800 ≤ s.now) →
      acts (.tdcEdge c k) s (acceptEdge c k (setTdc c (fun x => { x with index := x.index + 1, seenTick := s.now }) s))) ∧
    (∀ (c : Fin 16) w, atBoundary s = true → (tdc s c).window = some w → w.firstMts + w.max0 * ms48 ≤ s.ts.mts →
      acts (.tdcWindowMax c) s (deliverWindow c w (publishWindow c w s))) ∧
    (∀ (c : Fin 16) hits a b, c < nTdcs s.variant → hits.sum = 16777216 → (tdc s c).ready = none →
      tableOk hits (rangeWith a (rangeWith b (tdc s c).calRange)) = true → acts (.tdcCalHistogramDone c hits a b) s (setTdc c (fun t =>
        { t with ready := some hits, acceptedTick := s.now, readyTemp := s.sensors.die }) s)) ∧
    (∀ (c : Fin 16) h, converting s c = false → (tdc s c).ready = some h →
      nextWith (exec (.tdcCoreSwap c) s) (fun t => t.tdcs = (swapCores c s).tdcs ∧ frame [.tdcs] [] s t)) ∧
    (∀ c : Fin 16, atBoundary s = true → c < nTdcs s.variant → getN s (Obj.TDC_CAL_STATE c) ≠ 1 → getN s (Obj.TDC_CAL_STATE c) ≠ 3 →
      (tdc s c).acceptedTick + 120 * sT ≤ s.now →
      acts (.tdcCalFailed c) s (raise (tdcFault c) 2 { detail := 3 } (setN (Obj.WIN_UNC c) 4294967295
        (discardWindow c (setN (Obj.TDC_CAL_STATE c) 3 s))))) ∧
    (∀ xo die, s.sensors.first = false → s.sensors.xoFailed = false → s.sensors.dieFailed = false →
      (-71680 ≤ xo ∧ xo ≤ 153600 ∧ (xo - s.sensors.lastXo).natAbs ≤ 4096) →
      (-71680 ≤ die ∧ die ≤ 153600 ∧ (die - s.sensors.lastDie).natAbs ≤ 4096) →
      nextWith (exec (.sensorConversion xo die) s) (fun t => t.sensors = { s.sensors with lastXo := xo, lastDie := die })) ∧
    (∀ r : Fin 30, atBoundary s = true → refState s r = 2 → qualDue s r = true →
      nextWith (exec (.refQualified r) s) (fun t => getN t (Obj.REF_STATE r) = 3 ∧ getN t (Obj.REF_WTR_LEFT r) = getF s (Obj.REF_WTR r))) ∧
    (∀ r : Fin 30, atBoundary s = true → (refState s r = 2 ∨ refGood s r = true) → lostDue s r = true →
      acts (.refLost r) s (disqualify r (disqCause s r) s)) ∧
    (∀ (r : Fin 30) t, atBoundary s = true → (ref s r).wtrFrom = some t → (ref s r).wtrLoad ≤ (s.now - t) / sT →
      acts (.refWtrExpiry r) s (setRef r (fun x => { x with wtrFrom := none }) (setN (Obj.REF_WTR_LEFT r) 0 s))) ∧
    (∀ r : Fin 30, atBoundary s = true → refState s r = 6 → requalDue s r = true → acts (.refDisqualHoldExpiry r) s (requalify r s)) ∧
    (atBoundary s = true → getN s Obj.SWITCH_STATE = 1 → s.sel.buildOutFrom + (getF s Obj.BUILD_OUT_MAX).toNat * sT ≤ s.now →
      acts .buildOutTimeout s (bump Obj.BUILD_OUT_TIMEOUT (setN Obj.SWITCH_STATE 0 s))) ∧
    (atBoundary s = true → s.sel.freqSwitch = true → freqSwitchOver s = true →
      acts .freqSwitchDone s (setSel (fun x => { x with freqSwitch := false }) s)) ∧
    (∀ a b : Fin 30, a.val < b.val → atBoundary s = true → (disputeOf s a b).begun = false → comparable s a b = true →
      ((ref s a).newFreq || (ref s b).newFreq) = true → freqFresh s a = true → freqFresh s b = true → disagrees s a b = true →
      (getF s Obj.DISPUTE_PERSIST).toNat ≤ (disputeOf s a b).disagree + 1 →
      acts (.disputeBegin a b) s (beginDispute a b (putDispute { disputeOf s a b with disagree := (disputeOf s a b).disagree + 1, agree := 0 } s))) ∧
    (∀ a b : Fin 30, a.val < b.val → atBoundary s = true → (disputeOf s a b).begun = true → comparable s a b = false →
      acts (.disputeEnd a b) s (endDispute a b s)) ∧
    (∀ (a b : Fin 30) r, a.val < b.val → atBoundary s = true → (disputeOf s a b).begun = true → outvotedIn s (disputeOf s a b) = some r →
      acts (.disputeUnresolved a b) s (voteOn [disputeOf s a b] s)) ∧
    (∀ t, s.sel.interval = some t → t + 64 * sT ≤ s.now → s.sel.intCount ≠ 0 →
      nextWith (exec .learnPoint s) (fun u => u.sel.interval = some s.now ∧ u.sel.intCount = 0 ∧ u.sel.intSum = 0)) ∧
    (s.atom.lastSteer + sT ≤ s.now → getN s Obj.ATOM_STEER_MODE = 2 → atomProfile s = none →
      nextWith (exec .atomSteerUpdate s) (fun t => t.atom.steer = getN s Obj.ATOM_STEER_SET * 1000 ∧ t.atom.lastSteer = s.now)) ∧
    (∀ b, atomProfile s = some b → (fieldU b 8 1).testBit 1 = true → fieldU b 42 2 ≠ 0 →
      (∀ t, s.atom.lastPoll = some t → t + fieldU b 26 2 * msT ≤ s.now) →
      acts .atomStatusPoll s (emit (.uart (expandTpl (uartClamp b (uartRaw b s).1) (slice b (fieldU b 40 2) (fieldU b 42 2)) []))
        (setAtom (fun a => { a with lastPoll := some s.now, awaiting := some s.now }) (uartRaw b s).2))) ∧
    (∀ bytes b, s.atom.profile = some b → containsBytes (slice b (fieldU b 44 2) (fieldU b 46 2)) bytes = true →
      acts (.atomStatusResponse bytes) s (evalAtomLock (setAtom (fun a => { a with awaiting := none, lastMatch := some s.now }) s))) ∧
    (∀ t b, s.atom.awaiting = some t → s.atom.profile = some b → t + fieldU b 48 2 * msT ≤ s.now →
      acts .atomRespTimeout s (bump Obj.ATOM_NO_RESP (setAtom (fun a => { a with awaiting := none }) s))) ∧
    (∀ high, s.atom.profile = none → nextWith (exec (.atomLockChange high) s) (fun t =>
      getN t Obj.ATOM_LOCK_STATE = (if high then 1 else 0) ∧ t.atom = { s.atom with lockHigh := high })) ∧
    (∀ (p : Fin 16) ql e c, p < nPorts s.variant →
      acts (.esmcPduRx p true ql e c) s (esmcEvents (bump (Obj.ESMC_RX p) (setN (Obj.SSM_RX_ECODE p) e.val (setN (Obj.SSM_RX_QL p) ql.val
        (setEsmc p (fun x => { x with lastRx := some s.now, failed := false, rxCascade := c }) s)))))) ∧
    (∀ p : Fin 16, p < nPorts s.variant → portUp s p = true → (∀ t, (esmcOf s p).lastTx = some t → t + sT ≤ s.now) →
      nextWith (exec (.esmcInfoTx p) s) (fun t => getN t (Obj.SSM_TX_QL p) = (txQl s p).1 ∧
        t.out = .esmc p (txQl s p).1 (txQl s p).2.1 false :: s.out)) ∧
    (∀ p : Fin 16, p < nPorts s.variant → (esmcOf s p).failed = false → (esmcOf s p).lastRx.getD s.power.started + 5 * sT ≤ s.now →
      acts (.esmcQlFailed p) s (esmcEvents (bump (Obj.QL_FAILED p) (setEsmc p (fun x => { x with failed := true }) s)))) ∧
    (∀ (n : Fin 4) higher (outer : Fin 3), getN s (Obj.APLL_STATE n) = 0 → 6 ≤ (apll s n).steps →
      nextWith (exec (.apllSearchStep n higher outer) s) (fun t => getN t (Obj.APLL_STATE n) = 1)) ∧
    (∀ (n : Fin 4) diff, getN s (Obj.APLL_STATE n) = 1 → diff ≤ 2 → getNat s (Obj.APLL_LOCK_COUNT n) ≤ (apll s n).good + 1 →
      nextWith (exec (.apllLockWindow n diff) s) (fun t => getN t (Obj.APLL_STATE n) = 2)) ∧
    (∀ c : Fin 12, (clkOut s c).enabled = true → squelched s c = false →
      nextWith (exec (.clkSquelch c) s) (fun t => getN t (Obj.CLK_STATE c) = 1 ∧ frame [] [Obj.CLK_STATE c] s t)) ∧
    (∀ (g : Fin 8) (o : Fin 12) d rest, o.val = g.val + 4 → (pg s g).due = d :: rest → commitDue s d = true → getN s (Obj.PG_MODE g) ≠ 1 →
      acts (.pulseEdgeCommit o) s (pgPublish g (countSquelch (makeEdge s (pgRouteOf s g) (getN s (Obj.PG_POLARITY g)) (getNat s (Obj.PG_WIDTH g)) d)
        (setPg g (fun y => { y with edges := y.edges ++ [makeEdge s (pgRouteOf s g) (getN s (Obj.PG_POLARITY g)) (getNat s (Obj.PG_WIDTH g)) d], due := rest }) s)))) ∧
    (∀ (g : Fin 8) (o : Fin 12) e rest, o.val = g.val + 4 → (pg s g).edges = e :: rest → e.atI ≤ s.ts.mts → e.route = none →
      edgeHidden s e = false → getN s (Obj.PG_MODE g) ≠ 1 →
      acts (.pulseEdgeEmit o) s (bump (Obj.PG_EMITTED g) (setPg g (fun y => { y with edges := rest }) s))) ∧
    (∀ (g : Fin 8) t, (pg s g).anchor = some t → (getN s (Obj.PG_STATE g) = 2 ∨ getN s (Obj.PG_STATE g) = 3) →
      8 * of96 t + 9 * of96 (getNat s (Obj.PG_PERIOD g)) < 8 * s.ts.mts → getNat s (Obj.PG_ALIGN_HOLD g) ≤ (pg s g).misses + 1 →
      nextWith (exec (.alignWindowMiss g) s) (fun u => getN u (Obj.PG_STATE g) = 5)) ∧
    (∀ (t : Fin 2) x rest, (tod s t).due = x :: rest → of96 x.edge + getNat s (Obj.TOD_DELAY t) * us48 ≤ s.ts.mts → silentOutputs s = false →
      outputsAbsent s = false → (tod s t).busyUntil ≤ s.now → getNat s (Obj.TOD_FORMAT t) = 0 →
      nextWith (exec (.todSentenceStart t) s) (fun u => u.out = .sentence t (fntdBytes x (tod s t).seq) :: s.out)) ∧
    (∀ (t : Fin 2) x ago sec p m, todSecond s t x = some sec → s.pulseWait = [p] → p.todin = t → p.said = none → p.tick ≤ s.now - ago →
      s.now - ago ≤ p.tick + getNat s (Obj.TODIN_WINDOW t) * msT → p.meas = some m →
      acts (.todinSentence t x ago) s (queueMeas (saidMeas m p.sec sec) (bump (Obj.TODIN_GOOD t) (setN (Obj.TODIN_LAST_SEC t) sec
        { s with pulseWait := [{ p with said := some sec, meas := none }] })))) ∧
    (gnssRuns s = true →
      (∀ c, acts (.gnssChanAlloc c) s (chanAlloc c s)) ∧
      (∀ n, acts (.gnssNavSecond n) s (navSecond n s)) ∧
      (∀ x, secondOver s (mtsSec s) = false → nextWith (exec (.gnssTimingSolution x) s) (fun t => wasDone (mtsSec s) t.gnss.solved = true ∧
        getN t Obj.GNSS_TM_SEQ = (getN s Obj.GNSS_TM_SEQ + 1) % 4294967296)) ∧
      (∀ t r, s.gnss.ppsNext = (t, false) :: r → t ≤ s.now → getN s Obj.GNSSPPS_ENABLE ≠ 0 → outputsAbsent s = false →
        nextWith (exec .gnssppsEdge s) (fun u => u.gnss = { s.gnss with ppsNext := r } ∧ getN u Obj.GNSSPPS_LAST_EDGE =
          t96Of (s.ts.mts - (s.now - t) * s.ts.incr + getNat s Obj.GNSSPPS_PATH_DELAY * ns48 / 1000))) ∧
      (∀ q : Fin 4, getN s (Obj.ISB_SOLVED_VALID q) = 1 → (isbOf s q).lastInput + 600 * sT ≤ s.now →
        acts (.isbInvalidTimeout q) s (setN (Obj.ISB_SOLVED_UNC q) 4294967295 (setN (Obj.ISB_SOLVED_VALID q) 0
          (setGnss (fun g => { g with isb := modAt q (fun _ => {}) g.isb }) s)))) ∧
      (∀ cur us, getN s Obj.GNSS_ANT_SUPPLY ≠ 0 → s.gnss.antCut = none → cur ≤ getNat s Obj.GNSS_ANT_I_LIMIT * 10 →
        acts (.antCurrentSample cur us) s (setN Obj.GNSS_ANT_STATE (if cur < 30 then 1 else 2)
          (setN Obj.GNSS_ANT_CURRENT (cur % 65536 : Nat) s))) ∧
      (∀ t, s.gnss.antCut = some t → t + 10 * sT ≤ s.now → acts .antSupplyRetry s (setGnss (fun g => { g with antCut := none }) s)) ∧
      (∀ y : Fin 5, acts (.gnssExcludeExpiry y) s
        (setGnss (fun g => { g with excluded := g.excluded.filter (fun p => !decide (p.1 = y.val ∧ p.2 ≤ s.now)) }) s)) ∧
      (∀ l1 l5, l1 ≤ getN s Obj.GNSS_JAM_THRESHOLD → l5 ≤ getN s Obj.GNSS_JAM_THRESHOLD →
        nextWith (exec (.gnssNoiseMeasure l1 l5) s) (fun t => t.gnss = { s.gnss with jam := false } ∧
          getN t Obj.GNSS_JN_L1 = clampInt (-32768) 32767 l1 ∧ getN t Obj.GNSS_JN_L5 = clampInt (-32768) 32767 l5)) ∧
      (∀ t k, s.gnss.snap.armed = some t → t ≤ s.ts.mts → nextSlot s = some k →
        nextWith (exec .gnssSnapStart s) (fun u => getN u (Obj.SNAP_STATE k) = 1 ∧ u.gnss.snap.slot = some k)) ∧
      (∀ data a1 a5 o1 o5 rate k, s.gnss.snap.slot = some k → k < 8 → s.gnss.snap.began + s.gnss.snap.len * msT ≤ s.now →
        nextWith (exec (.gnssSnapComplete data a1 a5 o1 o5 rate) s) (fun u => getN u (Obj.SNAP_STATE k) = 2 ∧ u.gnss.snap.slot = none))) ∧
    (∀ f x, portUp s 16 = true → (port s 16).rx = none → (port s 16).tx = none →
      acts (.frameHeadArrival 16 f x) s
        (setPort 16 (fun y => { y with rx := some { frame := f, maxFrame := getNat s Obj.MAX_FRAME, ts := 0, bound := unbounded80 } }) s)) ∧
    (∀ (p : Fin 17) r e, (port s p).rx = some r → r.core = none → ingress s p r e = .ok → p.val ≠ 16 →
      acts (.rxFrame p e) s (sortPtp (dispatch p r e (bumpBy (Obj.RX_OCTETS p) e.len (bump (Obj.RX_OK p)
        (bumpBy (Obj.SYMBOL_ERR p) e.symbols (setPort p (fun x => { x with rx := none }) s))))))) ∧
    (∀ p : Fin 16, acts (.pauseExpiry p) s
      (setPort p (fun x => { x with paused := x.paused.map (fun t => if t ≤ psNow s then 0 else t) }) s)) ∧
    (∀ (p : Fin 16) o, (port s p).xoff = some o → xoffDue s p = true → o.sent * 5000 + quantaPs s p 32768 ≤ psNow s →
      acts (.backpressureRepeat p) s (sendPause p (getNat s (Obj.PORT_PAUSE p)) 0xFFFF (xoffClasses s p)
        (setPort p (fun x =>
          { x with xoff := some { mode := getNat s (Obj.PORT_PAUSE p), sent := s.now, classes := xoffClasses s p } }) s))) ∧
    (∀ (p : Fin 17) (x : PcsStamp) e u, (port s p).tx = none → u = takeNet p s → portUp u p = true → wireReady u p = true →
      (port u p).ctrl = [] →
      nextHead u p = some (.eng e) → guarded u p (engineTag u p e).2 = false → acts (.txFrameStart p x.block x.place) s (startEngine p e x u)) ∧
    (∀ (p : Fin 16) t i f c, (port s p).tx = some t → t.kind = .copy i → coreFrame s i = some f → t.cut = true → t.stomped = false →
      c ∈ s.sw.copies → c.frame = i → c.out = p → c.started = true → f.written ≤ c.read → c.read < f.cells.length →
      acts (.ctUnderrun p) s (swDerive (setRung p (min 4 (getNat s (Obj.CT_RUNG p) + 1) : Nat) (stompTx p (bump (Obj.UNDERRUN p) s))))) ∧
    (∀ p : Fin 16, 65536 ≤ getNat s (Obj.CT_CLEAN_RUN p) →
      nextWith (exec (.ctRungDown p) s) (fun t => getN t (Obj.CT_RUNG p) = (getNat s (Obj.CT_RUNG p) - 1 : Nat) ∧ getN t (Obj.CT_CLEAN_RUN p) = 0)) ∧
    (∀ p : Fin 17, portUp s p = true → acts (.linkDown p) s (linkLoss p s)) ∧
    (∀ (p : Fin 17) speed full, (port s p).lane = true → (port s p).mode ≠ 0 → (port s p).shut = false → portUp s p = false →
      ((port s p).mode = 2 → speed = 1000 ∧ full = true) →
      nextWith (exec (.linkUp { port := p, speed := speed, full := full }) s) (fun t => getN t (Obj.PORT_LINK p) = 1)) ∧
    (∀ p : Fin 17, closeDue s p = true → nextWith (exec (.portClose p) s) (fun t => getN t (Obj.PORT_LINK p) = 2)) ∧
    (∀ rx tx, acts (.switchCellSlot rx tx) s (cellSlot rx tx s)) ∧
    (∀ (p : Fin 16) i r f, s.sw.backlog = i :: r → coreFrame s i = some f → f.port = p →
      nextWith (exec (.replicateFrame p) s) (fun t => t.sw.copies = s.sw.copies ++
        (f.dests.take 4).map (fun d => { frame := i, out := d.port, inp := p, cls := f.cls, action := d.action, tick := s.now }))) ∧
    (∀ mac vid e, fdbEntry s mac vid = some e → e.static = false → getNat s Obj.FDB_AGE_TIME ≠ 0 →
      e.hit + getNat s Obj.FDB_AGE_TIME * sT ≤ s.now →
      acts (.fdbAgeExpiry mac vid) s (fdbCounts (setSw (fun w => { w with fdb := w.fdb.filter (· ≠ e) }) s))) ∧
    (∀ vlan w r t g, tableWrites s vlan = w :: r → w.commit = some (t, g) → s.sw.frames.any (oldFrame vlan g) = false →
      acts (.tableWriteReturn vlan) s (returnTable vlan s)) ∧
    (∀ vlan w r t g, tableWrites s vlan = w :: r → w.commit = some (t, g) → s.sw.frames = [] → s.sw.copies = [] → s.sw.backlog = [] →
      t + getNat s Obj.SW_GEN_TIMEOUT * msT ≤ s.now →
      nextWith (exec (.tableGenTimeout vlan) s) (fun u => (tableWrites u vlan).length = r.length)) ∧
    acts (.bufEccError .correctable) s (bump Obj.BUF_ECC_CORR s) ∧
    (∀ tag o u c, restarting s 0x1A00 = false → s.crypto.ops.find? (fun o => o.tag = tag && o.started) = some o → o.kind = .cookie c →
      u = serveOps { s with crypto := { s.crypto with ops := s.crypto.ops.filter (fun x => x.tag ≠ tag) } } →
      acts (.cryptoOpComplete tag) s (cookieDone c u)) ∧
    (∀ p : Fin 16, acts (.slotWaitTimeout p) s (((port s p).sillWait.filter (waitedLong s p)).foldl (fun a sf => releaseJob sf (bump (Obj.SLOT_WAIT_DROP p) a))
      (setPort p (fun x => { x with sillWait := x.sillWait.filter (fun sf => !waitedLong s p sf) }) s))) ∧
    (∀ (p : Fin 16) n q, (port s p).slots.find? (fun q => q.num = n.val) = some q → q.started = false → reached s (slotAt q (500 * ns48)) = true →
      acts (.sillReadyDeadline p n) s (testSlot p q true s)) ∧
    (∀ (p : Fin 16) n q, (port s p).tx = none → (port s p).slots.find? (fun q => q.num = n.val) = some q → q.started = false →
      reached s (slotAt q (7 * oct48 s p)) = true → lateReason s p q q.ready.isNone = none →
      acts (.sillPreambleStart p n) s (startTx p q.sf.queue q.sf.len (.launch n) false false (q.sf.launch.getD q.sf.frame) (t96Of (q.l + oct48 s p))
        (setPort p (fun x => { x with slots := x.slots.map (fun y => if y.num = n.val then { y with started := true } else y) }) s))) ∧
    (∀ (p : Fin 16) n q x, (port s p).slots.find? (fun q => q.num = n.val) = some q → q.started = true → reached s q.l = true →
      acts (.sillLaunch p n x) s (serveWait 64 p (finishTx p (launchCheck p q (rawStamp p x true s).1 (rawStamp p x true s).2)))) ∧
    (∀ p : Fin 16, (port s p).winFrom + 10 * msT ≤ s.now → getN s (Obj.LEAD_ADAPT p) = 1 → 0 < (port s p).winLaunched → (port s p).winLate = false →
      2000 ≤ (port s p).winSlack →
      nextWith (exec (.leadAdaptWindow p) s) (fun t => getN t (Obj.LEAD_NOW p) = max (getF s (Obj.LEAD_MIN p)) (getN s (Obj.LEAD_NOW p) - 250))) ∧
    (ptpUp s = true → ∀ (p : Fin 16) x s1 k s2,
      (takeMsg p (fun m => m.msg.typ = 0) s = some (x, s1) → ptpAccept x s1 = (some k, s2) → follows s2 k x = true → grantedBy s2 k 0 x = true →
        x.msg.two = false →
        acts (.ptpSyncRx p) s (acceptSync k x.port x.ts x.bound ((x.msg.ts : Int) + x.msg.corr) x.msg.bound s2)) ∧
      (∀ y, takeMsg p (fun m => m.msg.typ = 8) s = some (x, s1) → ptpAccept x s1 = (some k, s2) → (ptpPort s2 (16 * k + x.port)).sync = some y →
        follows s2 k x = true → grantedBy s2 k 0 x = true → y.seq = x.msg.seq →
        acts (.ptpFollowUpRx p) s (acceptSync k x.port y.t y.bound ((x.msg.ts : Int) + y.corr + x.msg.corr) x.msg.bound
          (setPtpPort (16 * k + x.port) (fun z => { z with sync := none }) s2))) ∧
      (∀ r t3 b3, takeMsg p (fun m => m.msg.typ = 9) s = some (x, s1) → ptpAccept x s1 = (some k, s2) →
        (ptpPort s2 (16 * k + x.port)).req = some r → follows s2 k x = true → grantedBy s2 k 9 x = true → r.seq = x.msg.seq →
        x.msg.req = portIdentity s2 k x.port → r.t = some (t3, b3) → boundFinite b3 = false →
        acts (.ptpDelayRespRx p) s (notePair (16 * k + x.port) x.msg.bound (setPtpPort (16 * k + x.port) (fun y => { y with req := none }) s2))) ∧
      (∀ e b u, takeMsg p (fun m => m.msg.typ = 1) s = some (x, s1) → ptpParse x s1 = (some k, s2) → isP2P s2 k = false →
        ptpState s2 (16 * k + x.port) = 3 → ptpEncap s2 (16 * k + x.port) = 0 →
        takeToken (16 * k + x.port) x.tick (bump (Obj.DREQ_RX (16 * k + x.port)) s2) = (true, u) → takeEvent u = (true, e) →
        authCheck k x.port x.msg e = (true, b) →
        acts (.ptpDelayReqRx p) s (answerDreq k x none (getN (bump (Obj.DREQ_RX (16 * k + x.port)) s2) (Obj.PTPP_LOG_MIN_DREQ (16 * k + x.port))) b)) ∧
      (takeMsg p (fun m => m.msg.typ = 2) s = some (x, s1) → ptpAccept x s1 = (some k, s2) → acts (.ptpPdelayReqRx p) s (pdelayReqRx k x s2)) ∧
      (takeMsg p (fun m => m.msg.typ = 3 || m.msg.typ = 10) s = some (x, s1) → ptpAccept x s1 = (some k, s2) →
        acts (.ptpPdelayRespRx p) s (pdelayRespRx k x s2)) ∧
      (∀ a, takeMsg p (fun m => m.msg.typ = 11) s = some (x, s1) → ptpAccept x s1 = (some k, s2) → grantedBy s2 k 11 x = true → x.msg.ann = some a →
        nextWith (exec (.ptpAnnounceRx p) s) (fun t => getN t (Obj.ANN_RX (16 * k + x.port)) =
          (getN s2 (Obj.ANN_RX (16 * k + x.port)) + 1) % counterMod (Obj.ANN_RX (16 * k + x.port)))) ∧
      (takeMsg p (hasTlv isCancel) s = some (x, s1) → acts (.cancelUnicastTransmission p) s (signaling (fun _ _ _ => isCancel) x s1)) ∧
      (takeMsg p (hasTlv isGrant) s = some (x, s1) → acts (.grantUnicastTransmission p) s (signaling (fun _ _ _ => isGrant) x s1)) ∧
      (∀ u, u = reqStale p s → u.ptpIn.any (hasTlv isCancel) = false → u.ptpIn.any (isRenewal u) = false → ptpUp u = true →
        takeMsg p (hasTlv isRequest) u = some (x, s1) → acts (.requestUnicastTransmission p) s (signaling (fun _ _ _ => isRequest) x s1))) ∧
    (∀ (k : Fin 4) (p : Fin 16) t, ptpUp s = true → (ptpPort s (16 * k.val + p.val)).nextSync = some t → t ≤ mts96 s →
      ptpState s (16 * k.val + p.val) = 3 → ptpEncap s (16 * k.val + p.val) = 0 → quiet s = false → ptpWithheld s k = false →
      acts (.syncDue k p none) s (sendSync k p none (ptpPort s (16 * k.val + p.val)).syncSeq
        (setPtpPort (16 * k.val + p.val) (fun y => { y with syncSeq := (y.syncSeq + 1) % 65536 })
          (setPtpPort (16 * k.val + p.val) (fun y => { y with
            nextSync := some (nextDue t (mts96 s) (logSpan (getN s (Obj.PTPP_LOG_SYNC (16 * k.val + p.val))))) }) s)))) ∧
    (∀ (k : Fin 4) (p : Fin 16) t, ptpUp s = true → (ptpPort s (16 * k.val + p.val)).nextAnn = some t → t ≤ mts96 s →
      ptpState s (16 * k.val + p.val) = 3 → ptpEncap s (16 * k.val + p.val) = 0 → quiet s = false →
      acts (.announceDue k p none) s (sendAnnounce k p none (ptpPort s (16 * k.val + p.val)).annSeq
        (announceData s k (getNat s Obj.BOUND_GRADE) (portServed s p))
        (setPtpPort (16 * k.val + p.val) (fun y => { y with
          nextAnn := some (nextDue t (mts96 s) (logSpan (getN s (Obj.PTPP_LOG_ANNOUNCE (16 * k.val + p.val)))))
          annSeq := (y.annSeq + 1) % 65536 }) s))) ∧
    (∀ (k : Fin 4) (p : Fin 16), ptpUp s = true → isP2P s k = false → (ptpState s (16 * k.val + p.val) = 6 ∨ ptpState s (16 * k.val + p.val) = 5) →
      ptpEncap s (16 * k.val + p.val) = 0 → (ptpPort s (16 * k.val + p.val)).nextReq.getD 0 ≤ mts96 s →
      acts (.delayReqDue k p) s (sendPtp k p none (ptpBase s k p none 1 (ptpPort s (16 * k.val + p.val)).reqSeq 127) 0 0
        (setPtpPort (16 * k.val + p.val) (fun y => { y with
          reqSeq := (y.reqSeq + 1) % 65536, req := some { seq := (ptpPort s (16 * k.val + p.val)).reqSeq }, pdresp := none,
          nextReq := some (mts96 s + logSpan (getN s (Obj.PTPP_LOG_MIN_DREQ (16 * k.val + p.val)))) }) s))) ∧
    (∀ k : Fin 4, ptpUp s = true → acts (.bmcaDecision k) s (bmcaDecision k s)) ∧
    (∀ (k : Fin 4) (p : Fin 16) t, (ptpState s (16 * k.val + p.val) = 6 ∨ ptpState s (16 * k.val + p.val) = 5) →
      (ptpPort s (16 * k.val + p.val)).annUntil = some t → t ≤ s.now →
      nextWith (exec (.announceReceiptTimeout k p) s) (fun u => getN u (Obj.PTPP_STATE (16 * k.val + p.val)) = 1)) ∧
    (∀ (j : Fin 131072) x, sessionAt s j = some x → x.syncG = true → x.syncExp ≤ mtsSec s → x.drespG = false → x.annG = false →
      acts (.grantExpiry j) s (stopGrant j 0 s)) ∧
    (∀ p : Fin 16, nextWith (exec (.ucReqStale p) s) (fun t =>
      t.ptpIn = s.ptpIn.filterMap (fun x => if x.port = p.val && hasTlv isRequest x && stale s x then withoutRequests x else some x))) ∧
    (∀ k : Fin 4, ptpUp s = true → s.ptp.grants = [] → acts (.ucRenewDue k) s (ucRequests k s)) ∧
    (∀ a : Fin 32, getNat s (Obj.SA_ROLL_AT a) ≠ 0 → getNat s (Obj.SA_ROLL_AT a) ≤ mts96 s →
      (s.ptp.sas.getD a { id := a }).rolledAt ≠ getNat s (Obj.SA_ROLL_AT a) → getN s (Obj.SA_NEXT_SLOT a) ≠ 0xFF →
      nextWith (exec (.saKeyRoll a) s) (fun t => getN t (Obj.SA_KEY_SLOT a) = getN s (Obj.SA_NEXT_SLOT a) ∧
        getN t (Obj.SA_KEY_ID a) = getN s (Obj.SA_NEXT_ID a) ∧ getN t (Obj.SA_TX_SEQ a) = 0)) ∧
    (∀ (a : Fin 32) i j t, (s.ptp.sas.getD a { id := a }).prev = some (i, j, t) → t ≤ s.now →
      acts (.saOverlapExpiry a) s (setSa a (fun x => { x with prev := none }) s)) ∧
    ((s.ptp.sessions.map (sessionShed s)).sum + (s.ptp.sessions.map (sessionAnn s)).sum ≤ 16 * shaLanes s * 1785714 →
      acts .shedFactorUpdate s (setPtp (fun x => { x with f := 1 }) s)) ∧
    (∀ (p : Fin 16) x, s.ntpIn.find? (fun x => x.port = p.val) = some x → restarting s 0x1900 = false →
      s.ntp.queue.countP (fun y => y.port = p.val) < 32 →
      nextWith (exec (.ntpRequestRx p) s) (fun t => t.ntpIn = s.ntpIn.erase x ∧ t.ntp = { s.ntp with queue := s.ntp.queue ++ [x] })) ∧
    (∀ (p : Fin 16) x, s.ntp.queue.find? (fun x => x.port = p.val) = some x → (∀ t, s.ntp.taken.getD p none = some t → t + 50 ≤ s.now) →
      restarting s 0x1900 = false →
      acts (.ntpRequestParse p) s (ntpRows x { s with ntp := { s.ntp with queue := s.ntp.queue.erase x, taken := s.ntp.taken.set p (some s.now) } })) ∧
    (atBoundary s = true → getN s Obj.TS_STATE ≠ 0 → s.ntp.rotatedMs ≠ some (s.ts.mts / ms48) → 0 < getN s Obj.NTS_NEXT_ROTATE →
      getNat s Obj.NTS_NEXT_ROTATE ≤ t96Of s.ts.mts →
      nextWith (exec .ntsEpochRotation s) (fun t => getN t Obj.NTS_EPOCH = (getN s Obj.NTS_EPOCH + 1) % 4294967296)) ∧
    (∀ p : Fin 16, nextWith (exec (.ntpShutOrder p) s) (fun t => ∀ n ∈ t.power.notices,
      n.port = p.val → n.ordered + 35 * msT ≤ s.now + getNat s Obj.NTP_SHUT_NOTICE * msT → n.ntpOrdered = true))
end

