-- ==== Sys2Proof/Laws/Store.lean ====
section
/-! SUPPORT. Laws/Store.lean: lookup, insertion and removal in a list of pairs, the object store, and the canonical forms of the
store and of the memory's cells. -/
namespace Sys2Proof.Machine

@[simp] theorem lookupKV_insertKV_same {α : Type} (k : Nat) (v : α) (l : List (Nat × α)) : lookupKV k (insertKV k v l) = some v := by
  induction l with
  | nil => simp [insertKV, lookupKV]
  | cons p r ih =>
    obtain ⟨k', v'⟩ := p
    simp only [insertKV]
    split
    · simp [lookupKV]
    · split
      · simp [lookupKV]
      · rename_i h; simp [lookupKV, ih, Ne.symm h]

@[simp] theorem lookupKV_insertKV_ne {α : Type} {k k' : Nat} (h : k ≠ k') (v : α) (l : List (Nat × α)) :
    lookupKV k' (insertKV k v l) = lookupKV k' l := by
  induction l with
  | nil => simp [insertKV, lookupKV, h]
  | cons p r ih =>
    obtain ⟨j, w⟩ := p
    simp only [insertKV]
    split
    · simp [lookupKV, h]
    · split
      · rename_i e; subst e; simp [lookupKV, h]
      · simp [lookupKV, ih]

theorem lookupKV_eraseKV {α : Type} (k k' : Nat) (l : List (Nat × α)) :
    lookupKV k' (eraseKV k l) = if k' = k then none else lookupKV k' l := by
  induction l with
  | nil => simp [eraseKV, lookupKV]
  | cons p r ih =>
    obtain ⟨j, w⟩ := p
    simp only [eraseKV]
    by_cases hj : j = k
    · subst hj
      by_cases hk : k' = j
      · subst hk; simpa using ih
      · simp [ih, hk, lookupKV, Ne.symm hk]
    · by_cases hk : k' = k
      · subst hk; simp [hj, lookupKV, ih]
      · simp [hj, lookupKV, ih, hk]

theorem lookupKV_eq_none {α : Type} (k : Nat) (l : List (Nat × α)) (h : ∀ p ∈ l, p.1 ≠ k) : lookupKV k l = none := by
  induction l with
  | nil => rfl
  | cons p r ih =>
    obtain ⟨j, w⟩ := p
    simp only [lookupKV]
    rw [if_neg (h (j, w) (by simp))]
    exact ih (fun p hp => h p (by simp [hp]))

/-- Every key of a list with one more entry is the new one or an old one. -/
theorem mem_insertKV {α : Type} (k : Nat) (v : α) (l : List (Nat × α)) (p : Nat × α) (h : p ∈ insertKV k v l) :
    p = (k, v) ∨ p ∈ l := by
  induction l with
  | nil => simpa [insertKV] using h
  | cons q r ih =>
    obtain ⟨j, w⟩ := q
    simp only [insertKV] at h
    split at h
    · simpa using h
    · split at h
      · rcases List.mem_cons.1 h with h | h
        · exact .inl h
        · exact .inr (by simp [h])
      · rcases List.mem_cons.1 h with h | h
        · exact .inr (by simp [h])
        · rcases ih h with h | h
          · exact .inl h
          · exact .inr (by simp [h])

/-- Keys of a list rise strictly. -/
def Rising {α : Type} (l : List (Nat × α)) : Prop := l.Pairwise (fun a b => a.1 < b.1)

theorem rising_insertKV {α : Type} (k : Nat) (v : α) (l : List (Nat × α)) (h : Rising l) : Rising (insertKV k v l) := by
  induction l with
  | nil => simp [insertKV, Rising]
  | cons q r ih =>
    obtain ⟨j, w⟩ := q
    obtain ⟨h1, h2⟩ := List.pairwise_cons.1 h
    simp only [insertKV]
    split
    · rename_i hk
      refine List.pairwise_cons.2 ⟨?_, h⟩
      intro p hp
      rcases List.mem_cons.1 hp with rfl | hp
      · exact hk
      · exact Nat.lt_trans hk (h1 p hp)
    · split
      · rename_i hk; subst hk
        exact List.pairwise_cons.2 ⟨h1, h2⟩
      · refine List.pairwise_cons.2 ⟨?_, ih h2⟩
        intro p hp
        rcases mem_insertKV k v r p hp with rfl | hp
        · simp; omega
        · exact h1 p hp

theorem eraseKV_sublist {α : Type} (k : Nat) (l : List (Nat × α)) : (eraseKV k l).Sublist l := by
  induction l with
  | nil => simp [eraseKV]
  | cons q r ih =>
    obtain ⟨j, w⟩ := q
    simp only [eraseKV]
    split
    · exact List.Sublist.cons _ ih
    · exact List.Sublist.cons_cons _ ih

theorem rising_foldr {α : Type} (l : List (Nat × α)) : Rising (l.foldr (fun p a => insertKV p.1 p.2 a) []) := by
  induction l with
  | nil => simp [Rising]
  | cons p r ih => exact rising_insertKV _ _ _ ih

theorem lookupKV_foldr {α : Type} (k : Nat) (l : List (Nat × α)) :
    lookupKV k (l.foldr (fun p a => insertKV p.1 p.2 a) []) = lookupKV k l := by
  induction l with
  | nil => rfl
  | cons p r ih =>
    obtain ⟨j, w⟩ := p
    simp only [List.foldr_cons, lookupKV]
    by_cases h : j = k
    · subst h; simp
    · simp [h, ih]

theorem lookupKV_filter_rising {α : Type} (f : Nat × α → Bool) (k : Nat) (l : List (Nat × α)) (h : Rising l) :
    lookupKV k (l.filter f) = (lookupKV k l).filter (fun v => f (k, v)) := by
  induction l with
  | nil => rfl
  | cons p r ih =>
    obtain ⟨j, w⟩ := p
    obtain ⟨h1, h2⟩ := List.pairwise_cons.1 h
    by_cases hj : j = k
    · subst hj
      have hn : lookupKV j r = none := lookupKV_eq_none _ _ (fun p hp e => by have := h1 p hp; simp at this; omega)
      by_cases hf : f (j, w) = true
      · simp [List.filter, hf, lookupKV, Option.filter]
      · simp [List.filter, hf, lookupKV, ih h2, hn, Option.filter]
    · by_cases hf : f (j, w) <;> simp [List.filter, hf, lookupKV, hj, ih h2]

/-- The canonical form changes no value. -/
theorem getD_lookupKV_canonNums (v : Variant) (k : Nat) (l : List (Nat × Int)) :
    (lookupKV k (canonNums v l)).getD (dfltNum v k) = (lookupKV k l).getD (dfltNum v k) := by
  unfold canonNums
  rw [lookupKV_filter_rising _ _ _ (rising_foldr l), lookupKV_foldr]
  cases h : lookupKV k l with
  | none => rfl
  | some w =>
    by_cases e : w = dfltNum v k
    · simp [Option.filter, e]
    · simp [Option.filter, e]

theorem storeCanonical_iff (v : Variant) (l : List (Nat × Int)) :
    storeCanonical v l = true ↔ Rising l ∧ ∀ p ∈ l, p.2 ≠ dfltNum v p.1 := by
  induction l with
  | nil => simp [storeCanonical, Rising]
  | cons p r ih =>
    simp only [storeCanonical, Bool.and_eq_true, decide_eq_true_eq, List.all_eq_true, ih, Rising, List.pairwise_cons,
      List.mem_cons, forall_eq_or_imp]
    constructor
    · rintro ⟨⟨a, b⟩, c, d⟩; exact ⟨⟨fun q hq => b q hq, c⟩, a, d⟩
    · rintro ⟨⟨b, c⟩, a, d⟩; exact ⟨⟨a, fun q hq => b q hq⟩, c, d⟩

theorem storeCanonical_canonNums (v : Variant) (l : List (Nat × Int)) : storeCanonical v (canonNums v l) = true := by
  rw [storeCanonical_iff]
  refine ⟨List.Pairwise.sublist List.filter_sublist (rising_foldr l), ?_⟩
  intro p hp
  simpa using (List.mem_filter.1 hp).2

/-! ### Reads and writes of objects -/

@[simp] theorem getN_setN_same (s : State) (k : Nat) (v : Int) : getN (setN k v s) k = v := by simp [getN, setN]

@[simp] theorem getN_setN_ne (s : State) {k k' : Nat} (v : Int) (h : k ≠ k') : getN (setN k v s) k' = getN s k' := by
  simp [getN, setN, h]

theorem getN_setN (s : State) (k k' : Nat) (v : Int) : getN (setN k v s) k' = if k = k' then v else getN s k' := by
  by_cases h : k = k' <;> simp [h]

@[simp] theorem getB_setB_same (s : State) (k : Nat) (b : List Byte) : getB (setB k b s) k = b := by simp [getB, setB]

@[simp] theorem getB_setB_ne (s : State) {k k' : Nat} (b : List Byte) (h : k ≠ k') : getB (setB k b s) k' = getB s k' := by
  simp [getB, setB, h]

/-! ### The cells of the memory -/

theorem memory_wf_iff (l : List Host.Cell) : Memory.wf l = true ↔ Rising l ∧ ∀ c ∈ l, c.2 ≠ 0 := by
  induction l with
  | nil => simp [Memory.wf, Rising]
  | cons c r ih =>
    simp only [Memory.wf, Bool.and_eq_true, decide_eq_true_eq, List.all_eq_true, ih, Rising, List.pairwise_cons,
      List.mem_cons, forall_eq_or_imp]
    constructor
    · rintro ⟨⟨a, b⟩, c', d⟩; exact ⟨⟨fun q hq => b q hq, c'⟩, a, d⟩
    · rintro ⟨⟨b, c'⟩, a, d⟩; exact ⟨⟨a, fun q hq => b q hq⟩, c', d⟩

/-- A cell that takes a byte keeps the canonical form. -/
theorem memory_wf_setCell (a : Nat) (b : Byte) (l : List Host.Cell) (h : Memory.wf l = true) : Memory.wf (setCell a b l) = true := by
  rw [memory_wf_iff] at h ⊢
  unfold setCell
  split
  · exact ⟨List.Pairwise.sublist (eraseKV_sublist a l) h.1, fun c hc => h.2 c ((eraseKV_sublist a l).subset hc)⟩
  · refine ⟨rising_insertKV a b l h.1, fun c hc => ?_⟩
    rcases mem_insertKV a b l c hc with rfl | hc
    · assumption
    · exact h.2 c hc

/-- Cells that are dropped keep the canonical form. -/
theorem memory_wf_filter (f : Host.Cell → Bool) (l : List Host.Cell) (h : Memory.wf l = true) : Memory.wf (l.filter f) = true := by
  rw [memory_wf_iff] at h ⊢
  exact ⟨List.Pairwise.sublist List.filter_sublist h.1, fun c hc => h.2 c (List.mem_filter.1 hc).1⟩

/-- Reading a cell after a write: the byte at its address, every other address as before. -/
theorem lookupKV_setCell (a a' : Nat) (b : Byte) (l : List Host.Cell) :
    (lookupKV a' (setCell a b l)).getD 0 = if a' = a then b else (lookupKV a' l).getD 0 := by
  unfold setCell
  by_cases hb : b = 0
  · rw [if_pos hb, lookupKV_eraseKV]
    by_cases h : a' = a <;> simp [h, hb]
  · rw [if_neg hb]
    by_cases h : a' = a
    · subst h; simp
    · rw [lookupKV_insertKV_ne (Ne.symm h)]; simp [h]

/-- An update that depends on a condition, of a field beside the memory, leaves the memory. -/
theorem mem_ite_setUpd (c : Prop) [Decidable c] (f : Update → Update) (s : State) : (if c then setUpd f s else s).mem = s.mem := by
  split <;> rfl

/-- A byte stored keeps the canonical form, wherever it goes (R424, R428); so do bytes stored one after the other. -/
theorem memory_wf_storeByte (a : Nat) (b : Byte) (s : State) (h : Memory.wf s.mem.cells = true) :
    Memory.wf (storeByte a b s).mem.cells = true := by
  cases ht : targetOf s a with
  | none => simp only [storeByte, ht]; exact h
  | some t =>
    cases t with
    | sram o => simp only [storeByte, ht]; exact memory_wf_setCell _ _ _ h
    | dram o =>
      simp only [storeByte, ht]
      by_cases h7 : dramRegion o = 7
      · rw [if_pos h7]; exact memory_wf_setCell _ _ _ h
      · rw [if_neg h7, mem_ite_setUpd]; exact h
    | _ => simp only [storeByte, ht]; exact h

theorem memory_wf_storeBytes (b : List Byte) : ∀ (a : Nat) (s : State), Memory.wf s.mem.cells = true →
    Memory.wf (storeBytes a b s).mem.cells = true := by
  induction b with
  | nil => exact fun _ _ h => h
  | cons x r ih => exact fun a s h => ih (a + 1) _ (memory_wf_storeByte a x s h)

end Sys2Proof.Machine
end

