-- ==== Sys2Proof/Laws/State.lean ====
section
/-! SUPPORT. Laws/State.lean: what each update of the state leaves: for every field that it does not touch, the field is as before;
the touched field's new value; and no number object changes but by `setN`. True by unfolding; one lemma for each update, one conjunct
for each field. -/
namespace Sys2Proof.Machine

@[simp] theorem setN_keeps (k : Nat) (v : Int) (s : State) :
    (setN k v s).nums = insertKV k v s.nums ∧ (setN k v s).variant = s.variant ∧ (setN k v s).blobs = s.blobs ∧
    (setN k v s).inForce = s.inForce ∧ (setN k v s).mode = s.mode ∧ (setN k v s).now = s.now ∧
    (setN k v s).freeCtr = s.freeCtr ∧ (setN k v s).out = s.out ∧ (setN k v s).journal = s.journal ∧
    (setN k v s).faults = s.faults ∧ (setN k v s).restarts = s.restarts ∧ (setN k v s).restartsDue = s.restartsDue ∧
    (setN k v s).keep = s.keep ∧ (setN k v s).pins = s.pins ∧ (setN k v s).sessions = s.sessions ∧
    (setN k v s).latch = s.latch ∧ (setN k v s).groups = s.groups ∧ (setN k v s).nextGroup = s.nextGroup ∧
    (setN k v s).commits = s.commits ∧ (setN k v s).ts = s.ts ∧ (setN k v s).bound = s.bound ∧
    (setN k v s).replicas = s.replicas ∧ (setN k v s).meas = s.meas ∧ (setN k v s).keys = s.keys ∧
    (setN k v s).tamper = s.tamper ∧ (setN k v s).nor = s.nor ∧ (setN k v s).power = s.power ∧
    (setN k v s).host = s.host ∧ (setN k v s).enrol = s.enrol ∧ (setN k v s).sensors = s.sensors ∧
    (setN k v s).claims = s.claims ∧ (setN k v s).tdcs = s.tdcs ∧ (setN k v s).sel = s.sel ∧ (setN k v s).atom = s.atom ∧
    (setN k v s).esmc = s.esmc ∧ (setN k v s).pulseWait = s.pulseWait ∧ (setN k v s).synth = s.synth ∧
    (setN k v s).gnss = s.gnss ∧ (setN k v s).ports = s.ports ∧ (setN k v s).sw = s.sw ∧ (setN k v s).crypto = s.crypto ∧
    (setN k v s).ptpIn = s.ptpIn ∧ (setN k v s).ntpIn = s.ntpIn ∧ (setN k v s).ptp = s.ptp ∧ (setN k v s).ntp = s.ntp ∧
    (setN k v s).mem = s.mem ∧ (setN k v s).cores = s.cores ∧ (setN k v s).stats = s.stats ∧
    (setN k v s).statsDone = s.statsDone ∧ (setN k v s).hinge = s.hinge ∧ (setN k v s).update = s.update ∧
    (setN k v s).pending = s.pending ∧ (∀ j, getF (setN k v s) j = getF s j) ∧ up (setN k v s) = up s ∧
    (∀ j, getB (setN k v s) j = getB s j) := by
  and_intros <;> first | rfl | exact fun _ => rfl

@[simp] theorem setB_keeps (k : Nat) (b : List Byte) (s : State) :
    (setB k b s).blobs = insertKV k b s.blobs ∧ (setB k b s).variant = s.variant ∧ (setB k b s).nums = s.nums ∧
    (setB k b s).inForce = s.inForce ∧ (setB k b s).mode = s.mode ∧ (setB k b s).now = s.now ∧
    (setB k b s).freeCtr = s.freeCtr ∧ (setB k b s).out = s.out ∧ (setB k b s).journal = s.journal ∧
    (setB k b s).faults = s.faults ∧ (setB k b s).restarts = s.restarts ∧ (setB k b s).restartsDue = s.restartsDue ∧
    (setB k b s).keep = s.keep ∧ (setB k b s).pins = s.pins ∧ (setB k b s).sessions = s.sessions ∧
    (setB k b s).latch = s.latch ∧ (setB k b s).groups = s.groups ∧ (setB k b s).nextGroup = s.nextGroup ∧
    (setB k b s).commits = s.commits ∧ (setB k b s).ts = s.ts ∧ (setB k b s).bound = s.bound ∧
    (setB k b s).replicas = s.replicas ∧ (setB k b s).meas = s.meas ∧ (setB k b s).keys = s.keys ∧
    (setB k b s).tamper = s.tamper ∧ (setB k b s).nor = s.nor ∧ (setB k b s).power = s.power ∧
    (setB k b s).host = s.host ∧ (setB k b s).enrol = s.enrol ∧ (setB k b s).sensors = s.sensors ∧
    (setB k b s).claims = s.claims ∧ (setB k b s).tdcs = s.tdcs ∧ (setB k b s).sel = s.sel ∧ (setB k b s).atom = s.atom ∧
    (setB k b s).esmc = s.esmc ∧ (setB k b s).pulseWait = s.pulseWait ∧ (setB k b s).synth = s.synth ∧
    (setB k b s).gnss = s.gnss ∧ (setB k b s).ports = s.ports ∧ (setB k b s).sw = s.sw ∧ (setB k b s).crypto = s.crypto ∧
    (setB k b s).ptpIn = s.ptpIn ∧ (setB k b s).ntpIn = s.ntpIn ∧ (setB k b s).ptp = s.ptp ∧ (setB k b s).ntp = s.ntp ∧
    (setB k b s).mem = s.mem ∧ (setB k b s).cores = s.cores ∧ (setB k b s).stats = s.stats ∧
    (setB k b s).statsDone = s.statsDone ∧ (setB k b s).hinge = s.hinge ∧ (setB k b s).update = s.update ∧
    (setB k b s).pending = s.pending ∧ (∀ j, getN (setB k b s) j = getN s j) ∧
    (∀ j, getNat (setB k b s) j = getNat s j) ∧ (∀ j, getF (setB k b s) j = getF s j) ∧ up (setB k b s) = up s := by
  and_intros <;> first | rfl | exact fun _ => rfl

@[simp] theorem emit_keeps (o : Out) (s : State) :
    (emit o s).out = o :: s.out ∧ (emit o s).variant = s.variant ∧ (emit o s).nums = s.nums ∧ (emit o s).blobs = s.blobs ∧
    (emit o s).inForce = s.inForce ∧ (emit o s).mode = s.mode ∧ (emit o s).now = s.now ∧ (emit o s).freeCtr = s.freeCtr ∧
    (emit o s).journal = s.journal ∧ (emit o s).faults = s.faults ∧ (emit o s).restarts = s.restarts ∧
    (emit o s).restartsDue = s.restartsDue ∧ (emit o s).keep = s.keep ∧ (emit o s).pins = s.pins ∧
    (emit o s).sessions = s.sessions ∧ (emit o s).latch = s.latch ∧ (emit o s).groups = s.groups ∧
    (emit o s).nextGroup = s.nextGroup ∧ (emit o s).commits = s.commits ∧ (emit o s).ts = s.ts ∧
    (emit o s).bound = s.bound ∧ (emit o s).replicas = s.replicas ∧ (emit o s).meas = s.meas ∧ (emit o s).keys = s.keys ∧
    (emit o s).tamper = s.tamper ∧ (emit o s).nor = s.nor ∧ (emit o s).power = s.power ∧ (emit o s).host = s.host ∧
    (emit o s).enrol = s.enrol ∧ (emit o s).sensors = s.sensors ∧ (emit o s).claims = s.claims ∧
    (emit o s).tdcs = s.tdcs ∧ (emit o s).sel = s.sel ∧ (emit o s).atom = s.atom ∧ (emit o s).esmc = s.esmc ∧
    (emit o s).pulseWait = s.pulseWait ∧ (emit o s).synth = s.synth ∧ (emit o s).gnss = s.gnss ∧
    (emit o s).ports = s.ports ∧ (emit o s).sw = s.sw ∧ (emit o s).crypto = s.crypto ∧ (emit o s).ptpIn = s.ptpIn ∧
    (emit o s).ntpIn = s.ntpIn ∧ (emit o s).ptp = s.ptp ∧ (emit o s).ntp = s.ntp ∧ (emit o s).mem = s.mem ∧
    (emit o s).cores = s.cores ∧ (emit o s).stats = s.stats ∧ (emit o s).statsDone = s.statsDone ∧
    (emit o s).hinge = s.hinge ∧ (emit o s).update = s.update ∧ (emit o s).pending = s.pending ∧
    (∀ j, getN (emit o s) j = getN s j) ∧ (∀ j, getNat (emit o s) j = getNat s j) ∧ (∀ j, getF (emit o s) j = getF s j) ∧
    up (emit o s) = up s ∧ (∀ j, getB (emit o s) j = getB s j) := by
  and_intros <;> first | rfl | exact fun _ => rfl

@[simp] theorem nextFree_keeps (s : State) :
    (nextFree s).freeCtr = s.freeCtr + 1 ∧ (nextFree s).variant = s.variant ∧ (nextFree s).nums = s.nums ∧
    (nextFree s).blobs = s.blobs ∧ (nextFree s).inForce = s.inForce ∧ (nextFree s).mode = s.mode ∧
    (nextFree s).now = s.now ∧ (nextFree s).out = s.out ∧ (nextFree s).journal = s.journal ∧
    (nextFree s).faults = s.faults ∧ (nextFree s).restarts = s.restarts ∧ (nextFree s).restartsDue = s.restartsDue ∧
    (nextFree s).keep = s.keep ∧ (nextFree s).pins = s.pins ∧ (nextFree s).sessions = s.sessions ∧
    (nextFree s).latch = s.latch ∧ (nextFree s).groups = s.groups ∧ (nextFree s).nextGroup = s.nextGroup ∧
    (nextFree s).commits = s.commits ∧ (nextFree s).ts = s.ts ∧ (nextFree s).bound = s.bound ∧
    (nextFree s).replicas = s.replicas ∧ (nextFree s).meas = s.meas ∧ (nextFree s).keys = s.keys ∧
    (nextFree s).tamper = s.tamper ∧ (nextFree s).nor = s.nor ∧ (nextFree s).power = s.power ∧
    (nextFree s).host = s.host ∧ (nextFree s).enrol = s.enrol ∧ (nextFree s).sensors = s.sensors ∧
    (nextFree s).claims = s.claims ∧ (nextFree s).tdcs = s.tdcs ∧ (nextFree s).sel = s.sel ∧ (nextFree s).atom = s.atom ∧
    (nextFree s).esmc = s.esmc ∧ (nextFree s).pulseWait = s.pulseWait ∧ (nextFree s).synth = s.synth ∧
    (nextFree s).gnss = s.gnss ∧ (nextFree s).ports = s.ports ∧ (nextFree s).sw = s.sw ∧ (nextFree s).crypto = s.crypto ∧
    (nextFree s).ptpIn = s.ptpIn ∧ (nextFree s).ntpIn = s.ntpIn ∧ (nextFree s).ptp = s.ptp ∧ (nextFree s).ntp = s.ntp ∧
    (nextFree s).mem = s.mem ∧ (nextFree s).cores = s.cores ∧ (nextFree s).stats = s.stats ∧
    (nextFree s).statsDone = s.statsDone ∧ (nextFree s).hinge = s.hinge ∧ (nextFree s).update = s.update ∧
    (nextFree s).pending = s.pending ∧ (∀ j, getN (nextFree s) j = getN s j) ∧
    (∀ j, getNat (nextFree s) j = getNat s j) ∧ (∀ j, getF (nextFree s) j = getF s j) ∧ up (nextFree s) = up s ∧
    (∀ j, getB (nextFree s) j = getB s j) := by
  and_intros <;> first | rfl | exact fun _ => rfl

@[simp] theorem setSession_keeps (n : Nat) (x : Session) (s : State) :
    (setSession n x s).sessions = s.sessions.set (n - 1) x ∧ (setSession n x s).variant = s.variant ∧
    (setSession n x s).nums = s.nums ∧ (setSession n x s).blobs = s.blobs ∧ (setSession n x s).inForce = s.inForce ∧
    (setSession n x s).mode = s.mode ∧ (setSession n x s).now = s.now ∧ (setSession n x s).freeCtr = s.freeCtr ∧
    (setSession n x s).out = s.out ∧ (setSession n x s).journal = s.journal ∧ (setSession n x s).faults = s.faults ∧
    (setSession n x s).restarts = s.restarts ∧ (setSession n x s).restartsDue = s.restartsDue ∧
    (setSession n x s).keep = s.keep ∧ (setSession n x s).pins = s.pins ∧ (setSession n x s).latch = s.latch ∧
    (setSession n x s).groups = s.groups ∧ (setSession n x s).nextGroup = s.nextGroup ∧
    (setSession n x s).commits = s.commits ∧ (setSession n x s).ts = s.ts ∧ (setSession n x s).bound = s.bound ∧
    (setSession n x s).replicas = s.replicas ∧ (setSession n x s).meas = s.meas ∧ (setSession n x s).keys = s.keys ∧
    (setSession n x s).tamper = s.tamper ∧ (setSession n x s).nor = s.nor ∧ (setSession n x s).power = s.power ∧
    (setSession n x s).host = s.host ∧ (setSession n x s).enrol = s.enrol ∧ (setSession n x s).sensors = s.sensors ∧
    (setSession n x s).claims = s.claims ∧ (setSession n x s).tdcs = s.tdcs ∧ (setSession n x s).sel = s.sel ∧
    (setSession n x s).atom = s.atom ∧ (setSession n x s).esmc = s.esmc ∧ (setSession n x s).pulseWait = s.pulseWait ∧
    (setSession n x s).synth = s.synth ∧ (setSession n x s).gnss = s.gnss ∧ (setSession n x s).ports = s.ports ∧
    (setSession n x s).sw = s.sw ∧ (setSession n x s).crypto = s.crypto ∧ (setSession n x s).ptpIn = s.ptpIn ∧
    (setSession n x s).ntpIn = s.ntpIn ∧ (setSession n x s).ptp = s.ptp ∧ (setSession n x s).ntp = s.ntp ∧
    (setSession n x s).mem = s.mem ∧ (setSession n x s).cores = s.cores ∧ (setSession n x s).stats = s.stats ∧
    (setSession n x s).statsDone = s.statsDone ∧ (setSession n x s).hinge = s.hinge ∧
    (setSession n x s).update = s.update ∧ (setSession n x s).pending = s.pending ∧
    (∀ j, getN (setSession n x s) j = getN s j) ∧ (∀ j, getNat (setSession n x s) j = getNat s j) ∧
    (∀ j, getF (setSession n x s) j = getF s j) ∧ up (setSession n x s) = up s ∧
    (∀ j, getB (setSession n x s) j = getB s j) := by
  and_intros <;> first | rfl | exact fun _ => rfl

@[simp] theorem setLatch_keeps (f : Latch → Latch) (s : State) :
    (setLatch f s).latch = f s.latch ∧ (setLatch f s).variant = s.variant ∧ (setLatch f s).nums = s.nums ∧
    (setLatch f s).blobs = s.blobs ∧ (setLatch f s).inForce = s.inForce ∧ (setLatch f s).mode = s.mode ∧
    (setLatch f s).now = s.now ∧ (setLatch f s).freeCtr = s.freeCtr ∧ (setLatch f s).out = s.out ∧
    (setLatch f s).journal = s.journal ∧ (setLatch f s).faults = s.faults ∧ (setLatch f s).restarts = s.restarts ∧
    (setLatch f s).restartsDue = s.restartsDue ∧ (setLatch f s).keep = s.keep ∧ (setLatch f s).pins = s.pins ∧
    (setLatch f s).sessions = s.sessions ∧ (setLatch f s).groups = s.groups ∧ (setLatch f s).nextGroup = s.nextGroup ∧
    (setLatch f s).commits = s.commits ∧ (setLatch f s).ts = s.ts ∧ (setLatch f s).bound = s.bound ∧
    (setLatch f s).replicas = s.replicas ∧ (setLatch f s).meas = s.meas ∧ (setLatch f s).keys = s.keys ∧
    (setLatch f s).tamper = s.tamper ∧ (setLatch f s).nor = s.nor ∧ (setLatch f s).power = s.power ∧
    (setLatch f s).host = s.host ∧ (setLatch f s).enrol = s.enrol ∧ (setLatch f s).sensors = s.sensors ∧
    (setLatch f s).claims = s.claims ∧ (setLatch f s).tdcs = s.tdcs ∧ (setLatch f s).sel = s.sel ∧
    (setLatch f s).atom = s.atom ∧ (setLatch f s).esmc = s.esmc ∧ (setLatch f s).pulseWait = s.pulseWait ∧
    (setLatch f s).synth = s.synth ∧ (setLatch f s).gnss = s.gnss ∧ (setLatch f s).ports = s.ports ∧
    (setLatch f s).sw = s.sw ∧ (setLatch f s).crypto = s.crypto ∧ (setLatch f s).ptpIn = s.ptpIn ∧
    (setLatch f s).ntpIn = s.ntpIn ∧ (setLatch f s).ptp = s.ptp ∧ (setLatch f s).ntp = s.ntp ∧
    (setLatch f s).mem = s.mem ∧ (setLatch f s).cores = s.cores ∧ (setLatch f s).stats = s.stats ∧
    (setLatch f s).statsDone = s.statsDone ∧ (setLatch f s).hinge = s.hinge ∧ (setLatch f s).update = s.update ∧
    (setLatch f s).pending = s.pending ∧ (∀ j, getN (setLatch f s) j = getN s j) ∧
    (∀ j, getNat (setLatch f s) j = getNat s j) ∧ (∀ j, getF (setLatch f s) j = getF s j) ∧ up (setLatch f s) = up s ∧
    (∀ j, getB (setLatch f s) j = getB s j) := by
  and_intros <;> first | rfl | exact fun _ => rfl

@[simp] theorem setHost_keeps (f : HostLink → HostLink) (s : State) :
    (setHost f s).host = f s.host ∧ (setHost f s).variant = s.variant ∧ (setHost f s).nums = s.nums ∧
    (setHost f s).blobs = s.blobs ∧ (setHost f s).inForce = s.inForce ∧ (setHost f s).mode = s.mode ∧
    (setHost f s).now = s.now ∧ (setHost f s).freeCtr = s.freeCtr ∧ (setHost f s).out = s.out ∧
    (setHost f s).journal = s.journal ∧ (setHost f s).faults = s.faults ∧ (setHost f s).restarts = s.restarts ∧
    (setHost f s).restartsDue = s.restartsDue ∧ (setHost f s).keep = s.keep ∧ (setHost f s).pins = s.pins ∧
    (setHost f s).sessions = s.sessions ∧ (setHost f s).latch = s.latch ∧ (setHost f s).groups = s.groups ∧
    (setHost f s).nextGroup = s.nextGroup ∧ (setHost f s).commits = s.commits ∧ (setHost f s).ts = s.ts ∧
    (setHost f s).bound = s.bound ∧ (setHost f s).replicas = s.replicas ∧ (setHost f s).meas = s.meas ∧
    (setHost f s).keys = s.keys ∧ (setHost f s).tamper = s.tamper ∧ (setHost f s).nor = s.nor ∧
    (setHost f s).power = s.power ∧ (setHost f s).enrol = s.enrol ∧ (setHost f s).sensors = s.sensors ∧
    (setHost f s).claims = s.claims ∧ (setHost f s).tdcs = s.tdcs ∧ (setHost f s).sel = s.sel ∧
    (setHost f s).atom = s.atom ∧ (setHost f s).esmc = s.esmc ∧ (setHost f s).pulseWait = s.pulseWait ∧
    (setHost f s).synth = s.synth ∧ (setHost f s).gnss = s.gnss ∧ (setHost f s).ports = s.ports ∧
    (setHost f s).sw = s.sw ∧ (setHost f s).crypto = s.crypto ∧ (setHost f s).ptpIn = s.ptpIn ∧
    (setHost f s).ntpIn = s.ntpIn ∧ (setHost f s).ptp = s.ptp ∧ (setHost f s).ntp = s.ntp ∧ (setHost f s).mem = s.mem ∧
    (setHost f s).cores = s.cores ∧ (setHost f s).stats = s.stats ∧ (setHost f s).statsDone = s.statsDone ∧
    (setHost f s).hinge = s.hinge ∧ (setHost f s).update = s.update ∧ (setHost f s).pending = s.pending ∧
    (∀ j, getN (setHost f s) j = getN s j) ∧ (∀ j, getNat (setHost f s) j = getNat s j) ∧
    (∀ j, getF (setHost f s) j = getF s j) ∧ up (setHost f s) = up s ∧ (∀ j, getB (setHost f s) j = getB s j) := by
  and_intros <;> first | rfl | exact fun _ => rfl

@[simp] theorem putFault_keeps (f : FaultSrc) (s : State) :
    (putFault f s).faults = insertFault f s.faults ∧ (putFault f s).variant = s.variant ∧ (putFault f s).nums = s.nums ∧
    (putFault f s).blobs = s.blobs ∧ (putFault f s).inForce = s.inForce ∧ (putFault f s).mode = s.mode ∧
    (putFault f s).now = s.now ∧ (putFault f s).freeCtr = s.freeCtr ∧ (putFault f s).out = s.out ∧
    (putFault f s).journal = s.journal ∧ (putFault f s).restarts = s.restarts ∧
    (putFault f s).restartsDue = s.restartsDue ∧ (putFault f s).keep = s.keep ∧ (putFault f s).pins = s.pins ∧
    (putFault f s).sessions = s.sessions ∧ (putFault f s).latch = s.latch ∧ (putFault f s).groups = s.groups ∧
    (putFault f s).nextGroup = s.nextGroup ∧ (putFault f s).commits = s.commits ∧ (putFault f s).ts = s.ts ∧
    (putFault f s).bound = s.bound ∧ (putFault f s).replicas = s.replicas ∧ (putFault f s).meas = s.meas ∧
    (putFault f s).keys = s.keys ∧ (putFault f s).tamper = s.tamper ∧ (putFault f s).nor = s.nor ∧
    (putFault f s).power = s.power ∧ (putFault f s).host = s.host ∧ (putFault f s).enrol = s.enrol ∧
    (putFault f s).sensors = s.sensors ∧ (putFault f s).claims = s.claims ∧ (putFault f s).tdcs = s.tdcs ∧
    (putFault f s).sel = s.sel ∧ (putFault f s).atom = s.atom ∧ (putFault f s).esmc = s.esmc ∧
    (putFault f s).pulseWait = s.pulseWait ∧ (putFault f s).synth = s.synth ∧ (putFault f s).gnss = s.gnss ∧
    (putFault f s).ports = s.ports ∧ (putFault f s).sw = s.sw ∧ (putFault f s).crypto = s.crypto ∧
    (putFault f s).ptpIn = s.ptpIn ∧ (putFault f s).ntpIn = s.ntpIn ∧ (putFault f s).ptp = s.ptp ∧
    (putFault f s).ntp = s.ntp ∧ (putFault f s).mem = s.mem ∧ (putFault f s).cores = s.cores ∧
    (putFault f s).stats = s.stats ∧ (putFault f s).statsDone = s.statsDone ∧ (putFault f s).hinge = s.hinge ∧
    (putFault f s).update = s.update ∧ (putFault f s).pending = s.pending ∧ (∀ j, getN (putFault f s) j = getN s j) ∧
    (∀ j, getNat (putFault f s) j = getNat s j) ∧ (∀ j, getF (putFault f s) j = getF s j) ∧ up (putFault f s) = up s ∧
    (∀ j, getB (putFault f s) j = getB s j) := by
  and_intros <;> first | rfl | exact fun _ => rfl

@[simp] theorem setReplica_keeps (id : Nat) (f : Replica → Replica) (s : State) :
    (setReplica id f s).variant = s.variant ∧ (setReplica id f s).nums = s.nums ∧ (setReplica id f s).blobs = s.blobs ∧
    (setReplica id f s).inForce = s.inForce ∧ (setReplica id f s).mode = s.mode ∧ (setReplica id f s).now = s.now ∧
    (setReplica id f s).freeCtr = s.freeCtr ∧ (setReplica id f s).out = s.out ∧ (setReplica id f s).journal = s.journal ∧
    (setReplica id f s).faults = s.faults ∧ (setReplica id f s).restarts = s.restarts ∧
    (setReplica id f s).restartsDue = s.restartsDue ∧ (setReplica id f s).keep = s.keep ∧
    (setReplica id f s).pins = s.pins ∧ (setReplica id f s).sessions = s.sessions ∧ (setReplica id f s).latch = s.latch ∧
    (setReplica id f s).groups = s.groups ∧ (setReplica id f s).nextGroup = s.nextGroup ∧
    (setReplica id f s).commits = s.commits ∧ (setReplica id f s).ts = s.ts ∧ (setReplica id f s).bound = s.bound ∧
    (setReplica id f s).meas = s.meas ∧ (setReplica id f s).keys = s.keys ∧ (setReplica id f s).tamper = s.tamper ∧
    (setReplica id f s).nor = s.nor ∧ (setReplica id f s).power = s.power ∧ (setReplica id f s).host = s.host ∧
    (setReplica id f s).enrol = s.enrol ∧ (setReplica id f s).sensors = s.sensors ∧
    (setReplica id f s).claims = s.claims ∧ (setReplica id f s).tdcs = s.tdcs ∧ (setReplica id f s).sel = s.sel ∧
    (setReplica id f s).atom = s.atom ∧ (setReplica id f s).esmc = s.esmc ∧ (setReplica id f s).pulseWait = s.pulseWait ∧
    (setReplica id f s).synth = s.synth ∧ (setReplica id f s).gnss = s.gnss ∧ (setReplica id f s).ports = s.ports ∧
    (setReplica id f s).sw = s.sw ∧ (setReplica id f s).crypto = s.crypto ∧ (setReplica id f s).ptpIn = s.ptpIn ∧
    (setReplica id f s).ntpIn = s.ntpIn ∧ (setReplica id f s).ptp = s.ptp ∧ (setReplica id f s).ntp = s.ntp ∧
    (setReplica id f s).mem = s.mem ∧ (setReplica id f s).cores = s.cores ∧ (setReplica id f s).stats = s.stats ∧
    (setReplica id f s).statsDone = s.statsDone ∧ (setReplica id f s).hinge = s.hinge ∧
    (setReplica id f s).update = s.update ∧ (setReplica id f s).pending = s.pending ∧
    (∀ j, getN (setReplica id f s) j = getN s j) ∧ (∀ j, getNat (setReplica id f s) j = getNat s j) ∧
    (∀ j, getF (setReplica id f s) j = getF s j) ∧ up (setReplica id f s) = up s ∧
    (∀ j, getB (setReplica id f s) j = getB s j) := by
  and_intros <;> first | rfl | exact fun _ => rfl

@[simp] theorem setTdc_keeps (c : Nat) (f : Tdc → Tdc) (s : State) :
    (setTdc c f s).tdcs = modAt c f s.tdcs ∧ (setTdc c f s).variant = s.variant ∧ (setTdc c f s).nums = s.nums ∧
    (setTdc c f s).blobs = s.blobs ∧ (setTdc c f s).inForce = s.inForce ∧ (setTdc c f s).mode = s.mode ∧
    (setTdc c f s).now = s.now ∧ (setTdc c f s).freeCtr = s.freeCtr ∧ (setTdc c f s).out = s.out ∧
    (setTdc c f s).journal = s.journal ∧ (setTdc c f s).faults = s.faults ∧ (setTdc c f s).restarts = s.restarts ∧
    (setTdc c f s).restartsDue = s.restartsDue ∧ (setTdc c f s).keep = s.keep ∧ (setTdc c f s).pins = s.pins ∧
    (setTdc c f s).sessions = s.sessions ∧ (setTdc c f s).latch = s.latch ∧ (setTdc c f s).groups = s.groups ∧
    (setTdc c f s).nextGroup = s.nextGroup ∧ (setTdc c f s).commits = s.commits ∧ (setTdc c f s).ts = s.ts ∧
    (setTdc c f s).bound = s.bound ∧ (setTdc c f s).replicas = s.replicas ∧ (setTdc c f s).meas = s.meas ∧
    (setTdc c f s).keys = s.keys ∧ (setTdc c f s).tamper = s.tamper ∧ (setTdc c f s).nor = s.nor ∧
    (setTdc c f s).power = s.power ∧ (setTdc c f s).host = s.host ∧ (setTdc c f s).enrol = s.enrol ∧
    (setTdc c f s).sensors = s.sensors ∧ (setTdc c f s).claims = s.claims ∧ (setTdc c f s).sel = s.sel ∧
    (setTdc c f s).atom = s.atom ∧ (setTdc c f s).esmc = s.esmc ∧ (setTdc c f s).pulseWait = s.pulseWait ∧
    (setTdc c f s).synth = s.synth ∧ (setTdc c f s).gnss = s.gnss ∧ (setTdc c f s).ports = s.ports ∧
    (setTdc c f s).sw = s.sw ∧ (setTdc c f s).crypto = s.crypto ∧ (setTdc c f s).ptpIn = s.ptpIn ∧
    (setTdc c f s).ntpIn = s.ntpIn ∧ (setTdc c f s).ptp = s.ptp ∧ (setTdc c f s).ntp = s.ntp ∧
    (setTdc c f s).mem = s.mem ∧ (setTdc c f s).cores = s.cores ∧ (setTdc c f s).stats = s.stats ∧
    (setTdc c f s).statsDone = s.statsDone ∧ (setTdc c f s).hinge = s.hinge ∧ (setTdc c f s).update = s.update ∧
    (setTdc c f s).pending = s.pending ∧ (∀ j, getN (setTdc c f s) j = getN s j) ∧
    (∀ j, getNat (setTdc c f s) j = getNat s j) ∧ (∀ j, getF (setTdc c f s) j = getF s j) ∧ up (setTdc c f s) = up s ∧
    (∀ j, getB (setTdc c f s) j = getB s j) := by
  and_intros <;> first | rfl | exact fun _ => rfl

@[simp] theorem setRef_keeps (r : Nat) (f : Ref → Ref) (s : State) :
    (setRef r f s).variant = s.variant ∧ (setRef r f s).nums = s.nums ∧ (setRef r f s).blobs = s.blobs ∧
    (setRef r f s).inForce = s.inForce ∧ (setRef r f s).mode = s.mode ∧ (setRef r f s).now = s.now ∧
    (setRef r f s).freeCtr = s.freeCtr ∧ (setRef r f s).out = s.out ∧ (setRef r f s).journal = s.journal ∧
    (setRef r f s).faults = s.faults ∧ (setRef r f s).restarts = s.restarts ∧
    (setRef r f s).restartsDue = s.restartsDue ∧ (setRef r f s).keep = s.keep ∧ (setRef r f s).pins = s.pins ∧
    (setRef r f s).sessions = s.sessions ∧ (setRef r f s).latch = s.latch ∧ (setRef r f s).groups = s.groups ∧
    (setRef r f s).nextGroup = s.nextGroup ∧ (setRef r f s).commits = s.commits ∧ (setRef r f s).ts = s.ts ∧
    (setRef r f s).bound = s.bound ∧ (setRef r f s).replicas = s.replicas ∧ (setRef r f s).meas = s.meas ∧
    (setRef r f s).keys = s.keys ∧ (setRef r f s).tamper = s.tamper ∧ (setRef r f s).nor = s.nor ∧
    (setRef r f s).power = s.power ∧ (setRef r f s).host = s.host ∧ (setRef r f s).enrol = s.enrol ∧
    (setRef r f s).sensors = s.sensors ∧ (setRef r f s).claims = s.claims ∧ (setRef r f s).tdcs = s.tdcs ∧
    (setRef r f s).atom = s.atom ∧ (setRef r f s).esmc = s.esmc ∧ (setRef r f s).pulseWait = s.pulseWait ∧
    (setRef r f s).synth = s.synth ∧ (setRef r f s).gnss = s.gnss ∧ (setRef r f s).ports = s.ports ∧
    (setRef r f s).sw = s.sw ∧ (setRef r f s).crypto = s.crypto ∧ (setRef r f s).ptpIn = s.ptpIn ∧
    (setRef r f s).ntpIn = s.ntpIn ∧ (setRef r f s).ptp = s.ptp ∧ (setRef r f s).ntp = s.ntp ∧
    (setRef r f s).mem = s.mem ∧ (setRef r f s).cores = s.cores ∧ (setRef r f s).stats = s.stats ∧
    (setRef r f s).statsDone = s.statsDone ∧ (setRef r f s).hinge = s.hinge ∧ (setRef r f s).update = s.update ∧
    (setRef r f s).pending = s.pending ∧ (∀ j, getN (setRef r f s) j = getN s j) ∧
    (∀ j, getNat (setRef r f s) j = getNat s j) ∧ (∀ j, getF (setRef r f s) j = getF s j) ∧ up (setRef r f s) = up s ∧
    (∀ j, getB (setRef r f s) j = getB s j) := by
  and_intros <;> first | rfl | exact fun _ => rfl

@[simp] theorem setSel_keeps (f : Selector → Selector) (s : State) :
    (setSel f s).sel = f s.sel ∧ (setSel f s).variant = s.variant ∧ (setSel f s).nums = s.nums ∧
    (setSel f s).blobs = s.blobs ∧ (setSel f s).inForce = s.inForce ∧ (setSel f s).mode = s.mode ∧
    (setSel f s).now = s.now ∧ (setSel f s).freeCtr = s.freeCtr ∧ (setSel f s).out = s.out ∧
    (setSel f s).journal = s.journal ∧ (setSel f s).faults = s.faults ∧ (setSel f s).restarts = s.restarts ∧
    (setSel f s).restartsDue = s.restartsDue ∧ (setSel f s).keep = s.keep ∧ (setSel f s).pins = s.pins ∧
    (setSel f s).sessions = s.sessions ∧ (setSel f s).latch = s.latch ∧ (setSel f s).groups = s.groups ∧
    (setSel f s).nextGroup = s.nextGroup ∧ (setSel f s).commits = s.commits ∧ (setSel f s).ts = s.ts ∧
    (setSel f s).bound = s.bound ∧ (setSel f s).replicas = s.replicas ∧ (setSel f s).meas = s.meas ∧
    (setSel f s).keys = s.keys ∧ (setSel f s).tamper = s.tamper ∧ (setSel f s).nor = s.nor ∧
    (setSel f s).power = s.power ∧ (setSel f s).host = s.host ∧ (setSel f s).enrol = s.enrol ∧
    (setSel f s).sensors = s.sensors ∧ (setSel f s).claims = s.claims ∧ (setSel f s).tdcs = s.tdcs ∧
    (setSel f s).atom = s.atom ∧ (setSel f s).esmc = s.esmc ∧ (setSel f s).pulseWait = s.pulseWait ∧
    (setSel f s).synth = s.synth ∧ (setSel f s).gnss = s.gnss ∧ (setSel f s).ports = s.ports ∧ (setSel f s).sw = s.sw ∧
    (setSel f s).crypto = s.crypto ∧ (setSel f s).ptpIn = s.ptpIn ∧ (setSel f s).ntpIn = s.ntpIn ∧
    (setSel f s).ptp = s.ptp ∧ (setSel f s).ntp = s.ntp ∧ (setSel f s).mem = s.mem ∧ (setSel f s).cores = s.cores ∧
    (setSel f s).stats = s.stats ∧ (setSel f s).statsDone = s.statsDone ∧ (setSel f s).hinge = s.hinge ∧
    (setSel f s).update = s.update ∧ (setSel f s).pending = s.pending ∧ (∀ j, getN (setSel f s) j = getN s j) ∧
    (∀ j, getNat (setSel f s) j = getNat s j) ∧ (∀ j, getF (setSel f s) j = getF s j) ∧ up (setSel f s) = up s ∧
    (∀ j, getB (setSel f s) j = getB s j) := by
  and_intros <;> first | rfl | exact fun _ => rfl

@[simp] theorem setAtom_keeps (f : Atom → Atom) (s : State) :
    (setAtom f s).atom = f s.atom ∧ (setAtom f s).variant = s.variant ∧ (setAtom f s).nums = s.nums ∧
    (setAtom f s).blobs = s.blobs ∧ (setAtom f s).inForce = s.inForce ∧ (setAtom f s).mode = s.mode ∧
    (setAtom f s).now = s.now ∧ (setAtom f s).freeCtr = s.freeCtr ∧ (setAtom f s).out = s.out ∧
    (setAtom f s).journal = s.journal ∧ (setAtom f s).faults = s.faults ∧ (setAtom f s).restarts = s.restarts ∧
    (setAtom f s).restartsDue = s.restartsDue ∧ (setAtom f s).keep = s.keep ∧ (setAtom f s).pins = s.pins ∧
    (setAtom f s).sessions = s.sessions ∧ (setAtom f s).latch = s.latch ∧ (setAtom f s).groups = s.groups ∧
    (setAtom f s).nextGroup = s.nextGroup ∧ (setAtom f s).commits = s.commits ∧ (setAtom f s).ts = s.ts ∧
    (setAtom f s).bound = s.bound ∧ (setAtom f s).replicas = s.replicas ∧ (setAtom f s).meas = s.meas ∧
    (setAtom f s).keys = s.keys ∧ (setAtom f s).tamper = s.tamper ∧ (setAtom f s).nor = s.nor ∧
    (setAtom f s).power = s.power ∧ (setAtom f s).host = s.host ∧ (setAtom f s).enrol = s.enrol ∧
    (setAtom f s).sensors = s.sensors ∧ (setAtom f s).claims = s.claims ∧ (setAtom f s).tdcs = s.tdcs ∧
    (setAtom f s).sel = s.sel ∧ (setAtom f s).esmc = s.esmc ∧ (setAtom f s).pulseWait = s.pulseWait ∧
    (setAtom f s).synth = s.synth ∧ (setAtom f s).gnss = s.gnss ∧ (setAtom f s).ports = s.ports ∧
    (setAtom f s).sw = s.sw ∧ (setAtom f s).crypto = s.crypto ∧ (setAtom f s).ptpIn = s.ptpIn ∧
    (setAtom f s).ntpIn = s.ntpIn ∧ (setAtom f s).ptp = s.ptp ∧ (setAtom f s).ntp = s.ntp ∧ (setAtom f s).mem = s.mem ∧
    (setAtom f s).cores = s.cores ∧ (setAtom f s).stats = s.stats ∧ (setAtom f s).statsDone = s.statsDone ∧
    (setAtom f s).hinge = s.hinge ∧ (setAtom f s).update = s.update ∧ (setAtom f s).pending = s.pending ∧
    (∀ j, getN (setAtom f s) j = getN s j) ∧ (∀ j, getNat (setAtom f s) j = getNat s j) ∧
    (∀ j, getF (setAtom f s) j = getF s j) ∧ up (setAtom f s) = up s ∧ (∀ j, getB (setAtom f s) j = getB s j) := by
  and_intros <;> first | rfl | exact fun _ => rfl

@[simp] theorem setEsmc_keeps (p : Nat) (f : Esmc → Esmc) (s : State) :
    (setEsmc p f s).esmc = modAt p f s.esmc ∧ (setEsmc p f s).variant = s.variant ∧ (setEsmc p f s).nums = s.nums ∧
    (setEsmc p f s).blobs = s.blobs ∧ (setEsmc p f s).inForce = s.inForce ∧ (setEsmc p f s).mode = s.mode ∧
    (setEsmc p f s).now = s.now ∧ (setEsmc p f s).freeCtr = s.freeCtr ∧ (setEsmc p f s).out = s.out ∧
    (setEsmc p f s).journal = s.journal ∧ (setEsmc p f s).faults = s.faults ∧ (setEsmc p f s).restarts = s.restarts ∧
    (setEsmc p f s).restartsDue = s.restartsDue ∧ (setEsmc p f s).keep = s.keep ∧ (setEsmc p f s).pins = s.pins ∧
    (setEsmc p f s).sessions = s.sessions ∧ (setEsmc p f s).latch = s.latch ∧ (setEsmc p f s).groups = s.groups ∧
    (setEsmc p f s).nextGroup = s.nextGroup ∧ (setEsmc p f s).commits = s.commits ∧ (setEsmc p f s).ts = s.ts ∧
    (setEsmc p f s).bound = s.bound ∧ (setEsmc p f s).replicas = s.replicas ∧ (setEsmc p f s).meas = s.meas ∧
    (setEsmc p f s).keys = s.keys ∧ (setEsmc p f s).tamper = s.tamper ∧ (setEsmc p f s).nor = s.nor ∧
    (setEsmc p f s).power = s.power ∧ (setEsmc p f s).host = s.host ∧ (setEsmc p f s).enrol = s.enrol ∧
    (setEsmc p f s).sensors = s.sensors ∧ (setEsmc p f s).claims = s.claims ∧ (setEsmc p f s).tdcs = s.tdcs ∧
    (setEsmc p f s).sel = s.sel ∧ (setEsmc p f s).atom = s.atom ∧ (setEsmc p f s).pulseWait = s.pulseWait ∧
    (setEsmc p f s).synth = s.synth ∧ (setEsmc p f s).gnss = s.gnss ∧ (setEsmc p f s).ports = s.ports ∧
    (setEsmc p f s).sw = s.sw ∧ (setEsmc p f s).crypto = s.crypto ∧ (setEsmc p f s).ptpIn = s.ptpIn ∧
    (setEsmc p f s).ntpIn = s.ntpIn ∧ (setEsmc p f s).ptp = s.ptp ∧ (setEsmc p f s).ntp = s.ntp ∧
    (setEsmc p f s).mem = s.mem ∧ (setEsmc p f s).cores = s.cores ∧ (setEsmc p f s).stats = s.stats ∧
    (setEsmc p f s).statsDone = s.statsDone ∧ (setEsmc p f s).hinge = s.hinge ∧ (setEsmc p f s).update = s.update ∧
    (setEsmc p f s).pending = s.pending ∧ (∀ j, getN (setEsmc p f s) j = getN s j) ∧
    (∀ j, getNat (setEsmc p f s) j = getNat s j) ∧ (∀ j, getF (setEsmc p f s) j = getF s j) ∧ up (setEsmc p f s) = up s ∧
    (∀ j, getB (setEsmc p f s) j = getB s j) := by
  and_intros <;> first | rfl | exact fun _ => rfl

@[simp] theorem setSynth_keeps (f : Synth → Synth) (s : State) :
    (setSynth f s).synth = f s.synth ∧ (setSynth f s).variant = s.variant ∧ (setSynth f s).nums = s.nums ∧
    (setSynth f s).blobs = s.blobs ∧ (setSynth f s).inForce = s.inForce ∧ (setSynth f s).mode = s.mode ∧
    (setSynth f s).now = s.now ∧ (setSynth f s).freeCtr = s.freeCtr ∧ (setSynth f s).out = s.out ∧
    (setSynth f s).journal = s.journal ∧ (setSynth f s).faults = s.faults ∧ (setSynth f s).restarts = s.restarts ∧
    (setSynth f s).restartsDue = s.restartsDue ∧ (setSynth f s).keep = s.keep ∧ (setSynth f s).pins = s.pins ∧
    (setSynth f s).sessions = s.sessions ∧ (setSynth f s).latch = s.latch ∧ (setSynth f s).groups = s.groups ∧
    (setSynth f s).nextGroup = s.nextGroup ∧ (setSynth f s).commits = s.commits ∧ (setSynth f s).ts = s.ts ∧
    (setSynth f s).bound = s.bound ∧ (setSynth f s).replicas = s.replicas ∧ (setSynth f s).meas = s.meas ∧
    (setSynth f s).keys = s.keys ∧ (setSynth f s).tamper = s.tamper ∧ (setSynth f s).nor = s.nor ∧
    (setSynth f s).power = s.power ∧ (setSynth f s).host = s.host ∧ (setSynth f s).enrol = s.enrol ∧
    (setSynth f s).sensors = s.sensors ∧ (setSynth f s).claims = s.claims ∧ (setSynth f s).tdcs = s.tdcs ∧
    (setSynth f s).sel = s.sel ∧ (setSynth f s).atom = s.atom ∧ (setSynth f s).esmc = s.esmc ∧
    (setSynth f s).pulseWait = s.pulseWait ∧ (setSynth f s).gnss = s.gnss ∧ (setSynth f s).ports = s.ports ∧
    (setSynth f s).sw = s.sw ∧ (setSynth f s).crypto = s.crypto ∧ (setSynth f s).ptpIn = s.ptpIn ∧
    (setSynth f s).ntpIn = s.ntpIn ∧ (setSynth f s).ptp = s.ptp ∧ (setSynth f s).ntp = s.ntp ∧
    (setSynth f s).mem = s.mem ∧ (setSynth f s).cores = s.cores ∧ (setSynth f s).stats = s.stats ∧
    (setSynth f s).statsDone = s.statsDone ∧ (setSynth f s).hinge = s.hinge ∧ (setSynth f s).update = s.update ∧
    (setSynth f s).pending = s.pending ∧ (∀ j, getN (setSynth f s) j = getN s j) ∧
    (∀ j, getNat (setSynth f s) j = getNat s j) ∧ (∀ j, getF (setSynth f s) j = getF s j) ∧ up (setSynth f s) = up s ∧
    (∀ j, getB (setSynth f s) j = getB s j) := by
  and_intros <;> first | rfl | exact fun _ => rfl

@[simp] theorem setGnss_keeps (f : Gnss → Gnss) (s : State) :
    (setGnss f s).gnss = f s.gnss ∧ (setGnss f s).variant = s.variant ∧ (setGnss f s).nums = s.nums ∧
    (setGnss f s).blobs = s.blobs ∧ (setGnss f s).inForce = s.inForce ∧ (setGnss f s).mode = s.mode ∧
    (setGnss f s).now = s.now ∧ (setGnss f s).freeCtr = s.freeCtr ∧ (setGnss f s).out = s.out ∧
    (setGnss f s).journal = s.journal ∧ (setGnss f s).faults = s.faults ∧ (setGnss f s).restarts = s.restarts ∧
    (setGnss f s).restartsDue = s.restartsDue ∧ (setGnss f s).keep = s.keep ∧ (setGnss f s).pins = s.pins ∧
    (setGnss f s).sessions = s.sessions ∧ (setGnss f s).latch = s.latch ∧ (setGnss f s).groups = s.groups ∧
    (setGnss f s).nextGroup = s.nextGroup ∧ (setGnss f s).commits = s.commits ∧ (setGnss f s).ts = s.ts ∧
    (setGnss f s).bound = s.bound ∧ (setGnss f s).replicas = s.replicas ∧ (setGnss f s).meas = s.meas ∧
    (setGnss f s).keys = s.keys ∧ (setGnss f s).tamper = s.tamper ∧ (setGnss f s).nor = s.nor ∧
    (setGnss f s).power = s.power ∧ (setGnss f s).host = s.host ∧ (setGnss f s).enrol = s.enrol ∧
    (setGnss f s).sensors = s.sensors ∧ (setGnss f s).claims = s.claims ∧ (setGnss f s).tdcs = s.tdcs ∧
    (setGnss f s).sel = s.sel ∧ (setGnss f s).atom = s.atom ∧ (setGnss f s).esmc = s.esmc ∧
    (setGnss f s).pulseWait = s.pulseWait ∧ (setGnss f s).synth = s.synth ∧ (setGnss f s).ports = s.ports ∧
    (setGnss f s).sw = s.sw ∧ (setGnss f s).crypto = s.crypto ∧ (setGnss f s).ptpIn = s.ptpIn ∧
    (setGnss f s).ntpIn = s.ntpIn ∧ (setGnss f s).ptp = s.ptp ∧ (setGnss f s).ntp = s.ntp ∧ (setGnss f s).mem = s.mem ∧
    (setGnss f s).cores = s.cores ∧ (setGnss f s).stats = s.stats ∧ (setGnss f s).statsDone = s.statsDone ∧
    (setGnss f s).hinge = s.hinge ∧ (setGnss f s).update = s.update ∧ (setGnss f s).pending = s.pending ∧
    (∀ j, getN (setGnss f s) j = getN s j) ∧ (∀ j, getNat (setGnss f s) j = getNat s j) ∧
    (∀ j, getF (setGnss f s) j = getF s j) ∧ up (setGnss f s) = up s ∧ (∀ j, getB (setGnss f s) j = getB s j) := by
  and_intros <;> first | rfl | exact fun _ => rfl

@[simp] theorem setPort_keeps (p : Nat) (f : Port → Port) (s : State) :
    (setPort p f s).ports = modAt p f s.ports ∧ (setPort p f s).variant = s.variant ∧ (setPort p f s).nums = s.nums ∧
    (setPort p f s).blobs = s.blobs ∧ (setPort p f s).inForce = s.inForce ∧ (setPort p f s).mode = s.mode ∧
    (setPort p f s).now = s.now ∧ (setPort p f s).freeCtr = s.freeCtr ∧ (setPort p f s).out = s.out ∧
    (setPort p f s).journal = s.journal ∧ (setPort p f s).faults = s.faults ∧ (setPort p f s).restarts = s.restarts ∧
    (setPort p f s).restartsDue = s.restartsDue ∧ (setPort p f s).keep = s.keep ∧ (setPort p f s).pins = s.pins ∧
    (setPort p f s).sessions = s.sessions ∧ (setPort p f s).latch = s.latch ∧ (setPort p f s).groups = s.groups ∧
    (setPort p f s).nextGroup = s.nextGroup ∧ (setPort p f s).commits = s.commits ∧ (setPort p f s).ts = s.ts ∧
    (setPort p f s).bound = s.bound ∧ (setPort p f s).replicas = s.replicas ∧ (setPort p f s).meas = s.meas ∧
    (setPort p f s).keys = s.keys ∧ (setPort p f s).tamper = s.tamper ∧ (setPort p f s).nor = s.nor ∧
    (setPort p f s).power = s.power ∧ (setPort p f s).host = s.host ∧ (setPort p f s).enrol = s.enrol ∧
    (setPort p f s).sensors = s.sensors ∧ (setPort p f s).claims = s.claims ∧ (setPort p f s).tdcs = s.tdcs ∧
    (setPort p f s).sel = s.sel ∧ (setPort p f s).atom = s.atom ∧ (setPort p f s).esmc = s.esmc ∧
    (setPort p f s).pulseWait = s.pulseWait ∧ (setPort p f s).synth = s.synth ∧ (setPort p f s).gnss = s.gnss ∧
    (setPort p f s).sw = s.sw ∧ (setPort p f s).crypto = s.crypto ∧ (setPort p f s).ptpIn = s.ptpIn ∧
    (setPort p f s).ntpIn = s.ntpIn ∧ (setPort p f s).ptp = s.ptp ∧ (setPort p f s).ntp = s.ntp ∧
    (setPort p f s).mem = s.mem ∧ (setPort p f s).cores = s.cores ∧ (setPort p f s).stats = s.stats ∧
    (setPort p f s).statsDone = s.statsDone ∧ (setPort p f s).hinge = s.hinge ∧ (setPort p f s).update = s.update ∧
    (setPort p f s).pending = s.pending ∧ (∀ j, getN (setPort p f s) j = getN s j) ∧
    (∀ j, getNat (setPort p f s) j = getNat s j) ∧ (∀ j, getF (setPort p f s) j = getF s j) ∧ up (setPort p f s) = up s ∧
    (∀ j, getB (setPort p f s) j = getB s j) := by
  and_intros <;> first | rfl | exact fun _ => rfl

@[simp] theorem setSw_keeps (f : SwCore → SwCore) (s : State) :
    (setSw f s).sw = f s.sw ∧ (setSw f s).variant = s.variant ∧ (setSw f s).nums = s.nums ∧ (setSw f s).blobs = s.blobs ∧
    (setSw f s).inForce = s.inForce ∧ (setSw f s).mode = s.mode ∧ (setSw f s).now = s.now ∧
    (setSw f s).freeCtr = s.freeCtr ∧ (setSw f s).out = s.out ∧ (setSw f s).journal = s.journal ∧
    (setSw f s).faults = s.faults ∧ (setSw f s).restarts = s.restarts ∧ (setSw f s).restartsDue = s.restartsDue ∧
    (setSw f s).keep = s.keep ∧ (setSw f s).pins = s.pins ∧ (setSw f s).sessions = s.sessions ∧
    (setSw f s).latch = s.latch ∧ (setSw f s).groups = s.groups ∧ (setSw f s).nextGroup = s.nextGroup ∧
    (setSw f s).commits = s.commits ∧ (setSw f s).ts = s.ts ∧ (setSw f s).bound = s.bound ∧
    (setSw f s).replicas = s.replicas ∧ (setSw f s).meas = s.meas ∧ (setSw f s).keys = s.keys ∧
    (setSw f s).tamper = s.tamper ∧ (setSw f s).nor = s.nor ∧ (setSw f s).power = s.power ∧ (setSw f s).host = s.host ∧
    (setSw f s).enrol = s.enrol ∧ (setSw f s).sensors = s.sensors ∧ (setSw f s).claims = s.claims ∧
    (setSw f s).tdcs = s.tdcs ∧ (setSw f s).sel = s.sel ∧ (setSw f s).atom = s.atom ∧ (setSw f s).esmc = s.esmc ∧
    (setSw f s).pulseWait = s.pulseWait ∧ (setSw f s).synth = s.synth ∧ (setSw f s).gnss = s.gnss ∧
    (setSw f s).ports = s.ports ∧ (setSw f s).crypto = s.crypto ∧ (setSw f s).ptpIn = s.ptpIn ∧
    (setSw f s).ntpIn = s.ntpIn ∧ (setSw f s).ptp = s.ptp ∧ (setSw f s).ntp = s.ntp ∧ (setSw f s).mem = s.mem ∧
    (setSw f s).cores = s.cores ∧ (setSw f s).stats = s.stats ∧ (setSw f s).statsDone = s.statsDone ∧
    (setSw f s).hinge = s.hinge ∧ (setSw f s).update = s.update ∧ (setSw f s).pending = s.pending ∧
    (∀ j, getN (setSw f s) j = getN s j) ∧ (∀ j, getNat (setSw f s) j = getNat s j) ∧
    (∀ j, getF (setSw f s) j = getF s j) ∧ up (setSw f s) = up s ∧ (∀ j, getB (setSw f s) j = getB s j) := by
  and_intros <;> first | rfl | exact fun _ => rfl

@[simp] theorem setPtp_keeps (f : Ptp → Ptp) (s : State) :
    (setPtp f s).ptp = f s.ptp ∧ (setPtp f s).variant = s.variant ∧ (setPtp f s).nums = s.nums ∧
    (setPtp f s).blobs = s.blobs ∧ (setPtp f s).inForce = s.inForce ∧ (setPtp f s).mode = s.mode ∧
    (setPtp f s).now = s.now ∧ (setPtp f s).freeCtr = s.freeCtr ∧ (setPtp f s).out = s.out ∧
    (setPtp f s).journal = s.journal ∧ (setPtp f s).faults = s.faults ∧ (setPtp f s).restarts = s.restarts ∧
    (setPtp f s).restartsDue = s.restartsDue ∧ (setPtp f s).keep = s.keep ∧ (setPtp f s).pins = s.pins ∧
    (setPtp f s).sessions = s.sessions ∧ (setPtp f s).latch = s.latch ∧ (setPtp f s).groups = s.groups ∧
    (setPtp f s).nextGroup = s.nextGroup ∧ (setPtp f s).commits = s.commits ∧ (setPtp f s).ts = s.ts ∧
    (setPtp f s).bound = s.bound ∧ (setPtp f s).replicas = s.replicas ∧ (setPtp f s).meas = s.meas ∧
    (setPtp f s).keys = s.keys ∧ (setPtp f s).tamper = s.tamper ∧ (setPtp f s).nor = s.nor ∧
    (setPtp f s).power = s.power ∧ (setPtp f s).host = s.host ∧ (setPtp f s).enrol = s.enrol ∧
    (setPtp f s).sensors = s.sensors ∧ (setPtp f s).claims = s.claims ∧ (setPtp f s).tdcs = s.tdcs ∧
    (setPtp f s).sel = s.sel ∧ (setPtp f s).atom = s.atom ∧ (setPtp f s).esmc = s.esmc ∧
    (setPtp f s).pulseWait = s.pulseWait ∧ (setPtp f s).synth = s.synth ∧ (setPtp f s).gnss = s.gnss ∧
    (setPtp f s).ports = s.ports ∧ (setPtp f s).sw = s.sw ∧ (setPtp f s).crypto = s.crypto ∧
    (setPtp f s).ptpIn = s.ptpIn ∧ (setPtp f s).ntpIn = s.ntpIn ∧ (setPtp f s).ntp = s.ntp ∧ (setPtp f s).mem = s.mem ∧
    (setPtp f s).cores = s.cores ∧ (setPtp f s).stats = s.stats ∧ (setPtp f s).statsDone = s.statsDone ∧
    (setPtp f s).hinge = s.hinge ∧ (setPtp f s).update = s.update ∧ (setPtp f s).pending = s.pending ∧
    (∀ j, getN (setPtp f s) j = getN s j) ∧ (∀ j, getNat (setPtp f s) j = getNat s j) ∧
    (∀ j, getF (setPtp f s) j = getF s j) ∧ up (setPtp f s) = up s ∧ (∀ j, getB (setPtp f s) j = getB s j) := by
  and_intros <;> first | rfl | exact fun _ => rfl

@[simp] theorem setKeys_keeps (f : Keys → Keys) (s : State) :
    (setKeys f s).keys = f s.keys ∧ (setKeys f s).variant = s.variant ∧ (setKeys f s).nums = s.nums ∧
    (setKeys f s).blobs = s.blobs ∧ (setKeys f s).inForce = s.inForce ∧ (setKeys f s).mode = s.mode ∧
    (setKeys f s).now = s.now ∧ (setKeys f s).freeCtr = s.freeCtr ∧ (setKeys f s).out = s.out ∧
    (setKeys f s).journal = s.journal ∧ (setKeys f s).faults = s.faults ∧ (setKeys f s).restarts = s.restarts ∧
    (setKeys f s).restartsDue = s.restartsDue ∧ (setKeys f s).keep = s.keep ∧ (setKeys f s).pins = s.pins ∧
    (setKeys f s).sessions = s.sessions ∧ (setKeys f s).latch = s.latch ∧ (setKeys f s).groups = s.groups ∧
    (setKeys f s).nextGroup = s.nextGroup ∧ (setKeys f s).commits = s.commits ∧ (setKeys f s).ts = s.ts ∧
    (setKeys f s).bound = s.bound ∧ (setKeys f s).replicas = s.replicas ∧ (setKeys f s).meas = s.meas ∧
    (setKeys f s).tamper = s.tamper ∧ (setKeys f s).nor = s.nor ∧ (setKeys f s).power = s.power ∧
    (setKeys f s).host = s.host ∧ (setKeys f s).enrol = s.enrol ∧ (setKeys f s).sensors = s.sensors ∧
    (setKeys f s).claims = s.claims ∧ (setKeys f s).tdcs = s.tdcs ∧ (setKeys f s).sel = s.sel ∧
    (setKeys f s).atom = s.atom ∧ (setKeys f s).esmc = s.esmc ∧ (setKeys f s).pulseWait = s.pulseWait ∧
    (setKeys f s).synth = s.synth ∧ (setKeys f s).gnss = s.gnss ∧ (setKeys f s).ports = s.ports ∧
    (setKeys f s).sw = s.sw ∧ (setKeys f s).crypto = s.crypto ∧ (setKeys f s).ptpIn = s.ptpIn ∧
    (setKeys f s).ntpIn = s.ntpIn ∧ (setKeys f s).ptp = s.ptp ∧ (setKeys f s).ntp = s.ntp ∧ (setKeys f s).mem = s.mem ∧
    (setKeys f s).cores = s.cores ∧ (setKeys f s).stats = s.stats ∧ (setKeys f s).statsDone = s.statsDone ∧
    (setKeys f s).hinge = s.hinge ∧ (setKeys f s).update = s.update ∧ (setKeys f s).pending = s.pending ∧
    (∀ j, getN (setKeys f s) j = getN s j) ∧ (∀ j, getNat (setKeys f s) j = getNat s j) ∧
    (∀ j, getF (setKeys f s) j = getF s j) ∧ up (setKeys f s) = up s ∧ (∀ j, getB (setKeys f s) j = getB s j) := by
  and_intros <;> first | rfl | exact fun _ => rfl

@[simp] theorem setTamper_keeps (f : Tamper → Tamper) (s : State) :
    (setTamper f s).tamper = f s.tamper ∧ (setTamper f s).variant = s.variant ∧ (setTamper f s).nums = s.nums ∧
    (setTamper f s).blobs = s.blobs ∧ (setTamper f s).inForce = s.inForce ∧ (setTamper f s).mode = s.mode ∧
    (setTamper f s).now = s.now ∧ (setTamper f s).freeCtr = s.freeCtr ∧ (setTamper f s).out = s.out ∧
    (setTamper f s).journal = s.journal ∧ (setTamper f s).faults = s.faults ∧ (setTamper f s).restarts = s.restarts ∧
    (setTamper f s).restartsDue = s.restartsDue ∧ (setTamper f s).keep = s.keep ∧ (setTamper f s).pins = s.pins ∧
    (setTamper f s).sessions = s.sessions ∧ (setTamper f s).latch = s.latch ∧ (setTamper f s).groups = s.groups ∧
    (setTamper f s).nextGroup = s.nextGroup ∧ (setTamper f s).commits = s.commits ∧ (setTamper f s).ts = s.ts ∧
    (setTamper f s).bound = s.bound ∧ (setTamper f s).replicas = s.replicas ∧ (setTamper f s).meas = s.meas ∧
    (setTamper f s).keys = s.keys ∧ (setTamper f s).nor = s.nor ∧ (setTamper f s).power = s.power ∧
    (setTamper f s).host = s.host ∧ (setTamper f s).enrol = s.enrol ∧ (setTamper f s).sensors = s.sensors ∧
    (setTamper f s).claims = s.claims ∧ (setTamper f s).tdcs = s.tdcs ∧ (setTamper f s).sel = s.sel ∧
    (setTamper f s).atom = s.atom ∧ (setTamper f s).esmc = s.esmc ∧ (setTamper f s).pulseWait = s.pulseWait ∧
    (setTamper f s).synth = s.synth ∧ (setTamper f s).gnss = s.gnss ∧ (setTamper f s).ports = s.ports ∧
    (setTamper f s).sw = s.sw ∧ (setTamper f s).crypto = s.crypto ∧ (setTamper f s).ptpIn = s.ptpIn ∧
    (setTamper f s).ntpIn = s.ntpIn ∧ (setTamper f s).ptp = s.ptp ∧ (setTamper f s).ntp = s.ntp ∧
    (setTamper f s).mem = s.mem ∧ (setTamper f s).cores = s.cores ∧ (setTamper f s).stats = s.stats ∧
    (setTamper f s).statsDone = s.statsDone ∧ (setTamper f s).hinge = s.hinge ∧ (setTamper f s).update = s.update ∧
    (setTamper f s).pending = s.pending ∧ (∀ j, getN (setTamper f s) j = getN s j) ∧
    (∀ j, getNat (setTamper f s) j = getNat s j) ∧ (∀ j, getF (setTamper f s) j = getF s j) ∧ up (setTamper f s) = up s ∧
    (∀ j, getB (setTamper f s) j = getB s j) := by
  and_intros <;> first | rfl | exact fun _ => rfl

@[simp] theorem setPower_keeps (f : Power → Power) (s : State) :
    (setPower f s).power = f s.power ∧ (setPower f s).variant = s.variant ∧ (setPower f s).nums = s.nums ∧
    (setPower f s).blobs = s.blobs ∧ (setPower f s).inForce = s.inForce ∧ (setPower f s).mode = s.mode ∧
    (setPower f s).now = s.now ∧ (setPower f s).freeCtr = s.freeCtr ∧ (setPower f s).out = s.out ∧
    (setPower f s).journal = s.journal ∧ (setPower f s).faults = s.faults ∧ (setPower f s).restarts = s.restarts ∧
    (setPower f s).restartsDue = s.restartsDue ∧ (setPower f s).keep = s.keep ∧ (setPower f s).pins = s.pins ∧
    (setPower f s).sessions = s.sessions ∧ (setPower f s).latch = s.latch ∧ (setPower f s).groups = s.groups ∧
    (setPower f s).nextGroup = s.nextGroup ∧ (setPower f s).commits = s.commits ∧ (setPower f s).ts = s.ts ∧
    (setPower f s).bound = s.bound ∧ (setPower f s).replicas = s.replicas ∧ (setPower f s).meas = s.meas ∧
    (setPower f s).keys = s.keys ∧ (setPower f s).tamper = s.tamper ∧ (setPower f s).nor = s.nor ∧
    (setPower f s).host = s.host ∧ (setPower f s).enrol = s.enrol ∧ (setPower f s).sensors = s.sensors ∧
    (setPower f s).claims = s.claims ∧ (setPower f s).tdcs = s.tdcs ∧ (setPower f s).sel = s.sel ∧
    (setPower f s).atom = s.atom ∧ (setPower f s).esmc = s.esmc ∧ (setPower f s).pulseWait = s.pulseWait ∧
    (setPower f s).synth = s.synth ∧ (setPower f s).gnss = s.gnss ∧ (setPower f s).ports = s.ports ∧
    (setPower f s).sw = s.sw ∧ (setPower f s).crypto = s.crypto ∧ (setPower f s).ptpIn = s.ptpIn ∧
    (setPower f s).ntpIn = s.ntpIn ∧ (setPower f s).ptp = s.ptp ∧ (setPower f s).ntp = s.ntp ∧
    (setPower f s).mem = s.mem ∧ (setPower f s).cores = s.cores ∧ (setPower f s).stats = s.stats ∧
    (setPower f s).statsDone = s.statsDone ∧ (setPower f s).hinge = s.hinge ∧ (setPower f s).update = s.update ∧
    (setPower f s).pending = s.pending ∧ (∀ j, getN (setPower f s) j = getN s j) ∧
    (∀ j, getNat (setPower f s) j = getNat s j) ∧ (∀ j, getF (setPower f s) j = getF s j) ∧ up (setPower f s) = up s ∧
    (∀ j, getB (setPower f s) j = getB s j) := by
  and_intros <;> first | rfl | exact fun _ => rfl

@[simp] theorem setMem_keeps (f : Mem → Mem) (s : State) :
    (setMem f s).mem = f s.mem ∧ (setMem f s).variant = s.variant ∧ (setMem f s).nums = s.nums ∧
    (setMem f s).blobs = s.blobs ∧ (setMem f s).inForce = s.inForce ∧ (setMem f s).mode = s.mode ∧
    (setMem f s).now = s.now ∧ (setMem f s).freeCtr = s.freeCtr ∧ (setMem f s).out = s.out ∧
    (setMem f s).journal = s.journal ∧ (setMem f s).faults = s.faults ∧ (setMem f s).restarts = s.restarts ∧
    (setMem f s).restartsDue = s.restartsDue ∧ (setMem f s).keep = s.keep ∧ (setMem f s).pins = s.pins ∧
    (setMem f s).sessions = s.sessions ∧ (setMem f s).latch = s.latch ∧ (setMem f s).groups = s.groups ∧
    (setMem f s).nextGroup = s.nextGroup ∧ (setMem f s).commits = s.commits ∧ (setMem f s).ts = s.ts ∧
    (setMem f s).bound = s.bound ∧ (setMem f s).replicas = s.replicas ∧ (setMem f s).meas = s.meas ∧
    (setMem f s).keys = s.keys ∧ (setMem f s).tamper = s.tamper ∧ (setMem f s).nor = s.nor ∧
    (setMem f s).power = s.power ∧ (setMem f s).host = s.host ∧ (setMem f s).enrol = s.enrol ∧
    (setMem f s).sensors = s.sensors ∧ (setMem f s).claims = s.claims ∧ (setMem f s).tdcs = s.tdcs ∧
    (setMem f s).sel = s.sel ∧ (setMem f s).atom = s.atom ∧ (setMem f s).esmc = s.esmc ∧
    (setMem f s).pulseWait = s.pulseWait ∧ (setMem f s).synth = s.synth ∧ (setMem f s).gnss = s.gnss ∧
    (setMem f s).ports = s.ports ∧ (setMem f s).sw = s.sw ∧ (setMem f s).crypto = s.crypto ∧
    (setMem f s).ptpIn = s.ptpIn ∧ (setMem f s).ntpIn = s.ntpIn ∧ (setMem f s).ptp = s.ptp ∧ (setMem f s).ntp = s.ntp ∧
    (setMem f s).cores = s.cores ∧ (setMem f s).stats = s.stats ∧ (setMem f s).statsDone = s.statsDone ∧
    (setMem f s).hinge = s.hinge ∧ (setMem f s).update = s.update ∧ (setMem f s).pending = s.pending ∧
    (∀ j, getN (setMem f s) j = getN s j) ∧ (∀ j, getNat (setMem f s) j = getNat s j) ∧
    (∀ j, getF (setMem f s) j = getF s j) ∧ up (setMem f s) = up s ∧ (∀ j, getB (setMem f s) j = getB s j) := by
  and_intros <;> first | rfl | exact fun _ => rfl

@[simp] theorem setCores_keeps (f : Cores → Cores) (s : State) :
    (setCores f s).cores = f s.cores ∧ (setCores f s).variant = s.variant ∧ (setCores f s).nums = s.nums ∧
    (setCores f s).blobs = s.blobs ∧ (setCores f s).inForce = s.inForce ∧ (setCores f s).mode = s.mode ∧
    (setCores f s).now = s.now ∧ (setCores f s).freeCtr = s.freeCtr ∧ (setCores f s).out = s.out ∧
    (setCores f s).journal = s.journal ∧ (setCores f s).faults = s.faults ∧ (setCores f s).restarts = s.restarts ∧
    (setCores f s).restartsDue = s.restartsDue ∧ (setCores f s).keep = s.keep ∧ (setCores f s).pins = s.pins ∧
    (setCores f s).sessions = s.sessions ∧ (setCores f s).latch = s.latch ∧ (setCores f s).groups = s.groups ∧
    (setCores f s).nextGroup = s.nextGroup ∧ (setCores f s).commits = s.commits ∧ (setCores f s).ts = s.ts ∧
    (setCores f s).bound = s.bound ∧ (setCores f s).replicas = s.replicas ∧ (setCores f s).meas = s.meas ∧
    (setCores f s).keys = s.keys ∧ (setCores f s).tamper = s.tamper ∧ (setCores f s).nor = s.nor ∧
    (setCores f s).power = s.power ∧ (setCores f s).host = s.host ∧ (setCores f s).enrol = s.enrol ∧
    (setCores f s).sensors = s.sensors ∧ (setCores f s).claims = s.claims ∧ (setCores f s).tdcs = s.tdcs ∧
    (setCores f s).sel = s.sel ∧ (setCores f s).atom = s.atom ∧ (setCores f s).esmc = s.esmc ∧
    (setCores f s).pulseWait = s.pulseWait ∧ (setCores f s).synth = s.synth ∧ (setCores f s).gnss = s.gnss ∧
    (setCores f s).ports = s.ports ∧ (setCores f s).sw = s.sw ∧ (setCores f s).crypto = s.crypto ∧
    (setCores f s).ptpIn = s.ptpIn ∧ (setCores f s).ntpIn = s.ntpIn ∧ (setCores f s).ptp = s.ptp ∧
    (setCores f s).ntp = s.ntp ∧ (setCores f s).mem = s.mem ∧ (setCores f s).stats = s.stats ∧
    (setCores f s).statsDone = s.statsDone ∧ (setCores f s).hinge = s.hinge ∧ (setCores f s).update = s.update ∧
    (setCores f s).pending = s.pending ∧ (∀ j, getN (setCores f s) j = getN s j) ∧
    (∀ j, getNat (setCores f s) j = getNat s j) ∧ (∀ j, getF (setCores f s) j = getF s j) ∧ up (setCores f s) = up s ∧
    (∀ j, getB (setCores f s) j = getB s j) := by
  and_intros <;> first | rfl | exact fun _ => rfl

@[simp] theorem setHinge_keeps (f : Hinge → Hinge) (s : State) :
    (setHinge f s).hinge = f s.hinge ∧ (setHinge f s).variant = s.variant ∧ (setHinge f s).nums = s.nums ∧
    (setHinge f s).blobs = s.blobs ∧ (setHinge f s).inForce = s.inForce ∧ (setHinge f s).mode = s.mode ∧
    (setHinge f s).now = s.now ∧ (setHinge f s).freeCtr = s.freeCtr ∧ (setHinge f s).out = s.out ∧
    (setHinge f s).journal = s.journal ∧ (setHinge f s).faults = s.faults ∧ (setHinge f s).restarts = s.restarts ∧
    (setHinge f s).restartsDue = s.restartsDue ∧ (setHinge f s).keep = s.keep ∧ (setHinge f s).pins = s.pins ∧
    (setHinge f s).sessions = s.sessions ∧ (setHinge f s).latch = s.latch ∧ (setHinge f s).groups = s.groups ∧
    (setHinge f s).nextGroup = s.nextGroup ∧ (setHinge f s).commits = s.commits ∧ (setHinge f s).ts = s.ts ∧
    (setHinge f s).bound = s.bound ∧ (setHinge f s).replicas = s.replicas ∧ (setHinge f s).meas = s.meas ∧
    (setHinge f s).keys = s.keys ∧ (setHinge f s).tamper = s.tamper ∧ (setHinge f s).nor = s.nor ∧
    (setHinge f s).power = s.power ∧ (setHinge f s).host = s.host ∧ (setHinge f s).enrol = s.enrol ∧
    (setHinge f s).sensors = s.sensors ∧ (setHinge f s).claims = s.claims ∧ (setHinge f s).tdcs = s.tdcs ∧
    (setHinge f s).sel = s.sel ∧ (setHinge f s).atom = s.atom ∧ (setHinge f s).esmc = s.esmc ∧
    (setHinge f s).pulseWait = s.pulseWait ∧ (setHinge f s).synth = s.synth ∧ (setHinge f s).gnss = s.gnss ∧
    (setHinge f s).ports = s.ports ∧ (setHinge f s).sw = s.sw ∧ (setHinge f s).crypto = s.crypto ∧
    (setHinge f s).ptpIn = s.ptpIn ∧ (setHinge f s).ntpIn = s.ntpIn ∧ (setHinge f s).ptp = s.ptp ∧
    (setHinge f s).ntp = s.ntp ∧ (setHinge f s).mem = s.mem ∧ (setHinge f s).cores = s.cores ∧
    (setHinge f s).stats = s.stats ∧ (setHinge f s).statsDone = s.statsDone ∧ (setHinge f s).update = s.update ∧
    (setHinge f s).pending = s.pending ∧ (∀ j, getN (setHinge f s) j = getN s j) ∧
    (∀ j, getNat (setHinge f s) j = getNat s j) ∧ (∀ j, getF (setHinge f s) j = getF s j) ∧ up (setHinge f s) = up s ∧
    (∀ j, getB (setHinge f s) j = getB s j) := by
  and_intros <;> first | rfl | exact fun _ => rfl

@[simp] theorem setUpd_keeps (f : Update → Update) (s : State) :
    (setUpd f s).update = f s.update ∧ (setUpd f s).variant = s.variant ∧ (setUpd f s).nums = s.nums ∧
    (setUpd f s).blobs = s.blobs ∧ (setUpd f s).inForce = s.inForce ∧ (setUpd f s).mode = s.mode ∧
    (setUpd f s).now = s.now ∧ (setUpd f s).freeCtr = s.freeCtr ∧ (setUpd f s).out = s.out ∧
    (setUpd f s).journal = s.journal ∧ (setUpd f s).faults = s.faults ∧ (setUpd f s).restarts = s.restarts ∧
    (setUpd f s).restartsDue = s.restartsDue ∧ (setUpd f s).keep = s.keep ∧ (setUpd f s).pins = s.pins ∧
    (setUpd f s).sessions = s.sessions ∧ (setUpd f s).latch = s.latch ∧ (setUpd f s).groups = s.groups ∧
    (setUpd f s).nextGroup = s.nextGroup ∧ (setUpd f s).commits = s.commits ∧ (setUpd f s).ts = s.ts ∧
    (setUpd f s).bound = s.bound ∧ (setUpd f s).replicas = s.replicas ∧ (setUpd f s).meas = s.meas ∧
    (setUpd f s).keys = s.keys ∧ (setUpd f s).tamper = s.tamper ∧ (setUpd f s).nor = s.nor ∧
    (setUpd f s).power = s.power ∧ (setUpd f s).host = s.host ∧ (setUpd f s).enrol = s.enrol ∧
    (setUpd f s).sensors = s.sensors ∧ (setUpd f s).claims = s.claims ∧ (setUpd f s).tdcs = s.tdcs ∧
    (setUpd f s).sel = s.sel ∧ (setUpd f s).atom = s.atom ∧ (setUpd f s).esmc = s.esmc ∧
    (setUpd f s).pulseWait = s.pulseWait ∧ (setUpd f s).synth = s.synth ∧ (setUpd f s).gnss = s.gnss ∧
    (setUpd f s).ports = s.ports ∧ (setUpd f s).sw = s.sw ∧ (setUpd f s).crypto = s.crypto ∧
    (setUpd f s).ptpIn = s.ptpIn ∧ (setUpd f s).ntpIn = s.ntpIn ∧ (setUpd f s).ptp = s.ptp ∧ (setUpd f s).ntp = s.ntp ∧
    (setUpd f s).mem = s.mem ∧ (setUpd f s).cores = s.cores ∧ (setUpd f s).stats = s.stats ∧
    (setUpd f s).statsDone = s.statsDone ∧ (setUpd f s).hinge = s.hinge ∧ (setUpd f s).pending = s.pending ∧
    (∀ j, getN (setUpd f s) j = getN s j) ∧ (∀ j, getNat (setUpd f s) j = getNat s j) ∧
    (∀ j, getF (setUpd f s) j = getF s j) ∧ up (setUpd f s) = up s ∧ (∀ j, getB (setUpd f s) j = getB s j) := by
  and_intros <;> first | rfl | exact fun _ => rfl

/-- An entry changes the journal only. -/
theorem journal_shape (r : JReq) (s : State) : ∃ j, journal r s = { s with journal := j } := by
  unfold journal
  exact ⟨_, rfl⟩

@[simp] theorem journal_keeps (r : JReq) (s : State) :
    (journal r s).variant = s.variant ∧ (journal r s).nums = s.nums ∧ (journal r s).blobs = s.blobs ∧
    (journal r s).inForce = s.inForce ∧ (journal r s).mode = s.mode ∧ (journal r s).now = s.now ∧
    (journal r s).freeCtr = s.freeCtr ∧ (journal r s).out = s.out ∧ (journal r s).faults = s.faults ∧
    (journal r s).restarts = s.restarts ∧ (journal r s).restartsDue = s.restartsDue ∧ (journal r s).keep = s.keep ∧
    (journal r s).pins = s.pins ∧ (journal r s).sessions = s.sessions ∧ (journal r s).latch = s.latch ∧
    (journal r s).groups = s.groups ∧ (journal r s).nextGroup = s.nextGroup ∧ (journal r s).commits = s.commits ∧
    (journal r s).ts = s.ts ∧ (journal r s).bound = s.bound ∧ (journal r s).replicas = s.replicas ∧
    (journal r s).meas = s.meas ∧ (journal r s).keys = s.keys ∧ (journal r s).tamper = s.tamper ∧
    (journal r s).nor = s.nor ∧ (journal r s).power = s.power ∧ (journal r s).host = s.host ∧
    (journal r s).enrol = s.enrol ∧ (journal r s).sensors = s.sensors ∧ (journal r s).claims = s.claims ∧
    (journal r s).tdcs = s.tdcs ∧ (journal r s).sel = s.sel ∧ (journal r s).atom = s.atom ∧ (journal r s).esmc = s.esmc ∧
    (journal r s).pulseWait = s.pulseWait ∧ (journal r s).synth = s.synth ∧ (journal r s).gnss = s.gnss ∧
    (journal r s).ports = s.ports ∧ (journal r s).sw = s.sw ∧ (journal r s).crypto = s.crypto ∧
    (journal r s).ptpIn = s.ptpIn ∧ (journal r s).ntpIn = s.ntpIn ∧ (journal r s).ptp = s.ptp ∧
    (journal r s).ntp = s.ntp ∧ (journal r s).mem = s.mem ∧ (journal r s).cores = s.cores ∧
    (journal r s).stats = s.stats ∧ (journal r s).statsDone = s.statsDone ∧ (journal r s).hinge = s.hinge ∧
    (journal r s).update = s.update ∧ (journal r s).pending = s.pending ∧ (∀ j, getN (journal r s) j = getN s j) ∧
    (∀ j, getNat (journal r s) j = getNat s j) ∧ (∀ j, getF (journal r s) j = getF s j) ∧ up (journal r s) = up s ∧
    (∀ j, getB (journal r s) j = getB s j) := by
  obtain ⟨j, h⟩ := journal_shape r s
  rw [h]
  and_intros <;> first | rfl | exact fun _ => rfl

end Sys2Proof.Machine
end

