-- ==== Sys2Proof/Laws/Ops.lean ====
section
/-! SUPPORT. Laws/Ops.lean: everything that each shared operation can do: journalled writes, counters, raises, the last act of a
command, and which objects each of them can change. -/
namespace Sys2Proof.Machine

/-! ### Counters and journalled writes -/

@[simp] theorem bumpBy_eq (k : Nat) (n : Int) (s : State) : bumpBy k n s = setN k ((getN s k + n) % counterMod k) s := rfl
@[simp] theorem bump_eq (k : Nat) (s : State) : bump k s = setN k ((getN s k + 1) % counterMod k) s := rfl

theorem setJ_shape (k : Nat) (v : Int) (s : State) : ∃ j, setJ k v s = { setN k v s with journal := j } ∨ (setJ k v s = s ∧ getN s k = v) := by
  unfold setJ
  split
  · rename_i h
    exact ⟨s.journal, .inr ⟨rfl, h⟩⟩
  · obtain ⟨j, h⟩ := journal_shape { kind := 2, key := k, old := numBytes k (getN s k), new := numBytes k v } (setN k v s)
    exact ⟨j, .inl h⟩

@[simp] theorem getN_setJ_same (k : Nat) (v : Int) (s : State) : getN (setJ k v s) k = v := by
  obtain ⟨j, h | ⟨h, e⟩⟩ := setJ_shape k v s
  · rw [h]; exact getN_setN_same s k v
  · rw [h, e]

@[simp] theorem getN_setJ_ne {k k' : Nat} (v : Int) (s : State) (hk : k ≠ k') : getN (setJ k v s) k' = getN s k' := by
  obtain ⟨j, h | ⟨h, e⟩⟩ := setJ_shape k v s
  · rw [h]; exact getN_setN_ne s v hk
  · rw [h]

@[simp] theorem getN_setMax_ne {k k' : Nat} (v : Int) (s : State) (hk : k ≠ k') : getN (setMax k v s) k' = getN s k' := by
  unfold setMax; split <;> simp [hk]

@[simp] theorem getN_setMax_same (k : Nat) (v : Int) (s : State) : getN (setMax k v s) k = max (getN s k) v := by
  unfold setMax; split <;> simp <;> omega

/-- A journalled write changes its object and the journal. -/
@[simp] theorem setJ_keeps (k : Nat) (v : Int) (s : State) :
    (setJ k v s).variant = s.variant ∧ (setJ k v s).blobs = s.blobs ∧ (setJ k v s).inForce = s.inForce ∧
    (setJ k v s).mode = s.mode ∧ (setJ k v s).now = s.now ∧ (setJ k v s).freeCtr = s.freeCtr ∧
    (setJ k v s).out = s.out ∧ (setJ k v s).faults = s.faults ∧ (setJ k v s).restarts = s.restarts ∧
    (setJ k v s).restartsDue = s.restartsDue ∧ (setJ k v s).keep = s.keep ∧ (setJ k v s).pins = s.pins ∧
    (setJ k v s).sessions = s.sessions ∧ (setJ k v s).latch = s.latch ∧ (setJ k v s).groups = s.groups ∧
    (setJ k v s).nextGroup = s.nextGroup ∧ (setJ k v s).commits = s.commits ∧ (setJ k v s).ts = s.ts ∧
    (setJ k v s).bound = s.bound ∧ (setJ k v s).replicas = s.replicas ∧ (setJ k v s).meas = s.meas ∧
    (setJ k v s).keys = s.keys ∧ (setJ k v s).tamper = s.tamper ∧ (setJ k v s).nor = s.nor ∧
    (setJ k v s).power = s.power ∧ (setJ k v s).host = s.host ∧ (setJ k v s).enrol = s.enrol ∧
    (setJ k v s).sensors = s.sensors ∧ (setJ k v s).claims = s.claims ∧ (setJ k v s).tdcs = s.tdcs ∧
    (setJ k v s).sel = s.sel ∧ (setJ k v s).atom = s.atom ∧ (setJ k v s).esmc = s.esmc ∧
    (setJ k v s).pulseWait = s.pulseWait ∧ (setJ k v s).synth = s.synth ∧ (setJ k v s).gnss = s.gnss ∧
    (setJ k v s).ports = s.ports ∧ (setJ k v s).sw = s.sw ∧ (setJ k v s).crypto = s.crypto ∧
    (setJ k v s).ptpIn = s.ptpIn ∧ (setJ k v s).ntpIn = s.ntpIn ∧ (setJ k v s).ptp = s.ptp ∧
    (setJ k v s).ntp = s.ntp ∧ (setJ k v s).mem = s.mem ∧ (setJ k v s).cores = s.cores ∧
    (setJ k v s).stats = s.stats ∧ (setJ k v s).statsDone = s.statsDone ∧ (setJ k v s).hinge = s.hinge ∧
    (setJ k v s).update = s.update ∧ (setJ k v s).pending = s.pending ∧ (∀ j, getF (setJ k v s) j = getF s j) ∧
    up (setJ k v s) = up s ∧ (∀ j, getB (setJ k v s) j = getB s j) := by
  obtain ⟨j, h | ⟨h, e⟩⟩ := setJ_shape k v s <;> rw [h] <;> and_intros <;> intros <;> rfl

/-- A maximum changes its object. -/
@[simp] theorem setMax_keeps (k : Nat) (v : Int) (s : State) :
    (setMax k v s).variant = s.variant ∧ (setMax k v s).blobs = s.blobs ∧ (setMax k v s).inForce = s.inForce ∧
    (setMax k v s).mode = s.mode ∧ (setMax k v s).now = s.now ∧ (setMax k v s).freeCtr = s.freeCtr ∧
    (setMax k v s).out = s.out ∧ (setMax k v s).journal = s.journal ∧ (setMax k v s).faults = s.faults ∧
    (setMax k v s).restarts = s.restarts ∧ (setMax k v s).restartsDue = s.restartsDue ∧
    (setMax k v s).keep = s.keep ∧ (setMax k v s).pins = s.pins ∧ (setMax k v s).sessions = s.sessions ∧
    (setMax k v s).latch = s.latch ∧ (setMax k v s).groups = s.groups ∧ (setMax k v s).nextGroup = s.nextGroup ∧
    (setMax k v s).commits = s.commits ∧ (setMax k v s).ts = s.ts ∧ (setMax k v s).bound = s.bound ∧
    (setMax k v s).replicas = s.replicas ∧ (setMax k v s).meas = s.meas ∧ (setMax k v s).keys = s.keys ∧
    (setMax k v s).tamper = s.tamper ∧ (setMax k v s).nor = s.nor ∧ (setMax k v s).power = s.power ∧
    (setMax k v s).host = s.host ∧ (setMax k v s).enrol = s.enrol ∧ (setMax k v s).sensors = s.sensors ∧
    (setMax k v s).claims = s.claims ∧ (setMax k v s).tdcs = s.tdcs ∧ (setMax k v s).sel = s.sel ∧
    (setMax k v s).atom = s.atom ∧ (setMax k v s).esmc = s.esmc ∧ (setMax k v s).pulseWait = s.pulseWait ∧
    (setMax k v s).synth = s.synth ∧ (setMax k v s).gnss = s.gnss ∧ (setMax k v s).ports = s.ports ∧
    (setMax k v s).sw = s.sw ∧ (setMax k v s).crypto = s.crypto ∧ (setMax k v s).ptpIn = s.ptpIn ∧
    (setMax k v s).ntpIn = s.ntpIn ∧ (setMax k v s).ptp = s.ptp ∧ (setMax k v s).ntp = s.ntp ∧
    (setMax k v s).mem = s.mem ∧ (setMax k v s).cores = s.cores ∧ (setMax k v s).stats = s.stats ∧
    (setMax k v s).statsDone = s.statsDone ∧ (setMax k v s).hinge = s.hinge ∧ (setMax k v s).update = s.update ∧
    (setMax k v s).pending = s.pending ∧ (∀ j, getF (setMax k v s) j = getF s j) ∧ up (setMax k v s) = up s ∧
    (∀ j, getB (setMax k v s) j = getB s j) := by
  unfold setMax; split <;> and_intros <;> intros <;> rfl

/-! ### Raises (R456–R468) -/

/-- Objects that a raise can change: the counters of the collector, and the validity of the keep record. -/
def raiseKeys : List Nat :=
  [Obj.FAULTS_C0, Obj.FAULTS_C1, Obj.FAULTS_C2, Obj.FAULTS_C3, Obj.ESCALATIONS, Obj.RAISES_UNJOURNALLED, Obj.KEEP_VALID, Obj.KEEP_COUNT]

/-- s and t differ in what a raise can change only. -/
structure RaiseFrame (s t : State) : Prop where
  num : ∀ k, k ∉ raiseKeys → getN t k = getN s k
  shape : ∃ n j f k m g r d ks p c, t = { s with
    nums := n, journal := j, faults := f, keep := k, mode := m, groups := g, restarts := r, restartsDue := d, keys := ks, power := p, freeCtr := c }

theorem RaiseFrame.refl (s : State) : RaiseFrame s s :=
  ⟨fun _ _ => rfl, s.nums, s.journal, s.faults, s.keep, s.mode, s.groups, s.restarts, s.restartsDue, s.keys, s.power, s.freeCtr, rfl⟩

theorem RaiseFrame.trans {a b c : State} (h : RaiseFrame a b) (g : RaiseFrame b c) : RaiseFrame a c := by
  obtain ⟨h1, n, j, f, k, m, gr, r, d, ks, p, c, rfl⟩ := h
  obtain ⟨g1, n', j', f', k', m', gr', r', d', ks', p', c', rfl⟩ := g
  exact ⟨fun x hx => (g1 x hx).trans (h1 x hx), n', j', f', k', m', gr', r', d', ks', p', c', rfl⟩

theorem raiseFrame_setN {k : Nat} (hk : k ∈ raiseKeys) (v : Int) (s : State) : RaiseFrame s (setN k v s) :=
  ⟨fun _ hx => getN_setN_ne s v (fun e => hx (e ▸ hk)), _, s.journal, s.faults, s.keep, s.mode, s.groups, s.restarts, s.restartsDue, s.keys,
    s.power, s.freeCtr, rfl⟩

theorem raiseFrame_putFault (f : FaultSrc) (s : State) : RaiseFrame s (putFault f s) :=
  ⟨fun _ _ => rfl, s.nums, s.journal, _, s.keep, s.mode, s.groups, s.restarts, s.restartsDue, s.keys, s.power, s.freeCtr, rfl⟩

theorem raiseFrame_journal (r : JReq) (s : State) : RaiseFrame s (journal r s) := by
  obtain ⟨j, h⟩ := journal_shape r s
  exact ⟨fun k _ => by rw [h]; rfl, s.nums, j, s.faults, s.keep, s.mode, s.groups, s.restarts, s.restartsDue, s.keys, s.power, s.freeCtr, h⟩

theorem raiseFrame_keep (k : Keep) (s : State) : RaiseFrame s { s with keep := k } :=
  ⟨fun _ _ => rfl, s.nums, s.journal, s.faults, k, s.mode, s.groups, s.restarts, s.restartsDue, s.keys, s.power, s.freeCtr, rfl⟩

theorem raiseFrame_writeKeep (s : State) : RaiseFrame s (writeKeep s) := by
  unfold writeKeep
  refine (raiseFrame_setN (k := Obj.KEEP_VALID) (by decide) 1 s).trans ?_
  exact raiseFrame_keep _ _

theorem raiseFrame_keepToNow (s : State) : RaiseFrame s (keepToNow s) :=
  ⟨fun _ hx => getN_setN_ne _ _ (fun e => hx (e ▸ by decide)), (keepToNow s).nums, s.journal, s.faults, (keepToNow s).keep, s.mode, s.groups,
    s.restarts, s.restartsDue, s.keys, s.power, s.freeCtr + 1, rfl⟩

theorem raiseFrame_finalKeep (s : State) : RaiseFrame s (finalKeep s) := by
  unfold finalKeep
  split
  · exact .refl s
  · exact (raiseFrame_keepToNow s).trans (raiseFrame_writeKeep _)

theorem raiseFrame_goAbsent (m : Mode) (s : State) : RaiseFrame s (goAbsent m s) :=
  ⟨fun _ _ => rfl, s.nums, s.journal, s.faults, s.keep, _, _, _, _, _, _, s.freeCtr, rfl⟩

theorem raiseFrame_safeState (f : FaultSrc) (c : Bool) (s : State) : RaiseFrame s (safeState f c s) := by
  have invalid : ∀ x : State, RaiseFrame s x → ∀ k : Keep, RaiseFrame s { setN Obj.KEEP_VALID 0 x with keep := k } :=
    fun x h k => (h.trans (raiseFrame_setN (k := Obj.KEEP_VALID) (by decide) 0 x)).trans (raiseFrame_keep k _)
  unfold safeState
  simp only
  refine RaiseFrame.trans ?_ (raiseFrame_goAbsent _ _)
  split
  · exact invalid _ (raiseFrame_keep _ s) _
  · exact (raiseFrame_keep _ s).trans (raiseFrame_finalKeep _)

theorem raiseFrame_react (code base cls : Nat) (s : State) : RaiseFrame s (react dueRestart code base cls s) := by
  unfold react
  simp only
  split
  · exact ⟨fun _ _ => rfl, s.nums, s.journal, s.faults, s.keep, s.mode, s.groups, _, _, s.keys, s.power, s.freeCtr, rfl⟩
  · exact .refl s

theorem classCounter_mem (n : Nat) : classCounter n ∈ raiseKeys := by
  unfold classCounter; split <;> decide

theorem raiseFrame_bump {k : Nat} (hk : k ∈ raiseKeys) (s : State) : RaiseFrame s (bump k s) := raiseFrame_setN hk _ s

/-- A counted raise: the safe state, or the counter, the journal and the reaction of its class. -/
theorem raiseFrame_counted (code base cls : Nat) (f : FaultSrc) (r : JReq) (c : Prop) [Decidable c] {s x : State} (h : RaiseFrame s x) :
    RaiseFrame s (if cls = 4 then safeState f true x
      else react dueRestart code base cls
        (if c then journal r (bump (classCounter cls) x) else bump Obj.RAISES_UNJOURNALLED (bump (classCounter cls) x))) := by
  have hb := h.trans (raiseFrame_bump (classCounter_mem cls) x)
  split
  · exact h.trans (raiseFrame_safeState _ _ _)
  · refine RaiseFrame.trans ?_ (raiseFrame_react _ _ _ _)
    split
    · exact hb.trans (raiseFrame_journal _ _)
    · exact hb.trans (raiseFrame_bump (by decide) _)

/-- Everything a unit's raise can change. -/
theorem raise_frame (code base : Nat) (i : FaultInfo) (s : State) : RaiseFrame s (raise code base i s) := by
  unfold raise raiseWith
  split
  · exact .refl s
  · split
    · exact .refl s
    · split
      · exact (raiseFrame_putFault _ s).trans (raiseFrame_bump (by decide) _)
      · simp only
        split
        · split
          · refine RaiseFrame.trans ?_ (raiseFrame_safeState _ _ _)
            exact (raiseFrame_keep _ s).trans (raiseFrame_putFault _ _)
          · refine RaiseFrame.trans ?_ (raiseFrame_react _ _ _ _)
            refine RaiseFrame.trans ?_ (raiseFrame_bump (classCounter_mem _) _)
            exact (raiseFrame_keep _ s).trans (raiseFrame_putFault _ _)
        · refine raiseFrame_counted code base _ _ _ _ ?_
          have esc : ∀ (b : Bool) (x : State), RaiseFrame x (if b then bump Obj.ESCALATIONS x else x) := by
            intro b x; cases b
            · exact .refl x
            · exact raiseFrame_bump (by decide) x
          exact (raiseFrame_putFault _ s).trans (esc _ _)

@[simp] theorem getN_raise (code base : Nat) (i : FaultInfo) (s : State) {k : Nat} (hk : k ∉ raiseKeys) :
    getN (raise code base i s) k = getN s k := (raise_frame code base i s).num k hk

/-- What no raise changes. -/
@[simp] theorem raise_keeps (code base : Nat) (i : FaultInfo) (s : State) :
    (raise code base i s).variant = s.variant ∧ (raise code base i s).blobs = s.blobs ∧
    (raise code base i s).inForce = s.inForce ∧ (raise code base i s).now = s.now ∧
    (raise code base i s).out = s.out ∧ (raise code base i s).pins = s.pins ∧
    (raise code base i s).sessions = s.sessions ∧ (raise code base i s).latch = s.latch ∧
    (raise code base i s).nextGroup = s.nextGroup ∧ (raise code base i s).commits = s.commits ∧
    (raise code base i s).ts = s.ts ∧ (raise code base i s).bound = s.bound ∧
    (raise code base i s).replicas = s.replicas ∧ (raise code base i s).meas = s.meas ∧
    (raise code base i s).tamper = s.tamper ∧ (raise code base i s).nor = s.nor ∧
    (raise code base i s).host = s.host ∧ (raise code base i s).enrol = s.enrol ∧
    (raise code base i s).sensors = s.sensors ∧ (raise code base i s).claims = s.claims ∧
    (raise code base i s).tdcs = s.tdcs ∧ (raise code base i s).sel = s.sel ∧ (raise code base i s).atom = s.atom ∧
    (raise code base i s).esmc = s.esmc ∧ (raise code base i s).pulseWait = s.pulseWait ∧
    (raise code base i s).synth = s.synth ∧ (raise code base i s).gnss = s.gnss ∧
    (raise code base i s).ports = s.ports ∧ (raise code base i s).sw = s.sw ∧
    (raise code base i s).crypto = s.crypto ∧ (raise code base i s).ptpIn = s.ptpIn ∧
    (raise code base i s).ntpIn = s.ntpIn ∧ (raise code base i s).ptp = s.ptp ∧ (raise code base i s).ntp = s.ntp ∧
    (raise code base i s).mem = s.mem ∧ (raise code base i s).cores = s.cores ∧
    (raise code base i s).stats = s.stats ∧ (raise code base i s).statsDone = s.statsDone ∧
    (raise code base i s).hinge = s.hinge ∧ (raise code base i s).update = s.update ∧
    (raise code base i s).pending = s.pending ∧ (∀ j, getF (raise code base i s) j = getF s j) ∧
    (∀ j, getB (raise code base i s) j = getB s j) := by
  obtain ⟨n, j, f, k, m, g, r, d, ks, p, c, h⟩ := (raise_frame code base i s).shape
  rw [h]; and_intros <;> intros <;> rfl

/-- The live bit of a source. -/
@[simp] theorem setLive_keeps (code : Nat) (b : Bool) (s : State) :
    (setLive code b s).variant = s.variant ∧ (setLive code b s).nums = s.nums ∧ (setLive code b s).blobs = s.blobs ∧
    (setLive code b s).inForce = s.inForce ∧ (setLive code b s).mode = s.mode ∧ (setLive code b s).now = s.now ∧
    (setLive code b s).freeCtr = s.freeCtr ∧ (setLive code b s).out = s.out ∧
    (setLive code b s).journal = s.journal ∧ (setLive code b s).restarts = s.restarts ∧
    (setLive code b s).restartsDue = s.restartsDue ∧ (setLive code b s).keep = s.keep ∧
    (setLive code b s).pins = s.pins ∧ (setLive code b s).sessions = s.sessions ∧
    (setLive code b s).latch = s.latch ∧ (setLive code b s).groups = s.groups ∧
    (setLive code b s).nextGroup = s.nextGroup ∧ (setLive code b s).commits = s.commits ∧
    (setLive code b s).ts = s.ts ∧ (setLive code b s).bound = s.bound ∧ (setLive code b s).replicas = s.replicas ∧
    (setLive code b s).meas = s.meas ∧ (setLive code b s).keys = s.keys ∧ (setLive code b s).tamper = s.tamper ∧
    (setLive code b s).nor = s.nor ∧ (setLive code b s).power = s.power ∧ (setLive code b s).host = s.host ∧
    (setLive code b s).enrol = s.enrol ∧ (setLive code b s).sensors = s.sensors ∧
    (setLive code b s).claims = s.claims ∧ (setLive code b s).tdcs = s.tdcs ∧ (setLive code b s).sel = s.sel ∧
    (setLive code b s).atom = s.atom ∧ (setLive code b s).esmc = s.esmc ∧
    (setLive code b s).pulseWait = s.pulseWait ∧ (setLive code b s).synth = s.synth ∧
    (setLive code b s).gnss = s.gnss ∧ (setLive code b s).ports = s.ports ∧ (setLive code b s).sw = s.sw ∧
    (setLive code b s).crypto = s.crypto ∧ (setLive code b s).ptpIn = s.ptpIn ∧ (setLive code b s).ntpIn = s.ntpIn ∧
    (setLive code b s).ptp = s.ptp ∧ (setLive code b s).ntp = s.ntp ∧ (setLive code b s).mem = s.mem ∧
    (setLive code b s).cores = s.cores ∧ (setLive code b s).stats = s.stats ∧
    (setLive code b s).statsDone = s.statsDone ∧ (setLive code b s).hinge = s.hinge ∧
    (setLive code b s).update = s.update ∧ (setLive code b s).pending = s.pending ∧
    (∀ j, getF (setLive code b s) j = getF s j) ∧ up (setLive code b s) = up s ∧
    (∀ j, getB (setLive code b s) j = getB s j) := by
  unfold setLive; split <;> and_intros <;> intros <;> rfl

@[simp] theorem getN_setLive (code : Nat) (b : Bool) (s : State) (k : Nat) : getN (setLive code b s) k = getN s k := by
  unfold setLive; split <;> rfl

/-! ### The last act of a command -/

theorem getN_deriveObjects (s : State) {k : Nat} (hk : k ∉ derivedKeys) : getN (deriveObjects s) k = getN s k := by
  simp only [derivedKeys, List.mem_cons, List.not_mem_nil, or_false, not_or] at hk
  obtain ⟨h1, h2, h3, h4, h5, h6, h7, h8⟩ := hk
  unfold deriveObjects
  simp only
  rw [getN_setN_ne _ _ (Ne.symm h8), getN_setN_ne _ _ (Ne.symm h7), getN_setN_ne _ _ (Ne.symm h6), getN_setN_ne _ _ (Ne.symm h5),
    getN_setJ_ne _ _ (Ne.symm h4), getN_setN_ne _ _ (Ne.symm h3), getN_setN_ne _ _ (Ne.symm h2), getN_setN_ne _ _ (Ne.symm h1)]

theorem deriveObjects_shape (s : State) : ∃ n j, deriveObjects s = { s with nums := n, journal := j } := by
  unfold deriveObjects
  simp only
  obtain ⟨j, h | ⟨h, e⟩⟩ := setJ_shape Obj.FAULT_ROLE_HOLD (if roleHold s then 1 else 0)
    (setN Obj.FAULT_STICKY_COUNT
      (s.faults.filterMap (fun f => if f.sticky then f.classSticky else none) ++ s.keep.stickyOnly.map (·.2)).length
      (setN Obj.FAULT_WORST_LIVE (if maxClass (s.faults.filterMap fun f => if f.live then some f.lastBase else none) < 0 then 255
          else maxClass (s.faults.filterMap fun f => if f.live then some f.lastBase else none))
        (setN Obj.FAULT_WORST_STICKY (if maxClass (s.faults.filterMap (fun f => if f.sticky then f.classSticky else none) ++
            s.keep.stickyOnly.map (·.2)) < 0 then 255 else maxClass (s.faults.filterMap (fun f => if f.sticky then f.classSticky else none) ++
            s.keep.stickyOnly.map (·.2))) s)))
  · rw [h]; exact ⟨_, j, rfl⟩
  · rw [h]; exact ⟨_, s.journal, rfl⟩

theorem getN_settle_eq (s : State) (k : Nat) : getN (settle s) k = getN (deriveObjects s) k := by
  unfold settle getN
  exact getD_lookupKV_canonNums _ _ _

/-- An object that is not derived is as the command left it. -/
@[simp] theorem getN_settle (s : State) {k : Nat} (hk : k ∉ derivedKeys) : getN (settle s) k = getN s k :=
  (getN_settle_eq s k).trans (getN_deriveObjects s hk)

@[simp] theorem getNat_settle (s : State) {k : Nat} (hk : k ∉ derivedKeys) : getNat (settle s) k = getNat s k := by
  simp [getNat, hk]

theorem settle_shape (s : State) : ∃ n j p, settle s = { s with nums := n, journal := j, pins := p } := by
  obtain ⟨n, j, h⟩ := deriveObjects_shape s
  exact ⟨_, j, pinsOf (deriveObjects s), by unfold settle; rw [h]⟩

/-- What the last act of a command does not touch. -/
@[simp] theorem settle_keeps (s : State) :
    (settle s).variant = s.variant ∧ (settle s).blobs = s.blobs ∧ (settle s).inForce = s.inForce ∧
    (settle s).mode = s.mode ∧ (settle s).now = s.now ∧ (settle s).freeCtr = s.freeCtr ∧ (settle s).out = s.out ∧
    (settle s).faults = s.faults ∧ (settle s).restarts = s.restarts ∧ (settle s).restartsDue = s.restartsDue ∧
    (settle s).keep = s.keep ∧ (settle s).sessions = s.sessions ∧ (settle s).latch = s.latch ∧
    (settle s).groups = s.groups ∧ (settle s).nextGroup = s.nextGroup ∧ (settle s).commits = s.commits ∧
    (settle s).ts = s.ts ∧ (settle s).bound = s.bound ∧ (settle s).replicas = s.replicas ∧ (settle s).meas = s.meas ∧
    (settle s).keys = s.keys ∧ (settle s).tamper = s.tamper ∧ (settle s).nor = s.nor ∧ (settle s).power = s.power ∧
    (settle s).host = s.host ∧ (settle s).enrol = s.enrol ∧ (settle s).sensors = s.sensors ∧
    (settle s).claims = s.claims ∧ (settle s).tdcs = s.tdcs ∧ (settle s).sel = s.sel ∧ (settle s).atom = s.atom ∧
    (settle s).esmc = s.esmc ∧ (settle s).pulseWait = s.pulseWait ∧ (settle s).synth = s.synth ∧
    (settle s).gnss = s.gnss ∧ (settle s).ports = s.ports ∧ (settle s).sw = s.sw ∧ (settle s).crypto = s.crypto ∧
    (settle s).ptpIn = s.ptpIn ∧ (settle s).ntpIn = s.ntpIn ∧ (settle s).ptp = s.ptp ∧ (settle s).ntp = s.ntp ∧
    (settle s).mem = s.mem ∧ (settle s).cores = s.cores ∧ (settle s).stats = s.stats ∧
    (settle s).statsDone = s.statsDone ∧ (settle s).hinge = s.hinge ∧ (settle s).update = s.update ∧
    (settle s).pending = s.pending ∧ (∀ j, getF (settle s) j = getF s j) ∧ up (settle s) = up s ∧
    (∀ j, getB (settle s) j = getB s j) := by
  obtain ⟨n, j, p, h⟩ := settle_shape s
  rw [h]; and_intros <;> intros <;> rfl

/-- The pins follow from what the last act leaves. -/
theorem pinsOf_congr {s t : State} (h : ∀ k, getN t k = getN s k) (e : t = { s with nums := t.nums, journal := t.journal, pins := t.pins }) :
    pinsOf t = pinsOf s := by
  have hk : ∀ k, getNat t k = getNat s k := fun k => by simp [getNat, h]
  have hr : roleHold t = roleHold s := by rw [e]; rfl
  have hu : up t = up s := by rw [e]; rfl
  have hp : t.power = s.power := by rw [e]
  have hh : t.host = s.host := by rw [e]
  have hm : t.mode = s.mode := by rw [e]
  have hf : fit t = fit s := by simp only [fit, hk, h, hr, hu, hp]
  have hg : t.gnss = s.gnss := by rw [e]
  have hv : t.variant = s.variant := by rw [e]
  have hq : t.keep = s.keep := by rw [e]
  have hx : t.ports = s.ports := by rw [e]
  have ha : antBiasOn t = antBiasOn s := by simp only [antBiasOn, h, hu, hp, hg]
  have hms : ∀ n, milestone t n = milestone s n := fun n => by simp only [milestone, hk, h, hm]
  have ho : ∀ l, operatingLevel t l = operatingLevel s l := fun l => by
    cases l <;> simp only [operatingLevel, portLine, hk, h, hp, hx, ha, hms]
  have hl : ∀ l, levelOf t l = levelOf s l := fun l => by
    have hoa : outputsAbsent t = outputsAbsent s := by simp only [outputsAbsent, hk, h, hu]
    unfold levelOf
    rw [hm, hv, hq, hu, hoa, ho]
  simp only [pinsOf, outputsAbsent, hf, hk, h, hu, hp, hh, hm, ha, hl]

/-- Whatever a command did, its last act leaves the store canonical, the lands driven and the summaries right. -/
theorem derived_settle (s : State) : Derived (settle s) := by
  obtain ⟨n, j, h⟩ := deriveObjects_shape s
  have hs : settle s = { deriveObjects s with
      pins := pinsOf (deriveObjects s), nums := canonNums (deriveObjects s).variant (deriveObjects s).nums } := rfl
  have hg : ∀ k, getN (settle s) k = getN (deriveObjects s) k := getN_settle_eq s
  have hroll : roleHold (settle s) = roleHold s := by rw [hs, h]; rfl
  have hfa : (settle s).faults = s.faults := by rw [hs, h]
  have hke : (settle s).keep = s.keep := by rw [hs, h]
  have hse : (settle s).sessions = s.sessions := by rw [hs, h]
  have hgr : (settle s).groups = s.groups := by rw [hs, h]
  have hks : (settle s).keys = s.keys := by rw [hs, h]
  have hpo : (settle s).power = s.power := by rw [hs, h]
  refine ⟨?_, ?_, ?_, ?_, ?_, ?_, ?_, ?_⟩
  · rw [hs]; exact storeCanonical_canonNums _ _
  · have : pinsOf (settle s) = pinsOf (deriveObjects s) := pinsOf_congr hg (by rw [hs])
    rw [this, hs]
  · rw [hg, hroll]; simp [deriveObjects]
  · rw [hg, hfa, hke]; simp [deriveObjects]
  · rw [hg, hse]; simp [deriveObjects]
  · rw [hg, hgr]; simp [deriveObjects]
  · rw [hg, hks]; simp [deriveObjects]
  · rw [hg, hpo]; simp [deriveObjects]

/-! ### Commands -/

/-- A unit's event in a module that runs. -/
@[simp] theorem ifUp_up (f : State → State) (s : State) (h : up s = true) : ifUp f s = f s := by simp [ifUp, h]

/-- A unit's event in a module that does not run leaves the state. -/
@[simp] theorem ifUp_down (f : State → State) (s : State) (h : up s = false) : ifUp f s = s := by simp [ifUp, h]

end Sys2Proof.Machine
end

