-- ==== Sys2Proof/Laws/Requests.lean ====
section
/-! SUPPORT. Laws/Requests.lean: everything that the shared course of a request can do: what a response changes, and the whole effect of
an accepted WRITE and COMMAND. -/
namespace Sys2Proof.Machine

/-! ### Responses -/

/-- s and t differ in what a response can change only: the read queue, the session's SEQ, the log of what left, the journal, and the
count of discarded NOTIFYs. -/
structure ReplyFrame (s t : State) : Prop where
  num : ∀ k, k ≠ Obj.NOTIFY_DROP → getN t k = getN s k
  shape : ∃ n o j x h, t = { s with nums := n, out := o, journal := j, sessions := x, host := h }

theorem ReplyFrame.refl (s : State) : ReplyFrame s s := ⟨fun _ _ => rfl, s.nums, s.out, s.journal, s.sessions, s.host, rfl⟩

theorem ReplyFrame.trans {a b c : State} (h : ReplyFrame a b) (g : ReplyFrame b c) : ReplyFrame a c := by
  obtain ⟨h1, n, o, j, x, q, rfl⟩ := h
  obtain ⟨g1, n', o', j', x', q', rfl⟩ := g
  exact ⟨fun k hk => (g1 k hk).trans (h1 k hk), n', o', j', x', q', rfl⟩

theorem replyFrame_emit (o : Out) (s : State) : ReplyFrame s (emit o s) :=
  ⟨fun _ _ => rfl, s.nums, _, s.journal, s.sessions, s.host, rfl⟩

theorem replyFrame_journal (r : JReq) (s : State) : ReplyFrame s (journal r s) := by
  obtain ⟨j, h⟩ := journal_shape r s
  exact ⟨fun k _ => by rw [h]; rfl, s.nums, s.out, j, s.sessions, s.host, h⟩

theorem replyFrame_setSession (n : Nat) (x : Session) (s : State) : ReplyFrame s (setSession n x s) :=
  ⟨fun _ _ => rfl, s.nums, s.out, s.journal, _, s.host, rfl⟩

theorem replyFrame_hostQueue (b : Bool) (f : List Byte) (s : State) : ReplyFrame s (hostQueue b f s) := by
  unfold hostQueue
  split
  · exact ⟨fun _ _ => rfl, s.nums, s.out, s.journal, s.sessions, _, rfl⟩
  · split
    · exact ⟨fun k hk => getN_setN_ne s _ (Ne.symm hk), _, s.out, s.journal, s.sessions, s.host, rfl⟩
    · exact ⟨fun _ _ => rfl, s.nums, s.out, s.journal, s.sessions, _, rfl⟩

theorem replyFrame_sendOn (x : Session) (b : Bool) (f : List Byte) (s : State) : ReplyFrame s (sendOn x b f s) := by
  unfold sendOn
  split
  · exact replyFrame_hostQueue _ _ _
  · exact ⟨fun _ _ => rfl, s.nums, s.out, s.journal, s.sessions, _, rfl⟩

theorem replyFrame_sendFrame (k n : Nat) (b : Bool) (body : List Byte) (s : State) : ReplyFrame s (sendFrame k n b body s) := by
  unfold sendFrame
  simp only
  split
  · exact .refl s
  · exact (replyFrame_setSession _ _ s).trans (replyFrame_sendOn _ _ _ _)

theorem replyFrame_respond (q : Req) (op st i sub fl tot : Nat) (v : List Byte) (s : State) :
    ReplyFrame s (respond q op st i sub fl tot v s) := by
  unfold respond
  refine ReplyFrame.trans ?_ (replyFrame_sendFrame _ _ _ _ _)
  split
  · exact .refl s
  · exact replyFrame_emit _ s

/-- The entry and the response of a request. -/
theorem answer_frame (q : Req) (op : ReqOp) (k st : Nat) (old new d : List Byte) (s : State) :
    ReplyFrame s (answer q op k st old new d s) :=
  (replyFrame_journal _ s).trans (replyFrame_respond _ _ _ _ _ _ _ _ _)

/-- A NOTIFY. -/
theorem notify_frame (n e a st o : Nat) (s : State) : ReplyFrame s (notify n e a st o s) :=
  (replyFrame_emit _ s).trans (replyFrame_sendFrame _ _ _ _ _)

@[simp] theorem getN_answer (q : Req) (op : ReqOp) (k st : Nat) (old new d : List Byte) (s : State) {j : Nat} (h : j ≠ Obj.NOTIFY_DROP) :
    getN (answer q op k st old new d s) j = getN s j := (answer_frame q op k st old new d s).num j h

@[simp] theorem getN_respond (q : Req) (op st i sub fl tot : Nat) (v : List Byte) (s : State) {j : Nat} (h : j ≠ Obj.NOTIFY_DROP) :
    getN (respond q op st i sub fl tot v s) j = getN s j := (replyFrame_respond q op st i sub fl tot v s).num j h

@[simp] theorem getN_notify (n e a st o : Nat) (s : State) {j : Nat} (h : j ≠ Obj.NOTIFY_DROP) :
    getN (notify n e a st o s) j = getN s j := (notify_frame n e a st o s).num j h

/-- What it leaves. -/
@[simp] theorem answer_keeps (q : Req) (op : ReqOp) (k st : Nat) (old new d : List Byte) (s : State) :
    (answer q op k st old new d s).variant = s.variant ∧ (answer q op k st old new d s).blobs = s.blobs ∧
    (answer q op k st old new d s).inForce = s.inForce ∧ (answer q op k st old new d s).mode = s.mode ∧
    (answer q op k st old new d s).now = s.now ∧ (answer q op k st old new d s).freeCtr = s.freeCtr ∧
    (answer q op k st old new d s).faults = s.faults ∧ (answer q op k st old new d s).restarts = s.restarts ∧
    (answer q op k st old new d s).restartsDue = s.restartsDue ∧ (answer q op k st old new d s).keep = s.keep ∧
    (answer q op k st old new d s).pins = s.pins ∧ (answer q op k st old new d s).latch = s.latch ∧
    (answer q op k st old new d s).groups = s.groups ∧ (answer q op k st old new d s).nextGroup = s.nextGroup ∧
    (answer q op k st old new d s).commits = s.commits ∧ (answer q op k st old new d s).ts = s.ts ∧
    (answer q op k st old new d s).bound = s.bound ∧ (answer q op k st old new d s).replicas = s.replicas ∧
    (answer q op k st old new d s).meas = s.meas ∧ (answer q op k st old new d s).keys = s.keys ∧
    (answer q op k st old new d s).tamper = s.tamper ∧ (answer q op k st old new d s).nor = s.nor ∧
    (answer q op k st old new d s).power = s.power ∧ (answer q op k st old new d s).enrol = s.enrol ∧
    (answer q op k st old new d s).sensors = s.sensors ∧ (answer q op k st old new d s).claims = s.claims ∧
    (answer q op k st old new d s).tdcs = s.tdcs ∧ (answer q op k st old new d s).sel = s.sel ∧
    (answer q op k st old new d s).atom = s.atom ∧ (answer q op k st old new d s).esmc = s.esmc ∧
    (answer q op k st old new d s).pulseWait = s.pulseWait ∧ (answer q op k st old new d s).synth = s.synth ∧
    (answer q op k st old new d s).gnss = s.gnss ∧ (answer q op k st old new d s).ports = s.ports ∧
    (answer q op k st old new d s).sw = s.sw ∧ (answer q op k st old new d s).crypto = s.crypto ∧
    (answer q op k st old new d s).ptpIn = s.ptpIn ∧ (answer q op k st old new d s).ntpIn = s.ntpIn ∧
    (answer q op k st old new d s).ptp = s.ptp ∧ (answer q op k st old new d s).ntp = s.ntp ∧
    (answer q op k st old new d s).mem = s.mem ∧ (answer q op k st old new d s).cores = s.cores ∧
    (answer q op k st old new d s).stats = s.stats ∧ (answer q op k st old new d s).statsDone = s.statsDone ∧
    (answer q op k st old new d s).hinge = s.hinge ∧ (answer q op k st old new d s).update = s.update ∧
    (answer q op k st old new d s).pending = s.pending ∧ (∀ j, getF (answer q op k st old new d s) j = getF s j) ∧
    up (answer q op k st old new d s) = up s ∧ (∀ j, getB (answer q op k st old new d s) j = getB s j) := by
  obtain ⟨n, o, j, x, h, e⟩ := (answer_frame q op k st old new d s).shape
  rw [e]; and_intros <;> intros <;> rfl

/-- What it leaves. -/
@[simp] theorem respond_keeps (q : Req) (op st i sub fl tot : Nat) (v : List Byte) (s : State) :
    (respond q op st i sub fl tot v s).variant = s.variant ∧ (respond q op st i sub fl tot v s).blobs = s.blobs ∧
    (respond q op st i sub fl tot v s).inForce = s.inForce ∧ (respond q op st i sub fl tot v s).mode = s.mode ∧
    (respond q op st i sub fl tot v s).now = s.now ∧ (respond q op st i sub fl tot v s).freeCtr = s.freeCtr ∧
    (respond q op st i sub fl tot v s).faults = s.faults ∧ (respond q op st i sub fl tot v s).restarts = s.restarts ∧
    (respond q op st i sub fl tot v s).restartsDue = s.restartsDue ∧
    (respond q op st i sub fl tot v s).keep = s.keep ∧ (respond q op st i sub fl tot v s).pins = s.pins ∧
    (respond q op st i sub fl tot v s).latch = s.latch ∧ (respond q op st i sub fl tot v s).groups = s.groups ∧
    (respond q op st i sub fl tot v s).nextGroup = s.nextGroup ∧
    (respond q op st i sub fl tot v s).commits = s.commits ∧ (respond q op st i sub fl tot v s).ts = s.ts ∧
    (respond q op st i sub fl tot v s).bound = s.bound ∧ (respond q op st i sub fl tot v s).replicas = s.replicas ∧
    (respond q op st i sub fl tot v s).meas = s.meas ∧ (respond q op st i sub fl tot v s).keys = s.keys ∧
    (respond q op st i sub fl tot v s).tamper = s.tamper ∧ (respond q op st i sub fl tot v s).nor = s.nor ∧
    (respond q op st i sub fl tot v s).power = s.power ∧ (respond q op st i sub fl tot v s).enrol = s.enrol ∧
    (respond q op st i sub fl tot v s).sensors = s.sensors ∧ (respond q op st i sub fl tot v s).claims = s.claims ∧
    (respond q op st i sub fl tot v s).tdcs = s.tdcs ∧ (respond q op st i sub fl tot v s).sel = s.sel ∧
    (respond q op st i sub fl tot v s).atom = s.atom ∧ (respond q op st i sub fl tot v s).esmc = s.esmc ∧
    (respond q op st i sub fl tot v s).pulseWait = s.pulseWait ∧ (respond q op st i sub fl tot v s).synth = s.synth ∧
    (respond q op st i sub fl tot v s).gnss = s.gnss ∧ (respond q op st i sub fl tot v s).ports = s.ports ∧
    (respond q op st i sub fl tot v s).sw = s.sw ∧ (respond q op st i sub fl tot v s).crypto = s.crypto ∧
    (respond q op st i sub fl tot v s).ptpIn = s.ptpIn ∧ (respond q op st i sub fl tot v s).ntpIn = s.ntpIn ∧
    (respond q op st i sub fl tot v s).ptp = s.ptp ∧ (respond q op st i sub fl tot v s).ntp = s.ntp ∧
    (respond q op st i sub fl tot v s).mem = s.mem ∧ (respond q op st i sub fl tot v s).cores = s.cores ∧
    (respond q op st i sub fl tot v s).stats = s.stats ∧ (respond q op st i sub fl tot v s).statsDone = s.statsDone ∧
    (respond q op st i sub fl tot v s).hinge = s.hinge ∧ (respond q op st i sub fl tot v s).update = s.update ∧
    (respond q op st i sub fl tot v s).pending = s.pending ∧
    (∀ j, getF (respond q op st i sub fl tot v s) j = getF s j) ∧ up (respond q op st i sub fl tot v s) = up s ∧
    (∀ j, getB (respond q op st i sub fl tot v s) j = getB s j) := by
  obtain ⟨n, o, j, x, h, e⟩ := (replyFrame_respond q op st i sub fl tot v s).shape
  rw [e]; and_intros <;> intros <;> rfl

/-- What it leaves. -/
@[simp] theorem notify_keeps (n e a st o : Nat) (s : State) :
    (notify n e a st o s).variant = s.variant ∧ (notify n e a st o s).blobs = s.blobs ∧
    (notify n e a st o s).inForce = s.inForce ∧ (notify n e a st o s).mode = s.mode ∧
    (notify n e a st o s).now = s.now ∧ (notify n e a st o s).freeCtr = s.freeCtr ∧
    (notify n e a st o s).faults = s.faults ∧ (notify n e a st o s).restarts = s.restarts ∧
    (notify n e a st o s).restartsDue = s.restartsDue ∧ (notify n e a st o s).keep = s.keep ∧
    (notify n e a st o s).pins = s.pins ∧ (notify n e a st o s).latch = s.latch ∧
    (notify n e a st o s).groups = s.groups ∧ (notify n e a st o s).nextGroup = s.nextGroup ∧
    (notify n e a st o s).commits = s.commits ∧ (notify n e a st o s).ts = s.ts ∧
    (notify n e a st o s).bound = s.bound ∧ (notify n e a st o s).replicas = s.replicas ∧
    (notify n e a st o s).meas = s.meas ∧ (notify n e a st o s).keys = s.keys ∧
    (notify n e a st o s).tamper = s.tamper ∧ (notify n e a st o s).nor = s.nor ∧
    (notify n e a st o s).power = s.power ∧ (notify n e a st o s).enrol = s.enrol ∧
    (notify n e a st o s).sensors = s.sensors ∧ (notify n e a st o s).claims = s.claims ∧
    (notify n e a st o s).tdcs = s.tdcs ∧ (notify n e a st o s).sel = s.sel ∧ (notify n e a st o s).atom = s.atom ∧
    (notify n e a st o s).esmc = s.esmc ∧ (notify n e a st o s).pulseWait = s.pulseWait ∧
    (notify n e a st o s).synth = s.synth ∧ (notify n e a st o s).gnss = s.gnss ∧
    (notify n e a st o s).ports = s.ports ∧ (notify n e a st o s).sw = s.sw ∧
    (notify n e a st o s).crypto = s.crypto ∧ (notify n e a st o s).ptpIn = s.ptpIn ∧
    (notify n e a st o s).ntpIn = s.ntpIn ∧ (notify n e a st o s).ptp = s.ptp ∧ (notify n e a st o s).ntp = s.ntp ∧
    (notify n e a st o s).mem = s.mem ∧ (notify n e a st o s).cores = s.cores ∧
    (notify n e a st o s).stats = s.stats ∧ (notify n e a st o s).statsDone = s.statsDone ∧
    (notify n e a st o s).hinge = s.hinge ∧ (notify n e a st o s).update = s.update ∧
    (notify n e a st o s).pending = s.pending ∧ (∀ j, getF (notify n e a st o s) j = getF s j) ∧
    up (notify n e a st o s) = up s ∧ (∀ j, getB (notify n e a st o s) j = getB s j) := by
  obtain ⟨n, o, j, x, h, e⟩ := (notify_frame n e a st o s).shape
  rw [e]; and_intros <;> intros <;> rfl

/-! ### Frames that are accepted -/

/-- An accepted frame: nothing changes but the session's window and instants, and the write buffer of the host link. -/
theorem acceptFrame_shape {h : FrameHdr} {n : Nat} {s s1 s2 : State} (e : acceptFrame h n s = (some s1, s2)) :
    ∃ x w, s1 = { s with sessions := x, host := w } := by
  obtain ⟨w, hw⟩ : ∃ w, takeFrame h s = { s with host := w } := by
    unfold takeFrame
    split <;> exact ⟨_, rfl⟩
  unfold acceptFrame at e
  rw [hw] at e
  simp only at e
  split at e
  · simp at e
  · split at e
    · simp at e
    · split at e
      · simp at e
      · split at e
        · simp at e
        · obtain ⟨rfl, -⟩ := Prod.mk.inj e |>.imp Option.some.inj id
          exact ⟨_, _, rfl⟩

/-- What an accepted request changes of the state: the session, the Latch's lease, the journal. -/
theorem acceptRequest_shape (n : Nat) (s : State) : ∃ x j l, acceptRequest n s = { s with sessions := x, journal := j, latch := l } := by
  have h0 : ∃ j, (if (session s n).state = 1 then
      journal { kind := 4, origin := .session n, key := Obj.SESS_STATE n, old := be 1 1, new := be 1 2 } s else s) =
      { s with journal := j } := by
    split
    · exact journal_shape _ _
    · exact ⟨s.journal, rfl⟩
  obtain ⟨j, h0⟩ := h0
  unfold acceptRequest
  simp only [h0, setSession]
  split
  · exact ⟨_, _, _, rfl⟩
  · exact ⟨_, _, s.latch, rfl⟩

/-- The state in which an accepted WRITE or COMMAND acts differs from the one before in the session, the host link, the Latch's lease,
the journal and the agent's count only. -/
structure AcceptFrame (s t : State) : Prop where
  num : ∀ k, k ≠ Obj.AGENT_REQUESTS → getN t k = getN s k
  shape : ∃ n x w j l, t = { s with nums := n, sessions := x, host := w, journal := j, latch := l }

theorem acceptFrame_agent {h : FrameHdr} {n : Nat} {s s1 s2 : State} (e : acceptFrame h n s = (some s1, s2)) :
    AcceptFrame s (agentCount (acceptRequest n s1)) := by
  obtain ⟨x, w, rfl⟩ := acceptFrame_shape e
  obtain ⟨x', j, l, e2⟩ := acceptRequest_shape n { s with sessions := x, host := w }
  rw [e2]
  exact ⟨fun k hk => getN_setN_ne _ _ (Ne.symm hk), _, x', w, j, l, rfl⟩

/-- The whole effect of an accepted WRITE (R404, R405, R408). -/
theorem ownerWrite_accepted {q : Req} {k : Nat} {r : Rule} {s s2 : State} {v : Val} (h : acceptedWrite q k r s = some (v, s2))
    (hd : r.defer = none) :
    AcceptFrame s s2 ∧ ownerWrite q k r s =
      answer q .write k r.status (heldBytes s2 k) (q.value.take q.valueLen) [] (applyWrite r k v s2) := by
  unfold acceptedWrite at h
  unfold ownerWrite
  cases e : acceptFrame q.hdr q.sess s with
  | mk a b =>
    cases a with
    | none => simp [e] at h
    | some s1 =>
      simp only [e] at h ⊢
      split at h
      · rename_i c
        obtain ⟨c1, c2, c3, c4, c5⟩ := c
        obtain ⟨rfl, rfl⟩ := Prod.mk.inj (Option.some.inj h)
        refine ⟨acceptFrame_agent e, ?_⟩
        rw [if_neg (by simp [c1]), if_neg c2]
        simp only [ne_eq, not_true_eq_false, if_false, c3, c5, hd]
        rw [if_neg]
        rintro ⟨a1, a2⟩
        rcases c4 with c4 | c4
        · exact a1 c4
        · exact c4 a2
      · simp at h

/-- The whole effect of an accepted COMMAND (R404, R408). -/
theorem ownerCommand_accepted {q : Req} {k : Nat} {r : Rule} {s s2 : State} {v : Val} (h : acceptedCommand q k r s = some (v, s2))
    (hd : r.defer = none) (hl : r.unlogged = false) :
    AcceptFrame s s2 ∧ ownerCommand q k r s =
      answer q .command k r.status [] (r.jnew (q.value.take q.valueLen)) (r.result s2 v) (r.eff v s2) := by
  unfold acceptedCommand at h
  unfold ownerCommand
  cases e : acceptFrame q.hdr q.sess s with
  | mk a b =>
    cases a with
    | none => simp [e] at h
    | some s1 =>
      simp only [e] at h ⊢
      split at h
      · rename_i c
        obtain ⟨c1, c2, c3, c5⟩ := c
        obtain ⟨rfl, rfl⟩ := Prod.mk.inj (Option.some.inj h)
        refine ⟨acceptFrame_agent e, ?_⟩
        rw [if_neg (by simp [c1]), if_neg c2]
        simp only [ne_eq, not_true_eq_false, if_false, c3, c5, hd, hl, Bool.false_eq_true]
      · simp at h

end Sys2Proof.Machine
end

