-- ==== Sys2Proof/Laws/Frames.lean ====
section
/-! SUPPORT. Laws/Frames.lean: frames of whole commands: from what an operation keeps to what its command keeps, and the accepted
requests once for all. -/
namespace Sys2Proof.Machine

theorem nextWith_finish {c : Host.Outcome State Fault Refusal} {x : State} {P : State → Prop} (h : c = finish x) (hp : P (settle x)) : nextWith c P := ⟨_, h, hp⟩

def keepsAll (ps : List Part) (ks : List Nat) (s t : State) : Prop :=
  (∀ p, p ∉ ps → samePart s t p) ∧ ∀ k, k ∉ ks → getN t k = getN s k

theorem frame_settle {ps ks} {s t : State} (h : keepsAll ps ks s t) : frame ps ks s (settle t) := by
  refine ⟨fun p hp => ?_, fun k hk hd => by rw [getN_settle _ hd]; exact h.2 k hk⟩
  have := h.1 p hp
  obtain ⟨n, j, q, e⟩ := settle_shape t
  rw [e]
  cases p <;> exact this

theorem writes_of {c : Req → Instr} {k : Nat} {r : Rule} {ps ks} {s : State} (hu : up s = true) (hd : r.defer = none)
    (hk : k ∉ derivedKeys) (hn : k ≠ Obj.NOTIFY_DROP)
    (hc : ∀ q, exec (c q) s = finish (ifUp (ownerWrite q k r) s))
    (he : ∀ x u, keepsAll ps (k :: ks) u (r.eff (.num x) u)) (hx : ∀ x u, getN (r.eff (.num x) u) k = getN u k) :
    writes c k r ps ks s := by
  intro q x s2 h
  obtain ⟨ha, hw⟩ := ownerWrite_accepted h hd
  refine nextWith_finish (hc q) ?_
  rw [ifUp_up _ _ hu, hw]
  obtain ⟨num, n, xs, w, j, l, rfl⟩ := ha
  refine ⟨?_, frame_settle ⟨fun p hp => ?_, fun i hi => ?_⟩⟩
  · rw [getN_settle _ hk, getN_answer _ _ _ _ _ _ _ _ hn]
    simp only [applyWrite]; rw [hx]
    simp [storeVal, getN, setN]
  · obtain ⟨n', o', j', x', h', e⟩ := (answer_frame q .write k r.status (heldBytes { s with nums := n, sessions := xs, host := w, journal := j, latch := l } k) (q.value.take q.valueLen) [] (applyWrite r k (.num x) { s with nums := n, sessions := xs, host := w, journal := j, latch := l })).shape
    rw [e]
    have he1 := (he x (storeVal k (.num x) { s with nums := n, sessions := xs, host := w, journal := j, latch := l })).1 p (by simp_all)
    cases p <;> first | exact he1 | exact absurd (by simp [reqParts]) hp
  · simp only [reqKeys, List.cons_append, List.mem_cons, List.nil_append, not_or] at hi
    rw [getN_answer _ _ _ _ _ _ _ _ hi.2.2.1]
    simp only [applyWrite]
    rw [(he x _).2 i (by simp_all)]
    have : getN (storeVal k (.num x) { s with nums := n, sessions := xs, host := w, journal := j, latch := l }) i = getN { s with nums := n, sessions := xs, host := w, journal := j, latch := l } i := by
      simp [storeVal, getN, setN, Ne.symm hi.1]
    rw [this]; exact num i hi.2.1

theorem commands_of {c : Req → Instr} {k : Nat} {r : Rule} {ps ks} {P : Val → State → Prop} {s : State} (hu : up s = true)
    (hd : r.defer = none) (hl : r.unlogged = false) (hc : ∀ q, exec (c q) s = finish (ifUp (ownerCommand q k r) s))
    (he : ∀ v u, AcceptFrame s u → keepsAll (reqParts ++ ps) (reqKeys ++ ks) u (r.eff v u))
    (hp : ∀ v u t, AcceptFrame s u → (∀ i, i ≠ Obj.NOTIFY_DROP → i ∉ derivedKeys → getN t i = getN (r.eff v u) i) →
      (∃ n j p o x h, t = { r.eff v u with nums := n, journal := j, pins := p, out := o, sessions := x, host := h }) → P v t) :
    commands c k r ps ks P s := by
  intro q v s2 h
  obtain ⟨ha, hw⟩ := ownerCommand_accepted h hd hl
  refine nextWith_finish (hc q) ?_
  rw [ifUp_up _ _ hu, hw]
  have hh := he v s2 ha
  have hf := answer_frame q .command k r.status [] (r.jnew (q.value.take q.valueLen)) (r.result s2 v) (r.eff v s2)
  generalize answer q .command k r.status [] (r.jnew (q.value.take q.valueLen)) (r.result s2 v) (r.eff v s2) = y at hf
  refine ⟨hp v s2 _ ha ?_ ?_, frame_settle ⟨fun p hpp => ?_, fun i hi => ?_⟩⟩
  · intro i hi hd'
    rw [getN_settle _ hd']; exact hf.num i hi
  · obtain ⟨n, j, p, e⟩ := settle_shape y
    obtain ⟨n', o', j', x', h', e'⟩ := hf.shape
    exact ⟨n, j, p, o', x', h', by rw [e, e']⟩
  · have h1 := hh.1 p hpp
    obtain ⟨n', o', j', x', h', e'⟩ := hf.shape
    obtain ⟨n, x, w, j, l, rfl⟩ := ha.shape
    rw [e']
    cases p <;> first | exact h1 | exact absurd (by simp [reqParts]) hpp
  · have hi' : i ≠ Obj.NOTIFY_DROP ∧ i ≠ Obj.AGENT_REQUESTS := by
      simp only [reqKeys, List.cons_append, List.mem_cons, not_or] at hi
      exact ⟨hi.2.1, hi.1⟩
    rw [hf.num i hi'.1, hh.2 i hi]
    exact ha.num i hi'.2

end Sys2Proof.Machine
end

