-- ==== Sys2Proof/Laws/Accepted.lean ====
section
/-! SUPPORT. Laws/Accepted.lean: requests that every test accepts answer exactly the state that their rule gives. -/
namespace Sys2Proof.Machine

theorem writesBy_of {c : Req → Instr} {k : Nat} {r : Rule} {s : State} (hu : up s = true) (hd : r.defer = none)
    (hc : ∀ q, exec (c q) s = finish (ifUp (ownerWrite q k r) s)) : writesBy c k r s := by
  intro q v s2 h
  rw [hc, ifUp_up _ _ hu, (ownerWrite_accepted h hd).2]
  rfl

theorem commandsBy_of {c : Req → Instr} {k : Nat} {r : Rule} {s : State} (hu : up s = true) (hd : r.defer = none)
    (hl : r.unlogged = false) (hc : ∀ q, exec (c q) s = finish (ifUp (ownerCommand q k r) s)) : commandsBy c k r s := by
  intro q v s2 h
  rw [hc, ifUp_up _ _ hu, (ownerCommand_accepted h hd hl).2]
  rfl

@[simp] theorem heldBytes_setSession (n : Nat) (x : Session) (s : State) (k : Nat) : heldBytes (setSession n x s) k = heldBytes s k := rfl

/-- A deferred WRITE or COMMAND of a number object: acceptance hands it on, in flight. -/
theorem ownerCommand_deferred {q : Req} {k : Nat} {r : Rule} {s s2 : State} {v : Val} {f : Req → Val → State → State}
    (h : acceptedCommand q k r s = some (v, s2)) (hd : r.defer = some f) : ownerCommand q k r s = f q v (inFlight q s2) := by
  unfold acceptedCommand at h
  unfold ownerCommand
  cases e : acceptFrame q.hdr q.sess s with
  | mk a b =>
    cases a with
    | none => simp [e] at h
    | some s1 =>
      simp only [e] at h ⊢
      split at h
      · rename_i c
        obtain ⟨c1, c2, c3, c5⟩ := c
        obtain ⟨rfl, rfl⟩ := Prod.mk.inj (Option.some.inj h)
        rw [if_neg (by simp [c1]), if_neg c2]
        simp only [ne_eq, not_true_eq_false, if_false, c3, c5, hd]
        rfl
      · simp at h

/-- A single segment of a DOMAIN that every test accepts reaches the rule of its object. -/
theorem ownerWrite_domain {q : Req} {k : Nat} {r : Rule} {s s2 : State} {v : Val} (h : acceptedDomain q .write k r s = some (v, s2)) :
    v = .oct (q.value.take q.valueLen) ∧ ownerWrite q k r s = match r.defer with
      | some f => f q v (inFlight q s2)
      | none => answer q .write k r.status (heldBytes s2 k) (q.value.take q.valueLen) [] (applyWrite r k v s2) := by
  unfold acceptedDomain at h
  unfold ownerWrite
  cases e : acceptFrame q.hdr q.sess s with
  | mk a b =>
    cases a with
    | none => simp [e] at h
    | some s1 =>
      simp only [e] at h ⊢
      split at h
      · rename_i c
        obtain ⟨c1, c2, c3, c4, c5, c6, c7⟩ := c
        obtain ⟨rfl, rfl⟩ := Prod.mk.inj (Option.some.inj h)
        have hd : ∀ b, decodeVal k (objKind (k / 256) (k % 256)) b = (stOk, .oct b) := by intro b; simp [decodeVal, c2]
        have hs : domainSegment q k (agentCount (acceptRequest q.sess s1)) = (stOk, some (q.value.take q.valueLen),
            setSession q.sess { session (agentCount (acceptRequest q.sess s1)) q.sess with seg := .empty } (agentCount (acceptRequest q.sess s1))) := by
          simp only [domainSegment, c3, if_true]
          rw [if_neg (by rw [List.length_nil, Nat.zero_add]; exact Nat.not_lt.2 c5), if_pos c4]; rfl
        refine ⟨by rw [hd], ?_⟩
        rw [if_neg (by simp [c1]), if_pos c2, hs]
        simp only [ne_eq, not_true_eq_false, if_false, hd]
        rw [if_neg (by rintro ⟨a1, a2⟩; exact c6 trivial a1 a2), if_neg (by rw [hd] at c7; exact fun hh => hh c7)]
        cases r.defer <;> rfl
      · simp at h

theorem writesDomain_of {c : Req → Instr} {k : Nat} {r : Rule} {s : State} (hu : up s = true) (hd : r.defer = none)
    (hc : ∀ q, exec (c q) s = finish (ifUp (ownerWrite q k r) s)) : writesDomain c k r s := by
  intro q v s2 h
  rw [hc, ifUp_up _ _ hu, (ownerWrite_domain h).2, hd]
  rfl

/-- The same for a DOMAIN argument of a COMMAND. -/
theorem ownerCommand_domain {q : Req} {k : Nat} {r : Rule} {s s2 : State} {v : Val} (h : acceptedDomain q .command k r s = some (v, s2))
    (hd : r.defer = none) :
    v = .oct (q.value.take q.valueLen) ∧ ownerCommand q k r s =
      if r.unlogged then respond q 3 r.status (k / 256) (k % 256) 1 (r.result s2 v).length (r.result s2 v) (r.eff v s2)
      else answer q .command k r.status [] (r.jnew (q.value.take q.valueLen)) (r.result s2 v) (r.eff v s2) := by
  unfold acceptedDomain at h
  unfold ownerCommand
  cases e : acceptFrame q.hdr q.sess s with
  | mk a b =>
    cases a with
    | none => simp [e] at h
    | some s1 =>
      simp only [e] at h ⊢
      split at h
      · rename_i c
        obtain ⟨c1, c2, c3, c4, c5, c6, c7⟩ := c
        obtain ⟨rfl, rfl⟩ := Prod.mk.inj (Option.some.inj h)
        have hv : ∀ b, decodeVal k (objKind (k / 256) (k % 256)) b = (stOk, .oct b) := by intro b; simp [decodeVal, c2]
        have hs : domainSegment q k (agentCount (acceptRequest q.sess s1)) = (stOk, some (q.value.take q.valueLen),
            setSession q.sess { session (agentCount (acceptRequest q.sess s1)) q.sess with seg := .empty } (agentCount (acceptRequest q.sess s1))) := by
          simp only [domainSegment, c3, if_true]
          rw [if_neg (by rw [List.length_nil, Nat.zero_add]; exact Nat.not_lt.2 c5), if_pos c4]; rfl
        refine ⟨by rw [hv], ?_⟩
        rw [if_neg (by simp [c1]), if_pos c2, hs]
        simp only [ne_eq, not_true_eq_false, if_false, hv]
        rw [if_neg (by rw [hv] at c7; exact fun hh => hh c7)]
        simp only [hd]
      · simp at h

end Sys2Proof.Machine
end

