-- ==== Sys2Proof/Laws/Time.lean ====
section
/-! SUPPORT. Laws/Time.lean: everything that the shared operations of the time scale and the bound can change. -/
namespace Sys2Proof.Machine

/-- A division with a free rounding uses one free value. -/
@[simp] theorem divFree_snd (n : Int) (d : Nat) (s : State) : (divFree n d s).2 = nextFree s := by unfold divFree; dsimp only; split <;> rfl

/-- The quotient is the floor or the next integer (the rounding is free). -/
theorem divFree_fst (n : Int) (d : Nat) (s : State) : (divFree n d s).1 = n / d ∨ (divFree n d s).1 = n / d + 1 := by
  unfold divFree; dsimp only; split <;> simp

/-- A rounding to the nearest uses a free value in a tie only. -/
theorem nearFree_shape (n : Int) (d : Nat) (s : State) : ∃ c, (nearFree n d s).2 = { s with freeCtr := c } := by
  unfold nearFree; dsimp only; split
  · exact ⟨s.freeCtr, rfl⟩
  · split
    · exact ⟨s.freeCtr, rfl⟩
    · split <;> exact ⟨_, rfl⟩

@[simp] theorem baseTimes_snd (n : Int) (d : Nat) (s : State) : (baseTimes n d s).2 = nextFree s := divFree_snd _ _ s
@[simp] theorem incrOfY_snd (y : Int) (s : State) : (incrOfY y s).2 = nextFree s := baseTimes_snd _ _ s
@[simp] theorem holdIncr_snd (r : Int) (s : State) : (holdIncr r s).2 = nextFree s := baseTimes_snd _ _ s
@[simp] theorem integOfIncr_snd (i : Nat) (s : State) : (integOfIncr i s).2 = nextFree s := divFree_snd _ _ s

theorem clampIncr_range (v : Int) : incrMin ≤ clampIncr v ∧ clampIncr v ≤ incrMax := by
  unfold clampIncr clampInt incrMin incrMax
  split
  · omega
  · split <;> omega

@[simp] theorem refIncrOf_snd (s : State) : (refIncrOf s).2 = nextFree s := by
  unfold refIncrOf
  dsimp only
  split
  · split
    · exact incrOfY_snd _ s
    · rfl
  · exact holdIncr_snd _ s

/-- The reference increment is a field of the bound unit. -/
theorem setRefIncr_shape (s : State) : ∃ b, setRefIncr s = { nextFree s with bound := b } := by
  unfold setRefIncr; dsimp only; rw [refIncrOf_snd]; exact ⟨_, rfl⟩

@[simp] theorem getN_setRefIncr (s : State) (k : Nat) : getN (setRefIncr s) k = getN s k := by
  obtain ⟨b, h⟩ := setRefIncr_shape s; rw [h]; rfl

@[simp] theorem setRefIncr_ts (s : State) : (setRefIncr s).ts = s.ts := by obtain ⟨b, h⟩ := setRefIncr_shape s; rw [h]; rfl

theorem updateBound_shape (s : State) : ∃ b, updateBound s = { s with bound := b } := ⟨_, rfl⟩

/-- The objects that publish the bound. -/
def boundKeys : List Nat :=
  [Obj.BOUND, Obj.GROWTH_FREQ, Obj.GROWTH_AGE, Obj.GROWTH_TEMP, Obj.STEER_PHASE, Obj.TEMP_DEV, Obj.FREQ_UNC_EFF]

/-- What is published are objects; the bound unit itself only remembers the point of this update (R82). -/
theorem publishBound_shape (s : State) : ∃ n h, publishBound s = { s with nums := n, bound := { s.bound with history := h } } :=
  ⟨(publishBound s).nums, keepPoints (oldestRun s) (pointNow s :: s.bound.history), rfl⟩

@[simp] theorem publishBound_ts (s : State) : (publishBound s).ts = s.ts := rfl
@[simp] theorem publishBound_bound (s : State) :
    (publishBound s).bound = { s.bound with history := keepPoints (oldestRun s) (pointNow s :: s.bound.history) } := rfl

@[simp] theorem getN_publishBound (s : State) {k : Nat} (hk : k ∉ boundKeys) : getN (publishBound s) k = getN s k := by
  simp only [boundKeys, List.mem_cons, List.not_mem_nil, or_false, not_or] at hk
  obtain ⟨h1, h2, h3, h4, h5, h6, h7⟩ := hk
  unfold publishBound
  simp only
  rw [getN_setN_ne _ _ (Ne.symm h7), getN_setN_ne _ _ (Ne.symm h6), getN_setN_ne _ _ (Ne.symm h5), getN_setN_ne _ _ (Ne.symm h4),
    getN_setN_ne _ _ (Ne.symm h3), getN_setN_ne _ _ (Ne.symm h2), getN_setN_ne _ _ (Ne.symm h1)]
  rfl

/-- The increment in force changes, and nothing else of the time scale. -/
@[simp] theorem applyIncr_ts (v : Nat) (s : State) : (applyIncr v s).ts = { s.ts with incr := v } := by
  unfold applyIncr
  split
  · rename_i h; rw [setRefIncr_ts, ← h]
  · rw [publishBound_ts, setRefIncr_ts]; rfl

@[simp] theorem getN_applyIncr (v : Nat) (s : State) {k : Nat} (hk : k ∉ boundKeys) : getN (applyIncr v s) k = getN s k := by
  unfold applyIncr
  split
  · exact getN_setRefIncr s k
  · rw [getN_publishBound _ hk, getN_setRefIncr]; rfl

/-- Entering a state leaves the counter, the increment and what is pending. -/
theorem enterTs_ts (st : Int) (s : State) : ∃ i p, (enterTs st s).ts =
    { s.ts with measured := false, acqDone := false, recDone := false, since := s.ts.mts, lastBig := s.ts.mts, integ := i, prevMeas := p } := by
  unfold enterTs
  dsimp only
  rw [setRefIncr_ts]
  split
  · rw [integOfIncr_snd]; exact ⟨_, _, rfl⟩
  · exact ⟨s.ts.integ, s.ts.prevMeas, rfl⟩

theorem getN_enterTs (st : Int) (s : State) (k : Nat) :
    getN (enterTs st s) k = if k = Obj.TS_STATE_SINCE then (mts96 s : Int) else if k = Obj.TS_STATE then st else getN s k := by
  unfold enterTs
  dsimp only
  rw [getN_setRefIncr]
  have h : ∀ u : State, u.nums = (setN Obj.TS_STATE_SINCE (mts96 s) (setN Obj.TS_STATE st s)).nums → u.variant = s.variant →
      getN u k = if k = Obj.TS_STATE_SINCE then (mts96 s : Int) else if k = Obj.TS_STATE then st else getN s k := by
    intro u h1 h2
    have : getN u k = getN (setN Obj.TS_STATE_SINCE (mts96 s) (setN Obj.TS_STATE st s)) k := by simp only [getN, h1, h2]; rfl
    rw [this, getN_setN, getN_setN]
    simp only [eq_comm]
  split
  · rw [integOfIncr_snd]; exact h _ rfl rfl
  · exact h _ rfl rfl

/-- The cancellation of a pending step: STEP_STATUS, the journal, and the pending step itself. -/
theorem cancelStep_shape (s : State) : cancelStep s = s ∨
    ∃ n j, cancelStep s = { s with nums := n, journal := j, ts := { s.ts with step := none } } ∧
      ∀ k, k ≠ Obj.STEP_STATUS → (lookupKV k n) = lookupKV k s.nums := by
  unfold cancelStep
  split
  · split
    · rename_i p h c
      obtain ⟨j, e⟩ := journal_shape { kind := 2, key := Obj.STEP_STATUS, old := [1], new := [3], origin := .session p.session }
        (setN Obj.STEP_STATUS 3 { s with ts := { s.ts with step := none } })
      exact .inr ⟨_, j, e, fun k hk => lookupKV_insertKV_ne (Ne.symm hk) _ _⟩
    · exact .inl rfl
  · exact .inl rfl

@[simp] theorem getN_cancelStep (s : State) {k : Nat} (hk : k ≠ Obj.STEP_STATUS) : getN (cancelStep s) k = getN s k := by
  rcases cancelStep_shape s with h | ⟨n, j, h, e⟩
  · rw [h]
  · rw [h]; simp only [getN, e k hk]

end Sys2Proof.Machine
end

