-- ==== Sys2Proof/WellFormed.lean ====
section
/-! DEFINITION. WellFormed.lean: what a command's operands must satisfy to spell something the hardware can see: the widths of the
fields that the spec's tables of frames, records and objects give. A command that is not well formed spells nothing. -/
namespace Sys2Proof

/-- An unsigned number of n bits. -/
def uns (n v : Nat) : Bool := decide (v < 2 ^ n)

/-- A signed number whose magnitude fits n bits. -/
def sig (n : Nat) (v : Int) : Bool := decide (-(2 : Int) ^ n ≤ v) && decide (v < (2 : Int) ^ n)

/-- Interface, peer address, and the U32 SEQ of a Transom frame ("Frame"). -/
def wfHdr (h : FrameHdr) : Bool :=
  decide (1 ≤ h.iface ∧ h.iface ≤ 3) && uns 8 h.port && uns 16 h.vlan && decide (h.peer.length = 18) &&
    decide (h.own.length = 16) && uns 8 h.version && uns 32 h.seq

/-- The fields of a request record ("Request record"). -/
def wfReq (q : Req) : Bool :=
  wfHdr q.hdr && uns 16 q.sess && uns 16 q.tag && uns 32 q.offset && uns 16 q.group && uns 16 q.valueLen

/-- Slot numbers of the key store (R342). -/
def wfSlots (l : List Nat) : Bool := l.all (fun n => uns 8 n)

/-- An access on the bus matrix: 8-bit master ID, 64-bit address, access kind. -/
def wfAccess (a : BusAccess) : Bool := uns 8 a.master && uns 64 a.address && decide (1 ≤ a.access ∧ a.access ≤ 3)

/-- An extension field of an NTP request: type, length in whole words, and the bytes of its body (R316, R324, "Cookie"). -/
def wfExt (e : ExtField) : Bool :=
  uns 16 e.typ && uns 16 e.len &&
    (match e.body with
     | .plain => true
     | .uid b => decide (b.length + 4 = e.len)
     | .cookie _ version lineage epoch keys => uns 8 version && uns 8 lineage && uns 32 epoch && keys.all (fun k => decide (k.length = 64))
     | .auth nonce ct _ _ _ inner => uns 16 nonce && uns 16 ct && inner.all (fun x => uns 16 x.1 && uns 16 x.2))

def wfNtp (r : NtpReq) : Bool :=
  uns 16 r.ipLen && uns 16 r.udpLen && uns 3 r.vn && uns 3 r.mode && uns 8 r.poll && uns 64 r.xmt && r.ext.all wfExt

/-- A PTP message: its header, and the ICV of an AUTHENTICATION TLV (R274, R292). -/
def wfPtp (m : PtpMsg) : Bool :=
  uns 4 m.typ && uns 4 m.version && uns 4 m.minor && uns 12 m.sdo && uns 8 m.domain && uns 16 m.seq && sig 63 m.corr && sig 7 m.log &&
    decide (m.src.length = 10) && uns 16 m.len && m.auth.all (fun a => decide (a.icv.length = 16))

/-- MAC addresses, tags, Length/Type and what the frame carries. -/
def wfFrame (f : Frame) : Bool :=
  uns 48 f.dst && uns 48 f.src && uns 16 f.etherType && f.tags.all (fun t => uns 3 t.pcp && uns 12 t.vid) &&
    f.ip.all (fun i => decide (i.src.length = 16) && decide (i.dst.length = 16) && uns 16 i.csum &&
      i.udp.all (fun u => uns 16 u.1 && uns 16 u.2)) &&
    (match f.body with
     | .ptp m => wfPtp m
     | .ntpReq r => wfNtp r
     | _ => true)

/-- What the PCS counts of a stamped frame (R208): a bit of its block, a phase in 1/64 UI, and the latencies that vary. -/
def wfStamp (x : PcsStamp) : Bool := uns 96 x.block && uns 7 x.place.bit && uns 6 x.place.phase

def wfSentence : TodSentence → Bool
  | .fntd _ version length sec ns flags => uns 8 version && uns 8 length && uns 48 sec && uns 32 ns && uns 16 flags
  | .zda _ _ => true

def wfSd : SdResult → Bool
  | .image _ | .readError | .noFile | .unsupported => true

/-- What a Hinge frame carries ("Hinge traffic"). -/
def wfHinge : HingeBody → Bool
  | .heartbeat word => uns 32 word
  | .keys epoch nextRotate rotate => uns 32 epoch && uns 96 nextRotate && uns 32 rotate
  | .session e => decide (e.index < 131072) && decide (e.addr.length = 16) && decide (e.peerId.length = 10)
  | .journal e => uns 64 e.seq && uns 8 e.kind && uns 8 e.result && decide (e.old.length ≤ 64) && decide (e.new.length ≤ 64)
  | .request sec | .accept sec => uns 48 sec
  | .bondCert _ digest lc => decide (digest.length = 8) && uns 8 lc
  | .overflow _ | .refuse | .bondKey _ _ => true

/-- Every command of the table. -/
def wellFormed : Instr → Bool
  | .epochBoundary x =>
    x.ratios.all (fun q => decide (q.1 < 16) && sig 63 q.2) && x.silent.all (fun c => decide (c < 16))
  | .syncStrobe _ corr => sig 31 corr
  | .replicaStrobeTimeout _ => true
  | .strobeRemeasure _ delay => uns 32 delay
  | .loopMode q | .incrWrite q => wfReq q
  | .loopIncrApply => true
  | .stepApply q | .setTime q => wfReq q
  | .stepTick => true
  | .capture q keep => wfReq q && uns 48 keep
  | .leapInstantReached => true
  | .keepRecordWrite keep | .keepFreqLearn keep => uns 48 keep
  | .tsLocked | .measurementArrival _ | .boundGradeDwell | .refFreqUncViolExpiry | .tdcEdge _ _ | .tdcWindowMax _ => true
  | .tdcCalHistogramDone _ hits a b => decide (hits.length = 2560) && sig 31 a && sig 31 b
  | .tdcCoreSwap _ | .tdcCalFailed _ => true
  | .tdcSource _ _ q => wfReq q
  | .sensorConversion xo die => sig 31 xo && sig 31 die
  | .refMode _ q | .refUse _ q => wfReq q
  | .refQualified _ | .refLost _ | .refWtrExpiry _ | .refDisqualHoldExpiry _ | .buildOutTimeout | .freqSwitchDone |
    .disputeBegin _ _ | .disputeEnd _ _ | .disputeUnresolved _ _ | .learnPoint | .atomSteerUpdate => true
  | .atomProfile q => wfReq q
  | .atomStatusPoll => true
  | .atomStatusResponse bytes => decide (bytes.length ≤ 64)
  | .atomRespTimeout | .atomLockChange _ | .esmcPduRx _ _ _ _ _ | .esmcInfoTx _ | .esmcQlFailed _ => true
  | .dpllMode _ q => wfReq q
  | .apllSearchStep _ _ _ | .apllLockWindow _ _ => true
  | .clkEnable _ q => wfReq q
  | .clkSquelch _ => true
  | .clkSync _ q => wfReq q
  | .pulseEdgeCommit _ | .pulseEdgeEmit _ => true
  | .ppsOffset _ q | .pgArm _ q | .pgMode _ q | .pgRoute _ q => wfReq q
  | .alignWindowMiss _ | .todSentenceStart _ => true
  | .todinSentence _ x _ => wfSentence x
  | .gnssChanAlloc cands => cands.all (fun x => decide (x.sys < 5) && decide (x.elev ≤ 90))
  | .gnssSurveyStart q => wfReq q
  | .gnssNavSecond n =>
    n.bcast.all (fun x => decide (x.1 < 5)) && n.utc.all (fun x => decide (x.sys < 5) && decide (0 < x.modulus))
  | .gnssTimingSolution x => x.est.all (fun y => decide (y.sys < 5)) && x.sols.all (fun y => uns 5 y.mask && uns 16 y.tdop)
  | .gnssppsEdge | .isbInvalidTimeout _ | .antCurrentSample _ _ | .antSupplyRetry | .gnssExcludeExpiry _ |
    .gnssNoiseMeasure _ _ => true
  | .gnssSnapArm q => wfReq q
  | .gnssSnapStart => true
  | .gnssSnapComplete _ agc1 agc2 lo1 lo5 rate => uns 16 agc1 && uns 16 agc2 && uns 32 lo1 && uns 32 lo5 && sig 31 rate
  | .portMode q _ | .portFec q _ | .maxFrame q => wfReq q
  | .frameHeadArrival _ f x => wfFrame f && wfStamp x
  | .rxFrame _ e => decide (e.len ≤ 65535)
  | .pauseExpiry _ | .backpressureRepeat _ => true
  | .txFrameStart _ block place => wfStamp { block := block, place := place }
  | .ctUnderrun _ | .ctRungDown _ => true
  | .ctLadderReset q _ => wfReq q
  | .linkDown _ | .linkUp _ | .portClose _ => true
  | .switchCellSlot rx tx => decide ((rx.map (·.1)).Nodup) && decide ((tx.map (·.1)).Nodup)
  | .replicateFrame _ => true
  | .fdbAgeExpiry mac vid => uns 48 mac && uns 12 vid
  | .fdbWrite q | .fdbFlush q | .vlanWrite q => wfReq q
  | .tableWriteReturn _ | .tableGenTimeout _ | .bufEccError _ | .cryptoOpComplete _ | .slotWaitTimeout _ |
    .sillReadyDeadline _ _ | .sillPreambleStart _ _ => true
  | .sillLaunch _ _ x => wfStamp x
  | .leadAdaptWindow _ => true
  | .leadLimits q _ _ => wfReq q
  | .ptpSyncRx _ | .ptpFollowUpRx _ | .ptpDelayReqRx _ | .ptpDelayRespRx _ | .ptpPdelayReqRx _ | .ptpPdelayRespRx _ |
    .ptpAnnounceRx _ | .requestUnicastTransmission _ | .cancelUnicastTransmission _ | .grantUnicastTransmission _ |
    .syncDue _ _ _ | .announceDue _ _ _ | .bmcaDecision _ | .announceReceiptTimeout _ _ | .grantExpiry _ => true
  | .sessionCancel q => wfReq q
  | .ucReqStale _ | .ucRenewDue _ | .saKeyRoll _ | .saOverlapExpiry _ | .shedFactorUpdate => true
  | .instEnable q _ _ => wfReq q
  | .ntpRequestRx _ | .ntpRequestParse _ | .ntsEpochRotation => true
  | .ntsRevoke q => wfReq q
  | .ntsCookieSeal q keys => wfReq q && keys.all (fun k => decide (k.length = 64))
  | .ntpShutOrder _ => true
  | .pufRegenerate attempts _ ber bad => decide (attempts ≤ 3) && decide (ber ≤ 10000) && wfSlots bad
  | .keyImport q _ material => wfReq q && uns 256 material
  | .keyGenerate q => wfReq q
  | .keyZeroize x => wfReq x.req
  | .keySlotCheck bad => wfSlots bad
  | .drbgReseed failed => decide (failed ≤ 2)
  | .drbgRestartDone => true
  | .lcTransition q => wfReq q
  | .jtagFirstTck => true
  | .pairBond q => wfReq q
  | .pairBondTimeout | .pairLineageApply => true
  | .pairUnbond q => wfReq q
  | .tamperAlarm _ keep => uns 48 keep
  | .tamperAck q => wfReq q
  | .keepVoltArm => true
  | .writeFrame frame _ => decide (frame.length ≤ 65536)
  | .readFrame _ | .readStatus => true
  | .openReq h keyId nonce => wfHdr h && uns 16 keyId && uns 256 nonce
  | .close h sess => wfHdr h && uns 16 sess
  | .read q index sub | .write q index sub => wfReq q && uns 16 index && uns 8 sub
  | .groupOpen q => wfReq q
  | .groupAdd q index sub => wfReq q && uns 16 index && uns 8 sub
  | .groupCommit q | .groupAbort q | .latchClaim q | .latchRenew q | .latchHand q | .latchRelease q => wfReq q
  | .enrolReq h point nonce shared => wfHdr h && decide (point.length = 97) && uns 256 nonce && uns 384 shared
  | .enrolKey h _ _ material => wfHdr h && uns 256 material
  | .enrolTimeout | .sessionPendingTimeout _ | .sessionIdleTimeout _ | .latchElectionEnd | .latchLeaseExpiry => true
  | .groupStage id => uns 16 id
  | .groupApply | .journalEpochClose | .journalTailCopy => true
  | .journalEntriesRead q | .journalKeyRead q => wfReq q
  | .statSnapshot | .configStore | .dramTraining _ _ | .dramFillDone | .remapBitSet => true
  | .decodeFault a => wfAccess a
  | .dmaDescriptor _ fw _ => fw.all (fun x => decide (x.windows.length ≤ 16) && uns 64 x.first)
  | .eccCorrectable a _ | .eccUncorrectable a _ => wfAccess a
  | .ceBucketLeak _ | .scrubRead _ | .scrubForced _ => true
  | .remapCopyDone entry => decide (entry < 144)
  | .remapClear q => wfReq q
  | .schedFrame work => work.all (fun x => decide (x.1 ≤ 18)) && decide ((work.map (·.1)).Nodup)
  | .coreWatchdog _ held =>
    held.all (fun h => decide (1 ≤ h.op ∧ h.op ≤ 11) && uns 16 h.index && uns 8 h.sub && wfReq h.req)
  | .timeCoreWatchdog | .coreRestartDone _ => true
  | .pmcSel q _ _ | .pmcSnapshot q _ => wfReq q
  | .instrSample x _ => decide (x.core < 5) && decide (x.stack.length ≤ 16) && uns 64 x.address && uns 32 x.opcode
  | .samplePageRead q _ => wfReq q
  | .faultRaise src base detail a => uns 16 src && decide (base ≤ 4) && uns 32 detail && a.all wfAccess
  | .faultLevelDecay src | .faultWindowExpiry src => uns 16 src
  | .unitRestartTimeout unit => uns 16 unit
  | .collectorMismatch => true
  | .faultClear q | .faultOverrides q | .pairEnable q => wfReq q
  | .hingeFrameRx _ _ b => wfHinge b
  | .hingeHeartbeatTx | .hingeDownTimeout | .hingeUp => true
  | .hingeTimeExchange _ _ _ _ bound => uns 80 bound
  | .hingeMeasurement | .mirrorResyncDone | .prbsSelftest _ _ | .cryptoKat _ | .activeInChange _ | .startRoleDwell |
    .pairWtrExpiry => true
  | .pairHandover q => wfReq q
  | .handoverInstant | .handoverArbTimeout | .homeConflict => true
  | .vinValid vin keep => uns 16 vin && uns 48 keep
  | .imageVerify _ _ | .configLoad => true
  | .timeResume keep => uns 48 keep
  | .serviceOpen => true
  | .shutterClose vin _ | .shutterReopen vin _ | .overvoltageStop vin => uns 16 vin
  | .overvoltageRestart vin keep => uns 16 vin && uns 48 keep
  | .railFault _ mv => uns 16 mv
  | .resetAssert _ _ => true
  | .resetRelease keep => uns 48 keep
  | .powerStageStop vin => uns 16 vin
  | .keepPorts q => wfReq q
  | .startAdmit | .startAdmitTimeout | .sdCardDetect => true
  | .sdReadDone r => wfSd r
  | .updStageTransom q => wfReq q
  | .stageVerifyDone _ _ _ => true
  | .updInstall q => wfReq q
  | .installDone _ => true
  | .updActivate q => wfReq q
  | .updActivation => true
  | .updCancel q | .updRollback q _ | .updDiscard q => wfReq q
  | .updTrialExpiry => true
  | .unitRestartDone unit => uns 16 unit
  | .delayReqDue _ _ | .tamperAlarmEnd _ | .peerHealthInChange _ | .jtagTestInstruction _ | .vkeepLoss | .hingeKeysTx =>
    true

end Sys2Proof
end

