-- ==== Sys2Proof/Tests/Slice0.lean ====
section
/-! SUPPORT. Tests/Slice0.lean: for every statement with hypotheses, states and operands that meet them; a term that well-formedness
refuses for each of its checks; and one step of a few commands against values worked out by hand from the spec. -/
open Sys2Proof Sys2Proof.Machine

section
set_option Elab.async false

/-- A running module at tick 10¹² and MTS 10⁶ s, at an epoch boundary, with the given object values. -/
def wRun (l : List (Nat × Int)) : State :=
  l.foldl (fun s p => setN p.1 p.2 s)
    { State.reset with
      mode := .running, now := 1000000000000
      ts := { State.reset.ts with mts := 1000000 * sec48, shadow := 1000000 * sec48, epochTick := some 1000000000000 } }

/-- Session 1 open on the Pane under slot 20. -/
def wSession : Session := { state := 2, iface := 3, slot := 20, keyId := 7 }

/-- A running module with session 1 open; and with that session holding the Latch. -/
def wSess (l : List (Nat × Int)) : State := { wRun l with sessions := wSession :: List.replicate 15 {} }
def wOwn (l : List (Nat × Int)) : State := { wSess l with latch := { holder := 1, leaseFrom := 1000000000000 } }

/-- A request of session 1 over the Pane. -/
def wHdr : FrameHdr := { iface := 3, seq := 1 }
def wReq (value : List Byte) : Req := { hdr := wHdr, sess := 1, valueLen := value.length, value := value }

/-- Slot 1 usable for every purpose, and slot 20 holding a credential. -/
def wKey : KeySlot := { id := 1, typ := 2, usage := 127, bindP := true, bindD := true, keyId := 1, material := 5 }
def wCred : KeySlot := { id := 20, typ := 6, usage := 127, bindP := true, bindD := true, keyId := 7, material := 6 }

/-- Session 1 holds the Latch under an owner-capable credential in slot 20. -/
def wCap (l : List (Nat × Int)) (holder : Nat) : State :=
  { wSess ((Obj.LC_STATE, 1) :: (Obj.CRED_ROLE 20, 1) :: l) with
    keys := { slots := [wKey, wCred] }, latch := { holder := holder, leaseFrom := 1000000000000 } }

/-- A running module with the given TDC channel 0; with the given references first; with refs 0 and 1 in dispute and ref 2 as voter. -/
def wTdc (x : Tdc) (l : List (Nat × Int)) : State := { wRun l with tdcs := x :: (wRun l).tdcs.drop 1 }
def wSel (x : List Ref) (l : List (Nat × Int)) : State := { wRun l with sel := { refs := x ++ State.reset.sel.refs.drop x.length } }
def wVote (l : List (Nat × Int)) : State :=
  let f (n : Nat) : Ref := { id := n, freqAt := some (1000000 * sec48) }
  let s := wSel [f 0, f 1, f 2] ((Obj.REF_STATE 0, 3) :: (Obj.REF_STATE 1, 3) :: (Obj.REF_STATE 2, 3) :: l)
  { s with sel := { s.sel with disputes := [{ a := 0, b := 1, begun := true, eventSec := some 1000000 }] } }

/-- A window open since MTS 0, and an atomic oscillator profile: status polled, answer of one byte 7 at 50. -/
def wWindow : TdcWindow :=
  { n := 1, sum := 0, sumSq := 0, min := 0, max := 0, anchorSec := 0, first := 0, last := 0, pFirst := 0, pLast := 0, iFirst := 0,
    iLast := 0, firstMts := 0, markFirst := {}, markLast := {}, cal := 0, missed := false, n0 := 2, max0 := 2000 }
def wProfile : List Byte := List.replicate 8 0 ++ [2] ++ List.replicate 33 0 ++ [0, 1, 0, 50, 0, 1, 0, 10, 7]

/-- The pulse that a sentence waits for, its measurement kept. -/
def wPulse : PulseWait :=
  { todin := 0, ref := 0, sec := 6, tick := 1000000000000, meas := some { ref := 0, x := 0, uM := none, uP := none, atI := 0 } }

/-- A sentence for the second at MTS 0; the GNSS front end on; every snapshot slot being read. -/
def wSentence : Sentence :=
  { edge := 0, omitted := false, pair := 0, source := 0, utcOffset := 0, utcFlags := 0, tsState := 4, grade := 0, timeRef := 0, utcSec := 0 }
def wGnss (g : Gnss) (l : List (Nat × Int)) : State := { wRun l with gnss := g, power := { gnssOn := true } }

def wSnapFull : State :=
  { wGnss { snap := { armed := some 0 } } [] with
    sessions := (List.range 8).map (fun k => { wSession with seg := .readCopy (Obj.SNAP_DATA k) [] false }) }

/-- A running module with the given port 0; a frame, its reception, its place in the core and its copy for P0. -/
def wPort (x : Port) (l : List (Nat × Int)) : State := { wRun l with ports := x :: (wRun l).ports.drop 1 }
def wFrame : Frame := { dst := 1, src := 3, etherType := 0x0800 }
def wRx : RxCur := { frame := wFrame, maxFrame := 1522, ts := 0, bound := 0 }
def wShort : RxCur := { wRx with frame := { wFrame with etherType := 64 } }
def wPause : RxCur := { wRx with frame := { wFrame with etherType := 0x8808, body := .pause 5 } }
def wEng : EngFrame := { frame := wFrame, len := 64, queue := 7, tick := 0 }
def wCore : CoreFrame :=
  { id := 1, port := 0, frame := wFrame, cls := 0, vlan := 1, ts := 0, bound := 0, stepMark := 0, fdbGen := 0, vlanGen := 0,
    cells := [{ bank := 0, reserve := true }], dests := [{ port := 0, action := 0 }] }
def wCopy : Copy := { frame := 1, out := 0, inp := 0, cls := 0, action := 0, tick := 0 }

/-- A table write; a launch slot due; a PTP message from a parent, its reception on P0, and a state that has received it; a session. -/
def wWrite : TableWrite := { req := wReq [], key := Obj.VLAN_WRITE, value := [] }
def wSlot : Slot :=
  { num := 3, sf := { kind := 1, frame := wFrame, len := 90, queue := 7, arrived := 0 }, l := 1000000 * sec48, c := 0 }
def wMsg (typ len : Nat) : PtpMsg := { typ := typ, domain := 0, src := List.replicate 10 1, len := len, present := len }
def wPtpRx (m : PtpMsg) : PtpRx :=
  { port := 0, frame := { wFrame with dst := groupDst m.typ }, msg := m, vlan := 1, ts := 0, bound := 0, tick := 1000000000000 }
def wPtp (m : PtpMsg) (l : List (Nat × Int)) : State :=
  { wRun ((Obj.INST_ENABLE 0, 1) :: (Obj.PTPP_MODE 0, 1) :: l) with
    ptpIn := [wPtpRx m], ptp := { parents := [some (List.replicate 10 1, [], 0)] }, blobs := [(Obj.INST_CLOCK_ID 0, List.replicate 8 9)] }
def wPtpPort (x : PtpPort) (m : PtpMsg) (l : List (Nat × Int)) : State :=
  { wPtp m l with ptp := { (wPtp m l).ptp with ports := [x] } }
def wPs : PtpSession :=
  { index := 131071, inst := 0, port := 0, v6 := false, tags := [], vlan := 1, mac := 3, addr := [], peerId := [], svc := 0, sa := 0xFF }

/-- An IPv4 frame, an NTP request in it, an Announce. -/
def wIp : IpHdr := { src := List.replicate 16 1, dst := List.replicate 16 2, udp := some (5000, 123) }
def wIpFrame : Frame := { wFrame with ip := some wIp }
def wNtp : NtpRx :=
  { port := 0, frame := wIpFrame, req := {}, len := 90, vlan := 1, svc := 0, ts := 0, bound := 0, utc := 0, tick := 1000000000000 }
def wAnn : AnnounceData := { p1 := 128, p2 := 128, cls := 6, acc := 33, var := 20061, gm := List.replicate 8 1 }

/-- Group 3 of session 1; the session that owns it; an enrolment; no DMA channel is active after reset; a sample of core 4. -/
def wGroup (st : Nat) : Group := { id := 3, state := st, session := 1, atI := 1000000 * sec48 + 2 * ms48 }
def wGroups (st : Nat) : State := { wOwn [] with groups := [wGroup st] }
def wEnrol : Enrolment := { iface := 3, peer := List.replicate 18 0, began := 998000000001, shared := 0 }
theorem wDma : ∀ e, dmaActive (wRun [(Obj.START_MILESTONE, 6)]) e = false := by
  intro e
  rcases Nat.lt_or_ge e 8 with h | h
  · interval_cases e <;> decide +kernel
  · have : (wRun [(Obj.START_MILESTONE, 6)]).mem.dmas.length = 8 := by decide +kernel
    simp [dmaActive, dma, List.getD_eq_getElem?_getD, List.getElem?_eq_none (this ▸ h)]
def wSample : SampleIn :=
  { core := 4, branch := false, excepted := false, truncated := false, task := 0, latency := 0, address := 0, opcode := 0,
    stack := [] }

/-- The Hinge running as given; the objects that make a module FIT. -/
def wHinge (h : Hinge) (l : List (Nat × Int)) : State := { wRun ((Obj.PAIR_ENABLE, 1) :: l) with hinge := { h with lane := true } }
def wFit : List (Nat × Int) := [(Obj.START_MILESTONE, 9), (Obj.BOUND_GRADE, 2)]

/-- A component; a container of one component of one byte, written out from "Image container"; empty banks to stage it against. -/
def wComp (id : Nat) : Comp :=
  { id := id, version := 1, minPeer := [0, 0, 0, 0, 0], build := 0, digest := [], data := [7], source := [] }
def wImage (id : Nat) : List Byte :=
  [0x46, 0x4E, 0x49, 0x4D, 0, 1, 1, 7, 0, 0, 0, 232, 0, 0, 0, 0, 0, 0, 0, 129, 0, 0, 0, 0] ++
  be 1 id ++ [0, 0, 0, 0, 0, 0, 1, 0, 0, 0, 128, 0, 0, 0, 1] ++ List.replicate 24 0 ++ be 48 (Config.sha384 [7]) ++ List.replicate 8 0 ++
  List.replicate 8 0 ++ [7] ++ [0, 1, 0] ++ List.replicate 100 0
def wUpd (l : List (Nat × Int)) : State := { wRun l with update := { banks := [some {}, some {}] } }
theorem wImage_ok : stageTest (wUpd []) (wImage 1) true true = 0 := by
  have h : contComps (wImage 1) = [contComp (wImage 1) 0] := rfl
  have hd : (contComp (wImage 1) 0).digest = be 48 (Config.sha384 [7]) := rfl
  have hx : (contComp (wImage 1) 0).data = [7] := rfl
  have h1 : (wImage 1).length = fieldU (wImage 1) 8 4 := by decide +kernel
  have h2 : contFormat (wImage 1) = true := by decide +kernel
  have h3 : (fieldU (wImage 1) 7 1).testBit (variantNum (wUpd []).variant) = true := by decide +kernel
  have h6 : cosignOk (wUpd []) (wImage 1) true = true := by decide +kernel
  have h7 : compatible (resultSet [contComp (wImage 1) 0] (bankOf (wUpd []) (activeBank (wUpd [])))) = true := by decide +kernel
  have h8 : (wUpd []).mode ≠ .recovery := by decide +kernel
  simp [stageTest, h, hd, hx, ← h1, h2, h3, h6, h7, h8]

/-- A static entry of the FDB. -/
def wMac : FdbEntry := { mac := 2, vid := 1, mask := 1, static := true, drop := false, hit := 0 }

/-- An option that holds something is that thing; likewise for pairs. -/
theorem someGet {α : Type} {o : Option α} (h : o.isSome = true) : o = some (o.get h) := by cases o <;> simp_all
theorem someGet2 {α β : Type} {o : Option (α × β)} (h : o.isSome = true) : o = some ((o.get h).1, (o.get h).2) := by
  cases o <;> simp_all
theorem noneImp {α : Type} {o : Option α} {p : α → Prop} (h : o.isNone = true) : ∀ t, o = some t → p t := by
  cases o <;> simp_all
theorem inrGet {α β : Type} {x : α ⊕ β} (h : x.isRight = true) : x = .inr (x.getRight h) := by cases x <;> simp_all
theorem pairTrue {β : Type} {p : Bool × β} (h : p.1 = true) : p = (true, p.2) := by cases p; simp_all
theorem pairGet {α β : Type} {p : Option α × β} (h : p.1.isSome = true) : p = (some (p.1.get h), p.2) := by
  cases p with | mk a b => cases a <;> simp_all
theorem pairNone {α β : Type} {p : Option α × β} (h : p.1.isNone = true) : p = (none, p.2) := by
  cases p with | mk a b => cases a <;> simp_all
/-- A guard instant before the end of the frame holds it back, whatever the layout adds. -/
theorem guarded_of_mem {s : State} {p n l : Nat} (hl : l ∈ (port s p).guardL) (h1 : s.ts.mts < l)
    (h2 : l < s.ts.mts + (n + 27) * oct48 s p) : guarded s p n = true := by
  simp only [guarded, before, Bool.or_eq_true, List.any_eq_true, Bool.and_eq_true, decide_eq_true_eq]
  exact .inr ⟨l, hl, h1, by omega⟩

/-- The hypotheses of every clause of EveryCommandGoesOn are met. -/
theorem witness_EveryCommandGoesOn :
    (∃ (s : State), up s = false) :=
  ⟨State.reset, by decide +kernel⟩

/-- The hypotheses of every clause of StepKeepsDerived are met. -/
theorem witness_StepKeepsDerived :
    (∃ (s : State) (t : State), Derived s ∧ step s = .next t) :=
  ⟨State.reset, _, by constructor <;> decide +kernel, rfl⟩

/-- The hypotheses of every clause of IdleRun are met. -/
theorem witness_IdleRun :
    (∃ (s : State), idleQuiet s = true ∧ s.ts.mts < mts48Mod) ∧
    (∃ (s : State) (k : _), idleQuiet s = true ∧ s.ts.mts < mts48Mod ∧ k ∉ derivedKeys) :=
  ⟨⟨wRun [], by decide +kernel⟩,
   ⟨wRun [], Obj.LC_STATE, by decide +kernel⟩⟩

/-- The hypotheses of every clause of Encodings are met. -/
theorem witness_Encodings :
    (∃ (t : DType) (v : _), t ≠ .str ∧ t ≠ .oct ∧ t ≠ .dom ∧ t.lo ≤ v ∧ v ≤ t.hi) ∧
    (∃ (t : DType) (b : List Byte) (v : _), t ≠ .str ∧ t ≠ .oct ∧ t ≠ .dom ∧ b.length = t.bytes ∧ decodeNum t b = some v) ∧
    (∃ (b : List Byte), 999999999 < ofBe ((b.drop 6).take 4)) ∧
    (∃ (b : List Byte), b.length = 1) ∧
    (∃ (p : _), p < 2 ^ 40) ∧
    (∃ (c : _), boundFinite c = false) ∧
    (∃ (c : _) (bm : _) (bp : _), boundFinite c = true ∧ boundM c + bm < halfUnb ∧ boundP c + bp < halfUnb) ∧
    (∃ (c : _) (bm : _), boundFinite c = true ∧ halfUnb ≤ boundM c + bm) :=
  ⟨⟨.u8, 255, by decide +kernel⟩,
   ⟨.u8, [255], 255, by decide +kernel⟩,
   ⟨[0, 0, 0, 0, 0, 0, 0x3B, 0x9A, 0xCA, 0, 0, 0], by decide +kernel⟩,
   ⟨[7], by decide +kernel⟩,
   ⟨2 ^ 40 - 1, by decide +kernel⟩,
   ⟨unbounded80, by decide +kernel⟩,
   ⟨bound80 1 2, 1099511627773, 0, by decide +kernel⟩,
   ⟨bound80 1 2, 1099511627774, by decide +kernel⟩⟩

/-- The hypotheses of every clause of Writes are met. -/
theorem witness_Writes :
    (∃ (s : State), up s = true) ∧
    (∃ (s : State) (q : Req) (v : _) (s2 : State), up s = true ∧ acceptedWrite q Obj.INCR_WRITE ruleIncrWrite s = some (v, s2)) :=
  ⟨⟨wRun [], by decide +kernel⟩,
   ⟨wOwn [(Obj.LOOP_MODE_NOW, 1)], wReq (be 8 incrMin), _, _, by decide +kernel, someGet2 (by decide +kernel)⟩⟩

/-- The hypotheses of every clause of ActingCommands are met. -/
theorem witness_ActingCommands :
    (∃ (s : State) (q : Req) (v : _) (s2 : State), up s = true ∧ acceptedCommand q Obj.STEP_APPLY (ruleStepApply q.sess) s = some (v,
      s2)) ∧
    (∃ (s : State) (q : Req) (v : _) (s2 : State), up s = true ∧ acceptedCommand q Obj.SET_TIME (ruleSetTime q.sess) s = some (v, s2)) ∧
    (∃ (s : State), up s = true) ∧
    (∃ (s : State) (q : Req) (v : _) (s2 : State), up s = true ∧ acceptedCommand q Obj.LC_TRANSITION (ruleLcTransition q.sess) s = some
      (v, s2)) ∧
    (∃ (s : State) (q : Req) (ok : _) (m : _) (v : _) (s2 : State), up s = true ∧ acceptedDomain q .command Obj.KEY_IMPORT (ruleKeyImport
      ok m) s = some (v, s2)) ∧
    (∃ (s : State) (q : Req) (keys : _) (v : _) (s2 : State), up s = true ∧ acceptedDomain q .command Obj.NTS_COOKIE_SEAL (ruleCookieSeal
      keys) s = some (v, s2)) :=
  ⟨⟨wOwn [], wReq [0], _, _, by decide +kernel, someGet2 (by decide +kernel)⟩,
   ⟨wOwn [], wReq (List.replicate 12 0), _, _, by decide +kernel, someGet2 (by decide +kernel)⟩,
   ⟨wRun [], by decide +kernel⟩,
   ⟨{ wOwn [(Obj.LC_STATE, 1)] with keys := { challenge := some 5 } }, wReq [3, 0, 0, 0, 0, 0, 0, 5], _, _, by decide +kernel, someGet2
     (by decide +kernel)⟩,
   ⟨wOwn [(Obj.LC_STATE, 1)], wReq ([16, 2, 0, 1, 1, 0, 0, 48] ++ List.replicate 48 9), true, 7, _, _, by decide +kernel, someGet2
     (by decide +kernel)⟩,
   ⟨{ wOwn [(Obj.LC_STATE, 1)] with keys := { slots := [wKey] } }, wReq ([0, 15, 1, 0] ++ List.replicate 80 0), some [], _, _,
     by decide +kernel, someGet2 (by decide +kernel)⟩⟩

/-- The hypotheses of every clause of TableWrites are met. -/
theorem witness_TableWrites :
    (∃ (s : State) (q : Req) (v : _) (s2 : State), up s = true ∧ acceptedDomain q .write Obj.FDB_WRITE ruleFdbWrite s = some (v, s2)) ∧
    (∃ (s : State) (q : Req) (v : _) (s2 : State), up s = true ∧ acceptedDomain q .write Obj.VLAN_WRITE ruleVlanWrite s = some (v, s2)) ∧
    (∃ (s : State) (q : Req) (v : _) (s2 : State), up s = true ∧ acceptedCommand q Obj.FDB_FLUSH ruleFdbFlush s = some (v, s2)) ∧
    (∃ (s : State) (vlan : _), up s = true ∧ tableWrites s vlan ≠ []) ∧
    (∃ (w : TableWrite), w.key = Obj.VLAN_WRITE) ∧
    (∃ (w : TableWrite), w.key = Obj.FDB_FLUSH) ∧
    (∃ (s : State) (w : TableWrite) (e : FdbEntry), w.key = Obj.FDB_FLUSH ∧ e ∈ (commitTable w s).2.sw.fdb) ∧
    (∃ (s : State) (w : TableWrite) (e : FdbEntry), w.key = Obj.FDB_FLUSH ∧ e.static = true ∧ e ∈ s.sw.fdb) :=
  ⟨⟨wOwn [], wReq [0, 0, 0, 0, 0, 2, 0, 1, 0, 1, 3, 0, 0, 0, 0, 0], _, _, by decide +kernel, someGet2 (by decide +kernel)⟩,
   ⟨wOwn [], wReq [0, 2, 1, 0, 0, 1, 0, 0, 0, 0, 0, 0], _, _, by decide +kernel, someGet2 (by decide +kernel)⟩,
   ⟨wOwn [], wReq [0, 1], _, _, by decide +kernel, someGet2 (by decide +kernel)⟩,
   ⟨{ wRun [] with sw := { fdbWrites := [{ req := wReq [], key := Obj.FDB_FLUSH, value := [0, 1] }] } }, false, by decide +kernel⟩,
   ⟨{ req := wReq [], key := Obj.VLAN_WRITE, value := [] }, by decide +kernel⟩,
   ⟨{ req := wReq [], key := Obj.FDB_FLUSH, value := [0, 1] }, by decide +kernel⟩,
   ⟨{ wRun [] with sw := { fdb := [wMac] } }, { req := wReq [], key := Obj.FDB_FLUSH, value := [0, 1] }, wMac, by decide +kernel⟩,
   ⟨{ wRun [] with sw := { fdb := [wMac] } }, { req := wReq [], key := Obj.FDB_FLUSH, value := [0, 1] }, wMac, by decide +kernel⟩⟩

/-- The hypotheses of every clause of RefusedRequests are met. -/
theorem witness_RefusedRequests :
    (∃ (q : Req) (s : State) (s2 : State), acceptFrame q.hdr q.sess s = (none, s2)) ∧
    (∃ (q : Req) (k : _) (s : State) (s1 : State) (i : _), (acceptFrame q.hdr q.sess s).1 = some s1 ∧ tests1to9 q .write (k / 256) (k %
      256) (agentCount (acceptRequest q.sess s1)) ≠ stOk ∧ i ∉ [Obj.AGENT_REQUESTS, Obj.NOTIFY_DROP, Obj.REQ_BUSY]) ∧
    (∃ (q : Req) (k : _) (s : State) (s1 : State) (i : _), (acceptFrame q.hdr q.sess s).1 = some s1 ∧ tests1to9 q .command (k / 256) (k %
      256) (agentCount (acceptRequest q.sess s1)) ≠ stOk ∧ i ∉ [Obj.AGENT_REQUESTS, Obj.NOTIFY_DROP, Obj.REQ_BUSY]) ∧
    (∃ (q : Req) (s : State) (s1 : State) (op : ReqOp) (t : State), (acceptFrame q.hdr q.sess s).1 = some s1 ∧ (session t
      q.sess).inFlight.length < 64 ∧ (session t q.sess).inFlight.contains q.tag = false ∧ q.valueLen ≤ q.value.length ∧ q.reservedOk =
      true ∧ op ≠ .read ∧ t.latch.holder ≠ q.sess) ∧
    (∃ (q : Req) (s : State) (s1 : State) (op : ReqOp) (i : _) (j : _) (t : State), (acceptFrame q.hdr q.sess s).1 = some s1 ∧ tests1to9
      q op i j t = stOk) ∧
    (∃ (q : Req) (s : State) (s1 : State) (op : ReqOp) (i : _) (j : _) (t : State), (acceptFrame q.hdr q.sess s).1 = some s1 ∧ tests1to9
      q op i j t = stOk ∧ op ≠ .read) :=
  ⟨⟨wReq [], wRun [], _, pairNone (by decide +kernel)⟩,
   ⟨wReq [], Obj.STEP_OFFSET, wSess [], _, Obj.LC_STATE, someGet (by decide +kernel), by decide +kernel⟩,
   ⟨wReq [], Obj.STEP_APPLY, wSess [], _, Obj.LC_STATE, someGet (by decide +kernel), by decide +kernel⟩,
   ⟨wReq [], wSess [], _, .write, wSess [], someGet (by decide +kernel), by decide +kernel⟩,
   ⟨wReq [], wOwn [], _, .write, Obj.STEP_OFFSET / 256, Obj.STEP_OFFSET % 256, wOwn [], someGet (by decide +kernel), by decide +kernel⟩,
   ⟨wReq [], wOwn [], _, .write, Obj.STEP_OFFSET / 256, Obj.STEP_OFFSET % 256, wOwn [], someGet (by decide +kernel), by decide +kernel⟩⟩

/-- The hypotheses of every clause of CommandEffects are met. -/
theorem witness_CommandEffects :
    (∃ (ok : _) (v : Val) (s : State) (k : KeySlot), k ∈ ((ruleKeyZeroize ok).eff v s).keys.slots) ∧
    (∃ (s : State) (c : Nat), (clkDivider (clkOut s c).source).isSome = true) ∧
    (∃ (v : Val) (n : _), v = .num n ∧ 0 ≤ n ∧ n < 2) :=
  ⟨⟨true, .num 0, { wRun [] with keys := { slots := [wKey] } }, wKey, by decide +kernel⟩,
   ⟨{ wRun [] with synth := { clks := [{ id := 0, source := 0x10 }] } }, 0, by decide +kernel⟩,
   ⟨.num 1, 1, by decide +kernel⟩⟩

/-- The hypotheses of every clause of WriteTests are met. -/
theorem witness_WriteTests :
    (∃ (b : List Byte), 999999999 < ofBe ((b.drop 6).take 4)) ∧
    (∃ (q : Req) (k : _) (s : State) (s1 : State) (u : State) (b : List Byte), (acceptFrame q.hdr q.sess s).1 = some s1 ∧ u = agentCount
      (acceptRequest q.sess s1) ∧ b = q.value.take q.valueLen ∧ (session u q.sess).inFlight.length < 64 ∧ (session u
      q.sess).inFlight.contains q.tag = false ∧ q.valueLen ≤ q.value.length ∧ q.reservedOk = true ∧ u.latch.holder = q.sess ∧ defined (k
      / 256) (k % 256) = true ∧ absentObj u.variant (k / 256) (k % 256) = false ∧ (objKind (k / 256) (k % 256)).acc = .prv ∧ getN u
      Obj.LC_STATE ≠ 1) ∧
    (∃ (q : Req) (k : _) (s : State) (s1 : State) (u : State) (b : List Byte), (acceptFrame q.hdr q.sess s).1 = some s1 ∧ u = agentCount
      (acceptRequest q.sess s1) ∧ b = q.value.take q.valueLen ∧ tests1to9 q .write (k / 256) (k % 256) u = stOk ∧ (objKind (k / 256) (k %
      256)).typ = .time96 ∧ b.length = 12 ∧ 999999999 < ofBe ((b.drop 6).take 4)) ∧
    (∃ (q : Req) (k : _) (s : State) (s1 : State) (u : State) (b : List Byte), (acceptFrame q.hdr q.sess s).1 = some s1 ∧ u = agentCount
      (acceptRequest q.sess s1) ∧ b = q.value.take q.valueLen ∧ tests1to9 q .write (k / 256) (k % 256) u = stOk ∧ (objKind (k / 256) (k %
      256)).typ ≠ .dom ∧ (objKind (k / 256) (k % 256)).acc ≠ .wo ∧ (decodeVal k (objKind (k / 256) (k % 256)) b).1 = stOk ∧ b = heldBytes
      u k) ∧
    (∃ (q : Req) (k : _) (s : State) (s1 : State) (u : State) (b : List Byte) (u2 : State), (acceptFrame q.hdr q.sess s).1 = some s1 ∧ u
      = agentCount (acceptRequest q.sess s1) ∧ b = q.value.take q.valueLen ∧ tests1to9 q .write (k / 256) (k % 256) u = stOk ∧ (objKind
      (k / 256) (k % 256)).typ = .dom ∧ (objKind (k / 256) (k % 256)).acc ≠ .wo ∧ domainSegment q k u = (stOk, some (heldBytes u k), u2)) ∧
    (∃ (q : Req) (k : _) (r : _) (s : State) (s1 : State) (u : State) (b : List Byte) (v : _) (s2 : State), (acceptFrame q.hdr q.sess
      s).1 = some s1 ∧ u = agentCount (acceptRequest q.sess s1) ∧ b = q.value.take q.valueLen ∧ acceptedCommand q k r s = some (v, s2) ∧
      r.defer = none ∧ r.unlogged = false) :=
  ⟨⟨[0, 0, 0, 0, 0, 0, 0x3B, 0x9A, 0xCA, 0, 0, 0], by decide +kernel⟩,
   ⟨wReq [], Obj.DRAM_GEOMETRY, wOwn [(Obj.LC_STATE, 2)], _, _, _, someGet (by decide +kernel), rfl, rfl, by decide +kernel⟩,
   ⟨wReq [0, 0, 0, 0, 0, 0, 0x3B, 0x9A, 0xCA, 0, 0, 0], Obj.STEP_AT, wOwn [], _, _, _, someGet (by decide +kernel), rfl, rfl,
     by decide +kernel⟩,
   ⟨wReq (List.replicate 12 0), Obj.STEP_AT, wOwn [], _, _, _, someGet (by decide +kernel), rfl, rfl, by decide +kernel,
     by decide +kernel, by decide +kernel, by decide +kernel, rfl⟩,
   ⟨wReq [], Obj.FAULT_OVERRIDES, wOwn [], _, _, _, _, someGet (by decide +kernel), rfl, rfl, by decide +kernel, by decide +kernel,
     by decide +kernel, rfl⟩,
   ⟨wReq [0], Obj.STEP_APPLY, ruleStepApply 1, wOwn [], _, _, _, _, _, someGet (by decide +kernel), rfl, rfl, someGet2
     (by decide +kernel), by decide +kernel⟩⟩

/-- The hypotheses of every clause of CeBucket are met. -/
theorem witness_CeBucket :
    (∃ (s : State) (a : BusAccess) (r : _), up s = true ∧ regionOf s a.address = some r ∧ getNat s (Obj.CE_BUCKET r) + 1 < getNat s
      (Obj.CE_THRESHOLD r)) ∧
    (∃ (s : State) (a : BusAccess) (r : _), up s = true ∧ regionOf s a.address = some r ∧ getNat s (Obj.CE_THRESHOLD r) ≤ getNat s
      (Obj.CE_BUCKET r) + 1) ∧
    (∃ (s : State) (r : Fin 10), up s = true ∧ getNat s (Obj.CE_BUCKET r) ≠ 0 ∧ s.mem.leakFrom.getD r 0 + getNat s (Obj.CE_LEAK_PERIOD r)
      * sT ≤ s.now) ∧
    (∃ (s : State) (r : Fin 10), up s = true ∧ (getNat s (Obj.CE_BUCKET r) = 0 ∨ s.now < s.mem.leakFrom.getD r 0 + getNat s
      (Obj.CE_LEAK_PERIOD r) * sT)) :=
  ⟨⟨wRun [], { master := 0, address := 0x10000000, access := 1 }, 8, by decide +kernel⟩,
   ⟨wRun [(Obj.CE_BUCKET 8, 15)], { master := 0, address := 0x10000000, access := 1 }, 8, by decide +kernel⟩,
   ⟨wRun [(Obj.CE_BUCKET 0, 1), (Obj.CE_LEAK_PERIOD 0, 5)], 0, by decide +kernel⟩,
   ⟨wRun [], 9, by decide +kernel⟩⟩

/-- The hypotheses of every clause of LatchLease are met. -/
theorem witness_LatchLease :
    (∃ (s : State) (n : _), s.latch.holder ≠ n) ∧
    (∃ (s : State) (n : _), s.latch.holder = n) ∧
    (∃ (s : State) (q : Req) (s1 : State), up s = true ∧ acceptedRequest q s = some s1 ∧ recordTests q s1 = stOk ∧ s1.latch.holder =
      q.sess) ∧
    (∃ (s : State) (q : Req) (s1 : State), up s = true ∧ acceptedRequest q s = some s1 ∧ recordTests q s1 = stOk ∧ s1.latch.holder ≠
      q.sess) ∧
    (∃ (s : State), up s = true ∧ s.latch.holder ≠ 0 ∧ s.latch.leaseFrom + 3000 * msT ≤ s.now) ∧
    (∃ (s : State), up s = true ∧ (s.latch.holder = 0 ∨ s.now < s.latch.leaseFrom + 3000 * msT)) ∧
    (∃ (s : State) (q : Req) (s1 : State), up s = true ∧ acceptedRequest q s = some s1 ∧ ownerTests q s1 = stOk ∧ q.valueLen = 2 ∧
      (session s1 (ofBe (q.value.take 2))).state = 2 ∧ ownerCapable s1 (session s1 (ofBe (q.value.take 2))).slot = true ∧ 1 ≤ ofBe
      (q.value.take 2) ∧ ofBe (q.value.take 2) ≤ 16) ∧
    (∃ (s : State) (q : Req) (s1 : State), up s = true ∧ acceptedRequest q s = some s1 ∧ ownerTests q s1 = stOk ∧ q.valueLen = 2 ∧ (ofBe
      (q.value.take 2) = 0 ∨ 16 < ofBe (q.value.take 2) ∨ (session s1 (ofBe (q.value.take 2))).state ≠ 2 ∨ ownerCapable s1 (session s1
      (ofBe (q.value.take 2))).slot = false)) ∧
    (∃ (s : State) (q : Req) (s1 : State), up s = true ∧ acceptedRequest q s = some s1 ∧ ownerTests q s1 = stOk) :=
  ⟨⟨wOwn [], 2, by decide +kernel⟩,
   ⟨wOwn [], 1, by decide +kernel⟩,
   ⟨wOwn [], wReq [], _, by decide +kernel, someGet (by decide +kernel), by decide +kernel⟩,
   ⟨wSess [], wReq [], _, by decide +kernel, someGet (by decide +kernel), by decide +kernel⟩,
   ⟨{ wOwn [] with latch := { holder := 1, leaseFrom := 999400000000 } }, by decide +kernel⟩,
   ⟨{ wOwn [] with latch := { holder := 1, leaseFrom := 999400000001 } }, by decide +kernel⟩,
   ⟨wCap [(Obj.LATCH_STATE, 1)] 1, wReq [0, 1], _, by decide +kernel, someGet (by decide +kernel), by decide +kernel⟩,
   ⟨wOwn [], wReq [0, 17], _, by decide +kernel, someGet (by decide +kernel), by decide +kernel⟩,
   ⟨wOwn [], wReq [], _, by decide +kernel, someGet (by decide +kernel), by decide +kernel⟩⟩

/-- The hypotheses of every clause of RestartRaises are met. -/
theorem witness_RestartRaises :
    (∃ (s : State) (code : _) (si : _), up s = true ∧ srcInfo s.variant code = some si ∧ si.present = true ∧ si.stickyOnly = false ∧
      si.cap.getD 2 ≤ 3 ∧ unitOf code ≠ 0 ∧ restarting s (unitOf code) = true) ∧
    (∃ (s : State) (u : Nat) (r : _), up s = true ∧ s.restarts.find? (fun r => decide (r.unit = u) && !r.late) = some r ∧ r.began + sT ≤
      s.now) ∧
    (∃ (s : State) (u : Nat) (r : _), up s = true ∧ s.restarts.find? (fun r => decide (r.unit = u) && !r.late) = some r ∧ s.now < r.began
      + sT) :=
  ⟨⟨{ wRun [] with restarts := [{ source := 0x1400, unit := 0x1400, began := 999999999999, base := 2 }] }, 0x1400, _, by decide +kernel,
     someGet (by decide +kernel), by decide +kernel⟩,
   ⟨{ wRun [] with restarts := [{ source := 0x1400, unit := 0x1400, began := 999800000000, base := 2 }] }, 0x1400, _, by decide +kernel,
     someGet (by decide +kernel), by decide +kernel⟩,
   ⟨{ wRun [] with restarts := [{ source := 0x1400, unit := 0x1400, began := 999800000001, base := 2 }] }, 0x1400, _, by decide +kernel,
     someGet (by decide +kernel), by decide +kernel⟩⟩

/-- The hypotheses of every clause of PhaseLock are met. -/
theorem witness_PhaseLock :
    (∃ (x : Int), x.natAbs * 1000 ≤ 6553600) ∧
    (∃ (s : State) (x : Int), 6553600 < x.natAbs * 1000 ∧ s.hinge.beyond + 1 < 16) ∧
    (∃ (s : State) (x : Int), 6553600 < x.natAbs * 1000 ∧ 16 ≤ s.hinge.beyond + 1) ∧
    (∃ (s : State), up s = true ∧ s.hinge.locked = true) ∧
    (∃ (s : State), up s = true ∧ hingeUp s = true ∧ s.hinge.lastValid + 100 * usT ≤ s.now) :=
  ⟨⟨6553, by decide +kernel⟩,
   ⟨{ wRun [] with hinge := { beyond := 14 } }, -6554, by decide +kernel⟩,
   ⟨{ wRun [] with hinge := { beyond := 15 } }, 6554, by decide +kernel⟩,
   ⟨{ wRun [] with hinge := { locked := true } }, by decide +kernel⟩,
   ⟨{ wRun [(Obj.HINGE_STATE, 1)] with hinge := { lastValid := 999999980000 } }, by decide +kernel⟩⟩

/-- The hypotheses of every clause of ReplicasAndMeasurements are met. -/
theorem witness_ReplicasAndMeasurements :
    (∃ (s : State) (r : ReplicaId) (corr : Int), up s = true ∧ replicaPresent s.variant (repNum r) = true ∧ (16 ≤ repNum r → portUp s
      (repNum r - 16) = true) ∧ replicaFresh s (repNum r) = true ∧ corr.natAbs ≤ 8) ∧
    (∃ (s : State) (r : ReplicaId), up s = true ∧ replicaPresent s.variant (repNum r) = true ∧ replicaFresh s (repNum r) = true ∧
      (replica s (repNum r)).lastStrobe + 250 ≤ s.now ∧ (∀ x ∈ s.ports, x.slots.all (fun q => !q.started) = true)) ∧
    (∃ (s : State) (r : ReplicaId) (delay : _), up s = true ∧ replicaPresent s.variant (repNum r) = true ∧ remeasureDue s (repNum r) =
      true ∧ delay < 4294967296) ∧
    (∃ (s : State) (r : Fin 30) (m : _), up s = true ∧ s.meas.find? (fun m => m.ref = r.val) = some m ∧ m.stale = true) ∧
    (∃ (s : State) (r : Fin 30) (m : _) (a : Nat) (b : Nat), up s = true ∧ s.meas.find? (fun m => m.ref = r.val) = some m ∧ m.stale =
      false ∧ m.uM = some a ∧ m.uP = some b ∧ (pairAt (updateBound s) m).mU = true ∧ refState s r.val = 4 ∧ useTime s r.val = true ∧
      activeTime s = r.val ∧ getN s Obj.PAIR_ROLE ≠ 1 ∧ loopClosed s = false) :=
  ⟨⟨wRun [(Obj.REPLICA_STATE 0, 0)], .core, 8, by decide +kernel⟩,
   ⟨wRun [(Obj.REPLICA_STATE 1, 0)], .gnss, by decide +kernel⟩,
   ⟨wRun [(Obj.REPLICA_STATE 0, 0)], .core, 4294967295, by decide +kernel⟩,
   ⟨{ wRun [] with meas := [{ ref := 8, x := 5, uM := some 1, uP := some 1, atI := 0, stale := true }] }, 8, _, by decide +kernel,
     someGet (by decide +kernel), by decide +kernel⟩,
   ⟨{ wRun [(Obj.REF_STATE 0, 4), (Obj.ACTIVE_TIME_REF, 0), (Obj.LOOP_MODE_NOW, 1)] with meas := [{ ref := 0, x := 5, uM := some 1, uP := some 1, atI := 0 }] },
     0, _, 1, 1, by decide +kernel, someGet (by decide +kernel), by decide +kernel⟩⟩

/-- The hypotheses of every clause of TimeEvents are met. -/
theorem witness_TimeEvents :
    (∃ (s : State) (v : _), up s = true ∧ s.ts.nextIncr = some v) ∧
    (∃ (s : State), up s = true ∧ (getN s Obj.LEAP_PENDING = 1 ∨ getN s Obj.LEAP_PENDING = 2) ∧ getNat s Obj.LEAP_INSTANT ≤ mts96 s) ∧
    (∃ (s : State), up s = true ∧ keepRecordDue s = true) ∧
    (∃ (s : State), up s = true ∧ s.ts.keepLearnTick + 64 * sT ≤ s.now) ∧
    (∃ (s : State), up s = true ∧ (getN s Obj.TS_STATE = 1 ∨ getN s Obj.TS_STATE = 4) ∧ (activeTime s ≠ 0xFF ∨ hingeRef s = true) ∧
      lockDue s = true ∧ atBoundary s = true ∧ tsChanged s = false) ∧
    (∃ (s : State) (g : _), up s = true ∧ betterGrade s = some g) ∧
    (∃ (s : State) (v : _), up s = true ∧ s.bound.violTick = some v ∧ v + 86400 * sT ≤ s.now) :=
  ⟨⟨{ wRun [] with ts := { nextIncr := some 5 } }, _, by decide +kernel, someGet (by decide +kernel)⟩,
   ⟨wRun [(Obj.LEAP_PENDING, 2), (Obj.LEAP_INSTANT, 65536000000000000000)], by decide +kernel⟩,
   ⟨wRun [(Obj.TS_STATE, 1)], by decide +kernel⟩,
   ⟨wRun [], by decide +kernel⟩,
   ⟨{ wRun [(Obj.TS_STATE, 4), (Obj.ACTIVE_TIME_REF, 0)] with ts := { (wRun []).ts with measured := true } }, by decide +kernel⟩,
   ⟨{ wRun [(Obj.BOUND_GRADE, 3)] with bound := { held := [none, some 0, none, none] } }, _, by decide +kernel, someGet
     (by decide +kernel)⟩,
   ⟨{ wRun [] with bound := { violTick := some 1 }, now := 86400 * sT + 1 }, _, by decide +kernel, someGet (by decide +kernel),
     by decide +kernel⟩⟩

/-- The hypotheses of every clause of BoundaryAndStep are met. -/
theorem witness_BoundaryAndStep :
    (∃ (s : State), up s = true ∧ boundaryDue s = false) ∧
    (∃ (s : State), up s = true ∧ boundaryDue s = true) ∧
    (∃ (s : State), up s = true ∧ stepDue (incrTake (loopApply s)) = none) ∧
    (∃ (s : State) (p : _), up s = true ∧ stepDue (incrTake (loopApply s)) = some p) :=
  ⟨⟨wRun [], by decide +kernel⟩,
   ⟨wRun [(Obj.START_MILESTONE, 6)], by decide +kernel⟩,
   ⟨wRun [], by decide +kernel⟩,
   ⟨{ wRun [] with ts := { step := some { offset := 5, atI := 0, owner := true, session := 1, setTime := false } } }, _,
     by decide +kernel, someGet (by decide +kernel)⟩⟩

/-- The hypotheses of every clause of ChannelEvents are met. -/
theorem witness_ChannelEvents :
    (∃ (s : State) (c : Fin 16), tdcRuns s c = false) ∧
    (∃ (s : State) (c : Fin 16) (t : _), tdcRuns s c = true ∧ (tdc s c).lastTick = some t ∧ s.now < t + 800) ∧
    (∃ (s : State) (c : Fin 16), tdcRuns s c = true ∧ (∀ t, (tdc s c).lastTick = some t → t + 800 ≤ s.now)) ∧
    (∃ (s : State) (c : Fin 16) (w : TdcWindow), up s = true ∧ atBoundary s = true ∧ (tdc s c).window = some w ∧ w.firstMts + w.max0 *
      ms48 ≤ s.ts.mts) ∧
    (∃ (s : State) (c : Fin 16) (hits : List Nat) (a : Int) (b : Int), up s = true ∧ c < nTdcs s.variant ∧ hits.sum = 16777216 ∧ (tdc s
      c).ready = none ∧ tableOk hits (rangeWith a (rangeWith b (tdc s c).calRange)) = true) ∧
    (∃ (s : State) (c : Fin 16) (hits : List Nat) (a : Int) (b : Int), up s = true ∧ c < nTdcs s.variant ∧ hits.sum = 16777216 ∧ (tdc s
      c).ready = none ∧ tableOk hits (rangeWith a (rangeWith b (tdc s c).calRange)) = false) ∧
    (∃ (s : State) (c : Fin 16), up s = true ∧ converting s c = false) ∧
    (∃ (s : State) (c : Nat), up s = true ∧ converting s c = true) ∧
    (∃ (s : State) (c : Fin 16), up s = true ∧ atBoundary s = true ∧ c < nTdcs s.variant ∧ getN s (Obj.TDC_CAL_STATE c) ≠ 1 ∧ getN s
      (Obj.TDC_CAL_STATE c) ≠ 3 ∧ (tdc s c).acceptedTick + 120 * sT ≤ s.now) ∧
    (∃ (s : State) (xo : _) (die : _), up s = true ∧ s.sensors.first = false ∧ s.sensors.xoFailed = false ∧ s.sensors.dieFailed = false ∧
      (-71680 ≤ xo ∧ xo ≤ 153600 ∧ (xo - s.sensors.lastXo).natAbs ≤ 4096) ∧ (-71680 ≤ die ∧ die ≤ 153600 ∧ (die -
      s.sensors.lastDie).natAbs ≤ 4096)) :=
  ⟨⟨wRun [], 0, by decide +kernel⟩,
   ⟨wTdc { id := 0, source := 1, lastTick := some 999999999201 } [], 0, 999999999201, by decide +kernel⟩,
   ⟨wTdc { id := 0, source := 1 } [], 0, by decide +kernel, noneImp (by decide +kernel)⟩,
   ⟨wTdc { id := 0, source := 1, window := some wWindow } [], 0, wWindow, by decide +kernel⟩,
   ⟨wTdc { id := 0, calRange := some (0, 1023) } [], 0, List.replicate 1536 6554 ++ List.replicate 1024 6553, 0, 1024, by decide +kernel⟩,
   ⟨wTdc { id := 0, calRange := some (0, 1025) } [], 0, List.replicate 1536 6554 ++ List.replicate 1024 6553, 0, 0, by decide +kernel⟩,
   ⟨wRun [], 0, by decide +kernel⟩,
   ⟨wTdc { id := 0, source := 1, converting := true, lastTick := some 999999999795 } [], 0, by decide +kernel⟩,
   ⟨wRun [], 0, by decide +kernel⟩,
   ⟨{ wRun [] with sensors := { first := false } }, 4096, -4096, by decide +kernel⟩⟩

/-- The hypotheses of every clause of SelectionEvents are met. -/
theorem witness_SelectionEvents :
    (∃ (s : State) (r : Fin 30), up s = true ∧ atBoundary s = true ∧ refState s r = 2 ∧ qualDue s r = true) ∧
    (∃ (s : State) (r : Fin 30), up s = true ∧ atBoundary s = true ∧ (refState s r = 2 ∨ refGood s r = true) ∧ lostDue s r = true) ∧
    (∃ (s : State) (r : Fin 30) (t : _), up s = true ∧ atBoundary s = true ∧ (ref s r).wtrFrom = some t ∧ (ref s r).wtrLoad ≤ (s.now - t)
      / sT) ∧
    (∃ (s : State) (r : Fin 30), up s = true ∧ atBoundary s = true ∧ refState s r = 6 ∧ requalDue s r = true) ∧
    (∃ (s : State), up s = true ∧ atBoundary s = true ∧ getN s Obj.SWITCH_STATE = 1 ∧ s.sel.buildOutFrom + (getF s
      Obj.BUILD_OUT_MAX).toNat * sT ≤ s.now) ∧
    (∃ (s : State), up s = true ∧ atBoundary s = true ∧ s.sel.freqSwitch = true ∧ freqSwitchOver s = true) ∧
    (∃ (s : State), up s = true) ∧
    (∃ (s : State), up s = true ∧ atBoundary s = false) ∧
    (∃ (s : State) (a : Fin 30) (b : Fin 30), up s = true ∧ a.val < b.val ∧ atBoundary s = true ∧ (disputeOf s a b).begun = false ∧
      comparable s a b = true ∧ ((ref s a).newFreq || (ref s b).newFreq) = true ∧ freqFresh s a = true ∧ freqFresh s b = true ∧ disagrees
      s a b = true ∧ (getF s Obj.DISPUTE_PERSIST).toNat ≤ (disputeOf s a b).disagree + 1) ∧
    (∃ (s : State) (a : Fin 30) (b : Fin 30), up s = true ∧ a.val < b.val ∧ atBoundary s = true ∧ (disputeOf s a b).begun = true ∧
      comparable s a b = false) ∧
    (∃ (s : State) (a : Fin 30) (b : Fin 30), up s = true ∧ a.val < b.val ∧ atBoundary s = true ∧ (disputeOf s a b).begun = true ∧
      outvotedIn s (disputeOf s a b) = none) ∧
    (∃ (s : State) (a : Fin 30) (b : Fin 30) (r : _), up s = true ∧ a.val < b.val ∧ atBoundary s = true ∧ (disputeOf s a b).begun = true
      ∧ outvotedIn s (disputeOf s a b) = some r) ∧
    (∃ (s : State) (a : Fin 30) (b : Fin 30) (r : _) (d : Dispute), up s = true ∧ a.val < b.val ∧ atBoundary s = true ∧ outvotedIn s d =
      some r) ∧
    (∃ (s : State) (a : Fin 30) (b : Fin 30) (t : _), up s = true ∧ a.val < b.val ∧ atBoundary s = true ∧ (disputeOf s a b).eventSec =
      some t ∧ mtsSec s < t + 3600) :=
  ⟨⟨wSel [{ id := 0, runStart := some 0, runCount := 2 }] [(Obj.REF_STATE 0, 2)], 0, by decide +kernel⟩,
   ⟨wRun [(Obj.REF_STATE 0, 3)], 0, by decide +kernel⟩,
   ⟨wSel [{ id := 0, wtrFrom := some 0, wtrLoad := 200 }] [], 0, _, by decide +kernel, by decide +kernel, someGet (by decide +kernel),
     by decide +kernel⟩,
   ⟨wRun [(Obj.REF_STATE 0, 6), (Obj.REF_DISQ_CAUSE 0, 4), (Obj.REF_QN 0, 10)], 0, by decide +kernel⟩,
   ⟨wRun [(Obj.SWITCH_STATE, 1)], by decide +kernel⟩,
   ⟨{ wRun [] with sel := { freqSwitch := true } }, by decide +kernel⟩,
   ⟨wRun [], by decide +kernel⟩,
   ⟨{ wRun [] with now := 1000000000001 }, by decide +kernel⟩,
   ⟨{ wSel [{ id := 0, newFreq := true, freqAt := some (1000000 * sec48) }, { id := 1, freqAt := some (1000000 * sec48) }] [(Obj.REF_STATE 0, 3), (Obj.REF_STATE 1, 3), (Obj.REF_FREQ 0, 1000000000000000)] with inForce := [(Obj.DISPUTE_PERSIST, 1)] },
     0, 1, by decide +kernel⟩,
   ⟨{ wRun [] with sel := { disputes := [{ a := 0, b := 1, begun := true }] } }, 0, 1, by decide +kernel⟩,
   ⟨wVote [], 0, 1, by decide +kernel⟩,
   ⟨wVote [(Obj.REF_FREQ 0, 1000000000000000)], 0, 1, _, by decide +kernel, by decide +kernel, by decide +kernel, by decide +kernel,
     someGet (by decide +kernel)⟩,
   ⟨wVote [(Obj.REF_FREQ 1, 1000000000000000)], 0, 1, _, { a := 0, b := 1, begun := true, eventSec := some 1000000 }, by decide +kernel,
     by decide +kernel, by decide +kernel, someGet (by decide +kernel)⟩,
   ⟨wVote [], 0, 1, 1000000, by decide +kernel⟩⟩

/-- The hypotheses of every clause of AtomEvents are met. -/
theorem witness_AtomEvents :
    (∃ (s : State), up s = true ∧ s.sel.interval = none) ∧
    (∃ (s : State) (t : _), up s = true ∧ s.sel.interval = some t ∧ s.now < t + 64 * sT) ∧
    (∃ (s : State), up s = true ∧ s.now < s.atom.lastSteer + sT) ∧
    (∃ (s : State), up s = true ∧ s.atom.lastSteer + sT ≤ s.now ∧ getN s Obj.ATOM_STEER_MODE = 2 ∧ atomProfile s = none) ∧
    (∃ (s : State) (b : List Byte), up s = true ∧ atomProfile s = some b ∧ (fieldU b 8 1).testBit 1 = true ∧ fieldU b 42 2 ≠ 0 ∧ (∀ t,
      s.atom.lastPoll = some t → t + fieldU b 26 2 * msT ≤ s.now)) ∧
    (∃ (s : State) (bytes : List Byte) (b : List Byte), up s = true ∧ s.atom.profile = some b ∧ containsBytes (slice b (fieldU b 44 2)
      (fieldU b 46 2)) bytes = true) ∧
    (∃ (s : State) (t : _) (b : List Byte), up s = true ∧ s.atom.awaiting = some t ∧ s.atom.profile = some b ∧ t + fieldU b 48 2 * msT ≤
      s.now) ∧
    (∃ (s : State), up s = true ∧ s.atom.profile = none) ∧
    (∃ (s : State) (t : _), up s = true ∧ s.sel.interval = some t ∧ t + 64 * sT ≤ s.now ∧ s.sel.intCount ≠ 0) :=
  ⟨⟨wRun [], by decide +kernel⟩,
   ⟨{ wRun [] with sel := { interval := some 987200000001 } }, _, by decide +kernel, someGet (by decide +kernel), by decide +kernel⟩,
   ⟨{ wRun [] with atom := { lastSteer := 999800000001 } }, by decide +kernel⟩,
   ⟨wRun [(Obj.ATOM_STEER_MODE, 2)], by decide +kernel⟩,
   ⟨{ wRun [(Obj.ATOM_FITTED, 1)] with atom := { profile := some wProfile } }, wProfile, by decide +kernel, by decide +kernel,
     by decide +kernel, by decide +kernel, noneImp (by decide +kernel)⟩,
   ⟨{ wRun [] with atom := { profile := some wProfile } }, [1, 7], wProfile, by decide +kernel⟩,
   ⟨{ wRun [] with atom := { profile := some wProfile, awaiting := some 0 } }, 0, wProfile, by decide +kernel⟩,
   ⟨wRun [], by decide +kernel⟩,
   ⟨{ wRun [] with sel := { interval := some 987200000000, intCount := 1 } }, _, by decide +kernel, someGet (by decide +kernel),
     by decide +kernel⟩⟩

/-- The hypotheses of every clause of EsmcEvents are met. -/
theorem witness_EsmcEvents :
    (∃ (s : State) (p : Fin 16), up s = true ∧ p < nPorts s.variant) ∧
    (∃ (s : State) (p : Fin 16), up s = true ∧ p < nPorts s.variant ∧ portUp s p = true ∧ (∀ t, (esmcOf s p).lastTx = some t → t + sT ≤
      s.now)) ∧
    (∃ (s : State) (p : Fin 16), up s = true ∧ p < nPorts s.variant ∧ (esmcOf s p).failed = false ∧ (esmcOf s p).lastRx.getD
      s.power.started + 5 * sT ≤ s.now) ∧
    (∃ (s : State) (p : Nat), (activeFreq s = 14 + p ∨ quiet s = true)) :=
  ⟨⟨wRun [], 0, by decide +kernel⟩,
   ⟨wRun [(Obj.PORT_LINK 0, 1)], 0, by decide +kernel, by decide +kernel, by decide +kernel, noneImp (by decide +kernel)⟩,
   ⟨wRun [], 0, by decide +kernel⟩,
   ⟨wRun [(Obj.PAIR_ROLE, 1)], 0, by decide +kernel⟩⟩

/-- The hypotheses of every clause of ClockEvents are met. -/
theorem witness_ClockEvents :
    (∃ (s : State) (n : Fin 4), up s = true ∧ getN s (Obj.APLL_STATE n) = 0 ∧ (apll s n).steps < 6) ∧
    (∃ (s : State) (n : Fin 4), up s = true ∧ getN s (Obj.APLL_STATE n) = 0 ∧ 6 ≤ (apll s n).steps) ∧
    (∃ (s : State) (n : Fin 4) (diff : Nat), up s = true ∧ getN s (Obj.APLL_STATE n) = 1 ∧ diff ≤ 2 ∧ getNat s (Obj.APLL_LOCK_COUNT n) ≤
      (apll s n).good + 1) ∧
    (∃ (s : State) (n : Fin 4) (diff : Nat), up s = true ∧ getN s (Obj.APLL_STATE n) = 2 ∧ diff ≤ 8) ∧
    (∃ (s : State) (n : Fin 4) (diff : Nat), up s = true ∧ n ≠ 0 ∧ getN s (Obj.APLL_STATE n) = 2 ∧ 8 < diff) ∧
    (∃ (s : State) (c : Fin 12), up s = true ∧ (clkOut s c).enabled = false) ∧
    (∃ (s : State) (c : Fin 12), up s = true ∧ (clkOut s c).enabled = true ∧ squelched s c = false) ∧
    (∃ (s : State) (c : Fin 12), up s = true ∧ (clkOut s c).enabled = true ∧ squelched s c = true ∧ getN s (Obj.CLK_STATE c) ≠ 2) ∧
    (∃ (s : State), up s = true ∧ silentOutputs s = true) :=
  ⟨⟨wRun [], 0, by decide +kernel⟩,
   ⟨{ wRun [] with synth := { aplls := [{ id := 0, steps := 6 }] } }, 0, by decide +kernel⟩,
   ⟨{ wRun [(Obj.APLL_STATE 0, 1)] with synth := { aplls := [{ id := 0, good := 3 }] } }, 0, 2, by decide +kernel⟩,
   ⟨wRun [(Obj.APLL_STATE 0, 2)], 0, 8, by decide +kernel⟩,
   ⟨wRun [(Obj.APLL_STATE 1, 2)], 1, 9, by decide +kernel⟩,
   ⟨wRun [], 0, by decide +kernel⟩,
   ⟨{ wRun [] with synth := { clks := [{ id := 0, enabled := true }] } }, 0, by decide +kernel⟩,
   ⟨{ wRun [(Obj.PAIR_ROLE, 1)] with synth := { clks := [{ id := 0, enabled := true }] } }, 0, by decide +kernel⟩,
   ⟨wRun [(Obj.PAIR_ROLE, 1)], by decide +kernel⟩⟩

/-- The hypotheses of every clause of PulseEvents are met. -/
theorem witness_PulseEvents :
    (∃ (s : State) (n : Fin 4) (o : Fin 12), up s = true ∧ o.val = n.val ∧ (pps s n).enabled = false) ∧
    (∃ (s : State) (n : Fin 4) (o : Fin 12), up s = true ∧ o.val = n.val ∧ (pps s n).enabled = true ∧ (pps s n).changed = false ∧ (∀ l,
      (pps s n).lastAt = some l → l < (nativeAt (pps s n).offset (lastNative (pps s n).offset (s.ts.mts + 2 * us48))).toNat) ∧ 0 ≤
      nativeAt (pps s n).offset (lastNative (pps s n).offset (s.ts.mts + 2 * us48)) ∧ commitDue s (nativeAt (pps s n).offset (lastNative
      (pps s n).offset (s.ts.mts + 2 * us48))).toNat = true) ∧
    (∃ (s : State) (n : Fin 4) (o : Fin 12) (e : Edge) (rest : _), up s = true ∧ o.val = n.val ∧ (pps s n).edges = e :: rest ∧ e.atI ≤
      s.ts.mts ∧ edgeHidden s e = false) ∧
    (∃ (s : State) (n : Fin 4) (o : Fin 12) (e : Edge) (rest : _), up s = true ∧ o.val = n.val ∧ (pps s n).edges = e :: rest ∧ e.atI ≤
      s.ts.mts ∧ edgeHidden s e = true) ∧
    (∃ (s : State) (g : Fin 8) (o : Fin 12) (d : _) (rest : _), up s = true ∧ o.val = g.val + 4 ∧ (pg s g).due = d :: rest ∧ commitDue s
      d = true ∧ getN s (Obj.PG_MODE g) ≠ 1) ∧
    (∃ (s : State) (g : Fin 8) (o : Fin 12) (e : Edge) (rest : _), up s = true ∧ o.val = g.val + 4 ∧ (pg s g).edges = e :: rest ∧ e.atI ≤
      s.ts.mts ∧ e.route = none ∧ edgeHidden s e = false ∧ getN s (Obj.PG_MODE g) ≠ 1) ∧
    (∃ (s : State) (g : Fin 8) (o : Fin 12) (t : _), up s = true ∧ o.val = g.val + 4 ∧ (pg s g).anchor = some t ∧ (getN s (Obj.PG_STATE
      g) = 2 ∨ getN s (Obj.PG_STATE g) = 3) ∧ 8 * of96 t + 9 * of96 (getNat s (Obj.PG_PERIOD g)) < 8 * s.ts.mts ∧ getNat s
      (Obj.PG_ALIGN_HOLD g) ≤ (pg s g).misses + 1) ∧
    (∃ (s : State) (g : Fin 8) (o : Fin 12) (t : _), up s = true ∧ o.val = g.val + 4 ∧ (pg s g).anchor = some t ∧ (getN s (Obj.PG_STATE
      g) = 2 ∨ getN s (Obj.PG_STATE g) = 3) ∧ 8 * of96 t + 9 * of96 (getNat s (Obj.PG_PERIOD g)) < 8 * s.ts.mts ∧ (pg s g).misses + 1 <
      getNat s (Obj.PG_ALIGN_HOLD g)) ∧
    (∃ (s : State) (t : Fin 2), up s = true ∧ (tod s t).due = []) ∧
    (∃ (s : State) (t : Fin 2) (x : Sentence) (rest : _), up s = true ∧ (tod s t).due = x :: rest ∧ of96 x.edge + getNat s (Obj.TOD_DELAY
      t) * us48 ≤ s.ts.mts ∧ silentOutputs s = false ∧ outputsAbsent s = false ∧ s.now < (tod s t).busyUntil) ∧
    (∃ (s : State) (t : Fin 2) (x : Sentence) (rest : _), up s = true ∧ (tod s t).due = x :: rest ∧ of96 x.edge + getNat s (Obj.TOD_DELAY
      t) * us48 ≤ s.ts.mts ∧ silentOutputs s = false ∧ outputsAbsent s = false ∧ (tod s t).busyUntil ≤ s.now ∧ getNat s (Obj.TOD_FORMAT
      t) = 0) ∧
    (∃ (s : State) (t : Fin 2) (x : TodSentence), up s = true ∧ todSecond s t x = none) ∧
    (∃ (s : State) (t : Fin 2) (x : TodSentence) (sec : _), up s = true ∧ todSecond s t x = some sec ∧ s.pulseWait = []) ∧
    (∃ (s : State) (t : Fin 2) (x : TodSentence) (ago : _) (sec : _) (p : PulseWait) (m : Meas), up s = true ∧ todSecond s t x = some sec
      ∧ s.pulseWait = [p] ∧ p.todin = t ∧ p.said = none ∧ p.tick ≤ s.now - ago ∧ s.now - ago ≤ p.tick + getNat s (Obj.TODIN_WINDOW t) *
      msT ∧ p.meas = some m) :=
  ⟨⟨wRun [], 0, 0, by decide +kernel⟩,
   ⟨{ wRun [] with synth := { pps := [{ id := 0, enabled := true }] } }, 0, 0, by decide +kernel⟩,
   ⟨{ wRun [(Obj.START_MILESTONE, 7)] with synth := { pps := [{ id := 0, edges := [{ atI := 0, route := none, squelched := false, pair := 0 }] }] } },
     0, 0, { atI := 0, route := none, squelched := false, pair := 0 }, [], by decide +kernel⟩,
   ⟨{ wRun [] with synth := { pps := [{ id := 0, edges := [{ atI := 1000000 * sec48, route := none, squelched := true, pair := 0 }] }] } },
     0, 0, { atI := 1000000 * sec48, route := none, squelched := true, pair := 0 }, [], by decide +kernel⟩,
   ⟨{ wRun [] with synth := { pgs := [{ id := 0, due := [1000000 * sec48] }] } }, 0, 4, 1000000 * sec48, [], by decide +kernel⟩,
   ⟨{ wRun [(Obj.START_MILESTONE, 7)] with synth := { pgs := [{ id := 0, edges := [{ atI := 0, route := none, squelched := false, pair := 0 }] }] } },
     0, 4, { atI := 0, route := none, squelched := false, pair := 0 }, [], by decide +kernel⟩,
   ⟨{ wRun [(Obj.PG_STATE 0, 2)] with synth := { pgs := [{ id := 0, anchor := some 0, misses := 2 }] } }, 0, 4, _, by decide +kernel,
     by decide +kernel, someGet (by decide +kernel), by decide +kernel⟩,
   ⟨{ wRun [(Obj.PG_STATE 0, 3)] with synth := { pgs := [{ id := 0, anchor := some 0, misses := 1 }] } }, 0, 4, _, by decide +kernel,
     by decide +kernel, someGet (by decide +kernel), by decide +kernel⟩,
   ⟨wRun [], 0, by decide +kernel⟩,
   ⟨{ wRun [(Obj.START_MILESTONE, 7)] with synth := { tods := [{ id := 0, due := [wSentence], busyUntil := 1000000000001 }] } }, 0,
     wSentence, [], by decide +kernel⟩,
   ⟨{ wRun [(Obj.START_MILESTONE, 7)] with synth := { tods := [{ id := 0, due := [wSentence], busyUntil := 1000000000000 }] } }, 0,
     wSentence, [], by decide +kernel⟩,
   ⟨wRun [], 0, .fntd false 1 46 0 0 0, by decide +kernel⟩,
   ⟨wRun [], 0, .fntd true 1 46 5 500000000 0, 6, by decide +kernel⟩,
   ⟨{ wRun [] with pulseWait := [wPulse] }, 0, .fntd true 1 46 5 500000000 0, 0, 6, wPulse,
     { ref := 0, x := 0, uM := none, uP := none, atI := 0 }, by decide +kernel⟩⟩

/-- The hypotheses of every clause of GnssEvents are met. -/
theorem witness_GnssEvents :
    (∃ (s : State), gnssRuns s = true) ∧
    (∃ (s : State), gnssRuns s = true ∧ secondOver s (mtsSec s) = true) ∧
    (∃ (s : State), gnssRuns s = true ∧ secondOver s (mtsSec s) = false) ∧
    (∃ (s : State) (q : Fin 4), gnssRuns s = true ∧ getN s (Obj.ISB_SOLVED_VALID q) = 1 ∧ (isbOf s q).lastInput + 600 * sT ≤ s.now) ∧
    (∃ (s : State) (t : _) (r : _) (edge : Nat), gnssRuns s = true ∧ s.gnss.ppsNext = (t, false) :: r ∧ t ≤ s.now ∧ getN s
      Obj.GNSSPPS_ENABLE ≠ 0 ∧ outputsAbsent s = false ∧ edge = t96Of (s.ts.mts - (s.now - t) * s.ts.incr + getNat s
      Obj.GNSSPPS_PATH_DELAY * ns48 / 1000)) ∧
    (∃ (s : State) (t : _) (r : _), gnssRuns s = true ∧ s.gnss.ppsNext = (t, true) :: r ∧ t ≤ s.now) ∧
    (∃ (s : State), gnssRuns s = true ∧ getN s Obj.GNSS_ANT_SUPPLY = 0) ∧
    (∃ (s : State) (cur : Nat) (us : Nat), gnssRuns s = true ∧ getN s Obj.GNSS_ANT_SUPPLY ≠ 0 ∧ s.gnss.antCut = none ∧ getNat s
      Obj.GNSS_ANT_I_LIMIT * 10 < cur ∧ 100 ≤ us) ∧
    (∃ (s : State) (cur : Nat), gnssRuns s = true ∧ getN s Obj.GNSS_ANT_SUPPLY ≠ 0 ∧ s.gnss.antCut = none ∧ cur ≤ getNat s
      Obj.GNSS_ANT_I_LIMIT * 10) ∧
    (∃ (s : State) (t : _), gnssRuns s = true ∧ s.gnss.antCut = some t ∧ t + 10 * sT ≤ s.now) ∧
    (∃ (s : State) (l1 : _) (l5 : _), gnssRuns s = true ∧ l1 ≤ getN s Obj.GNSS_JAM_THRESHOLD ∧ l5 ≤ getN s Obj.GNSS_JAM_THRESHOLD) ∧
    (∃ (s : State) (l1 : _) (l5 : _), gnssRuns s = true ∧ s.gnss.jam = false ∧ (getN s Obj.GNSS_JAM_THRESHOLD < l1 ∨ getN s
      Obj.GNSS_JAM_THRESHOLD < l5)) ∧
    (∃ (s : State) (t : _), gnssRuns s = true ∧ s.gnss.snap.armed = some t ∧ t ≤ s.ts.mts ∧ nextSlot s = none) ∧
    (∃ (s : State) (t : _) (k : _), gnssRuns s = true ∧ s.gnss.snap.armed = some t ∧ t ≤ s.ts.mts ∧ nextSlot s = some k) ∧
    (∃ (s : State) (k : _), gnssRuns s = true ∧ s.gnss.snap.slot = some k ∧ k < 8 ∧ s.gnss.snap.began + s.gnss.snap.len * msT ≤ s.now) :=
  ⟨⟨wGnss {} [], by decide +kernel⟩,
   ⟨wGnss { solved := [(0, 1000000)] } [], by decide +kernel⟩,
   ⟨wGnss { solved := [(0, 999999)] } [], by decide +kernel⟩,
   ⟨wGnss {} [(Obj.ISB_SOLVED_VALID 0, 1)], 0, by decide +kernel⟩,
   ⟨wGnss { ppsNext := [(1000000000000, false)] } [(Obj.GNSSPPS_ENABLE, 1), (Obj.START_MILESTONE, 7)], 1000000000000, [], _,
     by decide +kernel, by decide +kernel, by decide +kernel, by decide +kernel, by decide +kernel, rfl⟩,
   ⟨wGnss { ppsNext := [(0, true)] } [], 0, [], by decide +kernel⟩,
   ⟨wGnss {} [(Obj.GNSS_ANT_SUPPLY, 0)], by decide +kernel⟩,
   ⟨wGnss {} [], 601, 100, by decide +kernel⟩,
   ⟨wGnss {} [], 600, by decide +kernel⟩,
   ⟨wGnss { antCut := some 998000000000 } [], 998000000000, by decide +kernel⟩,
   ⟨wGnss {} [(Obj.GNSS_JAM_THRESHOLD, 50)], 50, 50, by decide +kernel⟩,
   ⟨wGnss {} [(Obj.GNSS_JAM_THRESHOLD, 50)], 50, 51, by decide +kernel⟩,
   ⟨wSnapFull, 0, by decide +kernel⟩,
   ⟨wGnss { snap := { armed := some 0 } } [], 0, _, by decide +kernel, by decide +kernel, by decide +kernel, someGet (by decide +kernel)⟩,
   ⟨wGnss { snap := { slot := some 7, len := 20, began := 999996000000 } } [], 7, by decide +kernel⟩⟩

/-- The hypotheses of every clause of LinkEvents are met. -/
theorem witness_LinkEvents :
    (∃ (s : State) (p : Fin 17), up s = true ∧ portUp s p = false) ∧
    (∃ (s : State) (p : Fin 17), up s = true ∧ portUp s p = true) ∧
    (∃ (s : State) (p : Fin 17) (speed : Nat) (full : Bool), up s = true ∧ (port s p).lane = true ∧ (port s p).mode ≠ 0 ∧ (port s p).shut
      = false ∧ portUp s p = false ∧ ((port s p).mode = 2 → speed = 1000 ∧ full = true)) ∧
    (∃ (s : State) (p : Fin 17) (speed : Nat) (full : Bool), up s = true ∧ (port s p).mode = 2 ∧ (speed ≠ 1000 ∨ full = false)) ∧
    (∃ (s : State) (p : Fin 17), up s = true ∧ closeDue s p = true) ∧
    (∃ (s : State), up s = true) ∧
    (∃ (s : State) (p : Fin 16) (o : XoffState), up s = true ∧ (port s p).xoff = some o ∧ xoffDue s p = true ∧ o.sent * 5000 + quantaPs s
      p 32768 ≤ psNow s) ∧
    (∃ (s : State) (p : Fin 16) (o : XoffState), up s = true ∧ (port s p).xoff = some o ∧ xoffDue s p = false) ∧
    (∃ (s : State) (p : Fin 16), up s = true ∧ (port s p).tx = none) ∧
    (∃ (s : State) (p : Fin 16) (t : TxCur) (i : _) (f : CoreFrame) (c : Copy), up s = true ∧ (port s p).tx = some t ∧ t.kind = .copy i ∧
      coreFrame s i = some f ∧ t.cut = true ∧ t.stomped = false ∧ c ∈ s.sw.copies ∧ c.frame = i ∧ c.out = p ∧ c.started = true ∧
      f.written ≤ c.read ∧ c.read < f.cells.length) ∧
    (∃ (s : State) (p : Fin 16), up s = true ∧ 65536 ≤ getNat s (Obj.CT_CLEAN_RUN p)) ∧
    (∃ (s : State) (p : Fin 16), up s = true ∧ getNat s (Obj.CT_CLEAN_RUN p) < 65536) :=
  ⟨⟨wRun [], 0, by decide +kernel⟩,
   ⟨wRun [(Obj.PORT_LINK 16, 1)], 16, by decide +kernel⟩,
   ⟨wPort { id := 0, lane := true, mode := 2 } [], 0, 1000, true, by decide +kernel⟩,
   ⟨wPort { id := 0, lane := true, mode := 2 } [], 0, 100, true, by decide +kernel⟩,
   ⟨{ wRun [] with power := { notices := [{ port := 16, ordered := 999993000000, stage := 2 }] } }, 16, by decide +kernel⟩,
   ⟨wRun [], by decide +kernel⟩,
   ⟨{ wPort { id := 0, mode := 1, xoff := some { sent := 0, classes := [0] } } [(Obj.PORT_PAUSE 0, 1)] with sw := { frames := [wCore], backlog := [1] } },
     0, { sent := 0, classes := [0] }, by decide +kernel⟩,
   ⟨wPort { id := 0, xoff := some { sent := 0, classes := [0] } } [], 0, { sent := 0, classes := [0] }, by decide +kernel⟩,
   ⟨wRun [], 0, by decide +kernel⟩,
   ⟨{ wPort { id := 0, tx := some { kind := .copy 1, len := 64, startAt := 0, endAt := 1, freeAt := 1, cut := true } } [] with sw := { frames := [wCore], copies := [{ wCopy with started := true }] } },
     0, { kind := .copy 1, len := 64, startAt := 0, endAt := 1, freeAt := 1, cut := true }, 1, wCore, { wCopy with started := true },
     by decide +kernel⟩,
   ⟨wRun [(Obj.CT_CLEAN_RUN 0, 65536)], 0, by decide +kernel⟩,
   ⟨wRun [(Obj.CT_CLEAN_RUN 0, 65535)], 0, by decide +kernel⟩⟩

/-- The hypotheses of every clause of Reception are met. -/
theorem witness_Reception :
    (∃ (s : State) (p : Fin 17), up s = true ∧ (portUp s p = false ∨ (port s p).rx.isSome = true)) ∧
    (∃ (s : State), up s = true ∧ portUp s 16 = true ∧ (port s 16).rx = none ∧ (port s 16).tx = none) ∧
    (∃ (s : State) (p : Fin 16) (f : Frame) (x : PcsStamp) (raw : _) (u : State), up s = true ∧ portUp s p = true ∧ (port s p).rx = none
      ∧ (port s p).tx = none ∧ (raw, u) = rawStamp p x false s ∧ toCore (classify s p f) f (tagRefused s p f) = false) ∧
    (∃ (s : State) (p : Fin 16) (f : Frame) (x : PcsStamp) (raw : _) (u : State) (v : _) (i : _), up s = true ∧ portUp s p = true ∧ (port
      s p).rx = none ∧ (port s p).tx = none ∧ (raw, u) = rawStamp p x false s ∧ toCore (classify s p f) f (tagRefused s p f) = true ∧
      (some i, v) = admitCore p (classify s p f) f (stampIn u p raw).1 (stampIn u p raw).2 u) ∧
    (∃ (s : State) (p : Fin 17), up s = true ∧ (port s p).rx = none) ∧
    (∃ (s : State) (p : Fin 17) (r : RxCur) (e : RxEnd) (u : State), up s = true ∧ (port s p).rx = some r ∧ r.core = none ∧ u = bumpBy
      (Obj.SYMBOL_ERR p) e.symbols (setPort p (fun x => { x with rx := none }) s) ∧ ingress s p r e = .runt) ∧
    (∃ (s : State) (p : Fin 17) (r : RxCur) (e : RxEnd) (u : State), up s = true ∧ (port s p).rx = some r ∧ r.core = none ∧ u = bumpBy
      (Obj.SYMBOL_ERR p) e.symbols (setPort p (fun x => { x with rx := none }) s) ∧ ingress s p r e = .giant) ∧
    (∃ (s : State) (p : Fin 17) (r : RxCur) (e : RxEnd) (u : State), up s = true ∧ (port s p).rx = some r ∧ r.core = none ∧ u = bumpBy
      (Obj.SYMBOL_ERR p) e.symbols (setPort p (fun x => { x with rx := none }) s) ∧ ingress s p r e = .fcs) ∧
    (∃ (s : State) (p : Fin 17) (r : RxCur) (e : RxEnd) (u : State), up s = true ∧ (port s p).rx = some r ∧ r.core = none ∧ u = bumpBy
      (Obj.SYMBOL_ERR p) e.symbols (setPort p (fun x => { x with rx := none }) s) ∧ ingress s p r e = .len) ∧
    (∃ (s : State) (p : Fin 17) (r : RxCur) (e : RxEnd) (u : State), up s = true ∧ (port s p).rx = some r ∧ r.core = none ∧ u = bumpBy
      (Obj.SYMBOL_ERR p) e.symbols (setPort p (fun x => { x with rx := none }) s) ∧ ingress s p r e = .tagged) ∧
    (∃ (s : State) (p : Fin 17) (r : RxCur) (e : RxEnd) (u : State) (n : _), up s = true ∧ (port s p).rx = some r ∧ r.core = none ∧ u =
      bumpBy (Obj.SYMBOL_ERR p) e.symbols (setPort p (fun x => { x with rx := none }) s) ∧ ingress s p r e = .ctrl ∧ r.frame.body =
      .pause n) ∧
    (∃ (s : State) (p : Fin 17) (r : RxCur) (e : RxEnd) (u : State), up s = true ∧ (port s p).rx = some r ∧ r.core = none ∧ u = bumpBy
      (Obj.SYMBOL_ERR p) e.symbols (setPort p (fun x => { x with rx := none }) s) ∧ ingress s p r e = .ok ∧ p.val = 16) ∧
    (∃ (s : State) (p : Fin 17) (r : RxCur) (e : RxEnd) (u : State), up s = true ∧ (port s p).rx = some r ∧ r.core = none ∧ u = bumpBy
      (Obj.SYMBOL_ERR p) e.symbols (setPort p (fun x => { x with rx := none }) s) ∧ ingress s p r e = .ok ∧ p.val ≠ 16) ∧
    (∃ (s : State) (p : Fin 17) (r : RxCur) (e : RxEnd) (i : _) (u : State), up s = true ∧ (port s p).rx = some r ∧ r.core = some i ∧ u =
      bumpBy (Obj.SYMBOL_ERR p) e.symbols (setPort p (fun x => { x with rx := none }) s) ∧ ingress s p r e = .giant) ∧
    (∃ (s : State) (p : Fin 17) (r : RxCur) (e : RxEnd) (i : _) (u : State), up s = true ∧ (port s p).rx = some r ∧ r.core = some i ∧ u =
      bumpBy (Obj.SYMBOL_ERR p) e.symbols (setPort p (fun x => { x with rx := none }) s) ∧ ingress s p r e = .fcs ∧ e.codeError = false) ∧
    (∃ (s : State) (p : Fin 17) (r : RxCur) (e : RxEnd) (i : _) (u : State), up s = true ∧ (port s p).rx = some r ∧ r.core = some i ∧ u =
      bumpBy (Obj.SYMBOL_ERR p) e.symbols (setPort p (fun x => { x with rx := none }) s) ∧ ingress s p r e = .ok ∧ p.val ≠ 16) ∧
    (∃ (e : RxEnd), e.len ≤ 63) ∧
    (∃ (r : RxCur) (e : RxEnd), 63 < e.len ∧ r.maxFrame < e.len) ∧
    (∃ (r : RxCur) (e : RxEnd), 63 < e.len ∧ e.len ≤ r.maxFrame ∧ (e.fcsOk = false ∨ e.codeError = true)) ∧
    (∃ (r : RxCur) (e : RxEnd), 63 < e.len ∧ e.len ≤ r.maxFrame ∧ e.fcsOk = true ∧ e.codeError = false ∧ r.frame.etherType < 0x600 ∧
      e.len - 18 - 4 * r.frame.tags.length < r.frame.etherType) ∧
    (∃ (s : State) (p : Nat) (r : RxCur) (e : RxEnd), ingress s p r e = .ok ∧ p < 16) :=
  ⟨⟨wRun [], 0, by decide +kernel⟩,
   ⟨wRun [(Obj.PORT_LINK 16, 1)], by decide +kernel⟩,
   ⟨wRun [(Obj.PORT_LINK 0, 1)], 0, { dst := 0x0180C2000003, src := 5, etherType := 0x88CC }, { block := 0 }, _, _, by decide +kernel,
     by decide +kernel, by decide +kernel, by decide +kernel, rfl, by decide +kernel⟩,
   ⟨{ wRun [(Obj.START_MILESTONE, 9), (Obj.PORT_LINK 0, 1), (Obj.PORT_LINK 1, 1), (Obj.PORT_PVID 0, 1)] with sw := { vlans := [{ vid := 1, learn := true, members := 3, actions := 0 }] } },
     0, wFrame, { block := 0 }, _, _, _, _, by decide +kernel, by decide +kernel, by decide +kernel, by decide +kernel, rfl,
     by decide +kernel, (pairGet (by decide +kernel)).symm⟩,
   ⟨wRun [], 0, by decide +kernel⟩,
   ⟨wPort { id := 0, rx := some wRx } [], 0, wRx, { len := 63 }, _, by decide +kernel, by decide +kernel, by decide +kernel, rfl,
     by decide +kernel⟩,
   ⟨wPort { id := 0, rx := some wRx } [], 0, wRx, { len := 1523 }, _, by decide +kernel, by decide +kernel, by decide +kernel, rfl,
     by decide +kernel⟩,
   ⟨wPort { id := 0, rx := some wRx } [], 0, wRx, { len := 1522, fcsOk := false }, _, by decide +kernel, by decide +kernel,
     by decide +kernel, rfl, by decide +kernel⟩,
   ⟨wPort { id := 0, rx := some wShort } [], 0, wShort, { len := 64 }, _, by decide +kernel, by decide +kernel, by decide +kernel, rfl,
     by decide +kernel⟩,
   ⟨wPort { id := 0, rx := some { wRx with refused := true } } [], 0, { wRx with refused := true }, { len := 64 }, _, by decide +kernel,
     by decide +kernel, by decide +kernel, rfl, by decide +kernel⟩,
   ⟨wPort { id := 0, rx := some wPause } [], 0, wPause, { len := 64 }, _, 5, by decide +kernel, by decide +kernel, by decide +kernel,
     rfl, by decide +kernel⟩,
   ⟨{ wRun [] with ports := List.replicate 16 { id := 0 } ++ [{ id := 16, rx := some wRx }] }, 16, wRx, { len := 64 }, _,
     by decide +kernel, by decide +kernel, by decide +kernel, rfl, by decide +kernel⟩,
   ⟨wPort { id := 0, rx := some wRx } [], 0, wRx, { len := 64 }, _, by decide +kernel, by decide +kernel, by decide +kernel, rfl,
     by decide +kernel⟩,
   ⟨wPort { id := 0, rx := some { wRx with core := some 1 } } [], 0, { wRx with core := some 1 }, { len := 1523 }, 1, _,
     by decide +kernel, by decide +kernel, by decide +kernel, rfl, by decide +kernel⟩,
   ⟨wPort { id := 0, rx := some { wRx with core := some 1 } } [], 0, { wRx with core := some 1 }, { len := 1522, fcsOk := false }, 1, _,
     by decide +kernel, by decide +kernel, by decide +kernel, rfl, by decide +kernel⟩,
   ⟨wPort { id := 0, rx := some { wRx with core := some 1 } } [], 0, { wRx with core := some 1 }, { len := 1522 }, 1, _,
     by decide +kernel, by decide +kernel, by decide +kernel, rfl, by decide +kernel⟩,
   ⟨{ len := 63 }, by decide +kernel⟩,
   ⟨wRx, { len := 1523 }, by decide +kernel⟩,
   ⟨wRx, { len := 64, codeError := true }, by decide +kernel⟩,
   ⟨wShort, { len := 64 }, by decide +kernel⟩,
   ⟨wRun [], 15, wRx, { len := 64 }, by decide +kernel⟩⟩

/-- The hypotheses of every clause of Egress are met. -/
theorem witness_Egress :
    (∃ (s : State) (u : State) (p : Fin 17), up s = true ∧ (port s p).tx = none ∧ u = takeNet p s ∧ portUp u p = false) ∧
    (∃ (s : State) (u : State) (p : Fin 17), up s = true ∧ (port s p).tx = none ∧ u = takeNet p s ∧ wireReady u p = false) ∧
    (∃ (s : State) (u : State) (p : Fin 17) (f : Frame) (r : _), up s = true ∧ (port s p).tx = none ∧ u = takeNet p s ∧ portUp u p = true
      ∧ wireReady u p = true ∧ (port u p).ctrl = f :: r ∧ guarded u p 64 = true) ∧
    (∃ (s : State) (u : State) (p : Fin 17) (f : Frame) (r : _), up s = true ∧ (port s p).tx = none ∧ u = takeNet p s ∧ portUp u p = true
      ∧ wireReady u p = true ∧ (port u p).ctrl = f :: r ∧ guarded u p 64 = false) ∧
    (∃ (s : State) (u : State) (p : Fin 17), up s = true ∧ (port s p).tx = none ∧ u = takeNet p s ∧ portUp u p = true ∧ wireReady u p =
      true ∧ (port u p).ctrl = [] ∧ nextHead u p = none) ∧
    (∃ (s : State) (u : State) (p : Fin 17) (e : EngFrame), up s = true ∧ (port s p).tx = none ∧ u = takeNet p s ∧ portUp u p = true ∧
      wireReady u p = true ∧ (port u p).ctrl = [] ∧ nextHead u p = some (.eng e)) ∧
    (∃ (s : State) (u : State) (p : Fin 17) (c : Copy), up s = true ∧ (port s p).tx = none ∧ u = takeNet p s ∧ portUp u p = true ∧
      wireReady u p = true ∧ (port u p).ctrl = [] ∧ nextHead u p = some (.copy c) ∧ granted u p = some c) ∧
    (∃ (s : State) (u : State) (p : Fin 17) (c : Copy), up s = true ∧ (port s p).tx = none ∧ u = takeNet p s ∧ portUp u p = true ∧
      wireReady u p = true ∧ (port u p).ctrl = [] ∧ nextHead u p = some (.copy c) ∧ granted u p ≠ some c) :=
  ⟨⟨wRun [], _, 0, by decide +kernel, by decide +kernel, rfl, by decide +kernel⟩,
   ⟨wPort { id := 0, free := 5000000000005000 } [], _, 0, by decide +kernel, by decide +kernel, rfl, by decide +kernel⟩,
   ⟨wPort { id := 0, mode := 1, ctrl := [wFrame], guardL := [1000000 * sec48 + 100] } [(Obj.PORT_LINK 0, 1)], _, 0, wFrame, [],
     by decide +kernel, by decide +kernel, rfl, by decide +kernel, by decide +kernel, by decide +kernel, guarded_of_mem (l := 1000000 *
     sec48 + 100) (by decide +kernel) (by decide +kernel) (by decide +kernel)⟩,
   ⟨wPort { id := 0, free := 5000000000004999, ctrl := [wFrame] } [(Obj.PORT_LINK 0, 1)], _, 0, wFrame, [], by decide +kernel,
     by decide +kernel, rfl, by decide +kernel⟩,
   ⟨wPort { id := 0 } [(Obj.PORT_LINK 0, 1)], _, 0, by decide +kernel, by decide +kernel, rfl, by decide +kernel⟩,
   ⟨wPort { id := 0, eng := [wEng] } [(Obj.PORT_LINK 0, 1)], _, 0, wEng, by decide +kernel, by decide +kernel, rfl, by decide +kernel⟩,
   ⟨{ wPort { id := 0, locked := some 1 } [(Obj.PORT_LINK 0, 1)] with sw := { frames := [wCore], copies := [wCopy] } }, _, 0, wCopy,
     by decide +kernel, by decide +kernel, rfl, by decide +kernel⟩,
   ⟨{ wPort { id := 0 } [(Obj.PORT_LINK 0, 1)] with sw := { frames := [{ wCore with len := some 64 }], copies := [wCopy] } }, _, 0,
     wCopy, by decide +kernel, by decide +kernel, rfl, by decide +kernel⟩⟩

/-- The hypotheses of every clause of SwitchEvents are met. -/
theorem witness_SwitchEvents :
    (∃ (s : State), up s = true) ∧
    (∃ (s : State), up s = true ∧ s.sw.backlog = []) ∧
    (∃ (s : State) (p : Fin 16) (i : _) (r : _) (f : CoreFrame), up s = true ∧ s.sw.backlog = i :: r ∧ coreFrame s i = some f ∧ f.port =
      p) ∧
    (∃ (s : State) (mac : _) (vid : _) (e : _), up s = true ∧ fdbEntry s mac vid = some e ∧ e.static = false ∧ getNat s Obj.FDB_AGE_TIME
      ≠ 0 ∧ e.hit + getNat s Obj.FDB_AGE_TIME * sT ≤ s.now) ∧
    (∃ (s : State) (mac : _) (vid : _), up s = true ∧ (fdbEntry s mac vid = none ∨ getNat s Obj.FDB_AGE_TIME = 0)) ∧
    (∃ (s : State) (vlan : _) (w : TableWrite) (r : _) (t : _) (g : _), up s = true ∧ tableWrites s vlan = w :: r ∧ w.commit = some (t,
      g) ∧ s.sw.frames.any (oldFrame vlan g) = false) ∧
    (∃ (s : State) (vlan : _) (w : TableWrite) (r : _) (t : _) (g : _), up s = true ∧ tableWrites s vlan = w :: r ∧ w.commit = some (t,
      g) ∧ s.sw.frames.any (oldFrame vlan g) = true) ∧
    (∃ (s : State) (vlan : _), up s = true ∧ tableWrites s vlan = []) ∧
    (∃ (s : State) (vlan : _) (w : TableWrite) (r : _) (t : _) (g : _), up s = true ∧ tableWrites s vlan = w :: r ∧ w.commit = some (t,
      g) ∧ s.now < t + getNat s Obj.SW_GEN_TIMEOUT * msT) ∧
    (∃ (s : State) (vlan : _) (w : TableWrite) (r : _) (t : _) (g : _), up s = true ∧ tableWrites s vlan = w :: r ∧ w.commit = some (t,
      g) ∧ s.sw.frames = [] ∧ s.sw.copies = [] ∧ s.sw.backlog = [] ∧ t + getNat s Obj.SW_GEN_TIMEOUT * msT ≤ s.now) :=
  ⟨⟨wRun [], by decide +kernel⟩,
   ⟨wRun [], by decide +kernel⟩,
   ⟨{ wRun [] with sw := { frames := [wCore], backlog := [1] } }, 0, 1, [], wCore, by decide +kernel⟩,
   ⟨{ wRun [] with sw := { fdb := [{ wMac with static := false, hit := 940000000000 }] } }, 2, 1, _, by decide +kernel, someGet
     (by decide +kernel), by decide +kernel⟩,
   ⟨wRun [], 2, 1, by decide +kernel⟩,
   ⟨{ wRun [] with sw := { vlanWrites := [{ wWrite with commit := some (0, 0) }], frames := [wCore] } }, true,
     { wWrite with commit := some (0, 0) }, [], 0, 0, by decide +kernel⟩,
   ⟨{ wRun [] with sw := { fdbWrites := [{ wWrite with commit := some (0, 1) }], frames := [wCore] } }, false,
     { wWrite with commit := some (0, 1) }, [], 0, 1, by decide +kernel⟩,
   ⟨wRun [], true, by decide +kernel⟩,
   ⟨{ wRun [] with sw := { vlanWrites := [{ wWrite with commit := some (1000000000000, 1) }] } }, true,
     { wWrite with commit := some (1000000000000, 1) }, [], 1000000000000, 1, by decide +kernel⟩,
   ⟨{ wRun [] with sw := { vlanWrites := [{ wWrite with commit := some (0, 1) }] } }, true, { wWrite with commit := some (0, 1) }, [], 0,
     1, by decide +kernel⟩⟩

/-- The hypotheses of every clause of SillEvents are met. -/
theorem witness_SillEvents :
    (∃ (s : State) (p : Fin 16) (n : Fin 4) (q : Slot), up s = true ∧ (port s p).slots.find? (fun q => q.num = n.val) = some q ∧
      q.started = false ∧ reached s (slotAt q (500 * ns48)) = true) ∧
    (∃ (s : State) (p : Fin 16) (n : Fin 4) (q : Slot), up s = true ∧ (port s p).tx = none ∧ (port s p).slots.find? (fun q => q.num =
      n.val) = some q ∧ q.started = false ∧ reached s (slotAt q (7 * oct48 s p)) = true ∧ lateReason s p q q.ready.isNone = none) ∧
    (∃ (s : State) (p : Fin 16) (n : Fin 4) (q : Slot) (r : _), up s = true ∧ (port s p).tx = none ∧ (port s p).slots.find? (fun q =>
      q.num = n.val) = some q ∧ q.started = false ∧ reached s (slotAt q (7 * oct48 s p)) = true ∧ lateReason s p q q.ready.isNone = some
      r) ∧
    (∃ (s : State) (p : Fin 16) (n : Fin 4) (q : Slot), up s = true ∧ (port s p).slots.find? (fun q => q.num = n.val) = some q ∧
      q.started = true ∧ reached s q.l = true) ∧
    (∃ (s : State), up s = true) ∧
    (∃ (s : State) (p : Fin 16), up s = true ∧ s.now < (port s p).winFrom + 10 * msT) ∧
    (∃ (s : State) (p : Fin 16), up s = true ∧ (port s p).winFrom + 10 * msT ≤ s.now ∧ getN s (Obj.LEAD_ADAPT p) = 1 ∧ 0 < (port s
      p).winLaunched ∧ (port s p).winLate = false ∧ 2000 ≤ (port s p).winSlack) :=
  ⟨⟨wPort { id := 0, slots := [wSlot] } [], 0, 3, _, by decide +kernel, someGet (by decide +kernel), by decide +kernel⟩,
   ⟨wPort { id := 0, mode := 4, slots := [{ wSlot with ready := some 0 }] } [(Obj.PORT_LINK 0, 1), (Obj.PORT_MODE 0, 4),
     (Obj.REPLICA_STATE 16, 0)], 0, 3, _, by decide +kernel, by decide +kernel, someGet (by decide +kernel), by decide +kernel⟩,
   ⟨wPort { id := 0, mode := 4, slots := [wSlot] } [(Obj.PORT_LINK 0, 1), (Obj.PORT_MODE 0, 4), (Obj.REPLICA_STATE 16, 0)], 0, 3, _, _,
     by decide +kernel, by decide +kernel, someGet (by decide +kernel), by decide +kernel, by decide +kernel, someGet
     (by decide +kernel)⟩,
   ⟨wPort { id := 0, slots := [{ wSlot with started := true }] } [], 0, 3, _, by decide +kernel, someGet (by decide +kernel),
     by decide +kernel⟩,
   ⟨wRun [], by decide +kernel⟩,
   ⟨wPort { id := 0, winFrom := 999998000001 } [], 0, by decide +kernel⟩,
   ⟨wPort { id := 0, winFrom := 999998000000, winLaunched := 1, winSlack := 2000 } [], 0, by decide +kernel⟩⟩

/-- The hypotheses of every clause of PtpMessages are met. -/
theorem witness_PtpMessages :
    (∃ (s : State) (p : Fin 16) (x : _) (s1 : State) (s2 : State), up s = true ∧ ptpUp s = true ∧ takeMsg p (fun m => m.msg.typ = 0) s =
      some (x, s1) ∧ ptpAccept x s1 = (none, s2)) ∧
    (∃ (s : State) (p : Fin 16) (x : _) (s1 : State) (k : _) (s2 : State), up s = true ∧ ptpUp s = true ∧ takeMsg p (fun m => m.msg.typ =
      0) s = some (x, s1) ∧ ptpAccept x s1 = (some k, s2) ∧ (follows s2 k x = false ∨ grantedBy s2 k 0 x = false)) ∧
    (∃ (s : State) (p : Fin 16) (x : _) (s1 : State) (k : _) (s2 : State), up s = true ∧ ptpUp s = true ∧ takeMsg p (fun m => m.msg.typ =
      0) s = some (x, s1) ∧ ptpAccept x s1 = (some k, s2) ∧ follows s2 k x = true ∧ grantedBy s2 k 0 x = true ∧ x.msg.two = true) ∧
    (∃ (s : State) (p : Fin 16) (x : _) (s1 : State) (k : _) (s2 : State), up s = true ∧ ptpUp s = true ∧ takeMsg p (fun m => m.msg.typ =
      0) s = some (x, s1) ∧ ptpAccept x s1 = (some k, s2) ∧ follows s2 k x = true ∧ grantedBy s2 k 0 x = true ∧ x.msg.two = false) ∧
    (∃ (s : State) (p : Fin 16) (x : _) (s1 : State) (k : _) (s2 : State) (y : _), up s = true ∧ ptpUp s = true ∧ takeMsg p (fun m =>
      m.msg.typ = 8) s = some (x, s1) ∧ ptpAccept x s1 = (some k, s2) ∧ (ptpPort s2 (16 * k + x.port)).sync = some y ∧ follows s2 k x =
      true ∧ grantedBy s2 k 0 x = true ∧ y.seq = x.msg.seq) ∧
    (∃ (s : State) (p : Fin 16) (x : _) (s1 : State) (k : _) (s2 : State) (r : _) (t3 : _) (b3 : _), up s = true ∧ ptpUp s = true ∧
      takeMsg p (fun m => m.msg.typ = 9) s = some (x, s1) ∧ ptpAccept x s1 = (some k, s2) ∧ (ptpPort s2 (16 * k + x.port)).req = some r ∧
      follows s2 k x = true ∧ grantedBy s2 k 9 x = true ∧ r.seq = x.msg.seq ∧ x.msg.req = portIdentity s2 k x.port ∧ r.t = some (t3, b3)
      ∧ boundFinite b3 = false) ∧
    (∃ (s : State) (p : Fin 16) (x : _) (s1 : State) (k : _) (s2 : State), up s = true ∧ ptpUp s = true ∧ takeMsg p (fun m => m.msg.typ =
      2) s = some (x, s1) ∧ ptpAccept x s1 = (some k, s2)) ∧
    (∃ (s : State) (p : Fin 16) (x : _) (s1 : State) (k : _) (s2 : State), up s = true ∧ ptpUp s = true ∧ takeMsg p (fun m => m.msg.typ =
      3 || m.msg.typ = 10) s = some (x, s1) ∧ ptpAccept x s1 = (some k, s2)) ∧
    (∃ (s : State) (p : Fin 16) (x : _) (s1 : State) (k : _) (s2 : State) (a : _), up s = true ∧ ptpUp s = true ∧ takeMsg p (fun m =>
      m.msg.typ = 11) s = some (x, s1) ∧ ptpAccept x s1 = (some k, s2) ∧ grantedBy s2 k 11 x = true ∧ x.msg.ann = some a) ∧
    (∃ (s : State) (p : Fin 16) (x : _) (s1 : State) (k : _) (s2 : State), up s = true ∧ ptpUp s = true ∧ takeMsg p (fun m => m.msg.typ =
      1) s = some (x, s1) ∧ ptpParse x s1 = (some k, s2) ∧ ptpState s2 (16 * k + x.port) ≠ 3) ∧
    (∃ (s : State) (p : Fin 16) (x : _) (s1 : State) (k : _) (s2 : State), up s = true ∧ ptpUp s = true ∧ takeMsg p (fun m => m.msg.typ =
      1) s = some (x, s1) ∧ ptpParse x s1 = (some k, s2) ∧ isP2P s2 k = false ∧ ptpState s2 (16 * k + x.port) = 3 ∧ ptpEncap s2 (16 * k +
      x.port) = 0 ∧ (takeToken (16 * k + x.port) x.tick (bump (Obj.DREQ_RX (16 * k + x.port)) s2)).1 = false) ∧
    (∃ (s : State) (p : Fin 16) (x : _) (s1 : State) (k : _) (s2 : State), up s = true ∧ ptpUp s = true ∧ takeMsg p (fun m => m.msg.typ =
      1) s = some (x, s1) ∧ ptpParse x s1 = (some k, s2) ∧ isP2P s2 k = false ∧ ptpState s2 (16 * k + x.port) = 3 ∧ ptpEncap s2 (16 * k +
      x.port) ≠ 0 ∧ sessionOf (bump (Obj.DREQ_RX (16 * k + x.port)) s2) k x.port (rxPeer x).addr = none) ∧
    (∃ (s : State) (p : Fin 16) (x : _) (s1 : State) (k : _) (s2 : State) (e : State) (b : State) (u : State), up s = true ∧ ptpUp s =
      true ∧ takeMsg p (fun m => m.msg.typ = 1) s = some (x, s1) ∧ ptpParse x s1 = (some k, s2) ∧ isP2P s2 k = false ∧ ptpState s2 (16 *
      k + x.port) = 3 ∧ ptpEncap s2 (16 * k + x.port) = 0 ∧ takeToken (16 * k + x.port) x.tick (bump (Obj.DREQ_RX (16 * k + x.port)) s2)
      = (true, u) ∧ takeEvent u = (true, e) ∧ authCheck k x.port x.msg e = (true, b)) :=
  ⟨⟨wPtp { wMsg 0 44 with version := 1 } [], 0, _, _, _, by decide +kernel, by decide +kernel, someGet2 (by decide +kernel), pairNone
     (by decide +kernel)⟩,
   ⟨wPtp (wMsg 0 44) [(Obj.PTPP_STATE 0, 3)], 0, _, _, _, _, by decide +kernel, by decide +kernel, someGet2 (by decide +kernel), pairGet
     (by decide +kernel), by decide +kernel⟩,
   ⟨wPtp { wMsg 0 44 with two := true } [(Obj.PTPP_STATE 0, 6)], 0, _, _, _, _, by decide +kernel, by decide +kernel, someGet2
     (by decide +kernel), pairGet (by decide +kernel), by decide +kernel⟩,
   ⟨wPtp (wMsg 0 44) [(Obj.PTPP_STATE 0, 5)], 0, _, _, _, _, by decide +kernel, by decide +kernel, someGet2 (by decide +kernel), pairGet
     (by decide +kernel), by decide +kernel⟩,
   ⟨wPtpPort { id := 0, sync := some { seq := 5, t := 0, bound := 0, corr := 0 } } { wMsg 8 44 with seq := 5 } [(Obj.PTPP_STATE 0, 6)],
     0, _, _, _, _, _, by decide +kernel, by decide +kernel, someGet2 (by decide +kernel), pairGet (by decide +kernel), someGet
     (by decide +kernel), by decide +kernel⟩,
   ⟨wPtpPort { id := 0, req := some { seq := 5, t := some (9, unbounded80) } }
     { wMsg 9 54 with seq := 5, req := List.replicate 8 9 ++ [0, 17] } [(Obj.PTPP_STATE 0, 6)], 0, _, _, _, _, _, _, _,
     by decide +kernel, by decide +kernel, someGet2 (by decide +kernel), pairGet (by decide +kernel), someGet (by decide +kernel),
     by decide +kernel, by decide +kernel, by decide +kernel, by decide +kernel, someGet2 (by decide +kernel), by decide +kernel⟩,
   ⟨wPtp (wMsg 2 54) [], 0, _, _, _, _, by decide +kernel, by decide +kernel, someGet2 (by decide +kernel), pairGet (by decide +kernel)⟩,
   ⟨wPtp (wMsg 10 54) [], 0, _, _, _, _, by decide +kernel, by decide +kernel, someGet2 (by decide +kernel), pairGet (by decide +kernel)⟩,
   ⟨wPtp { wMsg 11 64 with ann := some wAnn } [], 0, _, _, _, _, _, by decide +kernel, by decide +kernel, someGet2 (by decide +kernel),
     pairGet (by decide +kernel), by decide +kernel, someGet (by decide +kernel)⟩,
   ⟨wPtp (wMsg 1 44) [(Obj.PTPP_STATE 0, 6)], 0, _, _, _, _, by decide +kernel, by decide +kernel, someGet2 (by decide +kernel), pairGet
     (by decide +kernel), by decide +kernel⟩,
   ⟨wPtp (wMsg 1 44) [(Obj.PTPP_STATE 0, 3), (Obj.PTPP_DREQ_RESERVE 0, 0)], 0, _, _, _, _, by decide +kernel, by decide +kernel, someGet2
     (by decide +kernel), pairGet (by decide +kernel), by decide +kernel⟩,
   ⟨{ wPtp { wMsg 1 44 with unicast := true } [(Obj.PTPP_STATE 0, 3), (Obj.PTPP_ENCAP 0, 1)] with ptpIn := [{ wPtpRx { wMsg 1 44 with unicast := true } with frame := wIpFrame }] },
     0, _, _, _, _, by decide +kernel, by decide +kernel, someGet2 (by decide +kernel), pairGet (by decide +kernel), by decide +kernel⟩,
   ⟨wPtp (wMsg 1 44) [(Obj.PTPP_STATE 0, 3), (Obj.PTPP_DREQ_RESERVE 0, 1)], 0, _, _, _, _, _, _, _, by decide +kernel, by decide +kernel,
     someGet2 (by decide +kernel), pairGet (by decide +kernel), by decide +kernel, by decide +kernel, by decide +kernel, pairTrue
     (by decide +kernel), pairTrue (by decide +kernel), pairTrue (by decide +kernel)⟩⟩

/-- The hypotheses of every clause of PtpTimers are met. -/
theorem witness_PtpTimers :
    (∃ (s : State), up s = true ∧ ptpUp s = false) ∧
    (∃ (s : State) (k : Fin 4) (p : Fin 16) (t : _), up s = true ∧ ptpUp s = true ∧ (ptpPort s (16 * k.val + p.val)).nextSync = some t ∧
      t ≤ mts96 s ∧ ptpState s (16 * k.val + p.val) = 3 ∧ ptpEncap s (16 * k.val + p.val) = 0 ∧ quiet s = false ∧ ptpWithheld s k = true) ∧
    (∃ (s : State) (k : Fin 4) (p : Fin 16) (t : _), up s = true ∧ ptpUp s = true ∧ (ptpPort s (16 * k.val + p.val)).nextSync = some t ∧
      t ≤ mts96 s ∧ ptpState s (16 * k.val + p.val) = 3 ∧ ptpEncap s (16 * k.val + p.val) = 0 ∧ quiet s = false ∧ ptpWithheld s k =
      false) ∧
    (∃ (s : State) (k : Fin 4) (p : Fin 16) (t : _), up s = true ∧ ptpUp s = true ∧ (ptpPort s (16 * k.val + p.val)).nextAnn = some t ∧ t
      ≤ mts96 s ∧ ptpState s (16 * k.val + p.val) = 3 ∧ ptpEncap s (16 * k.val + p.val) = 0 ∧ quiet s = false) ∧
    (∃ (s : State), up s = true ∧ ptpUp s = true) ∧
    (∃ (s : State) (k : Fin 4) (p : Fin 16) (t : _), up s = true ∧ (ptpState s (16 * k.val + p.val) = 6 ∨ ptpState s (16 * k.val + p.val)
      = 5) ∧ (ptpPort s (16 * k.val + p.val)).annUntil = some t ∧ t ≤ s.now) ∧
    (∃ (s : State) (k : Fin 4) (p : Fin 16), up s = true ∧ ptpUp s = true ∧ isP2P s k = false ∧ (ptpState s (16 * k.val + p.val) = 6 ∨
      ptpState s (16 * k.val + p.val) = 5) ∧ ptpEncap s (16 * k.val + p.val) = 0 ∧ (ptpPort s (16 * k.val + p.val)).nextReq.getD 0 ≤
      mts96 s) ∧
    (∃ (s : State) (a : Fin 32), up s = true ∧ getNat s (Obj.SA_ROLL_AT a) ≠ 0 ∧ getNat s (Obj.SA_ROLL_AT a) ≤ mts96 s ∧ (s.ptp.sas.getD
      a { id := a }).rolledAt ≠ getNat s (Obj.SA_ROLL_AT a) ∧ getN s (Obj.SA_NEXT_SLOT a) ≠ 0xFF) ∧
    (∃ (s : State) (a : Fin 32), up s = true ∧ getNat s (Obj.SA_ROLL_AT a) ≠ 0 ∧ getNat s (Obj.SA_ROLL_AT a) ≤ mts96 s ∧ (s.ptp.sas.getD
      a { id := a }).rolledAt ≠ getNat s (Obj.SA_ROLL_AT a) ∧ getN s (Obj.SA_NEXT_SLOT a) = 0xFF) ∧
    (∃ (s : State) (a : Fin 32) (i : _) (j : _) (t : _), up s = true ∧ (s.ptp.sas.getD a { id := a }).prev = some (i, j, t) ∧ t ≤ s.now) ∧
    (∃ (s : State), up s = true ∧ (s.ptp.sessions.map (sessionShed s)).sum + (s.ptp.sessions.map (sessionAnn s)).sum ≤ 16 * shaLanes s *
      1785714) :=
  ⟨⟨{ wRun [] with restarts := [{ source := 0x1700, unit := 0x1700, began := 0, base := 2 }] }, by decide +kernel⟩,
   ⟨wPtpPort { id := 0, nextSync := some 65536000000000000000 } (wMsg 0 44) [(Obj.PTPP_STATE 0, 3), (Obj.START_MILESTONE, 9),
     (Obj.BOUND_GRADE, 3)], 0, 0, _, by decide +kernel, by decide +kernel, someGet (by decide +kernel), by decide +kernel⟩,
   ⟨wPtpPort { id := 0, nextSync := some 65536000000000000000 } (wMsg 0 44) [(Obj.PTPP_STATE 0, 3), (Obj.START_MILESTONE, 9),
     (Obj.BOUND_GRADE, 2)], 0, 0, _, by decide +kernel, by decide +kernel, someGet (by decide +kernel), by decide +kernel⟩,
   ⟨wPtpPort { id := 0, nextAnn := some 65536000000000000000 } (wMsg 0 44) [(Obj.PTPP_STATE 0, 3), (Obj.START_MILESTONE, 9)], 0, 0, _,
     by decide +kernel, by decide +kernel, someGet (by decide +kernel), by decide +kernel⟩,
   ⟨wRun [], by decide +kernel⟩,
   ⟨wPtpPort { id := 0, annUntil := some 1000000000000 } (wMsg 0 44) [(Obj.PTPP_STATE 0, 6)], 0, 0, _, by decide +kernel,
     by decide +kernel, someGet (by decide +kernel), by decide +kernel⟩,
   ⟨wPtpPort { id := 0, nextReq := some 65536000000000000000 } (wMsg 0 44) [(Obj.PTPP_STATE 0, 5)], 0, 0, by decide +kernel⟩,
   ⟨wRun [(Obj.SA_ROLL_AT 0, 65536000000000000000), (Obj.SA_ALG 0, 1), (Obj.SA_NEXT_SLOT 0, 20)], 0, by decide +kernel⟩,
   ⟨wRun [(Obj.SA_ROLL_AT 31, 1), (Obj.SA_ALG 31, 1), (Obj.SA_NEXT_SLOT 31, 0xFF)], 31, by decide +kernel⟩,
   ⟨{ wRun [] with ptp := { sas := [{ id := 0, prev := some (20, 1, 0) }] } }, 0, 20, 1, 0, by decide +kernel⟩,
   ⟨wRun [], by decide +kernel⟩⟩

/-- The hypotheses of every clause of UnicastEvents are met. -/
theorem witness_UnicastEvents :
    (∃ (s : State) (p : Fin 16) (x : _) (s1 : State), up s = true ∧ ptpUp s = true ∧ takeMsg p (hasTlv isCancel) s = some (x, s1)) ∧
    (∃ (s : State) (p : Fin 16) (x : _) (s1 : State), up s = true ∧ ptpUp s = true ∧ takeMsg p (hasTlv isGrant) s = some (x, s1)) ∧
    (∃ (s : State) (p : Fin 16), up s = true ∧ (reqStale p s).ptpIn.any (hasTlv isCancel) = true) ∧
    (∃ (s : State) (p : Fin 16) (x : _) (s1 : State) (u : State), up s = true ∧ u = reqStale p s ∧ u.ptpIn.any (hasTlv isCancel) = false
      ∧ u.ptpIn.any (isRenewal u) = true ∧ ptpUp u = true ∧ takeMsg p (isRenewal u) u = some (x, s1)) ∧
    (∃ (s : State) (p : Fin 16) (x : _) (s1 : State) (u : State), up s = true ∧ u = reqStale p s ∧ u.ptpIn.any (hasTlv isCancel) = false
      ∧ u.ptpIn.any (isRenewal u) = false ∧ ptpUp u = true ∧ takeMsg p (hasTlv isRequest) u = some (x, s1)) ∧
    (∃ (s : State), up s = true) ∧
    (∃ (s : State) (j : Fin 131072), up s = true ∧ sessionAt s j = none) ∧
    (∃ (s : State) (j : Fin 131072) (x : _), up s = true ∧ sessionAt s j = some x ∧ x.syncG = true ∧ x.syncExp ≤ mtsSec s ∧ x.drespG =
      false ∧ x.annG = false) ∧
    (∃ (s : State), up s = true ∧ ptpUp s = true ∧ s.ptp.grants = []) ∧
    (∃ (s : State) (k : _) (x : PtpRx), ptpState s (16 * k + x.port) ≠ 3) ∧
    (∃ (s : State) (k : _) (x : PtpRx) (typ : _) (log : Int) (dur : _), ptpState s (16 * k + x.port) = 3 ∧ (dur = 0 ∨ logOk s typ log =
      false)) ∧
    (∃ (s : State) (k : _) (x : PtpRx) (typ : _) (log : Int) (dur : _), ptpState s (16 * k + x.port) = 3 ∧ dur ≠ 0 ∧ logOk s typ log =
      true ∧ typ ≠ 11 ∧ (holds (sessionOf s k x.port (rxPeer x).addr) 11 = false ∨ annExpired s (sessionOf s k x.port (rxPeer x).addr) =
      true)) ∧
    (∃ (s : State) (k : _) (x : PtpRx) (typ : _) (log : Int) (dur : _) (z : _), grantDecision s k x typ log dur = .inr z) :=
  ⟨⟨wPtp { wMsg 12 44 with uc := [.cancel 0] } [], 0, _, _, by decide +kernel, by decide +kernel, someGet2 (by decide +kernel)⟩,
   ⟨wPtp { wMsg 12 44 with uc := [.grant 11 0 60] } [], 0, _, _, by decide +kernel, by decide +kernel, someGet2 (by decide +kernel)⟩,
   ⟨wPtp { wMsg 12 44 with uc := [.cancel 0] } [], 0, by decide +kernel⟩,
   ⟨{ wPtpPort { id := 0 } { wMsg 12 44 with uc := [.request 0 0 60] } [] with ptp := { sessions := [{ wPs with syncG := true }] } }, 0,
     _, _, _, by decide +kernel, rfl, by decide +kernel, by decide +kernel, by decide +kernel, someGet2 (by decide +kernel)⟩,
   ⟨wPtp { wMsg 12 44 with uc := [.request 11 0 60] } [], 0, _, _, _, by decide +kernel, rfl, by decide +kernel, by decide +kernel,
     by decide +kernel, someGet2 (by decide +kernel)⟩,
   ⟨wRun [], by decide +kernel⟩,
   ⟨wRun [], 131071, by decide +kernel⟩,
   ⟨{ wRun [] with ptp := { sessions := [{ wPs with syncG := true }] } }, 131071, _, by decide +kernel, someGet (by decide +kernel),
     by decide +kernel⟩,
   ⟨wRun [], by decide +kernel⟩,
   ⟨wRun [], 0, wPtpRx (wMsg 12 44), by decide +kernel⟩,
   ⟨wRun [(Obj.PTPP_STATE 0, 3)], 0, wPtpRx (wMsg 12 44), 11, 5, 60, by decide +kernel⟩,
   ⟨wRun [(Obj.PTPP_STATE 0, 3)], 0, wPtpRx (wMsg 12 44), 0, 0, 60, by decide +kernel⟩,
   ⟨wRun [(Obj.PTPP_STATE 0, 3)], 0, wPtpRx (wMsg 12 44), 11, 4, 60, _, inrGet (by decide +kernel)⟩⟩

/-- The hypotheses of every clause of NtpEvents are met. -/
theorem witness_NtpEvents :
    (∃ (s : State) (p : Fin 16) (x : NtpRx), up s = true ∧ s.ntpIn.find? (fun x => x.port = p.val) = some x ∧ restarting s 0x1900 = true) ∧
    (∃ (s : State) (p : Fin 16) (x : NtpRx), up s = true ∧ s.ntpIn.find? (fun x => x.port = p.val) = some x ∧ restarting s 0x1900 = false
      ∧ 32 ≤ s.ntp.queue.countP (fun y => y.port = p.val)) ∧
    (∃ (s : State) (p : Fin 16) (x : NtpRx), up s = true ∧ s.ntpIn.find? (fun x => x.port = p.val) = some x ∧ restarting s 0x1900 = false
      ∧ s.ntp.queue.countP (fun y => y.port = p.val) < 32) ∧
    (∃ (s : State) (p : Fin 16), up s = true ∧ s.ntp.queue.find? (fun x => x.port = p.val) = none) ∧
    (∃ (s : State) (p : Fin 16) (x : NtpRx), up s = true ∧ s.ntp.queue.find? (fun x => x.port = p.val) = some x ∧ (∀ t, s.ntp.taken.getD
      p none = some t → t + 50 ≤ s.now) ∧ restarting s 0x1900 = false) ∧
    (∃ (s : State) (tag : Nat), up s = true ∧ s.crypto.ops.find? (fun o => o.tag = tag && o.started) = none) ∧
    (∃ (s : State) (tag : Nat) (o : _) (u : State), up s = true ∧ restarting s 0x1A00 = false ∧ s.crypto.ops.find? (fun o => o.tag = tag
      && o.started) = some o ∧ u = serveOps { s with crypto := { s.crypto with ops := s.crypto.ops.filter (fun x => x.tag ≠ tag) } }) ∧
    (∃ (s : State), up s = true) ∧
    (∃ (s : State), up s = true ∧ (getN s Obj.TS_STATE = 0 ∨ atBoundary s = false)) ∧
    (∃ (s : State), up s = true ∧ atBoundary s = true ∧ getN s Obj.TS_STATE ≠ 0 ∧ s.ntp.rotatedMs ≠ some (s.ts.mts / ms48) ∧ getN s
      Obj.NTS_NEXT_ROTATE = 0) ∧
    (∃ (s : State), up s = true ∧ atBoundary s = true ∧ getN s Obj.TS_STATE ≠ 0 ∧ s.ntp.rotatedMs ≠ some (s.ts.mts / ms48) ∧ 0 < getN s
      Obj.NTS_NEXT_ROTATE ∧ getNat s Obj.NTS_NEXT_ROTATE ≤ t96Of s.ts.mts) :=
  ⟨⟨{ wRun [] with ntpIn := [wNtp], restarts := [{ source := 0x1900, unit := 0x1900, began := 0, base := 2 }] }, 0, wNtp,
     by decide +kernel⟩,
   ⟨{ wRun [] with ntpIn := [wNtp], ntp := { queue := List.replicate 32 wNtp } }, 0, wNtp, by decide +kernel⟩,
   ⟨{ wRun [] with ntpIn := [wNtp], ntp := { queue := List.replicate 31 wNtp } }, 0, wNtp, by decide +kernel⟩,
   ⟨wRun [], 0, by decide +kernel⟩,
   ⟨{ wRun [] with ntp := { queue := [wNtp] } }, 0, wNtp, by decide +kernel, by decide +kernel, noneImp (by decide +kernel),
     by decide +kernel⟩,
   ⟨wRun [], 0, by decide +kernel⟩,
   ⟨{ wRun [] with crypto := { ops := [{ tag := 5, cls := 0, kind := .cookie 3, started := true }] } }, 5, _, _, by decide +kernel,
     by decide +kernel, someGet (by decide +kernel), rfl⟩,
   ⟨wRun [], by decide +kernel⟩,
   ⟨wRun [], by decide +kernel⟩,
   ⟨wRun [(Obj.TS_STATE, 1)], by decide +kernel⟩,
   ⟨wRun [(Obj.TS_STATE, 1), (Obj.NTS_NEXT_ROTATE, 65536000000000000000)], by decide +kernel⟩⟩

/-- The hypotheses of every clause of NtpRows are met. -/
theorem witness_NtpRows :
    (∃ (s : State) (x : NtpRx) (h : IpHdr), x.frame.ip = some h ∧ quiet s = true) ∧
    (∃ (s : State) (x : NtpRx) (h : IpHdr), x.frame.ip = some h ∧ quiet s = false ∧ ntpLenOk x.req = false) ∧
    (∃ (s : State) (x : NtpRx) (h : IpHdr), x.frame.ip = some h ∧ quiet s = false ∧ ntpLenOk x.req = true ∧ (x.req.csumOk = false ∨ (h.v6
      = true ∧ h.csum = 0))) ∧
    (∃ (s : State) (x : NtpRx) (h : IpHdr), x.frame.ip = some h ∧ quiet s = false ∧ ntpLenOk x.req = true ∧ x.req.csumOk = true ∧ h.v6 =
      false ∧ x.req.vn ≠ 3 ∧ x.req.vn ≠ 4) ∧
    (∃ (s : State) (x : NtpRx) (h : IpHdr), x.frame.ip = some h ∧ quiet s = false ∧ ntpLenOk x.req = true ∧ x.req.csumOk = true ∧ h.v6 =
      false ∧ x.req.vn = 4 ∧ x.req.mode = 6) ∧
    (∃ (s : State) (x : NtpRx) (h : IpHdr), x.frame.ip = some h ∧ quiet s = false ∧ ntpLenOk x.req = true ∧ x.req.csumOk = true ∧ h.v6 =
      false ∧ x.req.vn = 4 ∧ x.req.mode = 3 ∧ extParse (x.req.ext.map (·.len)) (extLen x.req) = true ∧ getN s (Obj.SVC_NTP x.svc) ≠ 2) :=
  ⟨⟨wRun [(Obj.PAIR_ROLE, 1)], wNtp, wIp, by decide +kernel⟩,
   ⟨wRun [(Obj.START_MILESTONE, 9)], { wNtp with req := { udpLen := 55 } }, wIp, by decide +kernel⟩,
   ⟨wRun [(Obj.START_MILESTONE, 9)], { wNtp with req := { csumOk := false } }, wIp, by decide +kernel⟩,
   ⟨wRun [(Obj.START_MILESTONE, 9)], { wNtp with req := { vn := 2 } }, wIp, by decide +kernel⟩,
   ⟨wRun [(Obj.START_MILESTONE, 9)], { wNtp with req := { mode := 6 } }, wIp, by decide +kernel⟩,
   ⟨wRun [(Obj.START_MILESTONE, 9)], wNtp, wIp, by decide +kernel⟩⟩

/-- The hypotheses of every clause of KeyEvents are met. -/
theorem witness_KeyEvents :
    (∃ (s : State), up s = true ∧ getN s Obj.START_MILESTONE ≠ 2) ∧
    (∃ (s : State), up s = true ∧ getN s Obj.START_MILESTONE = 2 ∧ s.keys.helper = true) ∧
    (∃ (s : State) (ber : Nat), up s = true ∧ getN s Obj.START_MILESTONE = 2 ∧ s.keys.helper = true ∧ ber ≤ 1500 ∧ s.keys.slots.all (fun
      k => !k.bad) = true) ∧
    (∃ (s : State), up s = true ∧ s.now < s.keys.checkTick + 60 * sT) ∧
    (∃ (s : State), up s = true ∧ s.keys.checkTick + 60 * sT ≤ s.now ∧ milestone s 3 = true) ∧
    (∃ (s : State) (f : Nat), up s = true ∧ drbgDown s = false ∧ f ≠ 0) ∧
    (∃ (s : State), up s = true ∧ drbgDown s = false ∧ (s.keys.drbgReseed + sT ≤ s.now ∨ 65536 ≤ s.keys.drbgRequests)) ∧
    (∃ (s : State), up s = true ∧ drbgDown s = true) ∧
    (∃ (s : State), up s = true ∧ drbgDown s = false) ∧
    (∃ (s : State), up s = true ∧ s.keys.tckSeen = true) ∧
    (∃ (s : State), up s = true ∧ s.keys.tckSeen = false ∧ getN s Obj.LC_STATE = 1) ∧
    (∃ (s : State), up s = true ∧ 1 < getN s Obj.LC_STATE) ∧
    (∃ (s : State), up s = true ∧ getN s Obj.LC_STATE ≤ 1) ∧
    (∃ (s : State) (x : BondExchange), up s = true ∧ s.keys.bond = some x ∧ x.keyOk = false ∧ x.began + 60 * sT ≤ s.now) ∧
    (∃ (s : State) (x : BondExchange), up s = true ∧ s.keys.bond = some x ∧ (x.keyOk = true ∨ s.now < x.began + 60 * sT)) ∧
    (∃ (s : State) (x : BondExchange) (t : _), up s = true ∧ s.keys.bond = some x ∧ x.applyFrom = some t ∧ (t + ms48 - 1) / ms48 * ms48 ≤
      s.ts.mts ∧ atBoundary s = true) ∧
    (∃ (s : State), up s = true ∧ atBoundary s = false) :=
  ⟨⟨wRun [], by decide +kernel⟩,
   ⟨wRun [(Obj.START_MILESTONE, 2)], by decide +kernel⟩,
   ⟨wRun [(Obj.START_MILESTONE, 2)], 1500, by decide +kernel⟩,
   ⟨{ wRun [] with keys := { checkTick := 988000000001 } }, by decide +kernel⟩,
   ⟨{ wRun [(Obj.START_MILESTONE, 3)] with keys := { checkTick := 988000000000 } }, by decide +kernel⟩,
   ⟨wRun [], 1, by decide +kernel⟩,
   ⟨{ wRun [] with keys := { drbgReseed := 1000000000000, drbgRequests := 65536 } }, by decide +kernel⟩,
   ⟨{ wRun [] with keys := { drbgRestart := some 0 } }, by decide +kernel⟩,
   ⟨wRun [], by decide +kernel⟩,
   ⟨{ wRun [] with keys := { tckSeen := true } }, by decide +kernel⟩,
   ⟨wRun [(Obj.LC_STATE, 1)], by decide +kernel⟩,
   ⟨wRun [(Obj.LC_STATE, 2)], by decide +kernel⟩,
   ⟨wRun [(Obj.LC_STATE, 1)], by decide +kernel⟩,
   ⟨{ wRun [] with keys := { bond := some { began := 988000000000 } } }, { began := 988000000000 }, by decide +kernel⟩,
   ⟨{ wRun [] with keys := { bond := some { began := 988000000001 } } }, { began := 988000000001 }, by decide +kernel⟩,
   ⟨{ wRun [] with keys := { bond := some { began := 0, applyFrom := some (1000000 * sec48) } } },
     { began := 0, applyFrom := some (1000000 * sec48) }, 1000000 * sec48, by decide +kernel⟩,
   ⟨{ wRun [] with now := 1000000000001 }, by decide +kernel⟩⟩

/-- The hypotheses of every clause of TamperEvents are met. -/
theorem witness_TamperEvents :
    (∃ (s : State) (src : Fin 8), getN s (Obj.TAMPER_LIVE src) = 1) ∧
    (∃ (s : State) (src : Fin 8), s.mode = .running ∧ getN s (Obj.TAMPER_LIVE src) ≠ 1 ∧ (getNat s Obj.TAMPER_ENABLE).testBit src =
      false) ∧
    (∃ (s : State) (src : Fin 8), s.mode = .running ∧ milestone s 6 = true ∧ getN s (Obj.TAMPER_LIVE src) ≠ 1 ∧ (getNat s
      Obj.TAMPER_ENABLE).testBit src = true ∧ src ≠ 5) ∧
    (∃ (s : State), s.keep.voltArmed = true) ∧
    (∃ (s : State), s.keep.voltArmed = false ∧ (up s = false ∨ s.keep.poweredAt + 10 * msT ≤ s.now) ∧ getN s (Obj.TAMPER_LIVE 5) ≠ 1) ∧
    (∃ (s : State), s.mode = .running) ∧
    (∃ (s : State), s.mode = .unpowered) :=
  ⟨⟨wRun [(Obj.TAMPER_LIVE 0, 1)], 0, by decide +kernel⟩,
   ⟨wRun [], 0, by decide +kernel⟩,
   ⟨wRun [(Obj.START_MILESTONE, 6)], 6, by decide +kernel⟩,
   ⟨{ wRun [] with keep := { voltArmed := true } }, by decide +kernel⟩,
   ⟨{ wRun [] with keep := { poweredAt := 999998000000 } }, by decide +kernel⟩,
   ⟨wRun [], by decide +kernel⟩,
   ⟨State.reset, by decide +kernel⟩⟩

/-- The hypotheses of every clause of HostLinkFrames are met. -/
theorem witness_HostLinkFrames :
    (∃ (s : State), up s = true ∧ 8 ≤ s.host.written.length) ∧
    (∃ (s : State) (f : List Byte) (agree : _), up s = true ∧ s.host.written.length < 8 ∧ (agree = false ∨ 1408 < f.length)) ∧
    (∃ (s : State) (f : List Byte), up s = true ∧ s.host.written.length < 8 ∧ f.length ≤ 1408) ∧
    (∃ (s : State), up s = true ∧ s.host.read = []) ∧
    (∃ (s : State) (f : List Byte) (r : _), up s = true ∧ s.host.read = f :: r) ∧
    (∃ (s : State), up s = true) ∧
    (∃ (h : FrameHdr) (n : _) (s0 : _) (s : State), s = takeFrame h s0 ∧ transportOk s h = true ∧ h.udpOk = true ∧ h.bytes ≤ 1408 ∧
      h.version = 1 ∧ h.lengthOk = true ∧ (h.tagOk = false ∨ (session s n).state = 0 ∨ (session s n).iface ≠ h.iface ∨ (h.iface ≠ 3 ∧
      ((session s n).peer ≠ h.peer ∨ (session s n).port ≠ h.port)))) ∧
    (∃ (h : FrameHdr) (n : _) (s0 : _) (s : State), s = takeFrame h s0 ∧ transportOk s h = true ∧ h.udpOk = true ∧ h.bytes ≤ 1408 ∧
      h.version = 1 ∧ h.lengthOk = true ∧ (session s n).state ≠ 0 ∧ (session s n).iface = h.iface ∧ (session s n).peer = h.peer ∧
      (session s n).port = h.port ∧ h.tagOk = true ∧ (h.seq + 64 ≤ (session s n).rxHigh ∨ h.seq ∈ (session s n).rxSeen)) ∧
    (∃ (h : FrameHdr) (n : _) (s0 : _) (s : State), s = takeFrame h s0 ∧ transportOk s h = true ∧ h.udpOk = true ∧ h.bytes ≤ 1408 ∧
      h.version = 1 ∧ h.lengthOk = true ∧ (session s n).state ≠ 0 ∧ (session s n).iface = h.iface ∧ (session s n).peer = h.peer ∧
      (session s n).port = h.port ∧ h.tagOk = true ∧ (session s n).rxHigh < h.seq + 64 ∧ h.seq ∉ (session s n).rxSeen ∧ 1 ≤ n ∧ n ≤
      s.sessions.length) :=
  ⟨⟨{ wRun [] with host := { written := List.replicate 8 [] } }, by decide +kernel⟩,
   ⟨{ wRun [] with host := { written := List.replicate 7 [] } }, [1], false, by decide +kernel⟩,
   ⟨wRun [], [1], by decide +kernel⟩,
   ⟨wRun [], by decide +kernel⟩,
   ⟨{ wRun [] with host := { read := [[1], [2]] } }, [1], [[2]], by decide +kernel⟩,
   ⟨wRun [], by decide +kernel⟩,
   ⟨{ wHdr with tagOk := false }, 1, wSess [], _, rfl, by decide +kernel⟩,
   ⟨{ wHdr with seq := 36 }, 1, { wSess [] with sessions := [{ wSession with rxHigh := 100 }] }, _, rfl, by decide +kernel⟩,
   ⟨{ wHdr with seq := 37 }, 1, { wSess [] with sessions := [{ wSession with rxHigh := 100 }] }, _, rfl, by decide +kernel⟩⟩

/-- The hypotheses of every clause of SessionEvents are met. -/
theorem witness_SessionEvents :
    (∃ (s : State) (h : FrameHdr) (key : _) (s1 : State), up s = true ∧ frameIn h s = (true, s1) ∧ s1.keys.slots.find? (fun k => decide
      (k.keyId = key) && credUsable s1 k.id) = none) ∧
    (∃ (s : State) (h : FrameHdr) (key : _) (s1 : State) (k : _) (n : _), up s = true ∧ frameIn h s = (true, s1) ∧ s1.keys.slots.find?
      (fun k => decide (k.keyId = key) && credUsable s1 k.id) = some k ∧ h.tagOk = true ∧ sessionsIn s1 1 < 4 ∧ drbgDown s1 = false ∧
      lowestFree s1 = some n ∧ s1.sessions.length = 16) ∧
    (∃ (s : State) (h : FrameHdr) (key : _) (s1 : State) (k : _), up s = true ∧ frameIn h s = (true, s1) ∧ s1.keys.slots.find? (fun k =>
      decide (k.keyId = key) && credUsable s1 k.id) = some k ∧ h.tagOk = true ∧ sessionsIn s1 1 < 4 ∧ drbgDown s1 = false ∧ lowestFree s1
      = none) ∧
    (∃ (s : State) (h : FrameHdr) (n : _) (s1 : State) (s2 : State), up s = true ∧ acceptFrame h n s = (some s1, s2)) ∧
    (∃ (s : State) (h : FrameHdr) (n : _) (s2 : State), up s = true ∧ acceptFrame h n s = (none, s2)) ∧
    (∃ (s : State) (n : Fin 16), up s = true ∧ (session s (n.val + 1)).state = 1 ∧ (session s (n.val + 1)).openedTick + 2 * sT ≤ s.now) ∧
    (∃ (s : State) (n : Fin 16), up s = true ∧ (session s (n.val + 1)).state = 2 ∧ (session s (n.val + 1)).lastAccepted + getNat s
      Obj.TRANSOM_IDLE * sT ≤ s.now) ∧
    (∃ (s : State) (n : Fin 16), up s = true ∧ (session s (n.val + 1)).state ≠ 2) ∧
    (∃ (s : State) (n : _), 1 ≤ n ∧ n ≤ 16 ∧ s.sessions.length = 16 ∧ (session s n).state ≠ 0) ∧
    (∃ (reason : _) (s : State) (n : _) (g : Group), 1 ≤ n ∧ n ≤ 16 ∧ s.sessions.length = 16 ∧ (session s n).state ≠ 0 ∧ g.session = n ∧
      g ∈ (closeSession n reason s).groups) :=
  ⟨⟨wRun [], wHdr, 7, _, by decide +kernel, pairTrue (by decide +kernel), by decide +kernel⟩,
   ⟨wCap [] 1, wHdr, 7, _, _, _, by decide +kernel, pairTrue (by decide +kernel), someGet (by decide +kernel), by decide +kernel,
     by decide +kernel, by decide +kernel, someGet (by decide +kernel), by decide +kernel⟩,
   ⟨{ wCap [] 1 with sessions := List.replicate 16 { wSession with iface := 2 } }, wHdr, 7, _, _, by decide +kernel, pairTrue
     (by decide +kernel), someGet (by decide +kernel), by decide +kernel⟩,
   ⟨wSess [], wHdr, 1, _, _, by decide +kernel, pairGet (by decide +kernel)⟩,
   ⟨wSess [], { wHdr with tagOk := false }, 1, _, by decide +kernel, pairNone (by decide +kernel)⟩,
   ⟨{ wRun [] with sessions := [{ wSession with state := 1, openedTick := 999600000000 }] }, 0, by decide +kernel⟩,
   ⟨{ wRun [] with sessions := [wSession] }, 0, by decide +kernel⟩,
   ⟨wRun [], 0, by decide +kernel⟩,
   ⟨wSess [], 1, by decide +kernel⟩,
   ⟨1, { wSess [] with groups := [{ id := 3, state := 1, session := 1 }] }, 1, { id := 3, state := 1, session := 1 }, by decide +kernel⟩⟩

/-- The hypotheses of every clause of LatchElection are met. -/
theorem witness_LatchElection :
    (∃ (s : State) (q : Req) (s1 : State), up s = true ∧ acceptedRequest q s = some s1 ∧ recordTests q s1 = stOk ∧ ownerCapable s1
      (session s1 q.sess).slot = true ∧ s1.latch.holder = 0) ∧
    (∃ (s : State) (q : Req) (s1 : State), up s = true ∧ acceptedRequest q s = some s1 ∧ recordTests q s1 = stOk ∧ ownerCapable s1
      (session s1 q.sess).slot = false) ∧
    (∃ (s : State) (q : Req) (s1 : State), up s = true ∧ acceptedRequest q s = some s1 ∧ recordTests q s1 = stOk ∧ ownerCapable s1
      (session s1 q.sess).slot = true ∧ s1.latch.holder ≠ 0) ∧
    (∃ (s : State) (q : Req) (s1 : State), up s = true ∧ acceptedRequest q s = some s1 ∧ recordTests q s1 = stOk ∧ s1.latch.holder ≠
      q.sess) ∧
    (∃ (s : State) (t : _), up s = true ∧ s.latch.electionFrom = some t ∧ s.now < t + 500 * msT) ∧
    (∃ (s : State) (t : _), up s = true ∧ s.latch.electionFrom = some t ∧ t + 500 * msT ≤ s.now ∧ s.latch.claims = []) ∧
    (∃ (s : State) (t : _), up s = true ∧ s.latch.electionFrom = some t ∧ t + 500 * msT ≤ s.now) :=
  ⟨⟨wCap [] 0, wReq [], _, by decide +kernel, someGet (by decide +kernel), by decide +kernel⟩,
   ⟨wOwn [], wReq [], _, by decide +kernel, someGet (by decide +kernel), by decide +kernel⟩,
   ⟨wCap [] 1, wReq [], _, by decide +kernel, someGet (by decide +kernel), by decide +kernel⟩,
   ⟨wSess [], wReq [], _, by decide +kernel, someGet (by decide +kernel), by decide +kernel⟩,
   ⟨{ wRun [] with latch := { electionFrom := some 999900000001 } }, 999900000001, by decide +kernel⟩,
   ⟨{ wRun [] with latch := { electionFrom := some 999900000000 } }, 999900000000, by decide +kernel⟩,
   ⟨{ wSess [] with latch := { electionFrom := some 999900000000, claims := [(1, 0)] } }, 999900000000, by decide +kernel⟩⟩

/-- The hypotheses of every clause of ElectionWinner are met. -/
theorem witness_ElectionWinner :
    (∃ (l : List (Nat × Nat)), l ≠ [] ∧ (∀ c ∈ l, c.1 ≠ 0)) ∧
    (∃ (l : List (Nat × Nat)) (c : Nat × Nat), l ≠ [] ∧ (∀ c ∈ l, c.1 ≠ 0) ∧ c ∈ l) ∧
    (∃ (s : State) (l : List (Nat × Nat)) (c : Nat × Nat), l ≠ [] ∧ (∀ c ∈ l, c.1 ≠ 0) ∧ getNat s (Obj.CRED_RANK (session s c.1).slot) =
      getNat s (Obj.CRED_RANK (session s (winner s l)).slot) ∧ c ∈ l) :=
  ⟨⟨[(1, 0), (2, 0)], by decide +kernel⟩,
   ⟨[(1, 0), (2, 0)], (2, 0), by decide +kernel⟩,
   ⟨wRun [], [(1, 0), (2, 0)], (2, 0), by decide +kernel⟩⟩

/-- The hypotheses of every clause of GroupRequests are met. -/
theorem witness_GroupRequests :
    (∃ (s : State) (q : Req) (s1 : State), up s = true ∧ acceptedRequest q s = some s1 ∧ ownerTests q s1 = stOk ∧ 8 ≤ s1.groups.length) ∧
    (∃ (s : State) (q : Req) (s1 : State), up s = true ∧ acceptedRequest q s = some s1 ∧ ownerTests q s1 = stOk ∧ s1.groups.length < 8) ∧
    (∃ (s : State) (q : Req) (i : _) (j : _) (s1 : State) (g : _), up s = true ∧ acceptedRequest q s = some s1 ∧ tests1to9 q .groupAdd i
      j s1 = stOk ∧ openGroup s1 q = some g ∧ g.writes.length < 256 ∧ (decodeVal (i * 256 + j) (objKind i j) (q.value.take q.valueLen)).1
      = stOk ∧ ownStatus s1 (i * 256 + j) (decodeVal (i * 256 + j) (objKind i j) (q.value.take q.valueLen)).2 = stOk ∧ g.bytes +
      (q.value.take q.valueLen).length ≤ 16384) ∧
    (∃ (s : State) (q : Req) (i : _) (j : _) (s1 : State), up s = true ∧ acceptedRequest q s = some s1 ∧ tests1to9 q .groupAdd i j s1 =
      stOk ∧ openGroup s1 q = none) ∧
    (∃ (s : State) (q : Req) (s1 : State) (a : Nat) (g : _) (i : _), up s = true ∧ acceptedRequest q s = some s1 ∧ ownerTests q s1 = stOk
      ∧ (q.value.take q.valueLen).length = 12 ∧ t96OfBytes (q.value.take q.valueLen) = some a ∧ openGroup s1 q = some g ∧ commitAt s1 a =
      .inr i ∧ (groupRun { g with atI := i } s1).status = stOk) ∧
    (∃ (s : State) (q : Req) (s1 : State) (g : _), up s = true ∧ acceptedRequest q s = some s1 ∧ ownerTests q s1 = stOk ∧ groupOf s1
      q.group = some g ∧ g.state ≠ 2) ∧
    (∃ (s : State) (q : Req) (s1 : State) (g : _), up s = true ∧ acceptedRequest q s = some s1 ∧ ownerTests q s1 = stOk ∧ groupOf s1
      q.group = some g ∧ g.state = 2) ∧
    (∃ (s : State) (n : _) (g : Group), up s = true ∧ groupOf s n = some g ∧ g.state = 1 ∧ g.atI ≤ s.ts.mts + 1000 * ms48 ∧ s.ts.mts + 2
      * ms48 ≤ g.atI) ∧
    (∃ (s : State), up s = true ∧ (dueGroups s = [] ∨ (boundaryDue s = false ∧ atBoundary s = false))) ∧
    (∃ (s : State), up s = true ∧ (boundaryDue s = true ∨ atBoundary s = true) ∧ dueGroups s ≠ []) :=
  ⟨⟨{ wOwn [] with groups := List.replicate 8 { id := 3 } }, wReq [], _, by decide +kernel, someGet (by decide +kernel),
     by decide +kernel⟩,
   ⟨{ wOwn [] with groups := List.replicate 7 { id := 3 } }, wReq [], _, by decide +kernel, someGet (by decide +kernel),
     by decide +kernel⟩,
   ⟨wGroups 0, { wReq [15] with group := 3 }, Obj.REF_PRIORITY 0 / 256, Obj.REF_PRIORITY 0 % 256, _, _, by decide +kernel, someGet
     (by decide +kernel), by decide +kernel, someGet (by decide +kernel), by decide +kernel⟩,
   ⟨wOwn [], { wReq [15] with group := 3 }, Obj.REF_PRIORITY 0 / 256, Obj.REF_PRIORITY 0 % 256, _, by decide +kernel, someGet
     (by decide +kernel), by decide +kernel⟩,
   ⟨wGroups 0, { wReq (List.replicate 12 0) with group := 3 }, _, 0, _, _, by decide +kernel, someGet (by decide +kernel),
     by decide +kernel, by decide +kernel, by decide +kernel, someGet (by decide +kernel), inrGet (by decide +kernel), by decide +kernel⟩,
   ⟨wGroups 1, { wReq [] with group := 3 }, _, _, by decide +kernel, someGet (by decide +kernel), by decide +kernel, someGet
     (by decide +kernel), by decide +kernel⟩,
   ⟨wGroups 2, { wReq [] with group := 3 }, _, _, by decide +kernel, someGet (by decide +kernel), by decide +kernel, someGet
     (by decide +kernel), by decide +kernel⟩,
   ⟨wGroups 1, 3, wGroup 1, by decide +kernel⟩,
   ⟨wRun [], by decide +kernel⟩,
   ⟨{ wRun [] with groups := [{ id := 3, state := 2 }] }, by decide +kernel⟩⟩

/-- The hypotheses of every clause of GroupAllOrNone are met. -/
theorem witness_GroupAllOrNone :
    (∃ (g : Group) (k : _), g.state ≠ 2 ∧ k ≠ Obj.GROUP_LATE ∧ k ≠ Obj.NOTIFY_DROP) ∧
    (∃ (s : State) (g : Group) (k : _), g.state = 2 ∧ (groupRun g (dropGroup g.id s)).status ≠ stOk ∧ k ≠ Obj.NOTIFY_DROP) ∧
    (∃ (g : Group), g.state ≠ 2) ∧
    (∃ (s : State) (g : Group) (h : Group), g.state ≠ 2 ∧ h ∈ (applyGroup s g).groups) :=
  ⟨⟨wGroup 1, Obj.LC_STATE, by decide +kernel⟩,
   ⟨wRun [], { wGroup 2 with writes := [{ key := Obj.LEAP_PENDING, val := .num 1 }] }, Obj.LC_STATE, by decide +kernel⟩,
   ⟨wGroup 1, by decide +kernel⟩,
   ⟨{ wRun [] with groups := [wGroup 1, { id := 4 }] }, wGroup 1, { id := 4 }, by decide +kernel⟩⟩

/-- The hypotheses of every clause of Enrolment are met. -/
theorem witness_Enrolment :
    (∃ (s : State) (h : FrameHdr) (s1 : State), up s = true ∧ frameIn h s = (true, s1) ∧ h.iface = 2) ∧
    (∃ (s : State) (h : FrameHdr) (s1 : State), up s = true ∧ frameIn h s = (true, s1) ∧ getN s1 Obj.LC_STATE ≠ 1) ∧
    (∃ (s : State) (h : FrameHdr) (s1 : State), up s = true ∧ frameIn h s = (true, s1) ∧ (h.iface = 1 ∨ h.iface = 3) ∧ getN s1
      Obj.LC_STATE = 1 ∧ s1.keys.slots.any (fun k => ownerCapable s1 k.id) = false ∧ s1.enrol = none ∧ drbgDown s1 = false ∧ (useKey 0
      useIdentity s1).1 = true) ∧
    (∃ (s : State) (h : FrameHdr) (s1 : State), up s = true ∧ frameIn h s = (true, s1) ∧ s1.enrol = none) ∧
    (∃ (s : State) (h : FrameHdr) (value : _) (ok : _) (s1 : State) (e : Enrolment), up s = true ∧ frameIn h s = (true, s1) ∧ s1.enrol =
      some e ∧ e.iface = h.iface ∧ (h.iface ≠ 3 → e.peer = h.peer) ∧ s1.now ≤ e.began + 10 * sT ∧ enrolStatus s1 value ok ≠ stOk) ∧
    (∃ (s : State) (h : FrameHdr) (value : _) (ok : _) (s1 : State) (e : Enrolment), up s = true ∧ frameIn h s = (true, s1) ∧ s1.enrol =
      some e ∧ e.iface = h.iface ∧ (h.iface ≠ 3 → e.peer = h.peer) ∧ s1.now ≤ e.began + 10 * sT ∧ enrolStatus s1 value ok = stOk) ∧
    (∃ (s : State) (e : Enrolment), up s = true ∧ s.enrol = some e ∧ e.began + 10 * sT ≤ s.now) ∧
    (∃ (s : State), up s = true ∧ s.enrol = none) :=
  ⟨⟨{ wRun [(Obj.SVC_ENABLE 0, 1), (Obj.SVC_PORTS 0, 1), (Obj.SVC_VLAN 0, 5), (Obj.TRANSOM_VLAN, 5)] with blobs := [(Obj.SVC_ADDR 0, List.replicate 12 0 ++ [10, 0, 0, 1])] },
     { iface := 2, port := 0, vlan := 5, seq := 1, own := List.replicate 12 0 ++ [10, 0, 0, 1] }, _, by decide +kernel, pairTrue
     (by decide +kernel), by decide +kernel⟩,
   ⟨wRun [(Obj.LC_STATE, 2)], wHdr, _, by decide +kernel, pairTrue (by decide +kernel), by decide +kernel⟩,
   ⟨{ wRun [(Obj.LC_STATE, 1)] with keys := { slots := [{ wKey with id := 0 }] } }, wHdr, _, by decide +kernel, pairTrue
     (by decide +kernel), by decide +kernel⟩,
   ⟨wRun [], wHdr, _, by decide +kernel, pairTrue (by decide +kernel), by decide +kernel⟩,
   ⟨{ wRun [] with enrol := some wEnrol }, wHdr, [], true, _, wEnrol, by decide +kernel, pairTrue (by decide +kernel), by decide +kernel⟩,
   ⟨{ wRun [] with enrol := some wEnrol }, wHdr, [16, 6, 0, 1, 1, 0, 0, 32] ++ List.replicate 32 0, true, _, wEnrol, by decide +kernel,
     pairTrue (by decide +kernel), by decide +kernel⟩,
   ⟨{ wRun [] with enrol := some { wEnrol with began := 998000000000 } }, { wEnrol with began := 998000000000 }, by decide +kernel⟩,
   ⟨wRun [], by decide +kernel⟩⟩

/-- The hypotheses of every clause of Reads are met. -/
theorem witness_Reads :
    (∃ (s : State) (q : Req) (i : _) (j : _) (s1 : State) (u : State) (v : _), up s = true ∧ (acceptFrame q.hdr q.sess s).1 = some s1 ∧
      q.ordered = false ∧ tests1to9 q .read i j (acceptRequest q.sess s1) = stOk ∧ (objKind i j).typ ≠ .dom ∧ (objKind i j).mirrored =
      false ∧ i * 256 + j ≠ Obj.JOURNAL_ENTRIES ∧ i * 256 + j ≠ Obj.JOURNAL_KEY ∧ i * 256 + j ≠ Obj.LC_CHALLENGE ∧ q.offset = 0 ∧ u =
      agentCount (acceptRequest q.sess s1) ∧ v = (if stampedRead (i * 256 + j) then handOnBy 0 u else u)) ∧
    (∃ (s : State) (q : Req) (i : _) (j : _) (s1 : State), up s = true ∧ (acceptFrame q.hdr q.sess s).1 = some s1 ∧ q.ordered = false ∧
      tests1to9 q .read i j (acceptRequest q.sess s1) ≠ stOk ∧ (objKind i j).mirrored = false) ∧
    (∃ (s : State) (q : Req) (i : _) (j : _) (v : _) (s2 : State), up s = true ∧ i * 256 + j ≠ Obj.UPD_STAGE_TRANSOM ∧ (ruleOf (i * 256 +
      j)).defer = none ∧ acceptedWrite q (i * 256 + j) (ruleOf (i * 256 + j)) s = some (v, s2)) ∧
    (∃ (s : State) (q : Req) (s1 : State), up s = true ∧ (acceptFrame q.hdr q.sess s).1 = some s1 ∧ q.ordered = false ∧ tests1to9 q .read
      (Obj.JOURNAL_ENTRIES / 256) (Obj.JOURNAL_ENTRIES % 256) (acceptRequest q.sess s1) = stOk) ∧
    (∃ (s : State) (q : Req) (s1 : State), up s = true ∧ (acceptFrame q.hdr q.sess s).1 = some s1 ∧ q.ordered = false ∧ tests1to9 q .read
      (Obj.JOURNAL_KEY / 256) (Obj.JOURNAL_KEY % 256) (acceptRequest q.sess s1) = stOk) ∧
    (∃ (s : State), up s = true) ∧
    (∃ (s : State) (e : Nat), s.journal.disclosed ≤ e) ∧
    (∃ (s : State) (e : Nat), e < s.journal.disclosed) ∧
    (∃ (s : State), up s = true ∧ milestone s 6 = true ∧ s.journal.openedAt + getNat s Obj.JOURNAL_EPOCH_PERIOD * sT ≤ s.now) ∧
    (∃ (s : State), up s = true ∧ s.now < s.journal.openedAt + getNat s Obj.JOURNAL_EPOCH_PERIOD * sT) ∧
    (∃ (s : State), up s = true ∧ milestone s 6 = true ∧ s.journal.lastTailCopy + 10 * sT ≤ s.now) :=
  ⟨⟨wCap [] 1, wReq [], Obj.STEP_OFFSET / 256, Obj.STEP_OFFSET % 256, _, _, _, by decide +kernel, someGet (by decide +kernel),
     by decide +kernel, by decide +kernel, by decide +kernel, by decide +kernel, Nat.ne_of_lt (by decide +kernel), by decide +kernel,
     by decide +kernel, by decide +kernel, rfl, rfl⟩,
   ⟨wSess [], wReq [], Obj.STEP_APPLY / 256, Obj.STEP_APPLY % 256, _, by decide +kernel, someGet (by decide +kernel), by decide +kernel⟩,
   ⟨wOwn [], wReq [15], Obj.REF_PRIORITY 0 / 256, Obj.REF_PRIORITY 0 % 256, _, _, by decide +kernel, by decide +kernel,
     by decide +kernel, someGet2 (by decide +kernel)⟩,
   ⟨wCap [] 1, wReq [], _, by decide +kernel, someGet (by decide +kernel), by decide +kernel⟩,
   ⟨wCap [] 1, wReq [], _, by decide +kernel, someGet (by decide +kernel), by decide +kernel⟩,
   ⟨wRun [], by decide +kernel⟩,
   ⟨wRun [], 0, by decide +kernel⟩,
   ⟨{ wRun [] with journal := { disclosed := 1 } }, 0, by decide +kernel⟩,
   ⟨{ wRun [(Obj.START_MILESTONE, 6)] with journal := { openedAt := 880000000000 } }, by decide +kernel⟩,
   ⟨{ wRun [] with journal := { openedAt := 880000000001 } }, by decide +kernel⟩,
   ⟨{ wRun [(Obj.START_MILESTONE, 6)] with journal := { lastTailCopy := 998000000000 } }, by decide +kernel⟩⟩

/-- The hypotheses of every clause of JournalAppend are met. -/
theorem witness_JournalAppend :
    (∃ (r : JReq), r.mirror = none ∧ r.time = none) ∧
    (∃ (s : State) (r : JReq) (x : JEntry), r.mirror = none ∧ r.time = none ∧ x ∈ (journal r s).journal.ring) :=
  ⟨⟨{ kind := 2 }, by decide +kernel⟩,
   ⟨wRun [], { kind := 2 }, _, by decide +kernel, by decide +kernel, List.head_mem (by decide +kernel)⟩⟩

/-- The hypotheses of every clause of KeptRecords are met. -/
theorem witness_KeptRecords :
    (∃ (s : State), up s = true ∧ (mtsSec s % max (getNat s Obj.STAT_PERIOD) 1 ≠ 0 ∨ wasTaken (mtsSec s) s.statsDone = true)) ∧
    (∃ (s : State), up s = true ∧ mtsSec s % max (getNat s Obj.STAT_PERIOD) 1 = 0 ∧ s.ts.mts % sec48 < us48 ∧ wasTaken (mtsSec s)
      s.statsDone = false) ∧
    (∃ (s : State), up s = true ∧ (milestone s 6 = false ∨ configDue s = false)) ∧
    (∃ (s : State), up s = true ∧ milestone s 6 = true ∧ configDue s = true) :=
  ⟨⟨wRun [(Obj.STAT_PERIOD, 7)], by decide +kernel⟩,
   ⟨wRun [], by decide +kernel⟩,
   ⟨wRun [], by decide +kernel⟩,
   ⟨wRun [(Obj.START_MILESTONE, 6)], by decide +kernel⟩⟩

/-- The hypotheses of every clause of MemoryEvents are met. -/
theorem witness_MemoryEvents :
    (∃ (s : State), up s = true ∧ getN s Obj.DRAM_STATE = 0 ∧ milestone s 2 = true ∧ milestone s 5 = false) ∧
    (∃ (s : State), up s = true ∧ s.mem.filled = false ∧ getN s Obj.DRAM_STATE = 1) ∧
    (∃ (s : State), up s = true ∧ getN s Obj.START_MILESTONE = 4 ∧ s.mem.filled = true) ∧
    (∃ (s : State) (a : BusAccess), up s = true ∧ accessOk s a = true) ∧
    (∃ (s : State) (a : BusAccess), up s = true ∧ isMaster a.master = true ∧ accessOk s a = false) ∧
    (∃ (s : State) (a : BusAccess) (n : Fin 4) (o : _), up s = true ∧ n.val ≠ 0 ∧ targetOf s a.address = some (.dram o)) ∧
    (∃ (s : State) (a : BusAccess) (r : _), up s = true ∧ a.access = 2 ∧ a.master < 0x10 ∧ regionOf s a.address = some r ∧ r ≠ 9 ∧
      isPoisoned s a.address = true) ∧
    (∃ (s : State) (a : BusAccess) (r : _), up s = true ∧ a.access = 2 ∧ a.master < 0x10 ∧ regionOf s a.address = some r ∧ isPoisoned s
      a.address = false) ∧
    (∃ (s : State) (m : Fin 4), up s = true ∧ s.mem.filled = true ∧ (s.mem.scrub.getD m { id := m }).last + scrubGap s m ≤ s.now ∧
      (s.mem.scrub.getD m { id := m }).line + 1 < scrubLines s m) ∧
    (∃ (s : State) (m : Fin 4), up s = true ∧ (s.mem.filled = false ∨ s.now < (s.mem.scrub.getD m { id := m }).last + scrubGap s m)) ∧
    (∃ (s : State) (c : Fin 2), up s = true ∧ s.mem.filled = true ∧ (s.mem.scrub.getD c { id := c }).last + scrubGap s c + getNat s
      Obj.SCRUB_STARVE * usT ≤ s.now) ∧
    (∃ (s : State) (e : Nat) (c : RemapCopy), up s = true ∧ s.mem.copies.find? (fun x => x.entry = e) = some c ∧ c.back = true) ∧
    (∃ (s : State) (e : Nat) (c : RemapCopy), up s = true ∧ s.mem.copies.find? (fun x => x.entry = e) = some c ∧ c.back = false) ∧
    (∃ (s : State) (d : Fin 8) (f : DmaSetup), up s = true ∧ milestone s 6 = true ∧ s.mem.dmas.length = 8 ∧ (getN s (Obj.DMA_STATE d) = 0
      ∨ getN s (Obj.DMA_STATE d) = 3) ∧ (∀ e, e ≠ d.val → dmaActive s e = false) ∧ f.stores = []) ∧
    (∃ (s : State) (d : Fin 8), up s = true ∧ milestone s 6 = true ∧ s.mem.dmas.length = 8 ∧ (getN s (Obj.DMA_STATE d) = 0 ∨ getN s
      (Obj.DMA_STATE d) = 3)) ∧
    (∃ (s : State) (d : Fin 8) (x : DmaXfer), up s = true ∧ milestone s 6 = true ∧ s.mem.dmas.length = 8 ∧ x.fill = false ∧ translate
      (dma s d).windows (x.src + x.done) (min 128 (x.len - x.done)) false = none) ∧
    (∃ (s : State), up s = true ∧ milestone s 6 = true ∧ s.mem.dmas.length = 8) ∧
    (∃ (s : State), up s = true ∧ milestone s 6 = true ∧ s.mem.dmas.length = 8 ∧ Memory.wf s.mem.cells = true) :=
  ⟨⟨wRun [(Obj.START_MILESTONE, 2)], by decide +kernel⟩,
   ⟨wRun [(Obj.DRAM_STATE, 1)], by decide +kernel⟩,
   ⟨{ wRun [(Obj.START_MILESTONE, 4)] with mem := { filled := true } }, by decide +kernel⟩,
   ⟨wRun [], { master := 0, address := 0x10000000, access := 1 }, by decide +kernel⟩,
   ⟨wRun [], { master := 0, address := 0x90000000, access := 1 }, by decide +kernel⟩,
   ⟨wRun [], { master := 0, address := 0x1000000000, access := 1 }, 3, 0, by decide +kernel⟩,
   ⟨{ wRun [] with mem := { poisoned := [0] } }, { master := 15, address := 0x1000003F, access := 2 }, 8, by decide +kernel⟩,
   ⟨wRun [], { master := 15, address := 0x10000000, access := 2 }, 8, by decide +kernel⟩,
   ⟨{ wRun [] with mem := { filled := true } }, 0, by decide +kernel⟩,
   ⟨wRun [], 0, by decide +kernel⟩,
   ⟨{ wRun [] with mem := { filled := true } }, 0, by decide +kernel⟩,
   ⟨{ wRun [] with mem := { copies := [{ entry := 5, cause := 1, address := 0, back := true }] } }, 5,
     { entry := 5, cause := 1, address := 0, back := true }, by decide +kernel⟩,
   ⟨{ wRun [] with mem := { copies := [{ entry := 5, cause := 1, address := 0 }] } }, 5, { entry := 5, cause := 1, address := 0 },
     by decide +kernel⟩,
   ⟨wRun [(Obj.START_MILESTONE, 6)], 0, { windows := [], stores := [], first := 0 }, by decide +kernel, by decide +kernel,
     by decide +kernel, by decide +kernel, fun e _ => wDma e, by decide +kernel⟩,
   ⟨wRun [(Obj.START_MILESTONE, 6), (Obj.DMA_STATE 7, 3)], 7, by decide +kernel⟩,
   ⟨wRun [(Obj.START_MILESTONE, 6)], 0,
     { at_ := 0, last := true, notify := false, fill := false, len := 1, src := 0, dst := 0, next := 0 }, by decide +kernel⟩,
   ⟨wRun [(Obj.START_MILESTONE, 6)], by decide +kernel⟩,
   ⟨wRun [(Obj.START_MILESTONE, 6)], by decide +kernel⟩⟩

/-- The hypotheses of every clause of CoreEvents are met. -/
theorem witness_CoreEvents :
    (∃ (s : State), up s = true ∧ (s.now < s.cores.frameAt + msT ∨ milestone s 6 = false)) ∧
    (∃ (s : State), up s = true ∧ s.cores.frameAt + msT ≤ s.now ∧ milestone s 6 = true) ∧
    (∃ (s : State) (n : Fin 4), up s = true ∧ milestone s 6 = true ∧ getN s (Obj.CORE_STATE n) = 0) ∧
    (∃ (s : State), up s = true ∧ milestone s 6 = true ∧ getN s (Obj.CORE_STATE 4) = 0) ∧
    (∃ (s : State) (n : Fin 5), up s = true ∧ getN s (Obj.CORE_STATE n) ≠ 2) ∧
    (∃ (s : State) (n : Fin 5) (m : Fin 5), up s = true ∧ n ≠ m ∧ getN s (Obj.CORE_STATE n) = 2 ∧ getN s (Obj.CORE_STATE m) = 2) ∧
    (∃ (s : State) (x : SampleIn), up s = true ∧ x.core < 5 ∧ (getNat s Obj.SAMPLE_ENABLE).testBit x.core = true ∧ getN s (Obj.CORE_STATE
      x.core) = 0 ∧ 8 ≤ s.cores.awaiting.length) ∧
    (∃ (s : State) (x : SampleIn), up s = true ∧ x.core < 5 ∧ (getNat s Obj.SAMPLE_ENABLE).testBit x.core = true ∧ getN s (Obj.CORE_STATE
      x.core) = 0 ∧ s.cores.awaiting.length < 8) :=
  ⟨⟨wRun [], by decide +kernel⟩,
   ⟨{ wRun [(Obj.START_MILESTONE, 6)] with cores := { frameAt := 999999800000 } }, by decide +kernel⟩,
   ⟨wRun [(Obj.START_MILESTONE, 6)], 0, by decide +kernel⟩,
   ⟨wRun [(Obj.START_MILESTONE, 6)], by decide +kernel⟩,
   ⟨wRun [], 0, by decide +kernel⟩,
   ⟨wRun [(Obj.CORE_STATE 0, 2), (Obj.CORE_STATE 4, 2)], 0, 4, by decide +kernel⟩,
   ⟨{ wRun [(Obj.SAMPLE_ENABLE, 16)] with cores := { awaiting := List.replicate 8 (0, []) } }, wSample, by decide +kernel⟩,
   ⟨{ wRun [(Obj.SAMPLE_ENABLE, 16)] with cores := { awaiting := List.replicate 7 (0, []) } }, wSample, by decide +kernel⟩⟩

/-- The hypotheses of every clause of FrameBudget are met. -/
theorem witness_FrameBudget :
    (∃ (s : State) (work : _) (parked : _) (t : _) (g : Nat), (t, g) ∈ frameTime s work parked) :=
  ⟨wRun [], [(3, 500)], false, 3, 500, by decide +kernel⟩

/-- The hypotheses of every clause of FaultEvents are met. -/
theorem witness_FaultEvents :
    (∃ (s : State) (src : Nat), up s = true ∧ srcInfo s.variant src = none) ∧
    (∃ (s : State) (src : Nat) (base : _) (si : _), up s = true ∧ srcInfo s.variant src = some si ∧ si.present = true ∧ (raisedAs
      s.variant src).contains base = true ∧ milestone s 2 = true ∧ base ≠ 0 ∧ src ≠ 0x0800) ∧
    (∃ (s : State), up s = true ∧ milestone s 2 = true ∧ s.ts.mts < mts48Mod) ∧
    (∃ (s : State) (src : Nat), up s = true ∧ (faultOf s src).level ≠ 0 ∧ (faultOf s src).decayFrom + (faultNW s src).2 * sT ≤ s.now) ∧
    (∃ (s : State) (src : Nat), up s = true ∧ (faultOf s src).level = 0) ∧
    (∃ (s : State) (src : Nat) (w : Window), up s = true ∧ (faultOf s src).window = some w ∧ w.openedAt + w.w * sT ≤ s.now) ∧
    (∃ (s : State) (u : Nat), up s = true ∧ restarting s u = false) ∧
    (∃ (s : State) (u : Nat), up s = true ∧ restarting s u = true ∧ u / 256 = 0x24) ∧
    (∃ (s : State), up s = true ∧ milestone s 2 = true) :=
  ⟨⟨wRun [], 0x0700, by decide +kernel⟩,
   ⟨wRun [(Obj.START_MILESTONE, 2)], 0x1400, 1, _, by decide +kernel, someGet (by decide +kernel), by decide +kernel⟩,
   ⟨wRun [(Obj.START_MILESTONE, 2)], by decide +kernel⟩,
   ⟨{ wRun [] with faults := [{ code := 0x1400, level := 1 }] }, 0x1400, by decide +kernel⟩,
   ⟨wRun [], 0x1400, by decide +kernel⟩,
   ⟨{ wRun [] with faults := [{ code := 0x1400, window := some { count := 1, openedAt := 0, n := 3, w := 600 } }] }, 0x1400,
     { count := 1, openedAt := 0, n := 3, w := 600 }, by decide +kernel⟩,
   ⟨wRun [], 0x1400, by decide +kernel⟩,
   ⟨{ wRun [] with restarts := [{ source := 0x2407, unit := 0x2407, began := 0, base := 1 }] }, 0x2407, by decide +kernel⟩,
   ⟨wRun [(Obj.START_MILESTONE, 2)], by decide +kernel⟩⟩

/-- The hypotheses of every clause of RaiseRules are met. -/
theorem witness_RaiseRules :
    (∃ (s : State) (code : _) (si : _), up s = true ∧ srcInfo s.variant code = some si ∧ si.present = true) ∧
    (∃ (s : State) (code : _) (si : _), up s = true ∧ srcInfo s.variant code = some si ∧ si.present = true ∧ si.stickyOnly = false ∧
      (faultOf s code).sticky = false ∧ (faultOf s code).level = 0 ∧ openWindow s (faultOf s code) = none ∧ 1 ≤ (faultNW s code).1 ∧ 1 ≤
      si.cap.getD 1) ∧
    (∃ (s : State) (code : _) (si : _) (w : Window) (c : _), up s = true ∧ srcInfo s.variant code = some si ∧ si.present = true ∧
      si.stickyOnly = false ∧ (faultOf s code).level = 0 ∧ openWindow s (faultOf s code) = some w ∧ w.n < w.count + 1 ∧ si.cap = some c ∧
      1 ≤ c ∧ c ≤ 3) :=
  ⟨⟨wRun [], 0x1400, _, by decide +kernel, someGet (by decide +kernel), by decide +kernel⟩,
   ⟨wRun [], 0x1400, _, by decide +kernel, someGet (by decide +kernel), by decide +kernel⟩,
   ⟨{ wRun [] with faults := [{ code := 0x1400, window := some { count := 3, openedAt := 900000000000, n := 3, w := 600 } }] }, 0x1400,
     _, { count := 3, openedAt := 900000000000, n := 3, w := 600 }, 2, by decide +kernel, someGet (by decide +kernel), by decide +kernel⟩⟩

/-- The hypotheses of every clause of HingeEvents are met. -/
theorem witness_HingeEvents :
    (∃ (s : State), up s = true ∧ s.hinge.lane = false) ∧
    (∃ (s : State), up s = true ∧ s.hinge.lane = true) ∧
    (∃ (s : State), up s = true ∧ s.hinge.lane = true ∧ s.keys.bond = none) ∧
    (∃ (s : State), up s = true ∧ s.hinge.lane = true ∧ (useKey 2 usePairing s).1 = true ∧ getN s Obj.PAIR_ENABLE = 1) ∧
    (∃ (s : State), up s = true ∧ hingeRuns s = true ∧ outputsAbsent s = false ∧ s.hinge.beatTick + 10 * usT ≤ s.now) ∧
    (∃ (s : State), up s = true ∧ (hingeRuns s = false ∨ outputsAbsent s = true)) ∧
    (∃ (s : State) (t : _), up s = true ∧ hingeRuns s = true ∧ hingeUp s = false ∧ s.hinge.validFrom = some t ∧ t + msT ≤ s.now ∧ s.now <
      s.hinge.lastValid + 100 * usT) ∧
    (∃ (s : State), up s = true ∧ isStandby s = true ∧ hingeRuns s = true ∧ s.hinge.exchTick + 125 * usT ≤ s.now) ∧
    (∃ (s : State), up s = true ∧ isStandby s = false) ∧
    (∃ (s : State), up s = true ∧ isStandby s = true ∧ hingeUp s = true ∧ 8 ≤ s.hinge.exch.length ∧ s.hinge.measTick + msT ≤ s.now ∧
      boundFinite s.hinge.activeBound = false) ∧
    (∃ (s : State), up s = true ∧ isStandby s = true ∧ hingeUp s = true ∧ 8 ≤ s.hinge.exch.length ∧ s.hinge.measTick + msT ≤ s.now ∧
      boundFinite s.hinge.activeBound = true ∧
      let q := divFree s.hinge.exch.sum 16 s;
      let u := setN Obj.HINGE_OFFSET q.1 (setHinge (fun h => { h with measTick := s.now }) (updateBound q.2));
      let uM := boundM s.hinge.activeBound + 60 + (getF u Obj.HINGE_ASYM_UNC).toNat;
      let uP := boundP s.hinge.activeBound + 60 + (getF u Obj.HINGE_ASYM_UNC).toNat;
      let m : Meas := { ref := 0xFD, x := q.1, uM := some uM, uP := some uP, atI := s.ts.mts, mark := markNow u };
      testMeas u m = none) ∧
    (∃ (s : State), up s = true ∧ s.hinge.copying = true ∧ isStandby s = true ∧ hingeUp s = true) ∧
    (∃ (s : State) (p : Fin 16), up s = true ∧ isStandby s = true ∧ p < nPorts s.variant ∧ getN s (Obj.PORT_MODE p) = 0 ∧
      s.hinge.prbsTick.getD p 0 = 0) ∧
    (∃ (s : State), up s = true ∧ isStandby s = true ∧ s.hinge.katTick = 0) ∧
    (∃ (s : State), up s = true ∧ getN s Obj.PAIR_ROLE = 2 ∧ hingeUp s = true ∧ hingeRuns s = true ∧ s.hinge.sentKeys = none) ∧
    (∃ (s : State), up s = true ∧ getN s Obj.PAIR_ROLE ≠ 2) :=
  ⟨⟨wRun [], by decide +kernel⟩,
   ⟨{ wRun [] with hinge := { lane := true } }, by decide +kernel⟩,
   ⟨{ wRun [] with hinge := { lane := true } }, by decide +kernel⟩,
   ⟨{ wRun [(Obj.PAIR_ENABLE, 1), (Obj.LC_STATE, 1)] with hinge := { lane := true }, keys := { slots := [{ wKey with id := 2 }] } },
     by decide +kernel⟩,
   ⟨wHinge { beatTick := 999999998000 } [(Obj.START_MILESTONE, 7)], by decide +kernel⟩,
   ⟨wRun [], by decide +kernel⟩,
   ⟨wHinge { validFrom := some 999999800000, lastValid := 1000000000000 } [], 999999800000, by decide +kernel⟩,
   ⟨wHinge { exchTick := 999999975000 } [(Obj.PAIR_ROLE, 1)], by decide +kernel⟩,
   ⟨wRun [], by decide +kernel⟩,
   ⟨wHinge { exch := List.replicate 8 0, measTick := 999999800000 } [(Obj.PAIR_ROLE, 1), (Obj.HINGE_STATE, 1)], by decide +kernel⟩,
   ⟨wHinge { exch := List.replicate 8 0, measTick := 999999800000, activeBound := bound80 1 1 } [(Obj.PAIR_ROLE, 1), (Obj.HINGE_STATE,
     1)], by decide +kernel⟩,
   ⟨wHinge { copying := true } [(Obj.PAIR_ROLE, 1), (Obj.HINGE_STATE, 1)], by decide +kernel⟩,
   ⟨wRun [(Obj.PAIR_ROLE, 1)], 15, by decide +kernel⟩,
   ⟨wRun [(Obj.PAIR_ROLE, 1)], by decide +kernel⟩,
   ⟨wHinge {} [(Obj.PAIR_ROLE, 2), (Obj.HINGE_STATE, 1)], by decide +kernel⟩,
   ⟨wRun [], by decide +kernel⟩⟩

/-- The hypotheses of every clause of PairRoles are met. -/
theorem witness_PairRoles :
    (∃ (s : State), getN s Obj.PAIR_ENABLE = 0) ∧
    (∃ (s : State) (level : _), up s = true ∧ getN s Obj.PAIR_ENABLE = 1 ∧ s.hinge.activeIn ≠ level ∧ s.hinge.handover = none) ∧
    (∃ (s : State), up s = true ∧ getN s Obj.PAIR_ENABLE = 1) ∧
    (∃ (s : State), up s = true ∧ (s.hinge.started = true ∨ milestone s 9 = false)) ∧
    (∃ (s : State), up s = true ∧ s.hinge.started = false ∧ milestone s 9 = true ∧ s.hinge.settled + sT ≤ s.now) ∧
    (∃ (s : State), up s = true ∧ isStandby s = false) ∧
    (∃ (s : State), up s = true ∧ isStandby s = true ∧ hingeUp s = true ∧ getN s Obj.PAIR_HOME = 1 ∧ getN s Obj.PAIR_REVERTIVE = 1 ∧ getN
      s Obj.PAIR_WTR_LEFT = 0 ∧ fit s = true ∧ ready s = true ∧ s.hinge.peerHome = false ∧ s.hinge.handover = none) ∧
    (∃ (s : State), up s = true ∧ (s.hinge.handover = none ∨ atBoundary s = false)) ∧
    (∃ (s : State) (x : Handover), up s = true ∧ s.hinge.handover = some x ∧ x.accepted = true ∧ x.acted = none ∧ x.sec * sec48 ≤
      s.ts.mts ∧ x.mine = false ∧ atBoundary s = true ∧ getN s Obj.PAIR_ROLE = 2) ∧
    (∃ (s : State) (x : Handover), up s = true ∧ s.hinge.handover = some x ∧ x.accepted = true ∧ x.acted = none ∧ x.sec * sec48 ≤
      s.ts.mts ∧ x.mine = true ∧ atBoundary s = true ∧ isStandby s = true ∧ fit s = true) ∧
    (∃ (s : State) (x : Handover) (t : _), up s = true ∧ s.hinge.handover = some x ∧ x.acted = some t ∧ s.now < t + getNat s
      Obj.PAIR_ARB_TIME * usT) ∧
    (∃ (s : State) (x : Handover) (t : _), up s = true ∧ s.hinge.handover = some x ∧ x.acted = some t ∧ t + getNat s Obj.PAIR_ARB_TIME *
      usT ≤ s.now ∧ x.mine = false ∧ getN s Obj.PAIR_ROLE = 3) ∧
    (∃ (s : State) (x : Handover) (t : _), up s = true ∧ s.hinge.handover = some x ∧ x.acted = some t ∧ t + getNat s Obj.PAIR_ARB_TIME *
      usT ≤ s.now ∧ x.mine = true ∧ s.hinge.activeIn = true) ∧
    (∃ (s : State), up s = true ∧ getN s Obj.PAIR_ENABLE = 1 ∧ hingeUp s = true ∧ s.hinge.peerHome = decide (getN s Obj.PAIR_HOME = 1) ∧
      s.hinge.conflictTick = none) ∧
    (∃ (s : State), up s = true ∧ getN s Obj.PAIR_ENABLE = 1 ∧ hingeUp s = true ∧ s.hinge.peerHome ≠ decide (getN s Obj.PAIR_HOME = 1)) :=
  ⟨⟨wRun [], by decide +kernel⟩,
   ⟨wRun [(Obj.PAIR_ENABLE, 1)], true, by decide +kernel⟩,
   ⟨wRun [(Obj.PAIR_ENABLE, 1)], by decide +kernel⟩,
   ⟨wRun [], by decide +kernel⟩,
   ⟨wRun [(Obj.START_MILESTONE, 9)], by decide +kernel⟩,
   ⟨wRun [], by decide +kernel⟩,
   ⟨wHinge { locked := true, sessionsSynced := true, peerKeys := some (0, 0) } (wFit ++ [(Obj.PAIR_ROLE, 1), (Obj.HINGE_STATE, 1),
     (Obj.PAIR_HOME, 1), (Obj.NTS_EPOCH, 0), (Obj.NTS_NEXT_ROTATE, 0)]), by decide +kernel⟩,
   ⟨wRun [], by decide +kernel⟩,
   ⟨wHinge { handover := some { mine := false, sec := 1000000, accepted := true } } [(Obj.PAIR_ROLE, 2)],
     { mine := false, sec := 1000000, accepted := true }, by decide +kernel⟩,
   ⟨wHinge { handover := some { mine := true, sec := 1000000, accepted := true } } (wFit ++ [(Obj.PAIR_ROLE, 1)]),
     { mine := true, sec := 1000000, accepted := true }, by decide +kernel⟩,
   ⟨wHinge { handover := some { mine := true, sec := 0, acted := some 1000000000000 } } [],
     { mine := true, sec := 0, acted := some 1000000000000 }, 1000000000000, by decide +kernel⟩,
   ⟨wHinge { handover := some { mine := false, sec := 0, acted := some 0 } } [(Obj.PAIR_ROLE, 3)],
     { mine := false, sec := 0, acted := some 0 }, 0, by decide +kernel⟩,
   ⟨wHinge { handover := some { mine := true, sec := 0, acted := some 0 }, activeIn := true } [],
     { mine := true, sec := 0, acted := some 0 }, 0, by decide +kernel⟩,
   ⟨wHinge {} [(Obj.HINGE_STATE, 1)], by decide +kernel⟩,
   ⟨wHinge {} [(Obj.HINGE_STATE, 1), (Obj.PAIR_HOME, 1)], by decide +kernel⟩⟩

/-- The hypotheses of every clause of RoleDecision are met. -/
theorem witness_RoleDecision :
    (∃ (s : State), getN s Obj.PAIR_ENABLE = 1 ∧ s.hinge.started = true ∧ s.hinge.activeIn = false ∧ getN s Obj.PAIR_ROLE = 1) ∧
    (∃ (s : State), getN s Obj.PAIR_ENABLE = 1 ∧ s.hinge.started = true ∧ s.hinge.activeIn = false ∧ getN s Obj.PAIR_ROLE = 2 ∧
      ignoresLow s = false) ∧
    (∃ (s : State), getN s Obj.PAIR_ENABLE = 1 ∧ s.hinge.started = true ∧ s.hinge.activeIn = false ∧ getN s Obj.PAIR_ROLE = 2 ∧
      ignoresLow s = true) ∧
    (∃ (s : State), getN s Obj.PAIR_ENABLE = 1 ∧ s.hinge.started = true ∧ s.hinge.activeIn = true ∧ getN s Obj.PAIR_ROLE = 1 ∧ fit s =
      false) ∧
    (∃ (s : State), getN s Obj.PAIR_ENABLE = 1 ∧ s.hinge.started = true ∧ s.hinge.activeIn = true ∧ getN s Obj.PAIR_ROLE = 1 ∧ fit s =
      true ∧ (hingeUp s = false ∨ peerRole s ≠ 2)) :=
  ⟨⟨wHinge { started := true } [(Obj.PAIR_ROLE, 1)], by decide +kernel⟩,
   ⟨wHinge { started := true } [(Obj.PAIR_ROLE, 2)], by decide +kernel⟩,
   ⟨wHinge { started := true, ignoreLow := some 1000000000001 } [(Obj.PAIR_ROLE, 2)], by decide +kernel⟩,
   ⟨wHinge { started := true, activeIn := true } [(Obj.PAIR_ROLE, 1)], by decide +kernel⟩,
   ⟨wHinge { started := true, activeIn := true } (wFit ++ [(Obj.PAIR_ROLE, 1)]), by decide +kernel⟩⟩

/-- The hypotheses of every clause of PowerEvents are met. -/
theorem witness_PowerEvents :
    (∃ (s : State) (vin : Nat), (vin < 6000 ∨ 40000 < vin ∨ s.power.resetLow = true)) ∧
    (∃ (s : State) (vin : Nat), 6000 ≤ vin ∧ vin ≤ 40000 ∧ s.power.resetLow = false ∧ (s.mode = .unpowered ∨ s.mode = .pastS4) ∧
      s.update.trial = none ∧ (∀ n, n < 8 → getN s (Obj.TAMPER_LIVE n) ≠ 1)) ∧
    (∃ (ns : _), ns < 500) ∧
    (∃ (s : State) (ns : _), s.mode = .running ∧ 1000 ≤ ns) ∧
    (∃ (s : State), s.mode = .running) ∧
    (∃ (s : State), s.mode = .resetHeld ∧ s.update.trial = none ∧ (∀ n, n < 8 → getN s (Obj.TAMPER_LIVE n) ≠ 1)) ∧
    (∃ (vin : Nat), vin ≤ 41000) ∧
    (∃ (s : State) (vin : Nat), 41000 < vin ∧ s.mode = .running) ∧
    (∃ (s : State) (vin : Nat), s.mode = .overVoltage ∧ 6000 ≤ vin ∧ vin ≤ 40000 ∧ s.power.resetLow = false ∧ s.update.trial = none ∧ (∀
      n, n < 8 → getN s (Obj.TAMPER_LIVE n) ≠ 1)) ∧
    (∃ (s : State), up s = true) ∧
    (∃ (s : State) (r : Fin 8), up s = true ∧ r.val ≠ 0 ∧ r.val ≠ 1 ∧ r.val ≠ 5) ∧
    (∃ (vin : Nat), 4000 ≤ vin) ∧
    (∃ (vin : Nat), vin < 4000) :=
  ⟨⟨State.reset, 5999, by decide +kernel⟩,
   ⟨State.reset, 40000, by decide +kernel⟩,
   ⟨499, by decide +kernel⟩,
   ⟨wRun [], 1000, by decide +kernel⟩,
   ⟨wRun [], by decide +kernel⟩,
   ⟨{ State.reset with mode := .resetHeld }, by decide +kernel⟩,
   ⟨41000, by decide +kernel⟩,
   ⟨wRun [], 41001, by decide +kernel⟩,
   ⟨{ State.reset with mode := .overVoltage }, 6000, by decide +kernel⟩,
   ⟨wRun [], by decide +kernel⟩,
   ⟨wRun [], 7, by decide +kernel⟩,
   ⟨4000, by decide +kernel⟩,
   ⟨3999, by decide +kernel⟩⟩

/-- The hypotheses of every clause of StartEvents are met. -/
theorem witness_StartEvents :
    (∃ (s : State), up s = true ∧ getN s Obj.START_MILESTONE ≠ 3) ∧
    (∃ (s : State), up s = true ∧ getN s Obj.START_MILESTONE = 3 ∧ activeBank s = 0 ∧ (bankOf s 0).comps ≠ []) ∧
    (∃ (s : State), up s = true ∧ getN s Obj.START_MILESTONE = 3) ∧
    (∃ (s : State), up s = true ∧ getN s Obj.START_MILESTONE ≠ 5) ∧
    (∃ (s : State), up s = true ∧ getN s Obj.START_MILESTONE = 5) ∧
    (∃ (s : State), up s = true ∧ getN s Obj.START_MILESTONE ≠ 6) ∧
    (∃ (s : State), up s = true ∧ s.keep.afresh = true) ∧
    (∃ (s : State), up s = true ∧ s.keep.afresh = false ∧ keepRecord s = none) ∧
    (∃ (s : State) (keep : Nat), up s = true ∧ getN s Obj.START_MILESTONE = 6 ∧ getN (resume (keepAdvance keep s)) Obj.PAIR_ENABLE ≠ 1) ∧
    (∃ (s : State), up s = true) ∧
    (∃ (s : State), up s = true ∧ milestone s 7 = true ∧ milestone s 9 = false ∧ getN s Obj.TAMPER_STATE = 0 ∧ atBoundary s = true ∧
      (getN s Obj.BOUND_GRADE ≤ 2 ∨ serveEarly s = true)) ∧
    (∃ (s : State), up s = true ∧ (milestone s 7 = false ∨ milestone s 9 = true ∨ getN s Obj.TAMPER_STATE ≠ 0 ∨ atBoundary s = false)) ∧
    (∃ (s : State) (vin : Nat) (power : _), up s = true ∧ s.power.closed = 0 ∧ 5600 ≤ vin ∧ power ≤ getNat s Obj.POWER_BUDGET) ∧
    (∃ (s : State) (vin : Nat), up s = true ∧ s.power.closed = 0 ∧ 5200 ≤ vin ∧ vin < 5600) ∧
    (∃ (s : State) (vin : Nat) (power : _), up s = true ∧ s.power.closed = 0 ∧ 5600 ≤ vin ∧ getNat s Obj.POWER_BUDGET < power) ∧
    (∃ (s : State), up s = true ∧ s.power.closed = 0) ∧
    (∃ (s : State) (vin : Nat), up s = true ∧ s.power.closed = 2 ∧ 5400 ≤ vin ∧ s.power.reopened + sT ≤ s.now) ∧
    (∃ (s : State), up s = true ∧ s.power.queue = []) ∧
    (∃ (s : State) (r : StartReq) (q : List StartReq), up s = true ∧ s.power.queue = r :: q ∧ admissible s r = false) ∧
    (∃ (s : State) (r : StartReq), up s = true ∧ s.power.queue = [r] ∧ admissible s r = true ∧ r.unit = 0) ∧
    (∃ (s : State), up s = true ∧ (∀ r ∈ s.power.queue, r.raised = true ∨ s.now ≤ r.since + 100 * msT)) :=
  ⟨⟨wRun [], by decide +kernel⟩,
   ⟨{ wRun [(Obj.START_MILESTONE, 3)] with update := { banks := [some { comps := [wComp 1] }, none] } }, by decide +kernel⟩,
   ⟨wRun [(Obj.START_MILESTONE, 3)], by decide +kernel⟩,
   ⟨wRun [], by decide +kernel⟩,
   ⟨wRun [(Obj.START_MILESTONE, 5)], by decide +kernel⟩,
   ⟨wRun [], by decide +kernel⟩,
   ⟨wRun [], by decide +kernel⟩,
   ⟨{ wRun [] with keep := { afresh := false } }, by decide +kernel⟩,
   ⟨wRun [(Obj.START_MILESTONE, 6)], 5, by decide +kernel⟩,
   ⟨wRun [], by decide +kernel⟩,
   ⟨wRun [(Obj.START_MILESTONE, 7), (Obj.BOUND_GRADE, 2)], by decide +kernel⟩,
   ⟨wRun [], by decide +kernel⟩,
   ⟨wRun [], 5600, 42000, by decide +kernel⟩,
   ⟨wRun [], 5200, by decide +kernel⟩,
   ⟨wRun [], 5600, 42001, by decide +kernel⟩,
   ⟨wRun [], by decide +kernel⟩,
   ⟨{ wRun [] with power := { closed := 2, reopened := 999800000000 } }, 5400, by decide +kernel⟩,
   ⟨wRun [], by decide +kernel⟩,
   ⟨{ wRun [] with power := { queue := [{ unit := 1, cost := 1000000, cls := 0, since := 0 }] } },
     { unit := 1, cost := 1000000, cls := 0, since := 0 }, [], by decide +kernel⟩,
   ⟨{ wRun [] with power := { queue := [{ unit := 0, cost := 0, cls := 0, since := 0 }] } },
     { unit := 0, cost := 0, cls := 0, since := 0 }, by decide +kernel⟩,
   ⟨{ wRun [] with power := { queue := [{ unit := 0, cost := 0, cls := 0, since := 999980000000 }] } }, by decide +kernel⟩⟩

/-- The hypotheses of every clause of UpdateEvents are met. -/
theorem witness_UpdateEvents :
    (∃ (s : State), up s = true ∧ milestone s 7 = true) ∧
    (∃ (s : State), up s = true ∧ milestone s 7 = false) ∧
    (∃ (s : State) (t0 : _), up s = true ∧ s.update.sdSince = some t0 ∧ s.update.staged.length = 2) ∧
    (∃ (s : State) (t0 : _), up s = true ∧ s.update.sdSince = some t0) ∧
    (∃ (s : State) (n : Fin 2), up s = true ∧ getN s (Obj.STAGE_STATE n) ≠ 2) ∧
    (∃ (s : State) (n : Fin 2) (a : _) (b : Bool), up s = true ∧ getN s (Obj.STAGE_STATE n) = 2 ∧ stageTest s (stagedBytes s n) a b ≠ 0) ∧
    (∃ (s : State), up s = true ∧ s.update.installing = none) ∧
    (∃ (s : State) (n : _), up s = true ∧ s.update.installing = some n ∧ n < 2 ∧ getN s (Obj.STAGE_STATE n) = 3 ∧ s.update.autoActivate =
      false) ∧
    (∃ (s : State) (n : _), up s = true ∧ s.update.installing = some n) ∧
    (∃ (s : State), up s = true ∧ (s.update.schedule = none ∨ atBoundary s = false)) ∧
    (∃ (s : State) (x : Activation) (t : _), up s = true ∧ s.update.schedule = some x ∧ x.sec = some t ∧ s.ts.mts < t * sec48) ∧
    (∃ (s : State) (x : Activation), up s = true ∧ s.update.schedule = some x ∧ x.sec = none ∧ atBoundary s = true ∧ s.power.closed < 3 ∧
      milestone s 6 = true) ∧
    (∃ (s : State) (x : Activation) (t : _), up s = true ∧ s.update.schedule = some x ∧ x.sec = some t ∧ t * sec48 ≤ s.ts.mts ∧
      atBoundary s = true ∧ s.power.closed < 3 ∧ milestone s 6 = true) ∧
    (∃ (s : State), up s = true ∧ s.update.trial = none) ∧
    (∃ (s : State) (x : Trial), up s = true ∧ s.update.trial = some x ∧ getN s Obj.UPD_STATE = 5 ∧ getN s Obj.UPD_SD_AUTO ≠ 1 ∧ x.since +
      getNat s Obj.UPD_TRIAL * sT ≤ s.now) ∧
    (∃ (s : State) (q : Req) (s1 : State), up s = true ∧ (acceptFrame q.hdr q.sess s).1 = some s1 ∧ tests1to9 q .write
      (Obj.UPD_STAGE_TRANSOM / 256) (Obj.UPD_STAGE_TRANSOM % 256) (agentCount (acceptRequest q.sess s1)) = stOk ∧ (stageSegment q
      (agentCount (acceptRequest q.sess s1))).1 = stOk ∧ q.last = false) ∧
    (∃ (b : List Byte), b.length ≠ fieldU b 8 4) ∧
    (∃ (b : List Byte), b.length = fieldU b 8 4 ∧ contFormat b = false) ∧
    (∃ (s : State) (b : List Byte), b.length = fieldU b 8 4 ∧ contFormat b = true ∧ (fieldU b 7 1).testBit (variantNum s.variant) =
      false) ∧
    (∃ (s : State) (b : List Byte) (sigOk : _) (cosigOk : _), stageTest s b sigOk cosigOk = 0) ∧
    (∃ (s : State) (b : List Byte) (sigOk : _) (cosigOk : _) (c : Comp), stageTest s b sigOk cosigOk = 0 ∧ c ∈ contComps b) ∧
    (∃ (s : State) (b : List Byte) (sigOk : _) (cosigOk : _), stageTest s b sigOk cosigOk = 0 ∧ s.mode ≠ .recovery) ∧
    (∃ (l : _) (c : Comp) (d : Comp), compatible l = true ∧ c.id ≠ d.id ∧ c ∈ l ∧ d ∈ l) :=
  ⟨⟨wRun [(Obj.START_MILESTONE, 7)], by decide +kernel⟩,
   ⟨wRun [], by decide +kernel⟩,
   ⟨{ wRun [] with update := { sdSince := some 0 } }, 0, by decide +kernel⟩,
   ⟨{ wRun [] with update := { sdSince := some 0 } }, 0, by decide +kernel⟩,
   ⟨wRun [], 0, by decide +kernel⟩,
   ⟨wRun [(Obj.STAGE_STATE 0, 2)], 0, true, true, by decide +kernel⟩,
   ⟨wRun [], by decide +kernel⟩,
   ⟨{ wRun [(Obj.STAGE_STATE 1, 3)] with update := { installing := some 1 } }, 1, by decide +kernel⟩,
   ⟨{ wRun [] with update := { installing := some 2 } }, 2, by decide +kernel⟩,
   ⟨wRun [], by decide +kernel⟩,
   ⟨{ wRun [] with update := { schedule := some { sec := some 1000001, bank := 0 } } }, { sec := some 1000001, bank := 0 }, 1000001,
     by decide +kernel⟩,
   ⟨{ wRun [(Obj.START_MILESTONE, 6)] with update := { schedule := some { sec := none, bank := 0 } } }, { sec := none, bank := 0 },
     by decide +kernel⟩,
   ⟨{ wRun [(Obj.START_MILESTONE, 6)] with update := { schedule := some { sec := some 1000000, bank := 0 } } },
     { sec := some 1000000, bank := 0 }, 1000000, by decide +kernel⟩,
   ⟨wRun [], by decide +kernel⟩,
   ⟨{ wRun [(Obj.UPD_STATE, 5)] with update := { trial := some { since := 880000000000, before := 0 } } },
     { since := 880000000000, before := 0 }, by decide +kernel⟩,
   ⟨wOwn [], { wReq [1] with last := false }, _, by decide +kernel, someGet (by decide +kernel), by decide +kernel⟩,
   ⟨[0], by decide +kernel⟩,
   ⟨List.replicate 8 0 ++ [0, 0, 0, 12], by decide +kernel⟩,
   ⟨{ wRun [] with variant := .l }, wImage 1, by decide +kernel⟩,
   ⟨wUpd [], wImage 1, true, true, wImage_ok⟩,
   ⟨wUpd [], wImage 1, true, true, contComp (wImage 1) 0, wImage_ok, List.mem_singleton.mpr rfl⟩,
   ⟨wUpd [], wImage 1, true, true, wImage_ok, by decide +kernel⟩,
   ⟨[wComp 1, wComp 2], wComp 1, wComp 2, by decide +kernel⟩⟩

/-- The hypotheses of the clauses of EventsComplete are met, part 1. -/
theorem witness_EventsComplete_1 :
    (∃ (s : State), up s = true ∧ boundaryDue s = true) ∧
    (∃ (s : State) (p : _), up s = true ∧ stepDue (incrTake (loopApply s)) = some p) ∧
    (∃ (s : State) (c : Fin 16), up s = true ∧ tdcRuns s c = true ∧ (∀ t, (tdc s c).lastTick = some t → t + 800 ≤ s.now)) ∧
    (∃ (s : State) (c : Fin 16) (w : TdcWindow), up s = true ∧ atBoundary s = true ∧ (tdc s c).window = some w ∧ w.firstMts + w.max0 *
      ms48 ≤ s.ts.mts) ∧
    (∃ (s : State) (c : Fin 16) (hits : List Nat) (a : Int) (b : Int), up s = true ∧ c < nTdcs s.variant ∧ hits.sum = 16777216 ∧ (tdc s
      c).ready = none ∧ tableOk hits (rangeWith a (rangeWith b (tdc s c).calRange)) = true) ∧
    (∃ (s : State) (c : Fin 16) (h : List Nat), up s = true ∧ converting s c = false ∧ (tdc s c).ready = some h) ∧
    (∃ (s : State) (c : Fin 16), up s = true ∧ atBoundary s = true ∧ c < nTdcs s.variant ∧ getN s (Obj.TDC_CAL_STATE c) ≠ 1 ∧ getN s
      (Obj.TDC_CAL_STATE c) ≠ 3 ∧ (tdc s c).acceptedTick + 120 * sT ≤ s.now) ∧
    (∃ (s : State) (xo : _) (die : _), up s = true ∧ s.sensors.first = false ∧ s.sensors.xoFailed = false ∧ s.sensors.dieFailed = false ∧
      (-71680 ≤ xo ∧ xo ≤ 153600 ∧ (xo - s.sensors.lastXo).natAbs ≤ 4096) ∧ (-71680 ≤ die ∧ die ≤ 153600 ∧ (die -
      s.sensors.lastDie).natAbs ≤ 4096)) ∧
    (∃ (s : State) (r : Fin 30), up s = true ∧ atBoundary s = true ∧ refState s r = 2 ∧ qualDue s r = true) ∧
    (∃ (s : State) (r : Fin 30), up s = true ∧ atBoundary s = true ∧ (refState s r = 2 ∨ refGood s r = true) ∧ lostDue s r = true) ∧
    (∃ (s : State) (r : Fin 30) (t : _), up s = true ∧ atBoundary s = true ∧ (ref s r).wtrFrom = some t ∧ (ref s r).wtrLoad ≤ (s.now - t)
      / sT) ∧
    (∃ (s : State) (r : Fin 30), up s = true ∧ atBoundary s = true ∧ refState s r = 6 ∧ requalDue s r = true) ∧
    (∃ (s : State), up s = true ∧ atBoundary s = true ∧ getN s Obj.SWITCH_STATE = 1 ∧ s.sel.buildOutFrom + (getF s
      Obj.BUILD_OUT_MAX).toNat * sT ≤ s.now) ∧
    (∃ (s : State), up s = true ∧ atBoundary s = true ∧ s.sel.freqSwitch = true ∧ freqSwitchOver s = true) ∧
    (∃ (s : State) (a : Fin 30) (b : Fin 30), up s = true ∧ a.val < b.val ∧ atBoundary s = true ∧ (disputeOf s a b).begun = false ∧
      comparable s a b = true ∧ ((ref s a).newFreq || (ref s b).newFreq) = true ∧ freqFresh s a = true ∧ freqFresh s b = true ∧ disagrees
      s a b = true ∧ (getF s Obj.DISPUTE_PERSIST).toNat ≤ (disputeOf s a b).disagree + 1) ∧
    (∃ (s : State) (a : Fin 30) (b : Fin 30), up s = true ∧ a.val < b.val ∧ atBoundary s = true ∧ (disputeOf s a b).begun = true ∧
      comparable s a b = false) ∧
    (∃ (s : State) (a : Fin 30) (b : Fin 30) (r : _), up s = true ∧ a.val < b.val ∧ atBoundary s = true ∧ (disputeOf s a b).begun = true
      ∧ outvotedIn s (disputeOf s a b) = some r) ∧
    (∃ (s : State) (t : _), up s = true ∧ s.sel.interval = some t ∧ t + 64 * sT ≤ s.now ∧ s.sel.intCount ≠ 0) ∧
    (∃ (s : State), up s = true ∧ s.atom.lastSteer + sT ≤ s.now ∧ getN s Obj.ATOM_STEER_MODE = 2 ∧ atomProfile s = none) ∧
    (∃ (s : State) (b : List Byte), up s = true ∧ atomProfile s = some b ∧ (fieldU b 8 1).testBit 1 = true ∧ fieldU b 42 2 ≠ 0 ∧ (∀ t,
      s.atom.lastPoll = some t → t + fieldU b 26 2 * msT ≤ s.now)) ∧
    (∃ (s : State) (bytes : List Byte) (b : List Byte), up s = true ∧ s.atom.profile = some b ∧ containsBytes (slice b (fieldU b 44 2)
      (fieldU b 46 2)) bytes = true) ∧
    (∃ (s : State) (t : _) (b : List Byte), up s = true ∧ s.atom.awaiting = some t ∧ s.atom.profile = some b ∧ t + fieldU b 48 2 * msT ≤
      s.now) ∧
    (∃ (s : State), up s = true ∧ s.atom.profile = none) ∧
    (∃ (s : State) (p : Fin 16), up s = true ∧ p < nPorts s.variant) ∧
    (∃ (s : State) (p : Fin 16), up s = true ∧ p < nPorts s.variant ∧ portUp s p = true ∧ (∀ t, (esmcOf s p).lastTx = some t → t + sT ≤
      s.now)) ∧
    (∃ (s : State) (p : Fin 16), up s = true ∧ p < nPorts s.variant ∧ (esmcOf s p).failed = false ∧ (esmcOf s p).lastRx.getD
      s.power.started + 5 * sT ≤ s.now) ∧
    (∃ (s : State) (n : Fin 4), up s = true ∧ getN s (Obj.APLL_STATE n) = 0 ∧ 6 ≤ (apll s n).steps) ∧
    (∃ (s : State) (n : Fin 4) (diff : Nat), up s = true ∧ getN s (Obj.APLL_STATE n) = 1 ∧ diff ≤ 2 ∧ getNat s (Obj.APLL_LOCK_COUNT n) ≤
      (apll s n).good + 1) ∧
    (∃ (s : State) (c : Fin 12), up s = true ∧ (clkOut s c).enabled = true ∧ squelched s c = false) ∧
    (∃ (s : State) (g : Fin 8) (o : Fin 12) (d : _) (rest : _), up s = true ∧ o.val = g.val + 4 ∧ (pg s g).due = d :: rest ∧ commitDue s
      d = true ∧ getN s (Obj.PG_MODE g) ≠ 1) ∧
    (∃ (s : State) (g : Fin 8) (o : Fin 12) (e : Edge) (rest : _), up s = true ∧ o.val = g.val + 4 ∧ (pg s g).edges = e :: rest ∧ e.atI ≤
      s.ts.mts ∧ e.route = none ∧ edgeHidden s e = false ∧ getN s (Obj.PG_MODE g) ≠ 1) ∧
    (∃ (s : State) (g : Fin 8) (t : _), up s = true ∧ (pg s g).anchor = some t ∧ (getN s (Obj.PG_STATE g) = 2 ∨ getN s (Obj.PG_STATE g) =
      3) ∧ 8 * of96 t + 9 * of96 (getNat s (Obj.PG_PERIOD g)) < 8 * s.ts.mts ∧ getNat s (Obj.PG_ALIGN_HOLD g) ≤ (pg s g).misses + 1) ∧
    (∃ (s : State) (t : Fin 2) (x : Sentence) (rest : _), up s = true ∧ (tod s t).due = x :: rest ∧ of96 x.edge + getNat s (Obj.TOD_DELAY
      t) * us48 ≤ s.ts.mts ∧ silentOutputs s = false ∧ outputsAbsent s = false ∧ (tod s t).busyUntil ≤ s.now ∧ getNat s (Obj.TOD_FORMAT
      t) = 0) ∧
    (∃ (s : State) (t : Fin 2) (x : TodSentence) (ago : _) (sec : _) (p : PulseWait) (m : Meas), up s = true ∧ todSecond s t x = some sec
      ∧ s.pulseWait = [p] ∧ p.todin = t ∧ p.said = none ∧ p.tick ≤ s.now - ago ∧ s.now - ago ≤ p.tick + getNat s (Obj.TODIN_WINDOW t) *
      msT ∧ p.meas = some m) ∧
    (∃ (s : State), up s = true ∧ gnssRuns s = true) ∧
    (∃ (s : State), up s = true ∧ gnssRuns s = true ∧ secondOver s (mtsSec s) = false) ∧
    (∃ (s : State) (t : _) (r : _), up s = true ∧ gnssRuns s = true ∧ s.gnss.ppsNext = (t, false) :: r ∧ t ≤ s.now ∧ getN s
      Obj.GNSSPPS_ENABLE ≠ 0 ∧ outputsAbsent s = false) ∧
    (∃ (s : State) (q : Fin 4), up s = true ∧ gnssRuns s = true ∧ getN s (Obj.ISB_SOLVED_VALID q) = 1 ∧ (isbOf s q).lastInput + 600 * sT
      ≤ s.now) ∧
    (∃ (s : State) (cur : Nat), up s = true ∧ gnssRuns s = true ∧ getN s Obj.GNSS_ANT_SUPPLY ≠ 0 ∧ s.gnss.antCut = none ∧ cur ≤ getNat s
      Obj.GNSS_ANT_I_LIMIT * 10) ∧
    (∃ (s : State) (t : _), up s = true ∧ gnssRuns s = true ∧ s.gnss.antCut = some t ∧ t + 10 * sT ≤ s.now) ∧
    (∃ (s : State) (l1 : _) (l5 : _), up s = true ∧ gnssRuns s = true ∧ l1 ≤ getN s Obj.GNSS_JAM_THRESHOLD ∧ l5 ≤ getN s
      Obj.GNSS_JAM_THRESHOLD) ∧
    (∃ (s : State) (t : _) (k : _), up s = true ∧ gnssRuns s = true ∧ s.gnss.snap.armed = some t ∧ t ≤ s.ts.mts ∧ nextSlot s = some k) ∧
    (∃ (s : State) (k : _), up s = true ∧ gnssRuns s = true ∧ s.gnss.snap.slot = some k ∧ k < 8 ∧ s.gnss.snap.began + s.gnss.snap.len *
      msT ≤ s.now) :=
  ⟨⟨wRun [(Obj.START_MILESTONE, 6)], by decide +kernel⟩,
   ⟨{ wRun [] with ts := { step := some { offset := 5, atI := 0, owner := true, session := 1, setTime := false } } }, _,
     by decide +kernel, someGet (by decide +kernel)⟩,
   ⟨wTdc { id := 0, source := 1 } [], 0, by decide +kernel, by decide +kernel, noneImp (by decide +kernel)⟩,
   ⟨wTdc { id := 0, source := 1, window := some wWindow } [], 0, wWindow, by decide +kernel⟩,
   ⟨wTdc { id := 0, calRange := some (0, 1023) } [], 0, List.replicate 1536 6554 ++ List.replicate 1024 6553, 0, 1024, by decide +kernel⟩,
   ⟨wTdc { id := 0, ready := some [] } [], 0, [], by decide +kernel⟩,
   ⟨wRun [], 0, by decide +kernel⟩,
   ⟨{ wRun [] with sensors := { first := false } }, 4096, -4096, by decide +kernel⟩,
   ⟨wSel [{ id := 0, runStart := some 0, runCount := 2 }] [(Obj.REF_STATE 0, 2)], 0, by decide +kernel⟩,
   ⟨wRun [(Obj.REF_STATE 0, 3)], 0, by decide +kernel⟩,
   ⟨wSel [{ id := 0, wtrFrom := some 0, wtrLoad := 200 }] [], 0, _, by decide +kernel, by decide +kernel, someGet (by decide +kernel),
     by decide +kernel⟩,
   ⟨wRun [(Obj.REF_STATE 0, 6), (Obj.REF_DISQ_CAUSE 0, 4), (Obj.REF_QN 0, 10)], 0, by decide +kernel⟩,
   ⟨wRun [(Obj.SWITCH_STATE, 1)], by decide +kernel⟩,
   ⟨{ wRun [] with sel := { freqSwitch := true } }, by decide +kernel⟩,
   ⟨{ wSel [{ id := 0, newFreq := true, freqAt := some (1000000 * sec48) }, { id := 1, freqAt := some (1000000 * sec48) }] [(Obj.REF_STATE 0, 3), (Obj.REF_STATE 1, 3), (Obj.REF_FREQ 0, 1000000000000000)] with inForce := [(Obj.DISPUTE_PERSIST, 1)] },
     0, 1, by decide +kernel⟩,
   ⟨{ wRun [] with sel := { disputes := [{ a := 0, b := 1, begun := true }] } }, 0, 1, by decide +kernel⟩,
   ⟨wVote [(Obj.REF_FREQ 0, 1000000000000000)], 0, 1, _, by decide +kernel, by decide +kernel, by decide +kernel, by decide +kernel,
     someGet (by decide +kernel)⟩,
   ⟨{ wRun [] with sel := { interval := some 987200000000, intCount := 1 } }, _, by decide +kernel, someGet (by decide +kernel),
     by decide +kernel⟩,
   ⟨wRun [(Obj.ATOM_STEER_MODE, 2)], by decide +kernel⟩,
   ⟨{ wRun [(Obj.ATOM_FITTED, 1)] with atom := { profile := some wProfile } }, wProfile, by decide +kernel, by decide +kernel,
     by decide +kernel, by decide +kernel, noneImp (by decide +kernel)⟩,
   ⟨{ wRun [] with atom := { profile := some wProfile } }, [1, 7], wProfile, by decide +kernel⟩,
   ⟨{ wRun [] with atom := { profile := some wProfile, awaiting := some 0 } }, 0, wProfile, by decide +kernel⟩,
   ⟨wRun [], by decide +kernel⟩,
   ⟨wRun [], 0, by decide +kernel⟩,
   ⟨wRun [(Obj.PORT_LINK 0, 1)], 0, by decide +kernel, by decide +kernel, by decide +kernel, noneImp (by decide +kernel)⟩,
   ⟨wRun [], 0, by decide +kernel⟩,
   ⟨{ wRun [] with synth := { aplls := [{ id := 0, steps := 6 }] } }, 0, by decide +kernel⟩,
   ⟨{ wRun [(Obj.APLL_STATE 0, 1)] with synth := { aplls := [{ id := 0, good := 3 }] } }, 0, 2, by decide +kernel⟩,
   ⟨{ wRun [] with synth := { clks := [{ id := 0, enabled := true }] } }, 0, by decide +kernel⟩,
   ⟨{ wRun [] with synth := { pgs := [{ id := 0, due := [1000000 * sec48] }] } }, 0, 4, 1000000 * sec48, [], by decide +kernel⟩,
   ⟨{ wRun [(Obj.START_MILESTONE, 7)] with synth := { pgs := [{ id := 0, edges := [{ atI := 0, route := none, squelched := false, pair := 0 }] }] } },
     0, 4, { atI := 0, route := none, squelched := false, pair := 0 }, [], by decide +kernel⟩,
   ⟨{ wRun [(Obj.PG_STATE 0, 2)] with synth := { pgs := [{ id := 0, anchor := some 0, misses := 2 }] } }, 0, _, by decide +kernel,
     someGet (by decide +kernel), by decide +kernel⟩,
   ⟨{ wRun [(Obj.START_MILESTONE, 7)] with synth := { tods := [{ id := 0, due := [wSentence], busyUntil := 1000000000000 }] } }, 0,
     wSentence, [], by decide +kernel⟩,
   ⟨{ wRun [] with pulseWait := [wPulse] }, 0, .fntd true 1 46 5 500000000 0, 0, 6, wPulse,
     { ref := 0, x := 0, uM := none, uP := none, atI := 0 }, by decide +kernel⟩,
   ⟨wGnss {} [], by decide +kernel⟩,
   ⟨wGnss { solved := [(0, 999999)] } [], by decide +kernel⟩,
   ⟨wGnss { ppsNext := [(1000000000000, false)] } [(Obj.GNSSPPS_ENABLE, 1), (Obj.START_MILESTONE, 7)], 1000000000000, [],
     by decide +kernel⟩,
   ⟨wGnss {} [(Obj.ISB_SOLVED_VALID 0, 1)], 0, by decide +kernel⟩,
   ⟨wGnss {} [], 600, by decide +kernel⟩,
   ⟨wGnss { antCut := some 998000000000 } [], 998000000000, by decide +kernel⟩,
   ⟨wGnss {} [(Obj.GNSS_JAM_THRESHOLD, 50)], 50, 50, by decide +kernel⟩,
   ⟨wGnss { snap := { armed := some 0 } } [], 0, _, by decide +kernel, by decide +kernel, by decide +kernel, by decide +kernel, someGet
     (by decide +kernel)⟩,
   ⟨wGnss { snap := { slot := some 7, len := 20, began := 999996000000 } } [], 7, by decide +kernel⟩⟩

/-- The hypotheses of the clauses of EventsComplete are met, part 2. -/
theorem witness_EventsComplete_2 :
    (∃ (s : State), up s = true ∧ portUp s 16 = true ∧ (port s 16).rx = none ∧ (port s 16).tx = none) ∧
    (∃ (s : State) (p : Fin 17) (r : RxCur) (e : RxEnd), up s = true ∧ (port s p).rx = some r ∧ r.core = none ∧ ingress s p r e = .ok ∧
      p.val ≠ 16) ∧
    (∃ (s : State), up s = true) ∧
    (∃ (s : State) (p : Fin 16) (o : XoffState), up s = true ∧ (port s p).xoff = some o ∧ xoffDue s p = true ∧ o.sent * 5000 + quantaPs s
      p 32768 ≤ psNow s) ∧
    (∃ (s : State) (p : Fin 17) (e : EngFrame) (u : State), up s = true ∧ (port s p).tx = none ∧ u = takeNet p s ∧ portUp u p = true ∧
      wireReady u p = true ∧ (port u p).ctrl = [] ∧ nextHead u p = some (.eng e) ∧ guarded u p (engineTag u p e).2 = false) ∧
    (∃ (s : State) (p : Fin 16) (t : TxCur) (i : _) (f : CoreFrame) (c : Copy), up s = true ∧ (port s p).tx = some t ∧ t.kind = .copy i ∧
      coreFrame s i = some f ∧ t.cut = true ∧ t.stomped = false ∧ c ∈ s.sw.copies ∧ c.frame = i ∧ c.out = p ∧ c.started = true ∧
      f.written ≤ c.read ∧ c.read < f.cells.length) ∧
    (∃ (s : State) (p : Fin 16), up s = true ∧ 65536 ≤ getNat s (Obj.CT_CLEAN_RUN p)) ∧
    (∃ (s : State) (p : Fin 17), up s = true ∧ portUp s p = true) ∧
    (∃ (s : State) (p : Fin 17) (speed : Nat) (full : Bool), up s = true ∧ (port s p).lane = true ∧ (port s p).mode ≠ 0 ∧ (port s p).shut
      = false ∧ portUp s p = false ∧ ((port s p).mode = 2 → speed = 1000 ∧ full = true)) ∧
    (∃ (s : State) (p : Fin 17), up s = true ∧ closeDue s p = true) ∧
    (∃ (s : State) (p : Fin 16) (i : _) (r : _) (f : CoreFrame), up s = true ∧ s.sw.backlog = i :: r ∧ coreFrame s i = some f ∧ f.port =
      p) ∧
    (∃ (s : State) (mac : _) (vid : _) (e : _), up s = true ∧ fdbEntry s mac vid = some e ∧ e.static = false ∧ getNat s Obj.FDB_AGE_TIME
      ≠ 0 ∧ e.hit + getNat s Obj.FDB_AGE_TIME * sT ≤ s.now) ∧
    (∃ (s : State) (vlan : _) (w : TableWrite) (r : _) (t : _) (g : _), up s = true ∧ tableWrites s vlan = w :: r ∧ w.commit = some (t,
      g) ∧ s.sw.frames.any (oldFrame vlan g) = false) ∧
    (∃ (s : State) (vlan : _) (w : TableWrite) (r : _) (t : _) (g : _), up s = true ∧ tableWrites s vlan = w :: r ∧ w.commit = some (t,
      g) ∧ s.sw.frames = [] ∧ s.sw.copies = [] ∧ s.sw.backlog = [] ∧ t + getNat s Obj.SW_GEN_TIMEOUT * msT ≤ s.now) ∧
    (∃ (s : State) (tag : Nat) (o : CryptoOp) (u : State) (c : _), up s = true ∧ restarting s 0x1A00 = false ∧ s.crypto.ops.find? (fun o
      => o.tag = tag && o.started) = some o ∧ o.kind = .cookie c ∧ u = serveOps
      { s with crypto := { s.crypto with ops := s.crypto.ops.filter (fun x => x.tag ≠ tag) } }) ∧
    (∃ (s : State) (p : Fin 16) (n : Fin 4) (q : Slot), up s = true ∧ (port s p).slots.find? (fun q => q.num = n.val) = some q ∧
      q.started = false ∧ reached s (slotAt q (500 * ns48)) = true) ∧
    (∃ (s : State) (p : Fin 16) (n : Fin 4) (q : Slot), up s = true ∧ (port s p).tx = none ∧ (port s p).slots.find? (fun q => q.num =
      n.val) = some q ∧ q.started = false ∧ reached s (slotAt q (7 * oct48 s p)) = true ∧ lateReason s p q q.ready.isNone = none) ∧
    (∃ (s : State) (p : Fin 16) (n : Fin 4) (q : Slot), up s = true ∧ (port s p).slots.find? (fun q => q.num = n.val) = some q ∧
      q.started = true ∧ reached s q.l = true) ∧
    (∃ (s : State) (p : Fin 16), up s = true ∧ (port s p).winFrom + 10 * msT ≤ s.now ∧ getN s (Obj.LEAD_ADAPT p) = 1 ∧ 0 < (port s
      p).winLaunched ∧ (port s p).winLate = false ∧ 2000 ≤ (port s p).winSlack) ∧
    (∃ (s : State) (p : Fin 16) (x : _) (s1 : State) (k : _) (s2 : State), up s = true ∧ ptpUp s = true ∧ takeMsg p (fun m => m.msg.typ =
      0) s = some (x, s1) ∧ ptpAccept x s1 = (some k, s2) ∧ follows s2 k x = true ∧ grantedBy s2 k 0 x = true ∧ x.msg.two = false) ∧
    (∃ (s : State) (p : Fin 16) (x : _) (s1 : State) (k : _) (s2 : State) (y : _), up s = true ∧ ptpUp s = true ∧ takeMsg p (fun m =>
      m.msg.typ = 8) s = some (x, s1) ∧ ptpAccept x s1 = (some k, s2) ∧ (ptpPort s2 (16 * k + x.port)).sync = some y ∧ follows s2 k x =
      true ∧ grantedBy s2 k 0 x = true ∧ y.seq = x.msg.seq) ∧
    (∃ (s : State) (p : Fin 16) (x : _) (s1 : State) (k : _) (s2 : State) (r : _) (t3 : _) (b3 : _), up s = true ∧ ptpUp s = true ∧
      takeMsg p (fun m => m.msg.typ = 9) s = some (x, s1) ∧ ptpAccept x s1 = (some k, s2) ∧ (ptpPort s2 (16 * k + x.port)).req = some r ∧
      follows s2 k x = true ∧ grantedBy s2 k 9 x = true ∧ r.seq = x.msg.seq ∧ x.msg.req = portIdentity s2 k x.port ∧ r.t = some (t3, b3)
      ∧ boundFinite b3 = false) ∧
    (∃ (s : State) (p : Fin 16) (x : _) (s1 : State) (k : _) (s2 : State) (e : State) (b : State) (u : State), up s = true ∧ ptpUp s =
      true ∧ takeMsg p (fun m => m.msg.typ = 1) s = some (x, s1) ∧ ptpParse x s1 = (some k, s2) ∧ isP2P s2 k = false ∧ ptpState s2 (16 *
      k + x.port) = 3 ∧ ptpEncap s2 (16 * k + x.port) = 0 ∧ takeToken (16 * k + x.port) x.tick (bump (Obj.DREQ_RX (16 * k + x.port)) s2)
      = (true, u) ∧ takeEvent u = (true, e) ∧ authCheck k x.port x.msg e = (true, b)) ∧
    (∃ (s : State) (p : Fin 16) (x : _) (s1 : State) (k : _) (s2 : State), up s = true ∧ ptpUp s = true ∧ takeMsg p (fun m => m.msg.typ =
      2) s = some (x, s1) ∧ ptpAccept x s1 = (some k, s2)) ∧
    (∃ (s : State) (p : Fin 16) (x : _) (s1 : State) (k : _) (s2 : State), up s = true ∧ ptpUp s = true ∧ takeMsg p (fun m => m.msg.typ =
      3 || m.msg.typ = 10) s = some (x, s1) ∧ ptpAccept x s1 = (some k, s2)) ∧
    (∃ (s : State) (p : Fin 16) (x : _) (s1 : State) (k : _) (s2 : State) (a : _), up s = true ∧ ptpUp s = true ∧ takeMsg p (fun m =>
      m.msg.typ = 11) s = some (x, s1) ∧ ptpAccept x s1 = (some k, s2) ∧ grantedBy s2 k 11 x = true ∧ x.msg.ann = some a) ∧
    (∃ (s : State) (p : Fin 16) (x : _) (s1 : State), up s = true ∧ ptpUp s = true ∧ takeMsg p (hasTlv isCancel) s = some (x, s1)) ∧
    (∃ (s : State) (p : Fin 16) (x : _) (s1 : State), up s = true ∧ ptpUp s = true ∧ takeMsg p (hasTlv isGrant) s = some (x, s1)) ∧
    (∃ (s : State) (p : Fin 16) (x : _) (s1 : State) (u : State), up s = true ∧ ptpUp s = true ∧ u = reqStale p s ∧ u.ptpIn.any (hasTlv
      isCancel) = false ∧ u.ptpIn.any (isRenewal u) = false ∧ ptpUp u = true ∧ takeMsg p (hasTlv isRequest) u = some (x, s1)) ∧
    (∃ (s : State) (k : Fin 4) (p : Fin 16) (t : _), up s = true ∧ ptpUp s = true ∧ (ptpPort s (16 * k.val + p.val)).nextSync = some t ∧
      t ≤ mts96 s ∧ ptpState s (16 * k.val + p.val) = 3 ∧ ptpEncap s (16 * k.val + p.val) = 0 ∧ quiet s = false ∧ ptpWithheld s k =
      false) ∧
    (∃ (s : State) (k : Fin 4) (p : Fin 16) (t : _), up s = true ∧ ptpUp s = true ∧ (ptpPort s (16 * k.val + p.val)).nextAnn = some t ∧ t
      ≤ mts96 s ∧ ptpState s (16 * k.val + p.val) = 3 ∧ ptpEncap s (16 * k.val + p.val) = 0 ∧ quiet s = false) ∧
    (∃ (s : State) (k : Fin 4) (p : Fin 16), up s = true ∧ ptpUp s = true ∧ isP2P s k = false ∧ (ptpState s (16 * k.val + p.val) = 6 ∨
      ptpState s (16 * k.val + p.val) = 5) ∧ ptpEncap s (16 * k.val + p.val) = 0 ∧ (ptpPort s (16 * k.val + p.val)).nextReq.getD 0 ≤
      mts96 s) ∧
    (∃ (s : State), up s = true ∧ ptpUp s = true) ∧
    (∃ (s : State) (k : Fin 4) (p : Fin 16) (t : _), up s = true ∧ (ptpState s (16 * k.val + p.val) = 6 ∨ ptpState s (16 * k.val + p.val)
      = 5) ∧ (ptpPort s (16 * k.val + p.val)).annUntil = some t ∧ t ≤ s.now) ∧
    (∃ (s : State) (j : Fin 131072) (x : _), up s = true ∧ sessionAt s j = some x ∧ x.syncG = true ∧ x.syncExp ≤ mtsSec s ∧ x.drespG =
      false ∧ x.annG = false) ∧
    (∃ (s : State), up s = true ∧ ptpUp s = true ∧ s.ptp.grants = []) ∧
    (∃ (s : State) (a : Fin 32), up s = true ∧ getNat s (Obj.SA_ROLL_AT a) ≠ 0 ∧ getNat s (Obj.SA_ROLL_AT a) ≤ mts96 s ∧ (s.ptp.sas.getD
      a { id := a }).rolledAt ≠ getNat s (Obj.SA_ROLL_AT a) ∧ getN s (Obj.SA_NEXT_SLOT a) ≠ 0xFF) ∧
    (∃ (s : State) (a : Fin 32) (i : _) (j : _) (t : _), up s = true ∧ (s.ptp.sas.getD a { id := a }).prev = some (i, j, t) ∧ t ≤ s.now) ∧
    (∃ (s : State), up s = true ∧ (s.ptp.sessions.map (sessionShed s)).sum + (s.ptp.sessions.map (sessionAnn s)).sum ≤ 16 * shaLanes s *
      1785714) ∧
    (∃ (s : State) (p : Fin 16) (x : NtpRx), up s = true ∧ s.ntpIn.find? (fun x => x.port = p.val) = some x ∧ restarting s 0x1900 = false
      ∧ s.ntp.queue.countP (fun y => y.port = p.val) < 32) ∧
    (∃ (s : State) (p : Fin 16) (x : NtpRx), up s = true ∧ s.ntp.queue.find? (fun x => x.port = p.val) = some x ∧ (∀ t, s.ntp.taken.getD
      p none = some t → t + 50 ≤ s.now) ∧ restarting s 0x1900 = false) ∧
    (∃ (s : State), up s = true ∧ atBoundary s = true ∧ getN s Obj.TS_STATE ≠ 0 ∧ s.ntp.rotatedMs ≠ some (s.ts.mts / ms48) ∧ 0 < getN s
      Obj.NTS_NEXT_ROTATE ∧ getNat s Obj.NTS_NEXT_ROTATE ≤ t96Of s.ts.mts) :=
  ⟨⟨wRun [(Obj.PORT_LINK 16, 1)], by decide +kernel⟩,
   ⟨wPort { id := 0, rx := some wRx } [], 0, wRx, { len := 64 }, by decide +kernel⟩,
   ⟨wRun [], by decide +kernel⟩,
   ⟨{ wPort { id := 0, mode := 1, xoff := some { sent := 0, classes := [0] } } [(Obj.PORT_PAUSE 0, 1)] with sw := { frames := [wCore], backlog := [1] } },
     0, { sent := 0, classes := [0] }, by decide +kernel⟩,
   ⟨wPort { id := 0, eng := [wEng] } [(Obj.PORT_LINK 0, 1)], 0, wEng, _, by decide +kernel, by decide +kernel, rfl, by decide +kernel⟩,
   ⟨{ wPort { id := 0, tx := some { kind := .copy 1, len := 64, startAt := 0, endAt := 1, freeAt := 1, cut := true } } [] with sw := { frames := [wCore], copies := [{ wCopy with started := true }] } },
     0, { kind := .copy 1, len := 64, startAt := 0, endAt := 1, freeAt := 1, cut := true }, 1, wCore, { wCopy with started := true },
     by decide +kernel⟩,
   ⟨wRun [(Obj.CT_CLEAN_RUN 0, 65536)], 0, by decide +kernel⟩,
   ⟨wRun [(Obj.PORT_LINK 16, 1)], 16, by decide +kernel⟩,
   ⟨wPort { id := 0, lane := true, mode := 2 } [], 0, 1000, true, by decide +kernel⟩,
   ⟨{ wRun [] with power := { notices := [{ port := 16, ordered := 999993000000, stage := 2 }] } }, 16, by decide +kernel⟩,
   ⟨{ wRun [] with sw := { frames := [wCore], backlog := [1] } }, 0, 1, [], wCore, by decide +kernel⟩,
   ⟨{ wRun [] with sw := { fdb := [{ wMac with static := false, hit := 940000000000 }] } }, 2, 1, _, by decide +kernel, someGet
     (by decide +kernel), by decide +kernel⟩,
   ⟨{ wRun [] with sw := { vlanWrites := [{ wWrite with commit := some (0, 0) }], frames := [wCore] } }, true,
     { wWrite with commit := some (0, 0) }, [], 0, 0, by decide +kernel⟩,
   ⟨{ wRun [] with sw := { vlanWrites := [{ wWrite with commit := some (0, 1) }] } }, true, { wWrite with commit := some (0, 1) }, [], 0,
     1, by decide +kernel⟩,
   ⟨{ wRun [] with crypto := { ops := [{ tag := 5, cls := 0, kind := .cookie 3, started := true }] } }, 5,
     { tag := 5, cls := 0, kind := .cookie 3, started := true }, _, 3, by decide +kernel, by decide +kernel, by decide +kernel,
     by decide +kernel, rfl⟩,
   ⟨wPort { id := 0, slots := [wSlot] } [], 0, 3, _, by decide +kernel, someGet (by decide +kernel), by decide +kernel⟩,
   ⟨wPort { id := 0, mode := 4, slots := [{ wSlot with ready := some 0 }] } [(Obj.PORT_LINK 0, 1), (Obj.PORT_MODE 0, 4),
     (Obj.REPLICA_STATE 16, 0)], 0, 3, _, by decide +kernel, by decide +kernel, someGet (by decide +kernel), by decide +kernel⟩,
   ⟨wPort { id := 0, slots := [{ wSlot with started := true }] } [], 0, 3, _, by decide +kernel, someGet (by decide +kernel),
     by decide +kernel⟩,
   ⟨wPort { id := 0, winFrom := 999998000000, winLaunched := 1, winSlack := 2000 } [], 0, by decide +kernel⟩,
   ⟨wPtp (wMsg 0 44) [(Obj.PTPP_STATE 0, 5)], 0, _, _, _, _, by decide +kernel, by decide +kernel, someGet2 (by decide +kernel), pairGet
     (by decide +kernel), by decide +kernel⟩,
   ⟨wPtpPort { id := 0, sync := some { seq := 5, t := 0, bound := 0, corr := 0 } } { wMsg 8 44 with seq := 5 } [(Obj.PTPP_STATE 0, 6)],
     0, _, _, _, _, _, by decide +kernel, by decide +kernel, someGet2 (by decide +kernel), pairGet (by decide +kernel), someGet
     (by decide +kernel), by decide +kernel⟩,
   ⟨wPtpPort { id := 0, req := some { seq := 5, t := some (9, unbounded80) } }
     { wMsg 9 54 with seq := 5, req := List.replicate 8 9 ++ [0, 17] } [(Obj.PTPP_STATE 0, 6)], 0, _, _, _, _, _, _, _,
     by decide +kernel, by decide +kernel, someGet2 (by decide +kernel), pairGet (by decide +kernel), someGet (by decide +kernel),
     by decide +kernel, by decide +kernel, by decide +kernel, by decide +kernel, someGet2 (by decide +kernel), by decide +kernel⟩,
   ⟨wPtp (wMsg 1 44) [(Obj.PTPP_STATE 0, 3), (Obj.PTPP_DREQ_RESERVE 0, 1)], 0, _, _, _, _, _, _, _, by decide +kernel, by decide +kernel,
     someGet2 (by decide +kernel), pairGet (by decide +kernel), by decide +kernel, by decide +kernel, by decide +kernel, pairTrue
     (by decide +kernel), pairTrue (by decide +kernel), pairTrue (by decide +kernel)⟩,
   ⟨wPtp (wMsg 2 54) [], 0, _, _, _, _, by decide +kernel, by decide +kernel, someGet2 (by decide +kernel), pairGet (by decide +kernel)⟩,
   ⟨wPtp (wMsg 10 54) [], 0, _, _, _, _, by decide +kernel, by decide +kernel, someGet2 (by decide +kernel), pairGet (by decide +kernel)⟩,
   ⟨wPtp { wMsg 11 64 with ann := some wAnn } [], 0, _, _, _, _, _, by decide +kernel, by decide +kernel, someGet2 (by decide +kernel),
     pairGet (by decide +kernel), by decide +kernel, someGet (by decide +kernel)⟩,
   ⟨wPtp { wMsg 12 44 with uc := [.cancel 0] } [], 0, _, _, by decide +kernel, by decide +kernel, someGet2 (by decide +kernel)⟩,
   ⟨wPtp { wMsg 12 44 with uc := [.grant 11 0 60] } [], 0, _, _, by decide +kernel, by decide +kernel, someGet2 (by decide +kernel)⟩,
   ⟨wPtp { wMsg 12 44 with uc := [.request 11 0 60] } [], 0, _, _, _, by decide +kernel, by decide +kernel, rfl, by decide +kernel,
     by decide +kernel, by decide +kernel, someGet2 (by decide +kernel)⟩,
   ⟨wPtpPort { id := 0, nextSync := some 65536000000000000000 } (wMsg 0 44) [(Obj.PTPP_STATE 0, 3), (Obj.START_MILESTONE, 9),
     (Obj.BOUND_GRADE, 2)], 0, 0, _, by decide +kernel, by decide +kernel, someGet (by decide +kernel), by decide +kernel⟩,
   ⟨wPtpPort { id := 0, nextAnn := some 65536000000000000000 } (wMsg 0 44) [(Obj.PTPP_STATE 0, 3), (Obj.START_MILESTONE, 9)], 0, 0, _,
     by decide +kernel, by decide +kernel, someGet (by decide +kernel), by decide +kernel⟩,
   ⟨wPtpPort { id := 0, nextReq := some 65536000000000000000 } (wMsg 0 44) [(Obj.PTPP_STATE 0, 5)], 0, 0, by decide +kernel⟩,
   ⟨wRun [], by decide +kernel⟩,
   ⟨wPtpPort { id := 0, annUntil := some 1000000000000 } (wMsg 0 44) [(Obj.PTPP_STATE 0, 6)], 0, 0, _, by decide +kernel,
     by decide +kernel, someGet (by decide +kernel), by decide +kernel⟩,
   ⟨{ wRun [] with ptp := { sessions := [{ wPs with syncG := true }] } }, 131071, _, by decide +kernel, someGet (by decide +kernel),
     by decide +kernel⟩,
   ⟨wRun [], by decide +kernel⟩,
   ⟨wRun [(Obj.SA_ROLL_AT 0, 65536000000000000000), (Obj.SA_ALG 0, 1), (Obj.SA_NEXT_SLOT 0, 20)], 0, by decide +kernel⟩,
   ⟨{ wRun [] with ptp := { sas := [{ id := 0, prev := some (20, 1, 0) }] } }, 0, 20, 1, 0, by decide +kernel⟩,
   ⟨wRun [], by decide +kernel⟩,
   ⟨{ wRun [] with ntpIn := [wNtp], ntp := { queue := List.replicate 31 wNtp } }, 0, wNtp, by decide +kernel⟩,
   ⟨{ wRun [] with ntp := { queue := [wNtp] } }, 0, wNtp, by decide +kernel, by decide +kernel, noneImp (by decide +kernel),
     by decide +kernel⟩,
   ⟨wRun [(Obj.TS_STATE, 1), (Obj.NTS_NEXT_ROTATE, 65536000000000000000)], by decide +kernel⟩⟩

/-! Well-formedness: one ill-formed term for each check, which it refuses; and terms at the edges, which it takes. -/

def wStamp : PcsStamp := { block := 0 }
def wBadReq : Req := { wReq [] with sess := 65536 }

theorem test_wf_refuses_requests :
    ([.loopMode { wReq [] with hdr := { wHdr with iface := 4 } }, .loopMode { wReq [] with hdr := { wHdr with iface := 0 } },
      .loopMode { wReq [] with hdr := { wHdr with port := 256 } }, .loopMode { wReq [] with hdr := { wHdr with vlan := 65536 } },
      .loopMode { wReq [] with hdr := { wHdr with peer := [] } }, .loopMode { wReq [] with hdr := { wHdr with version := 256 } },
      .loopMode { wReq [] with hdr := { wHdr with seq := 4294967296 } }, .loopMode wBadReq, .loopMode { wReq [] with tag := 65536 },
      .loopMode { wReq [] with offset := 4294967296 }, .loopMode { wReq [] with group := 65536 },
      .loopMode { wReq [] with valueLen := 65536 }, .capture (wReq []) (2 ^ 48), .tdcSource 0 0 wBadReq, .refMode 0 wBadReq,
      .atomProfile wBadReq, .dpllMode 0 wBadReq, .clkEnable 0 wBadReq, .clkSync 0 wBadReq, .ppsOffset 0 wBadReq,
      .gnssSurveyStart wBadReq, .gnssSnapArm wBadReq, .portMode wBadReq 0, .ctLadderReset wBadReq 0, .fdbWrite wBadReq,
      .leadLimits wBadReq 0 0, .sessionCancel wBadReq, .instEnable wBadReq 0 0, .ntsRevoke wBadReq, .ntsCookieSeal wBadReq none,
      .ntsCookieSeal (wReq []) (some [1]), .keyImport wBadReq true 0, .keyImport (wReq []) true (2 ^ 256), .keyGenerate wBadReq,
      .lcTransition wBadReq, .pairBond wBadReq, .pairUnbond wBadReq, .tamperAck wBadReq, .read wBadReq 0 0, .read (wReq []) 65536 0,
      .write (wReq []) 0 256, .groupOpen wBadReq, .groupAdd wBadReq 0 0, .groupAdd (wReq []) 65536 0, .groupCommit wBadReq,
      .journalEntriesRead wBadReq, .remapClear wBadReq, .pmcSel wBadReq 0 0, .samplePageRead wBadReq 0, .faultClear wBadReq,
      .pairHandover wBadReq, .keepPorts wBadReq, .updStageTransom wBadReq, .updInstall wBadReq, .updActivate wBadReq,
      .updCancel wBadReq] : List Instr).all (fun c => !wellFormed c) = true := by decide +kernel

theorem test_wf_refuses_events :
    ([.epochBoundary { ratios := [(16, 0)] }, .epochBoundary { ratios := [(0, 2 ^ 63)] }, .epochBoundary { silent := [16] }, .syncStrobe .core (2 ^ 31), .strobeRemeasure .core (2 ^ 32),
      .keepRecordWrite (2 ^ 48), .tdcCalHistogramDone 0 [] 0 0, .tdcCalHistogramDone 0 (List.replicate 2559 1) 0 0,
      .sensorConversion (2 ^ 31) 0, .atomStatusResponse (List.replicate 65 0), .todinSentence 0 (.fntd true 256 46 0 0 0) 0,
      .gnssChanAlloc [{ sys := 5, prn := 1, elev := 0, l5 := true }], .gnssNavSecond { bcast := [(5, 0)] },
      .gnssTimingSolution { sols := [{ mask := 32, x := 0, sigma := 0, d := 0, sigmaD := 0, tdop := 0 }] },
      .gnssSnapComplete [] 65536 0 0 0 0, .frameHeadArrival 0 { wFrame with dst := 2 ^ 48 } wStamp, .frameHeadArrival 0 wFrame { block := 2 ^ 96 },
      .frameHeadArrival 0 { wFrame with tags := [{ pcp := 8, vid := 0 }] } wStamp,
      .frameHeadArrival 0 { wFrame with ip := some { src := [], dst := [] } } wStamp, .rxFrame 0 { len := 65536 }, .txFrameStart 0 (2 ^ 96) {},
      .switchCellSlot [(0, 1), (0, 2)] [], .fdbAgeExpiry 0 4096, .sillLaunch 0 0 { block := 2 ^ 96 }, .pufRegenerate 4 true 0 [],
      .pufRegenerate 1 true 10001 [], .keySlotCheck [256], .drbgReseed 3, .tamperAlarm 0 (2 ^ 48), .writeFrame (List.replicate 65537 0) true,
      .openReq { wHdr with iface := 0 } 0 0, .openReq wHdr 65536 0, .openReq wHdr 0 (2 ^ 256), .close wHdr 65536,
      .enrolReq wHdr [] 0 0, .enrolReq wHdr (List.replicate 97 0) 0 (2 ^ 384), .enrolKey wHdr [] true (2 ^ 256), .groupStage 65536,
      .decodeFault { master := 256, address := 0, access := 1 }, .decodeFault { master := 0, address := 2 ^ 64, access := 1 },
      .decodeFault { master := 0, address := 0, access := 0 }, .eccCorrectable { master := 0, address := 0, access := 4 } 0,
      .dmaDescriptor 0 (some { windows := List.replicate 17 { iova := 0, phys := 0, size := 0, read := true, write := true }, stores := [], first := 0 }) 0,
      .remapCopyDone 144, .schedFrame [(19, 0)], .schedFrame [(1, 0), (1, 5)],
      .coreWatchdog 0 (some { op := 12, index := 0, sub := 0, req := wReq [] }), .instrSample { wSample with core := 5 } 0,
      .faultRaise 0 5 0 none, .faultRaise 65536 0 0 none, .faultRaise 0 0 (2 ^ 32) none, .faultLevelDecay 65536, .unitRestartTimeout 65536,
      .hingeFrameRx true true (.heartbeat (2 ^ 32)), .hingeFrameRx true true (.bondCert true [] 0), .hingeTimeExchange 0 0 0 0 (2 ^ 80),
      .vinValid 65536 0, .vinValid 0 (2 ^ 48), .timeResume (2 ^ 48), .shutterClose 65536 0, .overvoltageRestart 0 (2 ^ 48),
      .railFault 0 65536, .resetRelease (2 ^ 48), .powerStageStop 65536, .unitRestartDone 65536] : List Instr).all
        (fun c => !wellFormed c) = true := by decide +kernel

theorem test_wf_takes :
    ([.loopMode (wReq []), .capture (wReq []) (2 ^ 48 - 1), .epochBoundary { ratios := [(15, -1)] }, .rxFrame 16 { len := 65535 },
      .decodeFault { master := 255, address := 2 ^ 64 - 1, access := 3 }, .remapCopyDone 143, .vinValid 65535 0, .serviceOpen,
      .frameHeadArrival 0 wIpFrame wStamp] : List Instr).all wellFormed = true := by decide +kernel

/-! One step each, against values worked out by hand from the spec. -/

/-- The state after a command. -/
def wAfter (c : Instr) (s : State) : State :=
  match step { s with pending := [c] } with
  | .next t => t
  | _ => s

/-- R28: a tick adds the nominal increment of 5 ns. -/
theorem test_tick : (match step (wRun []) with | .next t => t.ts.mts | _ => 0) =
    1000000 * sec48 + 5 * ns48 := by decide +kernel

/-- A step takes the front of the queue and leaves the rest. -/
theorem test_queue : (match step { wRun [] with pending := [.tsLocked, .serviceOpen] } with | .next t => t.pending | _ => []) =
    [.serviceOpen] := by decide +kernel

/-- R487, R488: a valid supply starts the module. -/
theorem test_vin_valid : up (wAfter (.vinValid 12000 0) State.reset) = true := by decide +kernel

/-- R11, R12: the owner's write is stored and answered OK; another session's write is answered NOT_OWNER and changes nothing. -/
theorem test_write_owner :
    getN (wAfter (.write (wReq [15]) (Obj.REF_PRIORITY 0 / 256) (Obj.REF_PRIORITY 0 % 256)) (wOwn [])) (Obj.REF_PRIORITY 0) = 15 := by
  decide +kernel
theorem test_write_other :
    (let t := wAfter (.write (wReq [15]) (Obj.REF_PRIORITY 0 / 256) (Obj.REF_PRIORITY 0 % 256)) (wSess [])
     (getN t (Obj.REF_PRIORITY 0), t.out.map (fun o => match o with | .response _ _ st _ _ _ _ _ _ _ => st | _ => 99))) =
      (8, [stNotOwner]) := by decide +kernel

/-- R376: a frame seen before is dropped and counted. -/
theorem test_replay :
    getN (wAfter (.groupOpen (wReq [])) (wAfter (.groupOpen (wReq [])) (wOwn []))) Obj.FRAME_REPLAY = 1 := by decide +kernel

/-- R381: the lease runs out 3,000 ms after the holder's last request. -/
theorem test_lease :
    ((wAfter .latchLeaseExpiry { wOwn [] with latch := { holder := 1, leaseFrom := 999400000000 } }).latch.holder,
     (wAfter .latchLeaseExpiry { wOwn [] with latch := { holder := 1, leaseFrom := 999400000001 } }).latch.holder) = (0, 1) := by
  decide +kernel

/-- R437: the sixteenth correctable error of the working SRAM empties the bucket and trips. -/
theorem test_ce_bucket :
    (let t := wAfter (.eccCorrectable { master := 0, address := 0x10000000, access := 1 } 0) (wRun [(Obj.CE_BUCKET 8, 15)])
     (getN t (Obj.CE_BUCKET 8), getN t (Obj.CE_BUCKET_TRIPS 8), (faultOf t 0x2008).raises)) = (0, 1, 1) := by decide +kernel

/-- R461: the fourth raise within the window lifts the level to 1. -/
theorem test_fault_level :
    (faultOf (wAfter (.faultRaise 0x1400 1 0 none)
      { wRun [(Obj.START_MILESTONE, 2)] with
        faults := [{ code := 0x1400, window := some { count := 3, openedAt := 999900000000, n := 3, w := 600 } }] }) 0x1400).level = 1 := by
  decide +kernel

/-- R134, R135: a reference without a measurement for its interval and its hold-off is DISQUALIFIED. -/
theorem test_ref_lost : getN (wAfter (.refLost 0) (wRun [(Obj.REF_STATE 0, 3)])) (Obj.REF_STATE 0) = 6 := by decide +kernel

/-- R226: a clean run of 65,536 frames brings the ladder down one rung. -/
theorem test_rung_down : getN (wAfter (.ctRungDown 0) (wRun [(Obj.CT_CLEAN_RUN 0, 65536), (Obj.CT_RUNG 0, 2)])) (Obj.CT_RUNG 0) = 1 := by
  decide +kernel

/-- R216: a frame of 63 bytes is a runt. -/
theorem test_runt : getN (wAfter (.rxFrame 0 { len := 63 }) (wPort { id := 0, rx := some wRx } [])) (Obj.RUNT 0) = 1 := by decide +kernel

/-- R330: a rotation of the NTS keys adds 1 to the epoch. -/
theorem test_nts_rotate :
    getN (wAfter .ntsEpochRotation (wRun [(Obj.TS_STATE, 1), (Obj.NTS_NEXT_ROTATE, 65536000000000000000), (Obj.NTS_EPOCH, 7)])) Obj.NTS_EPOCH = 8 := by
  decide +kernel

/-- R492: above 41 V the module stops. -/
theorem test_overvoltage : (wAfter (.overvoltageStop 41001) (wRun [])).mode = .overVoltage := by decide +kernel

/-- R367: a frame of the host waits for the front end. -/
theorem test_host_frame : (wAfter (.writeFrame [1, 2, 3] true) (wRun [])).host.written = [[1, 2, 3]] := by decide +kernel

/-- R475: the sixteenth measurement beyond 100 ps clears PHASE_LOCKED. -/
theorem test_phase_lock : (phaseLock 6554 { wRun [] with hinge := { locked := true, beyond := 15 } }).hinge.locked = false := by decide +kernel

/-! The worked examples of the spec. -/

/-- "An owner-announced insertion": midnight UTC is M. -/
def wLeap (sec : Nat) : State :=
  { wRun [(Obj.CURRENT_UTC_OFFSET, 37), (Obj.LEAP_PENDING, 1), (Obj.LEAP_INSTANT, ((1940630438 * sec96 : Nat) : Int))] with
    ts := { mts := sec * sec48 } }
theorem test_leap_before : (utcSec (wLeap 1940630436), inLeap (wLeap 1940630436), utcSec (wLeap 1940630437), inLeap (wLeap 1940630437)) =
    (1940630399, false, 1940630399, true) := by decide +kernel
theorem test_leap_reached :
    (let t := wAfter .leapInstantReached (wLeap 1940630438)
     (utcSec t, getN t Obj.CURRENT_UTC_OFFSET, getN t Obj.LEAP_PENDING)) = (1940630400, 38, 0) := by decide +kernel

/-- "A seven-minute power cycle": dt is 420 s, the state HOLDOVER, and each half has grown by 840,020,000 ps. -/
def wRecord : KeepRecord :=
  { mts := 1000000 * sec48, keepCount := 100, bound := (bound80 38400 41200).toNat, utcOffset := 37, leapPending := 0, leapInstant := 0 }
def wKeep : State :=
  { wRun [(Obj.START_MILESTONE, 6), (Obj.KEEP_FREQ_UNC, 2000)] with
    keep := { count := 13762660, afresh := false, recA := some wRecord } }

theorem test_resume :
    (let t := resume wKeep
     (getN t Obj.RESUME_RESULT, getN t Obj.TS_STATE, t.ts.mts, t.bound.cur.m, t.bound.cur.p)) =
      (0, 3, 1000420 * sec48, 840058400 * 4294967296, 840061200 * 4294967296) := by decide +kernel

/-- "24 hours of holdover on the atomic oscillator": the frequency and ageing terms of the day; clockAccuracy, variance and dispersion. -/
theorem test_day_growth : cdiv (growth 1000 20 100 0 (86400 * sec48) (86400 * sec48)) 429496730 = 1610496 := by decide +kernel
theorem test_advertised : (clockAcc 15350, clockAcc 25001, clockAcc 100002, logVar 15350, logVar 191588, rootDisp 191588) =
    (0x20, 0x21, 0x22, 0x4C16, 0x535F, 1) := by decide +kernel

/-- "One second in position hold": the terms add up to 14,021 ps. -/
theorem test_gnss_unc :
    solUnc (wGnss {} [(Obj.GNSS_POS_UNC, 420), (Obj.ISB_SOLVED_VALID 0, 1), (Obj.ISB_SOLVED_UNC 0, 600)]) 3 140 15 0 true = 14021 := by
  decide +kernel

/-- "An ingress timestamp on P3": the interpolated offset, and the corrected stamp. -/
def wCal : State :=
  { wRun [(Obj.PORT_EXT_DELAY_RX 0, 312), (Obj.TEMP_DIE, 1160)] with
    ports := [{ id := 0, mode := 4, fec := 2 }]
    blobs := [(Obj.PORT_CAL_TABLE 0, List.replicate 616 0 ++ be 4 2702049 ++ be 4 0 ++ be 4 2705981 ++ List.replicate 300 0)] }
theorem test_port_offset : calOfs wCal 0 0 = 2704015 := by decide +kernel
theorem test_ingress_stamp :
    (stampIn (portOffsets 0 wCal) 0 (1940900000 * sec96 + 123456789 * 65536 + 26870)).1 =
      1940900000 * sec96 + 123456747 * 65536 + 54920 := by decide +kernel

/-- "A Sync crossing from P2 to P9". -/
theorem test_residence :
    addCorr 0x27100000 (residence (wRun []) (500000000 * 65536 + 12000) 0 (500001734 * 65536 + 44768)) = 0x2DD68000 := by decide +kernel

/-- "The response to one NTS request on P4". -/
def wNts : State :=
  { wPort { id := 0, mode := 4 } [(Obj.CURRENT_UTC_OFFSET, 37), (Obj.BOUND_GRADE, 0), (Obj.TS_STATE, 2), (Obj.ACTIVE_TIME_REF, 8),
      (Obj.BOUND_ANCHOR_REF, 8), (Obj.START_MILESTONE, 9), (Obj.BOUND_ANCHOR_AT, ((1941000000 * sec96 : Nat) : Int)), (Obj.PORT_P 0, 110),
      (Obj.UTC_VALID, 1), (Obj.BOUND, bound80 1203 1453)] with
    ts := { mts := 1941000000 * sec48 + 250002410 * ns48, utcDecoded := true } }
def wJob : NtpJob :=
  { rx := { wNtp with req := { poll := 6 }, ts := 1941000000 * sec96 + 250000000 * 65536, bound := bound80 1200 1450, utc := 1940999963 }
    nts := true, cookies := 1, askBound := true }
theorem test_nts_response :
    (ntpFill wNts 0 wJob (1941000000 * sec48 + 250008486 * ns48) (1941000000, 0x40008E62)).map
      (fun r => [r.li * 64 + r.vn * 8 + 4, r.stratum, r.poll, r.disp, r.refId, r.ref, r.rcv, r.xmt]) =
    some [0x24, 1, 6, 1, 0x474E5353, 0xF75BCD9B00000000, 0xF75BCD9B40000000, 0xF75BCD9B40008E62] := by decide +kernel
theorem test_nts_bound :
    (ntpFill wNts 0 wJob (1941000000 * sec48 + 250008486 * ns48) (1941000000, 0x40008E62)).map
      (fun r => r.bound.map (fun b => (boundM b.2.2.2.1, boundP b.2.2.2.1, boundM b.2.2.2.2, boundP b.2.2.2.2))) =
    some (some (0x51E, 0x701, 0x535, 0x62F)) := by decide +kernel

/-- "An election after a lost holder": 5 and 7 tie at rank 12, and 5 is elected. -/
def wElect : State :=
  { wRun [(Obj.CRED_RANK 22, 9), (Obj.CRED_RANK 25, 12), (Obj.CRED_RANK 27, 12), (Obj.LATCH_STATE, 1)] with
    latch := { electionFrom := some 999900000000, claims := [(5, 1), (2, 2), (7, 3)] }
    sessions := (List.range 16).map (fun i => { wSession with slot := 21 + i }) }
theorem test_election :
    (let t := wAfter .latchElectionEnd wElect
     (t.latch.holder, t.out.filterMap (fun o => match o with | .response n _ st _ _ _ _ _ _ v => some (n, st, v) | _ => none))) =
      (5, [(7, 0x18, [0, 5]), (2, 0x18, [0, 5]), (5, 0, [])]) := by decide +kernel

/-- "A claim refused and traced": the response carries CONFLICT and the claimant record. -/
def wClaim : State :=
  { wOwn [] with
    variant := .s
    claims := [{ cls := 0x1100, num := 2, kind := 1, knum := 2, index := 0x3012, sub := 1, since := 1940699000 * sec96 }] }
theorem test_claim :
    (wAfter (.tdcSource 2 0 { wReq [6] with tag := 0x41 }) wClaim).out =
      [.response 1 2 0x14 0x41 0x3412 1 1 0 20 ([0, 2, 1, 2, 0x30, 0x12, 1, 0, 0, 0, 0x73, 0xAC, 0xB7, 0x78] ++ List.replicate 6 0)] := by
  decide +kernel

/-- "A poisoned session line": the line lies in DDR1, and its page is copied to entry 8. -/
theorem test_poisoned_line :
    (let t := wAfter (.eccUncorrectable { master := 0x22, address := 0x1000801040, access := 1 } false) (wRun [])
     (getN t (Obj.UE_COUNT 0), getN t (Obj.LAST_UE_ADDR 0), t.mem.copies)) =
      (1, 0x1000801040, [{ entry := 8, cause := 1, address := 0x1000801000 }]) := by decide +kernel

/-- "A PTP engine that keeps restarting": the ninth raise of the window is reacted to at C3. -/
theorem test_ninth_raise :
    (let t := wAfter (.faultRaise 0x1700 2 0 none)
       { wRun [(Obj.START_MILESTONE, 9), (Obj.FAULT_N, 8), (Obj.FAULT_W, 10), (Obj.PAIR_ENABLE, 1), (Obj.PAIR_ROLE, 2)] with
         faults := [{ code := 0x1700, sticky := true, classSticky := some 2, raises := 8
                      window := some { count := 8, openedAt := 998560000000, n := 8, w := 10 } }] }
     let f := faultOf t 0x1700
     (f.level, f.window.isNone, f.classSticky, f.raises, getN t Obj.FAULT_ROLE_HOLD, getN t Obj.ESCALATIONS)) =
      (1, true, some 3, 9, 1, 1) := by decide +kernel

end
end

section
/-! SUPPORT. The byte codes of numbers, one equation per direction: big-endian lists, the integer types, TIME96 and BOUND80. -/
namespace Sys2Proof.Machine

/-! ### Big-endian bytes (R8) -/

@[simp] theorem length_be (n v : Nat) : (be n v).length = n := by simp [be]

/-- The last byte is the number's lowest. -/
theorem be_succ (n v : Nat) : be (n + 1) v = be n (v / 256) ++ [BitVec.ofNat 8 v] := by
  have hdiv : ∀ i ∈ List.range n, v / 256 ^ (n - i) = v / 256 / 256 ^ (n - 1 - i) := by
    intro i hi
    have hin : n - i = (n - 1 - i) + 1 := by have := List.mem_range.1 hi; omega
    rw [hin, Nat.pow_succ', Nat.div_div_eq_div_mul]
  simp only [be, List.range_succ, List.map_append, List.map_cons, List.map_nil, Nat.add_sub_cancel, Nat.sub_self, Nat.pow_zero,
    Nat.div_one]
  rw [List.map_congr_left fun i hi => congrArg (BitVec.ofNat 8) (hdiv i hi)]

@[simp] theorem ofBe_append_byte (b : List Byte) (x : Byte) : ofBe (b ++ [x]) = ofBe b * 256 + x.toNat := by
  simp [ofBe, List.foldl_append]

theorem ofBe_be (n v : Nat) : ofBe (be n v) = v % 256 ^ n := by
  induction n generalizing v with
  | zero => simp [be, ofBe, Nat.mod_one]
  | succ n ih =>
    rw [be_succ, ofBe_append_byte, ih, BitVec.toNat_ofNat, Nat.pow_succ' (n := n), Nat.mod_mul]
    omega

theorem ofBe_be_of_lt {n v : Nat} (h : v < 256 ^ n) : ofBe (be n v) = v := by rw [ofBe_be, Nat.mod_eq_of_lt h]

theorem ofBe_lt (b : List Byte) : ofBe b < 256 ^ b.length := by
  induction b using List.reverseRecOn with
  | nil => simp [ofBe]
  | append_singleton b x ih =>
    have hx := x.isLt
    rw [ofBe_append_byte, List.length_append, List.length_singleton, Nat.pow_succ]
    omega

theorem be_ofBe (b : List Byte) : be b.length (ofBe b) = b := by
  induction b using List.reverseRecOn with
  | nil => rfl
  | append_singleton b x ih =>
    have hx := x.isLt
    have hlow : BitVec.ofNat 8 (ofBe b * 256 + x.toNat) = x := by
      apply BitVec.eq_of_toNat_eq
      rw [BitVec.toNat_ofNat]
      omega
    have hhigh : (ofBe b * 256 + x.toNat) / 256 = ofBe b := by omega
    rw [ofBe_append_byte, List.length_append, List.length_singleton, be_succ, hlow, hhigh, ih]

theorem be_ofBe_of_length {n : Nat} {b : List Byte} (h : b.length = n) : be n (ofBe b) = b := h ▸ be_ofBe b

theorem ofBe_lt_of_length {n : Nat} {b : List Byte} (h : b.length = n) : ofBe b < 256 ^ n := h ▸ ofBe_lt b

/-! ### TIME96 (R9) -/

theorem length_t96Bytes (t : Nat) : (t96Bytes t).length = 12 := by simp [t96Bytes]

/-- The fields of the encoding: 6 bytes of seconds, 4 of nanoseconds, 2 of the fraction. -/
theorem t96Bytes_fields (t : Nat) : (t96Bytes t).take 6 = be 6 (t / sec96) ∧
    ((t96Bytes t).drop 6).take 4 = be 4 (t / 65536 % 1000000000) ∧ (t96Bytes t).drop 10 = be 2 (t % 65536) := by
  have lsec := length_be 6 (t / sec96)
  have lns := length_be 4 (t / 65536 % 1000000000)
  refine ⟨?_, ?_, ?_⟩
  · rw [t96Bytes, List.append_assoc, List.take_left' lsec]
  · rw [t96Bytes, List.append_assoc, List.drop_left' lsec, List.take_left' lns]
  · rw [t96Bytes, List.drop_left' (by rw [List.length_append, lsec, lns])]

theorem t96OfBytes_t96Bytes {t : Nat} (h : t < 281474976710656 * sec96) : t96OfBytes (t96Bytes t) = some t := by
  obtain ⟨hsec, hns, hfrac⟩ := t96Bytes_fields t
  unfold sec96 at h hsec
  simp only [t96OfBytes, hsec, hns, hfrac, sec96]
  rw [ofBe_be_of_lt (by omega), ofBe_be_of_lt (by omega), ofBe_be_of_lt (by omega), if_pos (by omega)]
  congr 1
  omega

theorem t96OfBytes_eq_none {b : List Byte} (h : 999999999 < ofBe ((b.drop 6).take 4)) : t96OfBytes b = none :=
  if_neg (Nat.not_le.2 h)

/-- A valid code is in range and is the code of its value. -/
theorem t96OfBytes_eq_some {b : List Byte} {t : Nat} (hlen : b.length = 12) (h : t96OfBytes b = some t) :
    t < 281474976710656 * sec96 ∧ t96Bytes t = b := by
  have lsec : (b.take 6).length = 6 := by simp [hlen]
  have lns : ((b.drop 6).take 4).length = 4 := by simp [hlen]
  have lfrac : (b.drop 10).length = 2 := by simp [hlen]
  have hsec := ofBe_lt_of_length lsec
  have hfrac := ofBe_lt_of_length lfrac
  simp only [t96OfBytes, sec96] at h ⊢
  split at h
  · rename_i hns
    obtain rfl := Option.some.inj h
    generalize es : ofBe (b.take 6) = sec at *
    generalize en : ofBe ((b.drop 6).take 4) = ns at *
    generalize ef : ofBe (b.drop 10) = frac at *
    refine ⟨by omega, ?_⟩
    have dsec : (sec * 65536000000000 + ns * 65536 + frac) / 65536000000000 = sec := by omega
    have dns : (sec * 65536000000000 + ns * 65536 + frac) / 65536 % 1000000000 = ns := by omega
    have dfrac : (sec * 65536000000000 + ns * 65536 + frac) % 65536 = frac := by omega
    rw [t96Bytes, sec96, dsec, dns, dfrac, ← es, ← en, ← ef, be_ofBe_of_length lsec, be_ofBe_of_length lns, be_ofBe_of_length lfrac]
    have hsplit : b.drop 10 = (b.drop 6).drop 4 := by simp
    rw [hsplit, List.append_assoc, List.take_append_drop, List.take_append_drop]
  · exact absurd h (by simp)

/-! ### The types of fixed length (R398, R399, R400) -/

theorem decodeNum_time96 (b : List Byte) : decodeNum .time96 b = (t96OfBytes b).map Nat.cast := by
  rw [decodeNum]; cases t96OfBytes b <;> rfl

theorem decodeNum_time96_eq_none {b : List Byte} (h : 999999999 < ofBe ((b.drop 6).take 4)) : decodeNum .time96 b = none := by
  rw [decodeNum_time96, t96OfBytes_eq_none h, Option.map_none]

theorem decodeNum_bool_eq_none {b : List Byte} : decodeNum .bool b = none ↔ 1 < ofBe b := by simp [decodeNum]

/-- Every type but TIME96 is coded as its residue. -/
theorem encodeNum_eq_be {t : DType} (h : t ≠ .time96) (v : Int) :
    encodeNum t v = be t.bytes (v % (256 ^ t.bytes : Nat)).toNat := by
  unfold encodeNum
  split
  · contradiction
  · rfl

theorem ofBe_encodeNum {t : DType} (h : t ≠ .time96) (v : Int) : (ofBe (encodeNum t v) : Int) = v % (256 ^ t.bytes : Nat) := by
  have hpos : (0 : Int) < (256 ^ t.bytes : Nat) := by exact_mod_cast Nat.pow_pos (by decide)
  have h0 := Int.emod_nonneg v hpos.ne'
  have hlt := Int.emod_lt_of_pos v hpos
  rw [encodeNum_eq_be h, ofBe_be_of_lt (by omega), Int.toNat_of_nonneg h0]

theorem length_encodeNum (t : DType) (v : Int) : (encodeNum t v).length = t.bytes := by
  by_cases h : t = .time96
  · subst h; exact length_t96Bytes _
  · rw [encodeNum_eq_be h, length_be]

/-- Bytes whose number has a value's residue are that value's code. -/
theorem encodeNum_of_residue {t : DType} {b : List Byte} {v : Int} (h : t ≠ .time96) (hlen : b.length = t.bytes)
    (hv : v % (256 ^ t.bytes : Nat) = ofBe b) : encodeNum t v = b := by
  rw [encodeNum_eq_be h, hv, Int.toNat_natCast, be_ofBe_of_length hlen]

theorem decodeNum_encodeNum_time96 {v : Int} (hlo : DType.time96.lo ≤ v) (hhi : v ≤ DType.time96.hi) :
    decodeNum .time96 (encodeNum .time96 v) = some v := by
  simp only [DType.lo, DType.hi] at hlo hhi
  have hlt : v.toNat < 281474976710656 * sec96 := by unfold sec96; omega
  rw [decodeNum_time96, encodeNum, t96OfBytes_t96Bytes hlt, Option.map_some, Int.toNat_of_nonneg hlo]

theorem decodeNum_encodeNum {t : DType} {v : Int} (hs : t ≠ .str) (ho : t ≠ .oct) (hd : t ≠ .dom) (hlo : t.lo ≤ v)
    (hhi : v ≤ t.hi) : decodeNum t (encodeNum t v) = some v := by
  by_cases ht : t = .time96
  · subst ht; exact decodeNum_encodeNum_time96 hlo hhi
  have residue := ofBe_encodeNum ht v
  cases t with
  | str | oct | dom | time96 => contradiction
  | bool =>
    simp only [DType.lo, DType.hi, DType.bytes] at hlo hhi residue
    rw [decodeNum, if_pos (by omega)]
    congr 1
    omega
  | u8 | u16 | u32 | u64 | bound80 =>
    simp only [DType.lo, DType.hi, DType.bytes] at hlo hhi residue
    simp only [decodeNum]
    congr 1
    omega
  | i8 | i16 | i32 | i64 =>
    simp only [decodeNum]
    congr 1
    split <;> simp only [DType.lo, DType.hi, DType.bytes] at * <;> omega

theorem decodeNum_time96_eq_some {b : List Byte} {v : Int} (hlen : b.length = DType.time96.bytes) (h : decodeNum .time96 b = some v) :
    (DType.time96.lo ≤ v ∧ v ≤ DType.time96.hi) ∧ encodeNum .time96 v = b := by
  rw [decodeNum_time96] at h
  obtain ⟨n, hn, rfl⟩ := Option.map_eq_some_iff.1 h
  obtain ⟨hlt, hb⟩ := t96OfBytes_eq_some hlen hn
  unfold sec96 at hlt
  refine ⟨?_, by rw [encodeNum, Int.toNat_natCast, hb]⟩
  simp only [DType.lo, DType.hi]
  omega

/-- What decodes is in its type's range, and has the bytes' number as its residue. -/
theorem decodeNum_eq_some {t : DType} {b : List Byte} {v : Int} (hs : t ≠ .str) (ho : t ≠ .oct) (hd : t ≠ .dom)
    (ht : t ≠ .time96) (hlen : b.length = t.bytes) (h : decodeNum t b = some v) :
    (t.lo ≤ v ∧ v ≤ t.hi) ∧ v % (256 ^ t.bytes : Nat) = ofBe b := by
  have hlt := ofBe_lt_of_length hlen
  cases t with
  | str | oct | dom | time96 => contradiction
  | bool =>
    simp only [decodeNum, Option.ite_none_right_eq_some, Option.some.injEq] at h
    simp only [DType.lo, DType.hi, DType.bytes]
    omega
  | u8 | u16 | u32 | u64 | bound80 =>
    simp only [decodeNum, Option.some.injEq] at h
    simp only [DType.lo, DType.hi, DType.bytes] at hlt ⊢
    omega
  | i8 | i16 | i32 | i64 =>
    simp only [decodeNum, Option.some.injEq] at h
    split at h <;> simp only [DType.lo, DType.hi, DType.bytes] at * <;> omega

theorem encodeNum_decodeNum {t : DType} {b : List Byte} {v : Int} (hs : t ≠ .str) (ho : t ≠ .oct) (hd : t ≠ .dom)
    (hlen : b.length = t.bytes) (h : decodeNum t b = some v) : t.lo ≤ v ∧ v ≤ t.hi ∧ encodeNum t v = b := by
  by_cases ht : t = .time96
  · subst ht
    exact and_assoc.1 (decodeNum_time96_eq_some hlen h)
  · obtain ⟨⟨hlo, hhi⟩, residue⟩ := decodeNum_eq_some hs ho hd ht hlen h
    exact ⟨hlo, hhi, encodeNum_of_residue ht hlen residue⟩

/-! ### BOUND80 and served pairs (R67, R90) -/

theorem boundM_bound80 (m : Nat) {p : Nat} (h : p < 2 ^ 40) : boundM (bound80 m p) = m := by
  unfold boundM bound80; omega

theorem boundP_bound80 (m : Nat) {p : Nat} (h : p < 2 ^ 40) : boundP (bound80 m p) = p := by
  unfold boundP bound80; omega

theorem boundFinite_unbounded80 : boundFinite unbounded80 = false := by decide

theorem addHalf_of_lt {h b : Nat} (hlt : h + b < halfUnb) : addHalf h b = h + b := if_pos (by omega)

theorem addHalf_of_le {h b : Nat} (hle : halfUnb ≤ h + b) : addHalf h b = halfUnb := if_neg (by unfold halfUnb at *; omega)

theorem addHalf_lt (h b : Nat) : addHalf h b < 2 ^ 40 := by
  unfold addHalf halfUnb; split <;> omega

theorem servedPair_of_unbounded {c : Int} (bm bp : Nat) (h : boundFinite c = false) : servedPair c bm bp = unbounded80 :=
  if_neg (by simp [h])

theorem servedPair_of_finite {c : Int} (bm bp : Nat) (h : boundFinite c = true) :
    servedPair c bm bp = bound80 (addHalf (boundM c) bm) (addHalf (boundP c) bp) := if_pos h

end Sys2Proof.Machine
end

section
namespace Sys2Proof.Machine

/-- Settles O6: the codes of the fixed-length types both ways, and the halves of a bound. -/
theorem encodings : Obligations.Encodings := by
  unfold Obligations.Encodings
  refine ⟨⟨fun t v hs ho hd hlo hhi => ⟨decodeNum_encodeNum hs ho hd hlo hhi, length_encodeNum t v⟩,
      fun t b v hs ho hd hlen h => encodeNum_decodeNum hs ho hd hlen h, fun b h => decodeNum_time96_eq_none h,
      fun b _ => decodeNum_bool_eq_none⟩,
    fun m p hp => ⟨boundM_bound80 m hp, boundP_bound80 m hp⟩, fun c bm bp h => servedPair_of_unbounded bm bp h, ?_, ?_,
    boundFinite_unbounded80⟩
  · intro c bm bp h hm hp
    rw [servedPair_of_finite bm bp h, addHalf_of_lt hm, addHalf_of_lt hp]
  · intro c bm bp h hm
    rw [servedPair_of_finite bm bp h, boundM_bound80 _ (addHalf_lt _ _), addHalf_of_le hm]

end Sys2Proof.Machine
end

section
/-! SUPPORT. The refusals and the writes without a change in the shared course of a WRITE (R404, R408). -/
namespace Sys2Proof.Machine

/-- A PRV object outside PROVISIONED: steps 1 to 8 of R408 pass and step 9 does not (R12). -/
theorem tests1to9_prv_lifecycle {q : Req} {i j : Nat} {s : State} (hroom : (session s q.sess).inFlight.length < 64)
    (htag : (session s q.sess).inFlight.contains q.tag = false) (hlen : q.valueLen ≤ q.value.length) (hres : q.reservedOk = true)
    (howner : s.latch.holder = q.sess) (hdef : defined i j = true) (hpresent : absentObj s.variant i j = false)
    (hacc : (objKind i j).acc = .prv) (hlc : getN s Obj.LC_STATE ≠ 1) : tests1to9 q .write i j s = stLifecycle := by
  have hadmits : admits .prv .write = true := rfl
  simp only [tests1to9, Nat.not_le.2 hroom, htag, Nat.not_lt.2 hlen, hres, howner, hdef, hpresent, hadmits, hacc, hlc, ne_eq,
    reduceCtorEq, not_true_eq_false, not_false_eq_true, Bool.false_eq_true, Bool.true_eq_false, and_self, and_false, false_and,
    if_false, if_true]

/-- The length passes and the encoding does not: a TIME96 with too many nanoseconds (R9, R400). -/
theorem decodeVal_time96_range {k : Nat} {o : ObjInfo} {b : List Byte} (htyp : o.typ = .time96) (hlen : b.length = 12)
    (hns : 999999999 < ofBe ((b.drop 6).take 4)) : (decodeVal k o b).1 = stRange := by
  have hbytes : ¬ b.length ≠ DType.time96.bytes := not_not.2 hlen
  simp only [decodeVal, htyp, if_neg hbytes, decodeNum_time96_eq_none hns]

theorem decodeVal_dom {k : Nat} {o : ObjInfo} (b : List Byte) (htyp : o.typ = .dom) : (decodeVal k o b).1 = stOk := by
  simp only [decodeVal, htyp]

/-- The value that a request brings, once steps 1 to 9 of R408 have passed: the whole of a DOMAIN at its last segment (R378), and
otherwise the record's own value. -/
def requestValue (q : Req) (k : Nat) (s : State) : Nat × Option (List Byte) × State :=
  if (objKind (k / 256) (k % 256)).typ = .dom then domainSegment q k s else (stOk, some (q.value.take q.valueLen), s)

theorem requestValue_dom {q : Req} {k : Nat} {s : State} (h : (objKind (k / 256) (k % 256)).typ = .dom) :
    requestValue q k s = domainSegment q k s := if_pos h

theorem requestValue_record {q : Req} {k : Nat} {s : State} (h : (objKind (k / 256) (k % 256)).typ ≠ .dom) :
    requestValue q k s = (stOk, some (q.value.take q.valueLen), s) := if_neg h

section
variable {q : Req} {k : Nat} {r : Rule} {s s1 u u2 : State} {b : List Byte}
  (hframe : (acceptFrame q.hdr q.sess s).1 = some s1) (hu : u = agentCount (acceptRequest q.sess s1))
include hframe hu

/-- A WRITE that one of steps 1 to 9 of R408 turns away is answered with that step's status. -/
theorem ownerWrite_refused (ht : tests1to9 q .write (k / 256) (k % 256) u ≠ stOk) :
    ownerWrite q k r s = answer q .write k (tests1to9 q .write (k / 256) (k % 256) u) (heldBytes u k) (q.value.take q.valueLen) []
      (countBusy (tests1to9 q .write (k / 256) (k % 256) u) u) := by
  have haccept : acceptFrame q.hdr q.sess s = (some s1, (acceptFrame q.hdr q.sess s).2) := Prod.ext hframe rfl
  rw [ownerWrite, haccept]
  simp only [← hu]
  rw [if_pos ht]

/-- A whole value that the length or the encoding rules turn away (step 10 of R408). -/
theorem ownerWrite_undecoded (ht : tests1to9 q .write (k / 256) (k % 256) u = stOk)
    (hvalue : requestValue q k u = (stOk, some b, u2)) (hd : (decodeVal k (objKind (k / 256) (k % 256)) b).1 ≠ stOk) :
    ownerWrite q k r s = answer q .write k (decodeVal k (objKind (k / 256) (k % 256)) b).1 (heldBytes u k) b [] u2 := by
  have haccept : acceptFrame q.hdr q.sess s = (some s1, (acceptFrame q.hdr q.sess s).2) := Prod.ext hframe rfl
  unfold requestValue at hvalue
  rw [ownerWrite, haccept]
  simp only [← hu, hvalue]
  rw [if_neg (not_not.2 ht), if_neg (not_not.2 rfl), if_pos hd]

/-- A valid value that the object already holds is answered OK, and the object's rule is not asked (R404). -/
theorem ownerWrite_unchanged (ht : tests1to9 q .write (k / 256) (k % 256) u = stOk)
    (hvalue : requestValue q k u = (stOk, some (heldBytes u k), u2))
    (hd : (decodeVal k (objKind (k / 256) (k % 256)) (heldBytes u k)).1 = stOk) (hacc : (objKind (k / 256) (k % 256)).acc ≠ .wo) :
    ownerWrite q k r s = answer q .write k stOk (heldBytes u k) (heldBytes u k) [] u2 := by
  have haccept : acceptFrame q.hdr q.sess s = (some s1, (acceptFrame q.hdr q.sess s).2) := Prod.ext hframe rfl
  unfold requestValue at hvalue
  rw [ownerWrite, haccept]
  simp only [← hu, hvalue]
  rw [if_neg (not_not.2 ht), if_neg (not_not.2 rfl), if_neg (not_not.2 hd), if_pos ⟨hacc, trivial⟩]

end

end Sys2Proof.Machine
end

section
namespace Sys2Proof.Machine

/-- Settles O12: the tests of a WRITE that need nothing of the object's rule, and the effect of an accepted COMMAND. -/
theorem writeTests : Obligations.WriteTests := by
  unfold Obligations.WriteTests
  refine ⟨fun b h => decodeNum_time96_eq_none h, fun q k r s s1 u b hframe hu hb => ⟨?_, ?_, ?_, ?_, ?_⟩⟩
  · intro hroom htag hlen hres howner hdef hpresent hacc hlc
    have ht := tests1to9_prv_lifecycle hroom htag hlen hres howner hdef hpresent hacc hlc
    have hnotOk : stLifecycle ≠ stOk := by decide
    have hnotBusy : stLifecycle ≠ stBusy := by decide
    rw [ownerWrite_refused hframe hu (by rw [ht]; exact hnotOk), ht, countBusy, if_neg hnotBusy, hb]
  · intro ht htyp hlen hns
    have hvalue := requestValue_record (q := q) (s := u) (by rw [htyp]; decide)
    have hd := decodeVal_time96_range (k := k) htyp hlen hns
    have hnotOk : stRange ≠ stOk := by decide
    rw [← hb] at hvalue
    rw [ownerWrite_undecoded hframe hu ht hvalue (by rw [hd]; exact hnotOk), hd]
  · intro ht htyp hacc hd hsame
    have hvalue := requestValue_record (q := q) (s := u) htyp
    rw [← hb, hsame] at hvalue
    rw [hsame] at hd ⊢
    exact ownerWrite_unchanged hframe hu ht hvalue hd hacc
  · intro u2 ht htyp hacc hseg
    exact ownerWrite_unchanged hframe hu ht ((requestValue_dom htyp).trans hseg) (decodeVal_dom _ htyp) hacc
  · intro v s2 hcmd hdefer hlogged
    rw [hb]
    exact (ownerCommand_accepted hcmd hdefer hlogged).2

end Sys2Proof.Machine
end

section
/-! SUPPORT. What an event of a unit answers in a module that runs, and the frames of its effect. -/
namespace Sys2Proof.Machine

/-! ### Completion of an event -/

theorem acts_of_ifUp {c : Instr} {f : State → State} {s u : State} (hc : exec c s = finish (ifUp f s)) (hu : up s = true)
    (h : f s = u) : acts c s u := by
  rw [acts, hc, ifUp_up f s hu, h, finish]

theorem nextWith_of_ifUp {c : Instr} {f : State → State} {s u : State} {P : State → Prop} (hc : exec c s = finish (ifUp f s))
    (hu : up s = true) (h : f s = u) (hP : P (settle u)) : nextWith (exec c s) P :=
  nextWith_finish (x := u) (by rw [hc, ifUp_up f s hu, h]) hP

/-! ### Frames -/

theorem keepsAll_refl (ps : List Part) (ks : List Nat) (s : State) : keepsAll ps ks s s :=
  ⟨fun p _ => by cases p <;> rfl, fun _ _ => rfl⟩

theorem keepsAll_setN {ps : List Part} {ks : List Nat} {s t : State} {k : Nat} (h : keepsAll ps ks s t) (hk : k ∈ ks) (v : Int) :
    keepsAll ps ks s (setN k v t) := by
  obtain ⟨hparts, hnums⟩ := h
  refine ⟨fun p hp => ?_, fun j hj => (getN_setN_ne t v (ne_of_mem_of_not_mem hk hj)).trans (hnums j hj)⟩
  have := hparts p hp
  cases p <;> exact this

theorem keepsAll_setJ {ps : List Part} {ks : List Nat} {s t : State} {k : Nat} (h : keepsAll ps ks s t) (hk : k ∈ ks) (v : Int) :
    keepsAll ps ks s (setJ k v t) := by
  obtain ⟨j, e | ⟨e, -⟩⟩ := setJ_shape k v t
  · obtain ⟨hparts, hnums⟩ := keepsAll_setN h hk v
    rw [e]
    refine ⟨fun p hp => ?_, hnums⟩
    have := hparts p hp
    cases p <;> exact this
  · rwa [e]

/-- A part that may change is replaced. -/
theorem keepsAll_ntp {ps : List Part} {ks : List Nat} {s t : State} (h : keepsAll ps ks s t) (hp : Part.ntp ∈ ps) (x : Ntp) :
    keepsAll ps ks s { t with ntp := x } := by
  obtain ⟨hparts, hnums⟩ := h
  refine ⟨fun p hq => ?_, hnums⟩
  have := hparts p hq
  cases p
  case ntp => exact absurd hp hq
  all_goals exact this

end Sys2Proof.Machine
end

section
/-! SUPPORT. The events of the NTP engine and of the crypto block, one rule for each of their cases (R25, R316, R318, R330, R338). -/
namespace Sys2Proof.Machine

/-! ### Arrival and parsing -/

section
variable {p : Nat} {x : NtpRx} {s : State}

theorem ntpArrive_restarting (hx : s.ntpIn.find? (fun x => x.port = p) = some x) (hr : restarting s 0x1900 = true) :
    ntpArrive p s = bump (Obj.NTP_RESTART_DROP p) { s with ntpIn := s.ntpIn.erase x } := by
  rw [ntpArrive, hx]
  exact if_pos hr

theorem ntpArrive_full (hx : s.ntpIn.find? (fun x => x.port = p) = some x) (hr : restarting s 0x1900 = false)
    (hq : 32 ≤ s.ntp.queue.countP (fun y => y.port = p)) :
    ntpArrive p s = bump (Obj.NTP_QUEUE_DROP p) { s with ntpIn := s.ntpIn.erase x } := by
  rw [ntpArrive, hx]
  exact (if_neg (by simp [hr])).trans (if_pos hq)

theorem ntpArrive_queued (hx : s.ntpIn.find? (fun x => x.port = p) = some x) (hr : restarting s 0x1900 = false)
    (hq : s.ntp.queue.countP (fun y => y.port = p) < 32) :
    ntpArrive p s = { s with ntpIn := s.ntpIn.erase x, ntp := { s.ntp with queue := s.ntp.queue ++ [x] } } := by
  rw [ntpArrive, hx]
  exact (if_neg (by simp [hr])).trans (if_neg (Nat.not_le.2 hq))

theorem ntpParse_none (hx : s.ntp.queue.find? (fun x => x.port = p) = none) : ntpParse p s = s := by
  rw [ntpParse, hx]

/-- The parser is free 250 ns after the last request it took. -/
theorem ntpParse_oldest (hx : s.ntp.queue.find? (fun x => x.port = p) = some x)
    (hfree : ∀ t, s.ntp.taken.getD p none = some t → t + 50 ≤ s.now) (hr : restarting s 0x1900 = false) :
    ntpParse p s =
      ntpRows x { s with ntp := { s.ntp with queue := s.ntp.queue.erase x, taken := s.ntp.taken.set p (some s.now) } } := by
  have free : (match s.ntp.taken.getD p none with | some t => decide (t + 50 ≤ s.now) | none => true) = true := by
    cases ht : s.ntp.taken.getD p none with
    | none => rfl
    | some t => exact decide_eq_true (hfree t ht)
  rw [ntpParse, hx]
  refine if_neg ?_
  rintro (hbusy | hrestart)
  · exact Bool.noConfusion (hbusy.symm.trans free)
  · exact Bool.noConfusion (hr.symm.trans hrestart)

end

/-! ### Crypto operations -/

theorem cryptoDone_unknown {tag : Nat} {s : State} (ho : s.crypto.ops.find? (fun o => o.tag = tag && o.started) = none) :
    cryptoDone tag s = s := by
  rw [cryptoDone, ho]
  exact ite_self s

section
variable {tag : Nat} {s u : State} {o : CryptoOp} (hr : restarting s 0x1A00 = false)
  (ho : s.crypto.ops.find? (fun o => o.tag = tag && o.started) = some o)
  (hu : u = serveOps { s with crypto := { s.crypto with ops := s.crypto.ops.filter (fun x => x.tag ≠ tag) } })
include hr ho hu

/-! The operation that completes frees its place, and the next one starts (R25). -/

theorem cryptoDone_cookie {c : Nat} (hk : o.kind = .cookie c) : cryptoDone tag s = cookieDone c u := by
  rw [cryptoDone, ho, if_neg (by simp [hr]), hu]
  simp only [hk]

theorem cryptoDone_verify {c : Nat} (hk : o.kind = .verify c) : cryptoDone tag s = verifyDone c u := by
  rw [cryptoDone, ho, if_neg (by simp [hr]), hu]
  simp only [hk]

theorem cryptoDone_sealSlot {q n : Nat} (hk : o.kind = .sealSlot q n) : cryptoDone tag s = sealDone q n u := by
  rw [cryptoDone, ho, if_neg (by simp [hr]), hu]
  simp only [hk]

end

/-! ### Port close orders -/

/-- Whatever the order leaves in a notice of its port that has come near enough is marked (R338). -/
theorem ntpOrdered_of_mem_ntpShutOrder {p : Nat} {s : State} {n : Notice} (hn : n ∈ (ntpShutOrder p s).power.notices)
    (hp : n.port = p) (hdue : n.ordered + 35 * msT ≤ s.now + getNat s Obj.NTP_SHUT_NOTICE * msT) : n.ntpOrdered = true := by
  obtain ⟨m, -, rfl⟩ := List.mem_map.1 hn
  by_cases hm : m.port = p ∧ m.ordered + 35 * msT ≤ s.now + getNat s Obj.NTP_SHUT_NOTICE * msT
  · rw [if_pos hm]
  · rw [if_neg hm] at hp hdue
    exact absurd ⟨hp, hdue⟩ hm

/-! ### Master-key epochs -/

section
variable {s : State}

theorem ntsRotate_unset (h : getN s Obj.TS_STATE = 0) : ntsRotate s = s := if_pos (.inl h)

theorem ntsRotate_first (hts : getN s Obj.TS_STATE ≠ 0) (hms : s.ntp.rotatedMs ≠ some (s.ts.mts / ms48))
    (hn : getN s Obj.NTS_NEXT_ROTATE = 0) :
    ntsRotate s =
      let t := setJ Obj.NTS_NEXT_ROTATE ((t96Of (s.ts.mts / ms48 * ms48) : Nat) + getN s Obj.NTS_ROTATE * (sec96 : Int)) s
      { t with ntp := { t.ntp with rotatedMs := some (s.ts.mts / ms48) } } :=
  (if_neg (not_or.2 ⟨hts, hms⟩)).trans (if_pos (by simp [getNat, hn]))

theorem ntsRotate_again (hts : getN s Obj.TS_STATE ≠ 0) (hms : s.ntp.rotatedMs ≠ some (s.ts.mts / ms48))
    (hpos : 0 < getN s Obj.NTS_NEXT_ROTATE) (hdue : getNat s Obj.NTS_NEXT_ROTATE ≤ t96Of s.ts.mts) :
    ntsRotate s =
      let t := setN Obj.NTS_NEXT_ROTATE (getN s Obj.NTS_NEXT_ROTATE + getN s Obj.NTS_ROTATE * (sec96 : Int))
        (setJ Obj.NTS_EPOCH ((getN s Obj.NTS_EPOCH + 1) % 4294967296) s)
      { t with ntp := { t.ntp with rotatedMs := some (s.ts.mts / ms48) } } := by
  have hcast : (getNat s Obj.NTS_NEXT_ROTATE : Int) = getN s Obj.NTS_NEXT_ROTATE := Int.toNat_of_nonneg hpos.le
  have hne : getNat s Obj.NTS_NEXT_ROTATE ≠ 0 := by omega
  rw [← hcast]
  exact (if_neg (not_or.2 ⟨hts, hms⟩)).trans ((if_neg hne).trans (if_pos hdue))

end

end Sys2Proof.Machine
end

section
namespace Sys2Proof.Machine

theorem keepsAll_ntpArrive_queued {s : State} (x : NtpRx) :
    keepsAll [.ntpIn, .ntp] [] s { s with ntpIn := s.ntpIn.erase x, ntp := { s.ntp with queue := s.ntp.queue ++ [x] } } := by
  refine ⟨fun p hp => ?_, fun _ _ => rfl⟩
  cases p
  case ntpIn | ntp => exact absurd hp (by decide)
  all_goals rfl

theorem keepsAll_ntpShutOrder (p : Nat) (s : State) : keepsAll [.power] [] s (ntpShutOrder p s) := by
  refine ⟨fun q hq => ?_, fun _ _ => rfl⟩
  cases q
  case power => exact absurd hq (by decide)
  all_goals rfl

/-- Settles O35: each event by the rule of its case. -/
theorem ntpEvents : Obligations.NtpEvents := by
  unfold Obligations.NtpEvents
  refine ⟨fun s p hu => ⟨?_, ?_, ?_, ?_, ?_, ?_, ?_, ?_⟩, fun s hu => ⟨?_, ?_, ?_⟩⟩
  · exact fun x hx hr => acts_of_ifUp rfl hu (ntpArrive_restarting hx hr)
  · exact fun x hx hr hq => acts_of_ifUp rfl hu (ntpArrive_full hx hr hq)
  · intro x hx hr hq
    refine nextWith_of_ifUp rfl hu (ntpArrive_queued hx hr hq) ⟨?_, ?_, frame_settle (keepsAll_ntpArrive_queued x)⟩ <;> simp
  · exact fun hx => acts_of_ifUp rfl hu (ntpParse_none hx)
  · exact fun x hx hfree hr => acts_of_ifUp rfl hu (ntpParse_oldest hx hfree hr)
  · exact fun tag ho => acts_of_ifUp rfl hu (cryptoDone_unknown ho)
  · intro tag o u hr ho h
    refine acts_of_ifUp rfl hu ?_
    cases hk : o.kind with
    | cookie c => exact cryptoDone_cookie hr ho h hk
    | verify c => exact cryptoDone_verify hr ho h hk
    | sealSlot q n => exact cryptoDone_sealSlot hr ho h hk
  · refine nextWith_of_ifUp rfl hu rfl ⟨frame_settle (keepsAll_ntpShutOrder p s), fun n hn hp hdue => ?_⟩
    simp only [settle_keeps] at hn
    exact ntpOrdered_of_mem_ntpShutOrder hn hp hdue
  · rintro (hts | hb)
    · refine acts_of_ifUp rfl hu ?_
      rw [ntsRotate_unset hts, ite_self]
    · exact acts_of_ifUp rfl hu (if_neg (by simp [hb]))
  · intro hb hts hms hn
    refine nextWith_of_ifUp rfl hu ((if_pos hb).trans (ntsRotate_first hts hms hn)) ⟨?_, frame_settle ?_⟩
    · exact (getN_settle _ (by decide)).trans (getN_setJ_same _ _ s)
    · exact keepsAll_ntp (keepsAll_setJ (keepsAll_refl _ _ s) (by decide) _) (by decide) _
  · intro hb hts hms hpos hdue
    refine nextWith_of_ifUp rfl hu ((if_pos hb).trans (ntsRotate_again hts hms hpos hdue)) ⟨?_, ?_, frame_settle ?_⟩
    · exact (getN_settle _ (by decide)).trans ((getN_setN_ne _ _ (by decide)).trans (getN_setJ_same _ _ s))
    · exact (getN_settle _ (by decide)).trans (getN_setN_same _ _ _)
    · exact keepsAll_ntp (keepsAll_setN (keepsAll_setJ (keepsAll_refl _ _ s) (by decide) _) (by decide) _) (by decide) _

end Sys2Proof.Machine
end

section
/-! SUPPORT. The events of the time scale, one rule for each of their cases (R43, R48, R136). -/
namespace Sys2Proof.Machine

/-! ### Folds over the state -/

/-- What every step of a fold leaves, the fold leaves. -/
theorem foldl_leaves {α β : Type} (g : State → β) {f : State → α → State} (h : ∀ a x, g (f a x) = g a) (l : List α) (s : State) :
    g (l.foldl f s) = g s := by
  induction l generalizing s with
  | nil => rfl
  | cons x r ih => exact (ih (f s x)).trans (h s x)

/-! ### Free roundings -/

/-- What does not read the free values, a rounding to the nearest leaves. -/
theorem nearFree_leaves {β : Type} (g : State → β) (hg : ∀ (s : State) (c : Nat), g { s with freeCtr := c } = g s) (n : Int) (d : Nat)
    (s : State) : g (nearFree n d s).2 = g s := by
  obtain ⟨c, e⟩ := nearFree_shape n d s
  rw [e, hg]

/-- What does not read the free values, a division leaves. -/
theorem divFree_leaves {β : Type} (g : State → β) (hg : ∀ (s : State) (c : Nat), g { s with freeCtr := c } = g s) (n : Int) (d : Nat)
    (s : State) : g (divFree n d s).2 = g s := by
  rw [divFree_snd, nextFree, hg]

/-! ### The step tick -/

/-- A raise at C4 ends in the safe state: the effects of a restart play no part in it (R456). -/
theorem raiseWith_c4 (effects : Nat → State → State) (code : Nat) (i : FaultInfo) (s : State) :
    raiseWith effects code 4 i s = raise code 4 i s := by
  unfold raise raiseWith
  cases srcInfo s.variant code <;> simp

theorem report_c4 (code : Nat) (i : FaultInfo) (s : State) : report code 4 i s = raise code 4 i s := by
  rw [report, if_neg (by simp), raiseWith_c4]

theorem getN_compareShadow (s : State) {k : Nat} (hk : k ∉ raiseKeys) : getN (compareShadow s) k = getN s k := by
  unfold compareShadow
  dsimp only
  split
  · rw [report_c4, getN_raise _ _ _ _ hk]
  · rfl

theorem getN_incrAnswer (w : Nat × Option Req) (s : State) {k : Nat} (hat : k ≠ Obj.INCR_APPLIED_AT) (hincr : k ≠ Obj.INCR_WRITE)
    (hdrop : k ≠ Obj.NOTIFY_DROP) : getN (incrAnswer w s) k = getN s k := by
  have happlied : getN (setN Obj.INCR_APPLIED_AT (mts96 s) (slotsIncred s)) k = getN s k := getN_setN_ne _ _ hat.symm
  unfold incrAnswer
  split
  · exact happlied
  · exact (getN_answer _ _ _ _ _ _ _ _ hdrop).trans ((getN_setN_ne _ _ hincr.symm).trans happlied)

theorem getN_incrInForce (l : List (Nat × Option Req)) (s : State) {k : Nat} (hat : k ≠ Obj.INCR_APPLIED_AT)
    (hincr : k ≠ Obj.INCR_WRITE) (hdrop : k ≠ Obj.NOTIFY_DROP) : getN (incrInForce l s) k = getN s k :=
  foldl_leaves (getN · k) (fun a w => getN_incrAnswer w a hat hincr hdrop) l s

/-- The last acts of a step: the objects that publish it (R55). -/
theorem stepNow_publishes (p : PendingStep) (s : State) : ∃ u n m, stepNow p s =
    setN Obj.STEP_COUNT n (setN Obj.LAST_STEP_AT m (setN Obj.LAST_STEP_OFFSET p.offset (setN Obj.STEP_STATUS 2 u))) := ⟨_, _, _, rfl⟩

theorem stepTickOf_due {p : PendingStep} {s : State} (h : stepDue (incrTake (loopApply s)) = some p) :
    stepTickOf s = compareShadow (incrInForce s.ts.incrWrites (stepNow p (incrTake (loopApply s)))) := by
  simp only [stepTickOf, h]

theorem getN_stepTickOf_due {p : PendingStep} {s : State} (h : stepDue (incrTake (loopApply s)) = some p) {k : Nat}
    (hk : k ∉ raiseKeys) (hat : k ≠ Obj.INCR_APPLIED_AT) (hincr : k ≠ Obj.INCR_WRITE) (hdrop : k ≠ Obj.NOTIFY_DROP) :
    getN (stepTickOf s) k = getN (stepNow p (incrTake (loopApply s))) k := by
  rw [stepTickOf_due h, getN_compareShadow _ hk, getN_incrInForce _ _ hat hincr hdrop]

theorem getN_stepNow_status (p : PendingStep) (s : State) : getN (stepNow p s) Obj.STEP_STATUS = 2 := by
  obtain ⟨u, n, m, e⟩ := stepNow_publishes p s
  simp [e]

theorem getN_stepNow_offset (p : PendingStep) (s : State) : getN (stepNow p s) Obj.LAST_STEP_OFFSET = p.offset := by
  obtain ⟨u, n, m, e⟩ := stepNow_publishes p s
  simp [e]

end Sys2Proof.Machine
end

section
/-! SUPPORT. The events of the channels and the sensors, one rule for each of their cases (R99, R102–R105, R114, R121). -/
namespace Sys2Proof.Machine

section
variable {c : Nat} {s : State}

/-- An edge 4 µs after the last accepted one, or the first, is accepted (R99). -/
theorem tdcEdge_accepted {k : Nat} (hruns : tdcRuns s c = true) (hlate : ∀ t, (tdc s c).lastTick = some t → t + 800 ≤ s.now) :
    tdcEdge c k s = acceptEdge c k (setTdc c (fun x => { x with index := x.index + 1, seenTick := s.now }) s) := by
  have notEarly : (match (tdc s c).lastTick with | some t => decide (s.now < t + 800) | none => false) ≠ true := by
    cases h : (tdc s c).lastTick with
    | none => exact Bool.false_ne_true
    | some t => simpa using hlate t h
  exact (if_neg (by simp [hruns])).trans (if_neg notEarly)

theorem tdcWindowMax_due {w : TdcWindow} (hb : atBoundary s = true) (hw : (tdc s c).window = some w)
    (hdue : w.firstMts + w.max0 * ms48 ≤ s.ts.mts) : tdcWindowMax c s = deliverWindow c w (publishWindow c w s) := by
  have due : winMaxDue s c = true := by rw [winMaxDue, hw]; exact decide_eq_true hdue
  rw [tdcWindowMax, if_pos ⟨hb, due⟩, closeWindow, hw]

theorem histogramDone_accepted {hits : List Nat} {a b : Int} (hc : c < nTdcs s.variant) (hsum : hits.sum = 16777216)
    (hready : (tdc s c).ready = none) (hok : tableOk hits (rangeWith a (rangeWith b (tdc s c).calRange)) = true) :
    histogramDone c hits a b s =
      setTdc c (fun t => { t with ready := some hits, acceptedTick := s.now, readyTemp := s.sensors.die }) s := by
  have notRefused : ¬ (nTdcs s.variant ≤ c ∨ hits.sum ≠ 16777216 ∨ (tdc s c).ready.isSome = true) := by simp [hc, hsum, hready]
  rw [histogramDone, if_neg notRefused, if_pos hok]

theorem coreSwap_idle (h : converting s c = false) : coreSwap c s = swapCores c s := if_neg (by simp [h])

theorem keepsAll_setTdc (f : Tdc → Tdc) : keepsAll [.tdcs] [] s (setTdc c f s) := by
  refine ⟨fun p hp => ?_, fun _ _ => rfl⟩
  cases p
  case tdcs => exact absurd hp (by decide)
  all_goals rfl

theorem tdcCalFailed_due (hb : atBoundary s = true) (hc : c < nTdcs s.variant) (h1 : getN s (Obj.TDC_CAL_STATE c) ≠ 1)
    (h3 : getN s (Obj.TDC_CAL_STATE c) ≠ 3) (hdue : (tdc s c).acceptedTick + 120 * sT ≤ s.now) : tdcCalFailed c s = tdcFail c s :=
  if_pos ⟨hb, hc, by simp [tdcFailDue, h1, h3, hdue]⟩

end

/-- A raise and a live bit leave the readings. -/
theorem sensorFault_sensors (code : Nat) (was bad : Bool) (r : Int) (s : State) : (sensorFault code was bad r s).sensors = s.sensors := by
  unfold sensorFault
  split <;> simp

/-- A reading within its limits and near the last one (R121). -/
theorem sensorBad_eq_false {prev cur : Int} (h : -71680 ≤ cur ∧ cur ≤ 153600 ∧ (cur - prev).natAbs ≤ 4096) :
    sensorBad prev cur = false := by
  obtain ⟨hlo, hhi, hnear⟩ := h
  simp only [sensorBad, Bool.or_eq_false_iff, decide_eq_false_iff_not]
  omega

theorem sensorConv_good {xo die : Int} {s : State} (hfirst : s.sensors.first = false) (hxf : s.sensors.xoFailed = false)
    (hdf : s.sensors.dieFailed = false) (hxo : -71680 ≤ xo ∧ xo ≤ 153600 ∧ (xo - s.sensors.lastXo).natAbs ≤ 4096)
    (hdie : -71680 ≤ die ∧ die ≤ 153600 ∧ (die - s.sensors.lastDie).natAbs ≤ 4096) :
    (sensorConv xo die s).sensors = { s.sensors with lastXo := xo, lastDie := die } := by
  simp only [sensorConv, sensorFault_sensors, setN_keeps, hfirst, hxf, hdf, Bool.false_eq_true, if_false, sensorBad_eq_false hxo,
    sensorBad_eq_false hdie]

end Sys2Proof.Machine
end

section
/-! SUPPORT. The events of the references, one rule for each of their cases (R133–R149). -/
namespace Sys2Proof.Machine

section
variable {r : Nat} {s : State}

theorem refQualified_due (hb : atBoundary s = true) (hst : refState s r = 2) (hq : qualDue s r = true) :
    refQualified r s = qualify r s := if_pos ⟨hb, hst, hq⟩

theorem getN_qualify_state : getN (qualify r s) (Obj.REF_STATE r) = 3 := by
  have hleft : Obj.REF_WTR_LEFT r ≠ Obj.REF_STATE r := by simp
  have hsince : Obj.REF_STATE_SINCE r ≠ Obj.REF_STATE r := by simp
  exact (getN_setN_ne _ _ hleft).trans ((getN_setN_ne _ _ hsince).trans (getN_setJ_same _ _ s))

theorem getN_qualify_left : getN (qualify r s) (Obj.REF_WTR_LEFT r) = getF s (Obj.REF_WTR r) := getN_setN_same _ _ _

theorem refLost_due (hb : atBoundary s = true) (hst : refState s r = 2 ∨ refGood s r = true) (hl : lostDue s r = true) :
    refLost r s = disqualify r (disqCause s r) s := if_pos ⟨hb, hst, hl⟩

theorem refWtrExpiry_over {t : Nat} (hb : atBoundary s = true) (ht : (ref s r).wtrFrom = some t)
    (hover : (ref s r).wtrLoad ≤ (s.now - t) / sT) :
    refWtrExpiry r s = setRef r (fun x => { x with wtrFrom := none }) (setN (Obj.REF_WTR_LEFT r) 0 s) := by
  rw [refWtrExpiry, if_pos hb, countWtr]
  simp only [ht, Nat.sub_eq_zero_of_le hover, if_true, Nat.cast_zero]

theorem disqualHoldExpiry_due (hb : atBoundary s = true) (hst : refState s r = 6) (hq : requalDue s r = true) :
    disqualHoldExpiry r s = requalify r s := if_pos ⟨hb, hst, hq⟩

theorem buildOutTimeout_over (hst : getN s Obj.SWITCH_STATE = 1)
    (hover : s.sel.buildOutFrom + (getF s Obj.BUILD_OUT_MAX).toNat * sT ≤ s.now) :
    buildOutTimeout s = bump Obj.BUILD_OUT_TIMEOUT (setN Obj.SWITCH_STATE 0 s) := if_pos ⟨hst, hover⟩

theorem freqSwitchDone_over (hsw : s.sel.freqSwitch = true) (hover : freqSwitchOver s = true) :
    freqSwitchDone s = setSel (fun x => { x with freqSwitch := false }) s := if_pos ⟨hsw, hover⟩

end

/-! ### Disputes (R144, R145) -/

section
variable {a b : Nat} {s : State} (hab : a < b) (hb : atBoundary s = true)
include hab hb

/-- The comparison that completes `DISPUTE_PERSIST`. -/
theorem disputeBegin_persists (hnot : (disputeOf s a b).begun = false) (hcomp : comparable s a b = true)
    (hnew : ((ref s a).newFreq || (ref s b).newFreq) = true) (ha : freqFresh s a = true) (hb' : freqFresh s b = true)
    (hdis : disagrees s a b = true) (hpersist : (getF s Obj.DISPUTE_PERSIST).toNat ≤ (disputeOf s a b).disagree + 1) :
    disputeBegin a b s = beginDispute a b
      (putDispute { disputeOf s a b with disagree := (disputeOf s a b).disagree + 1, agree := 0 } s) := by
  rw [disputeBegin, if_pos ⟨hb, hab, hnot⟩, compare]
  simp [hnot, hcomp, hnew, ha, hb', hdis, hpersist]

theorem disputeEnd_incomparable (hbegun : (disputeOf s a b).begun = true) (hcomp : comparable s a b = false) :
    disputeEnd a b s = endDispute a b s := by
  rw [disputeEnd, if_pos ⟨hb, hab, hbegun⟩, compare]
  simp [hbegun, hcomp]

theorem disputeUnresolved_voted (hbegun : (disputeOf s a b).begun = true) : disputeUnresolved a b s = voteOn [disputeOf s a b] s := by
  rw [disputeUnresolved, if_pos ⟨hb, hab⟩, vote, if_neg (by simp [hbegun])]

end

/-! ### Learning (R147) -/

/-- A learning point starts a new interval. -/
theorem learnPoint_interval {t : Nat} {s : State} (ht : s.sel.interval = some t) (hover : t + 64 * sT ≤ s.now)
    (hn : s.sel.intCount ≠ 0) :
    (learnPoint s).sel.interval = some s.now ∧ (learnPoint s).sel.intCount = 0 ∧ (learnPoint s).sel.intSum = 0 := by
  have taken : ¬ (s.now < t + 64 * sT ∨ s.sel.intCount = 0) := not_or.2 ⟨Nat.not_lt.2 hover, hn⟩
  have e : ∃ u, learnPoint s = setSel (fun z => { z with
      interval := some s.now, intSum := 0, intCount := 0, uncSum := 0, uncCount := 0, atomSum := 0, atomCount := 0 }) u := by
    unfold learnPoint
    rw [ht]
    exact ⟨_, if_neg taken⟩
  obtain ⟨u, e⟩ := e
  rw [e]
  exact ⟨rfl, rfl, rfl⟩

end Sys2Proof.Machine
end

section
/-! SUPPORT. The events of the atomic oscillator and of ESMC, one rule for each of their cases (R150–R155). -/
namespace Sys2Proof.Machine

section
variable {s : State}

/-- S is stored as it is; `ATOM_STEER_NOW` rounds it. -/
theorem putSteer_atom (v : Int) (s : State) : (putSteer v s).atom = { s.atom with steer := v } :=
  nearFree_leaves (·.atom) (fun _ _ => rfl) v 1000 (setAtom (fun a => { a with steer := v }) s)

theorem nextSteer_written (hmode : getN s Obj.ATOM_STEER_MODE = 2) : nextSteer s = (getN s Obj.ATOM_STEER_SET * 1000, s) := by
  simp [nextSteer, getNat, hmode]

/-- `ATOM_STEER_MODE` 2 without a profile: S is the written value (R150). -/
theorem atomSteer_written (hover : s.atom.lastSteer + sT ≤ s.now) (hmode : getN s Obj.ATOM_STEER_MODE = 2)
    (hprof : atomProfile s = none) :
    (atomSteer s).atom.steer = getN s Obj.ATOM_STEER_SET * 1000 ∧ (atomSteer s).atom.lastSteer = s.now := by
  have hnum (k : Nat) : getN (atomError s).2 k = getN s k := nearFree_leaves (getN · k) (fun _ _ => rfl) _ _ s
  have hnext (f : Atom → Atom) :
      nextSteer (setAtom f (atomError s).2) = (getN s Obj.ATOM_STEER_SET * 1000, setAtom f (atomError s).2) := by
    rw [nextSteer_written (s := setAtom f (atomError s).2) ((hnum _).trans hmode)]
    simp only [setAtom_keeps, hnum]
  simp only [atomSteer, if_neg (Nat.not_lt.2 hover), hprof, hnext, emit_keeps, setN_keeps, putSteer_atom, setAtom_keeps, and_self]

end

section
variable {s : State} {b : List Byte}

theorem atomPoll_due (hprof : atomProfile s = some b) (huart : (fieldU b 8 1).testBit 1 = true) (hlen : fieldU b 42 2 ≠ 0)
    (hready : ∀ t, s.atom.lastPoll = some t → t + fieldU b 26 2 * msT ≤ s.now) :
    atomPoll s = emit (.uart (expandTpl (uartClamp b (uartRaw b s).1) (slice b (fieldU b 40 2) (fieldU b 42 2)) []))
      (setAtom (fun a => { a with lastPoll := some s.now, awaiting := some s.now }) (uartRaw b s).2) := by
  have ready : (match s.atom.lastPoll with | some t => decide (t + fieldU b 26 2 * msT ≤ s.now) | none => true) = true := by
    cases h : s.atom.lastPoll with
    | none => rfl
    | some t => exact decide_eq_true (hready t h)
  rw [atomPoll, hprof]
  refine if_neg ?_
  rintro (hno | hno | hno)
  · exact Bool.noConfusion (hno.symm.trans huart)
  · exact hlen hno
  · exact Bool.noConfusion (hno.symm.trans ready)

theorem atomResponse_hit {bytes : List Byte} (hprof : s.atom.profile = some b)
    (hhit : containsBytes (slice b (fieldU b 44 2) (fieldU b 46 2)) bytes = true) :
    atomResponse bytes s = evalAtomLock (setAtom (fun a => { a with awaiting := none, lastMatch := some s.now }) s) := by
  simp only [atomResponse, hprof, hhit, if_true]

theorem atomTimeout_over {t : Nat} (hwait : s.atom.awaiting = some t) (hprof : s.atom.profile = some b)
    (hover : t + fieldU b 48 2 * msT ≤ s.now) :
    atomTimeout s = bump Obj.ATOM_NO_RESP (setAtom (fun a => { a with awaiting := none }) s) := by
  simp only [atomTimeout, hwait, hprof, if_pos hover]

/-- Without a profile the input's level is the lock state (R152). -/
theorem getN_atomLockChange (high : Bool) (hprof : s.atom.profile = none) :
    getN (atomLockChange high s) Obj.ATOM_LOCK_STATE = if high then 1 else 0 := by
  cases high <;> simp [atomLockChange, evalAtomLock, atomLock, setAtom, hprof]

theorem atomLockChange_atom (high : Bool) (s : State) : (atomLockChange high s).atom = { s.atom with lockHigh := high } := rfl

end

section
variable {p : Nat} {s : State}

theorem esmcRx_valid {ql ecode cascade : Nat} (hp : p < nPorts s.variant) :
    esmcRx p true ql ecode cascade s = esmcEvents (bump (Obj.ESMC_RX p) (setN (Obj.SSM_RX_ECODE p) ecode (setN (Obj.SSM_RX_QL p) ql
      (setEsmc p (fun x => { x with lastRx := some s.now, failed := false, rxCascade := cascade }) s)))) :=
  (if_neg (Nat.not_le.2 hp)).trans (if_neg (by decide))

theorem esmcInfo_due (hp : p < nPorts s.variant) (hup : portUp s p = true)
    (hdue : ∀ t, (esmcOf s p).lastTx = some t → t + sT ≤ s.now) : esmcInfo p s = sendEsmc p false s := by
  have due : (match (esmcOf s p).lastTx with | some t => decide (t + sT ≤ s.now) | none => true) = true := by
    cases h : (esmcOf s p).lastTx with
    | none => rfl
    | some t => exact decide_eq_true (hdue t h)
  have port : esmcPort s p = true := by rw [esmcPort, hup, Bool.and_true]; exact decide_eq_true hp
  exact if_pos ((Bool.and_eq_true _ _).mpr ⟨port, due⟩)

theorem getN_sendEsmc_ql (event : Bool) : getN (sendEsmc p event s) (Obj.SSM_TX_QL p) = (txQl s p).1 := by
  have hne : Obj.ESMC_TX p ≠ Obj.SSM_TX_QL p := by simp
  exact (getN_setN_ne _ _ hne).trans (getN_setN_same _ _ _)

theorem sendEsmc_out (event : Bool) : (sendEsmc p event s).out = .esmc p (txQl s p).1 (txQl s p).2.1 event :: s.out := rfl

theorem esmcFailed_over (hp : p < nPorts s.variant) (hnot : (esmcOf s p).failed = false)
    (hover : (esmcOf s p).lastRx.getD s.power.started + 5 * sT ≤ s.now) :
    esmcFailed p s = esmcEvents (bump (Obj.QL_FAILED p) (setEsmc p (fun x => { x with failed := true }) s)) :=
  if_pos ⟨hp, hnot, hover⟩

end

end Sys2Proof.Machine
end

section
/-! SUPPORT. The events of the synthesis block, one rule for each of their cases (R156–R182). -/
namespace Sys2Proof.Machine

/-! ### PLLs and clock outputs -/

theorem getN_evalClk_apll (c n : Nat) (s : State) : getN (evalClk c s) (Obj.APLL_STATE n) = getN s (Obj.APLL_STATE n) := by
  have hstate : Obj.CLK_STATE c ≠ Obj.APLL_STATE n := by simp only [Obj.CLK_STATE, Obj.APLL_STATE, ne_eq]; omega
  have hcount : Obj.CLK_SQUELCHES c ≠ Obj.APLL_STATE n := by simp only [Obj.CLK_SQUELCHES, Obj.APLL_STATE, ne_eq]; omega
  unfold evalClk
  split
  · exact getN_setN_ne _ _ hstate
  · split
    · split
      · rfl
      · exact (getN_setN_ne _ _ hcount).trans (getN_setN_ne _ _ hstate)
    · exact getN_setN_ne _ _ hstate

theorem getN_evalClks_apll (n : Nat) (s : State) : getN (evalClks s) (Obj.APLL_STATE n) = getN s (Obj.APLL_STATE n) :=
  foldl_leaves (getN · (Obj.APLL_STATE n)) (fun a c => getN_evalClk_apll c n a) _ s

theorem getN_setApllState (n : Nat) (v : Int) (s : State) : getN (setApllState n v s) (Obj.APLL_STATE n) = v := getN_setN_same _ _ _

/-- The seventh step closes the loop (R161). -/
theorem getN_searchStep_last {n outer : Nat} {higher : Bool} {s : State} (hst : getN s (Obj.APLL_STATE n) = 0)
    (hsteps : 6 ≤ (apll s n).steps) : getN (searchStep n higher outer s) (Obj.APLL_STATE n) = 1 := by
  rw [searchStep]
  simp only [hst, Nat.not_lt.2 hsteps, ne_eq, not_true_eq_false, if_false, getN_evalClks_apll, getN_setApllState]

/-- The window that completes `APLL_LOCK_COUNT` (R161). -/
theorem getN_lockWindow_good {n diff : Nat} {s : State} (hst : getN s (Obj.APLL_STATE n) = 1) (hdiff : diff ≤ 2)
    (hgood : getNat s (Obj.APLL_LOCK_COUNT n) ≤ (apll s n).good + 1) : getN (lockWindow n diff s) (Obj.APLL_STATE n) = 2 := by
  have hnat : getNat s (Obj.APLL_STATE n) = 1 := by rw [getNat, hst]; rfl
  simp only [lockWindow, hnat, if_pos hdiff, if_pos hgood, getN_evalClks_apll, getN_setLive, getN_setApllState]

theorem evalClk_runs {c : Nat} {s : State} (hen : (clkOut s c).enabled = true) (hsq : squelched s c = false) :
    evalClk c s = setN (Obj.CLK_STATE c) 1 s := by
  simp [evalClk, hen, hsq]

/-! ### Pulses -/

theorem commitPg_generator {g d : Nat} {rest : List Nat} {s : State} (hdue : (pg s g).due = d :: rest) (hc : commitDue s d = true)
    (hmode : getN s (Obj.PG_MODE g) ≠ 1) :
    commitPg g s = pgPublish g (countSquelch (makeEdge s (pgRouteOf s g) (getN s (Obj.PG_POLARITY g)) (getNat s (Obj.PG_WIDTH g)) d)
      (setPg g (fun y => { y with
        edges := y.edges ++ [makeEdge s (pgRouteOf s g) (getN s (Obj.PG_POLARITY g)) (getNat s (Obj.PG_WIDTH g)) d],
        due := rest }) s)) := by
  rw [commitPg]
  simp only [hdue, hc, Bool.true_eq_false, if_false, if_neg hmode]

/-- An edge without a route is described to no output (R178). -/
theorem emitPg_unrouted {g m : Nat} {e : Edge} {rest : List Edge} {s : State} (hedges : (pg s g).edges = e :: rest) (hat : e.atI ≤ m)
    (hroute : e.route = none) (hshown : edgeHidden s e = false) (hmode : getN s (Obj.PG_MODE g) ≠ 1) :
    emitPg g m s = bump (Obj.PG_EMITTED g) (setPg g (fun y => { y with edges := rest }) s) := by
  have hkey : Obj.PG_EMITTED g ≠ Obj.PG_MODE g := by simp
  have hmode' : getN (bump (Obj.PG_EMITTED g) (setPg g (fun y => { y with edges := rest }) s)) (Obj.PG_MODE g) ≠ 1 := by
    rwa [bump_eq, getN_setN_ne _ _ hkey]
  rw [emitPg, hedges]
  simp only [if_neg (Nat.not_lt.2 hat), hshown, Bool.false_eq_true, if_false, hroute]
  exact if_neg (fun h => hmode' h.1)

/-- The window in which the hold runs out (R175). -/
theorem getN_alignMiss_lost {g t : Nat} {s : State} (hanchor : (pg s g).anchor = some t)
    (hst : getN s (Obj.PG_STATE g) = 2 ∨ getN s (Obj.PG_STATE g) = 3)
    (hover : 8 * of96 t + 9 * of96 (getNat s (Obj.PG_PERIOD g)) < 8 * s.ts.mts)
    (hhold : getNat s (Obj.PG_ALIGN_HOLD g) ≤ (pg s g).misses + 1) : getN (alignMiss g s) (Obj.PG_STATE g) = 5 := by
  rw [alignMiss]
  simp only [hanchor, if_pos (And.intro hst hover), if_pos hhold, getN_setN_same]

/-! ### Time of day -/

/-- An FNTD output sends the sentence of the oldest described instant (R178, R179). -/
theorem todStart_fntd_out {t : Nat} {x : Sentence} {rest : List Sentence} {s : State} (hdue : (tod s t).due = x :: rest)
    (hstart : of96 x.edge + getNat s (Obj.TOD_DELAY t) * us48 ≤ s.ts.mts) (hloud : silentOutputs s = false)
    (hthere : outputsAbsent s = false) (hfree : (tod s t).busyUntil ≤ s.now) (hfmt : getNat s (Obj.TOD_FORMAT t) = 0) :
    (todStart t s).out = .sentence t (fntdBytes x (tod s t).seq) :: s.out := by
  have hsome : (fntdBytes x (tod s t).seq).isEmpty = false := rfl
  rw [todStart]
  simp only [hdue, if_neg (Nat.not_lt.2 hstart), hloud, hthere, Bool.false_eq_true, or_self, if_false, if_neg (Nat.not_lt.2 hfree),
    hfmt, hsome, Nat.zero_ne_one, true_or, if_true, List.isEmpty_nil, List.append_nil, Nat.add_zero, Nat.one_ne_zero, emit_keeps]
  rfl

/-- A sentence of the second of the one pulse that waits (R130, R180). -/
theorem todinRx_matched {t sec ago : Nat} {x : TodSentence} {p : PulseWait} {m : Meas} {s : State} (hsec : todSecond s t x = some sec)
    (hwait : s.pulseWait = [p]) (ht : p.todin = t) (hsaid : p.said = none) (hafter : p.tick ≤ s.now - ago)
    (hwin : s.now - ago ≤ p.tick + getNat s (Obj.TODIN_WINDOW t) * msT) (hm : p.meas = some m) :
    todinRx t x ago s = queueMeas (saidMeas m p.sec sec) (bump (Obj.TODIN_GOOD t) (setN (Obj.TODIN_LAST_SEC t) sec
      { s with pulseWait := [{ p with said := some sec, meas := none }] })) := by
  have hfind : ([p].reverse).find? (fun p => p.todin = t && p.said.isNone &&
      decide (p.tick ≤ s.now - ago ∧ s.now - ago ≤ p.tick + getNat s (Obj.TODIN_WINDOW t) * msT)) = some p := by
    have inWindow : decide (p.tick ≤ s.now - ago ∧ s.now - ago ≤ p.tick + getNat s (Obj.TODIN_WINDOW t) * msT) = true :=
      decide_eq_true ⟨hafter, hwin⟩
    simp only [List.reverse_singleton, List.find?_singleton, ht, hsaid, inWindow, decide_true, Option.isNone_none, Bool.and_self, if_true]
  rw [todinRx]
  simp only [hsec, hwait, hfind, hm, List.map_cons, List.map_nil, if_true]

end Sys2Proof.Machine
end

section
/-! SUPPORT. The events of the receiver, one rule for each of their cases (R183–R202). -/
namespace Sys2Proof.Machine

theorem acts_of_ifGnss {c : Instr} {f : State → State} {s u : State} (hc : exec c s = finish (ifGnss f s)) (hg : gnssRuns s = true)
    (h : f s = u) : acts c s u := by
  rw [acts, hc, ifGnss, if_pos hg, h, finish]

theorem nextWith_of_ifGnss {c : Instr} {f : State → State} {s u : State} {P : State → Prop} (hc : exec c s = finish (ifGnss f s))
    (hg : gnssRuns s = true) (h : f s = u) (hP : P (settle u)) : nextWith (exec c s) P :=
  nextWith_finish (x := u) (by rw [hc, ifGnss, if_pos hg, h]) hP

/-! ### The timing solution -/

/-- What marks the seconds of the timing engine: those it has taken, and the sequence of its messages. -/
def timing (s : State) : List (Nat × Nat) × Int := (s.gnss.solved, getN s Obj.GNSS_TM_SEQ)

theorem timing_setN {k : Nat} (hk : k ≠ Obj.GNSS_TM_SEQ) (v : Int) (s : State) : timing (setN k v s) = timing s :=
  congrArg (Prod.mk s.gnss.solved) (getN_setN_ne s v hk)

theorem timing_divFree (n : Int) (d : Nat) (s : State) : timing (divFree n d s).2 = timing s :=
  divFree_leaves timing (fun _ _ => rfl) n d s

theorem timing_nearFree (n : Int) (d : Nat) (s : State) : timing (nearFree n d s).2 = timing s :=
  nearFree_leaves timing (fun _ _ => rfl) n d s

theorem timing_raise (code base : Nat) (i : FaultInfo) (s : State) : timing (raise code base i s) = timing s := by
  have hseq : getN (raise code base i s) Obj.GNSS_TM_SEQ = getN s Obj.GNSS_TM_SEQ := getN_raise code base i s (by decide)
  simp only [timing, raise_keeps, hseq]

theorem timing_spoofCheck (x : TimingInput) (s : State) : timing (spoofCheck x s) = timing s := by
  unfold spoofCheck
  dsimp only
  split
  · exact timing_setN (by decide) _ _
  · rfl

theorem timing_isbInput (q : Nat) (v : Int) (s : State) : timing (isbInput q v s) = timing s := by
  have hval : Obj.ISB_SOLVED q ≠ Obj.GNSS_TM_SEQ := by simp only [Obj.ISB_SOLVED, Obj.GNSS_TM_SEQ, ne_eq]; omega
  have hunc : Obj.ISB_SOLVED_UNC q ≠ Obj.GNSS_TM_SEQ := by simp only [Obj.ISB_SOLVED_UNC, Obj.GNSS_TM_SEQ, ne_eq]; omega
  have hvalid : Obj.ISB_SOLVED_VALID q ≠ Obj.GNSS_TM_SEQ := by simp only [Obj.ISB_SOLVED_VALID, Obj.GNSS_TM_SEQ, ne_eq]; omega
  unfold isbInput
  dsimp only
  rw [timing_setN hvalid, timing_setN hunc, timing_setN hval, timing_nearFree]
  exact timing_divFree _ _ s

theorem timing_isbInputs (l : List SysEst) (s : State) : timing (isbInputs l s) = timing s := by
  unfold isbInputs
  dsimp only
  split
  · rfl
  · refine foldl_leaves timing (fun a e => ?_) _ s
    split
    · rfl
    · exact (timing_isbInput _ _ _).trans (timing_divFree _ _ a)

theorem timing_excludeFailing (v : List (Nat × Bool)) (s : State) : timing (excludeFailing v s) = timing s := by
  unfold excludeFailing
  split
  · refine foldl_leaves timing (fun a p => ?_) v s
    split
    · rfl
    · exact (timing_raise _ _ _ _).trans (timing_setN (by decide) _ _)
  · rfl

theorem timing_planPps (sec : Nat) (solved : Bool) (s : State) : timing (planPps sec solved s).2 = timing s := by
  unfold planPps ppsEdge
  exact (timing_nearFree _ _ _).trans (timing_divFree _ _ s)

/-- Every message takes the next number (R194). -/
theorem timing_publishFntm (sec : Nat) (sol : Option (Int × Nat × Nat)) (perSys : List Nat) (dual : Nat) (s : State) :
    timing (publishFntm sec sol perSys dual s) = (s.gnss.solved, (getN s Obj.GNSS_TM_SEQ + 1) % 4294967296) := by
  have hsolved := congrArg Prod.fst (timing_planPps sec sol.isSome s)
  exact Prod.ext hsolved ((getN_setN_ne _ _ (by decide)).trans (getN_setN_same _ _ _))

theorem timing_setFreq (r : Nat) (f : Int) (u : Nat) (s : State) : timing (setFreq r f u s) = timing s := by
  have hfreq : Obj.REF_FREQ r ≠ Obj.GNSS_TM_SEQ := by simp only [Obj.REF_FREQ, Obj.GNSS_TM_SEQ, ne_eq]; omega
  have hunc : Obj.REF_FREQ_UNC r ≠ Obj.GNSS_TM_SEQ := by simp only [Obj.REF_FREQ_UNC, Obj.GNSS_TM_SEQ, ne_eq]; omega
  have hkept : timing (setFreq r f u s) = timing (setN (Obj.REF_FREQ_UNC r) u (setN (Obj.REF_FREQ r) f s)) := rfl
  rw [hkept, timing_setN hunc, timing_setN hfreq]

/-- The next number of the message, and the same seconds. -/
theorem timing_publishFntm_of_timing_eq {sec : Nat} {sol : Option (Int × Nat × Nat)} {perSys : List Nat} {dual : Nat} {s t : State}
    (h : timing t = timing s) :
    timing (publishFntm sec sol perSys dual t) = (s.gnss.solved, (getN s Obj.GNSS_TM_SEQ + 1) % 4294967296) := by
  obtain ⟨hsolved, hseq⟩ := Prod.mk.inj h
  rw [timing_publishFntm, hsolved, hseq]

theorem timing_noSolution (sec : Nat) (perSys : List Nat) (s : State) :
    timing (noSolution sec perSys s) = (s.gnss.solved, (getN s Obj.GNSS_TM_SEQ + 1) % 4294967296) :=
  timing_publishFntm_of_timing_eq (timing_setN (k := Obj.GNSS_SOL_UNC) (by decide) _ s)

theorem timing_handOnBy (id : Nat) (s : State) : timing (handOnBy id s) = timing s := rfl

theorem timing_queueMeas (m : Meas) (s : State) : timing (queueMeas m s) = timing s := rfl

/-- A solution is published with the message, and handed on to the references (R188–R192). -/
theorem timing_publishSolution (sec : Nat) (l : List SysEst) (perSys : List Nat) (sol : GnssSol) (s : State) :
    timing (publishSolution sec l perSys sol s) = (s.gnss.solved, (getN s Obj.GNSS_TM_SEQ + 1) % 4294967296) := by
  have hx (x : Int) : timing (gnssX x s).2 = timing s := timing_divFree _ _ s
  have hrate (u : State) : timing (mtsRate u).2 = timing u := timing_nearFree _ _ u
  unfold publishSolution
  extract_lets n fix dual u xx rate f s3 s4 s5 s6
  have h3 : timing s3 = timing s :=
    (timing_setFreq _ _ _ _).trans ((timing_nearFree _ _ _).trans ((hrate xx.2).trans (hx _)))
  have h6 : timing s6 = timing s5 := (timing_setN (by decide) _ _).trans (timing_setN (by decide) _ s5)
  have h5 : timing s5 = timing s3 := rfl
  rw [timing_handOnBy, timing_queueMeas]
  exact timing_publishFntm_of_timing_eq (h6.trans (h5.trans h3))

theorem wasDone_markDone (n : Nat) (l : List (Nat × Nat)) : wasDone n (markDone n l) = true := by
  unfold markDone
  split
  · assumption
  · split
    · split
      · rename_i h
        simp [wasDone, h.1]
      · simp [wasDone]
    · simp [wasDone]

/-- A second that is not over is taken, and its message goes out, with or without a solution (R188–R191, R194). -/
theorem timing_timingSolution {x : TimingInput} {s : State} (h : secondOver s (mtsSec s) = false) :
    timing (timingSolution x s) = (markDone (mtsSec s) s.gnss.solved, (getN s Obj.GNSS_TM_SEQ + 1) % 4294967296) := by
  unfold timingSolution
  extract_lets sec s1 l0 s2 l perSys s3
  have h1 : timing s1 = (markDone (mtsSec s) s.gnss.solved, getN s Obj.GNSS_TM_SEQ) :=
    (timing_isbInputs _ _).trans (timing_spoofCheck _ _)
  have h2 : timing s2 = timing s1 := by
    simp only [s2]
    split
    · exact timing_excludeFailing _ _
    · rfl
  have h3 : timing s3 = timing s2 := (timing_setN (by decide) _ _).trans (timing_setN (by decide) _ _)
  obtain ⟨hsolved, hseq⟩ := Prod.mk.inj ((h3.trans h2).trans h1)
  rw [if_neg (by simp [sec, h])]
  split
  · rw [timing_noSolution, hsolved, hseq]
  · rw [timing_publishSolution, hsolved, hseq]

/-! ### The other events -/

section
variable {s : State}

/-- An edge that is not squelched leaves, and its instant is published (R192). -/
theorem gnssPpsEdge_shown {t : Nat} {r : List (Nat × Bool)} (hnext : s.gnss.ppsNext = (t, false) :: r) (ht : t ≤ s.now)
    (hen : getN s Obj.GNSSPPS_ENABLE ≠ 0) (hthere : outputsAbsent s = false) :
    ∃ o, gnssPpsEdge s = emit o (setN Obj.GNSSPPS_LAST_EDGE
      (t96Of (s.ts.mts - (s.now - t) * s.ts.incr + getNat s Obj.GNSSPPS_PATH_DELAY * ns48 / 1000) : Nat)
      (setGnss (fun g => { g with ppsNext := r }) s)) := by
  have hshown : ¬ (false = true ∨ getN s Obj.GNSSPPS_ENABLE = 0 ∨ outputsAbsent s = true) := by simp [hen, hthere]
  rw [gnssPpsEdge, hnext]
  exact ⟨_, (if_neg (Nat.not_lt.2 ht)).trans (if_neg hshown)⟩

theorem isbTimeout_over {q : Nat} (hvalid : getN s (Obj.ISB_SOLVED_VALID q) = 1) (hover : (isbOf s q).lastInput + 600 * sT ≤ s.now) :
    isbTimeout q s = setN (Obj.ISB_SOLVED_UNC q) 4294967295 (setN (Obj.ISB_SOLVED_VALID q) 0
      (setGnss (fun g => { g with isb := modAt q (fun _ => {}) g.isb }) s)) := if_pos ⟨hvalid, hover⟩

/-- A current below 3 mA is OPEN, one up to the limit OK (R197). -/
theorem antSample_noShort {cur us : Nat} (hon : getN s Obj.GNSS_ANT_SUPPLY ≠ 0) (hcut : s.gnss.antCut = none)
    (hcur : cur ≤ getNat s Obj.GNSS_ANT_I_LIMIT * 10) :
    antSample cur us s = setN Obj.GNSS_ANT_STATE (if cur < 30 then 1 else 2) (setN Obj.GNSS_ANT_CURRENT (cur % 65536 : Nat) s) := by
  have hshort : ¬ (getNat s Obj.GNSS_ANT_I_LIMIT * 10 < cur ∧ 100 ≤ us) := fun h => Nat.not_lt.2 hcur h.1
  simp only [antSample, if_neg hon, hcut, Option.isSome_none, Bool.false_eq_true, if_false, if_neg hshort, if_pos hcur]
  split <;> rfl

theorem antRetry_over {t : Nat} (hcut : s.gnss.antCut = some t) (hover : t + 10 * sT ≤ s.now) :
    antRetry s = setGnss (fun g => { g with antCut := none }) s := by
  simp only [antRetry, hcut, if_pos hover]

/-- Noise below the threshold ends JAM (R199). -/
theorem noiseMeasure_quiet {l1 l5 : Int} (h1 : l1 ≤ getN s Obj.GNSS_JAM_THRESHOLD) (h5 : l5 ≤ getN s Obj.GNSS_JAM_THRESHOLD) :
    noiseMeasure l1 l5 s = setGnss (fun g => { g with jam := false })
      (setN Obj.GNSS_JN_L5 (clampInt (-32768) 32767 l5) (setN Obj.GNSS_JN_L1 (clampInt (-32768) 32767 l1) s)) := by
  have hjam : decide (getN s Obj.GNSS_JAM_THRESHOLD < l1 ∨ getN s Obj.GNSS_JAM_THRESHOLD < l5) = false :=
    decide_eq_false (not_or.2 ⟨not_lt.2 h1, not_lt.2 h5⟩)
  simp only [noiseMeasure, hjam, Bool.false_and, Bool.false_eq_true, if_false]

theorem nextSlot_lt {k : Nat} (h : nextSlot s = some k) : k < 8 := by
  obtain ⟨i, -, rfl⟩ := List.mem_map.1 (List.mem_of_find?_eq_some h)
  exact Nat.mod_lt _ (by decide)

/-- The capture begins in the slot that is next (R201). -/
theorem snapStart_begins {t k : Nat} (harmed : s.gnss.snap.armed = some t) (ht : t ≤ s.ts.mts) (hk : nextSlot s = some k) :
    ∃ x : Snap, x.slot = some k ∧ snapStart s = setN (Obj.SNAP_STATE k) 1 (setGnss (fun g => { g with snap := x }) s) := by
  rw [snapStart, harmed]
  simp only [if_neg (Nat.not_lt.2 ht), hk]
  exact ⟨_, rfl, rfl⟩

/-- The capture is complete: its slot holds the snapshot (R202). -/
theorem snapComplete_over {data : List Byte} {a1 a5 o1 o5 : Nat} {rate : Int} {k : Nat} (hslot : s.gnss.snap.slot = some k)
    (hover : s.gnss.snap.began + s.gnss.snap.len * msT ≤ s.now) :
    ∃ b, snapComplete data a1 a5 o1 o5 rate s = setB (Obj.SNAP_DATA k) b
      (setN Obj.GNSS_SNAP_LAST k (setN (Obj.SNAP_STATE k) 2 (setGnss (fun g => { g with snap := {} }) s))) := by
  rw [snapComplete, hslot]
  exact ⟨_, if_neg (Nat.not_lt.2 hover)⟩

end

end Sys2Proof.Machine
end

section
/-! SUPPORT. The events of the ports, one rule for each of their cases (R205, R213–R236). -/
namespace Sys2Proof.Machine

section
variable {p : Nat} {s : State}

theorem finishTx_idle (h : (port s p).tx = none) : finishTx p s = s := by
  rw [finishTx, h]

/-- The management port keeps the frame whole: no stamp, and no row (R213, R230). -/
theorem headArrival_management {f : Frame} {x : PcsStamp} (hup : portUp s 16 = true) (hrx : (port s 16).rx = none)
    (htx : (port s 16).tx = none) : headArrival 16 f x s =
      setPort 16 (fun y => { y with rx := some { frame := f, maxFrame := getNat s Obj.MAX_FRAME, ts := 0, bound := unbounded80 } }) s := by
  rw [headArrival, finishTx_idle htx, if_neg (by simp [hup, hrx])]
  exact if_pos rfl

/-- A good frame that the core does not hold goes to its engine (R213, R231). -/
theorem rxEnd_dispatched {r : RxCur} {e : RxEnd} (hrx : (port s p).rx = some r) (hcore : r.core = none) (hok : ingress s p r e = .ok)
    (hp : p ≠ 16) : rxEnd p e s = dispatch p r e (bumpBy (Obj.RX_OCTETS p) e.len (bump (Obj.RX_OK p)
      (bumpBy (Obj.SYMBOL_ERR p) e.symbols (setPort p (fun x => { x with rx := none }) s)))) := by
  rw [rxEnd, hrx]
  simp only [hok, if_neg hp, hcore]

theorem xoffRepeat_due {o : XoffState} (ho : (port s p).xoff = some o) (hdue : xoffDue s p = true)
    (hover : o.sent * 5000 + quantaPs s p 32768 ≤ psNow s) : xoffRepeat p s = sendXoff p s := by
  rw [xoffRepeat, ho]
  exact (if_neg (by simp [hdue])).trans (if_pos hover)

theorem txStart_engine {x : PcsStamp} {e : EngFrame} (htx : (port s p).tx = none) (hup : portUp (takeNet p s) p = true)
    (hwire : wireReady (takeNet p s) p = true) (hctrl : (port (takeNet p s) p).ctrl = [])
    (hhead : nextHead (takeNet p s) p = some (.eng e)) (hfree : guarded (takeNet p s) p (engineTag (takeNet p s) p e).2 = false) :
    txStart p x s = startEngine p e x (takeNet p s) := by
  rw [txStart, finishTx_idle htx]
  simp only [hup, hwire, Bool.true_eq_false, or_self, if_false, hctrl, startHead, hhead, hfree, Bool.false_eq_true]

/-- A cut-through copy whose next byte is not written when the line needs it (R225, R240). -/
theorem underrun_late {t : TxCur} {i : Nat} {f : CoreFrame} {c : Copy} (htx : (port s p).tx = some t) (hkind : t.kind = .copy i)
    (hf : coreFrame s i = some f) (hcut : t.cut = true) (hst : t.stomped = false) (hc : c ∈ s.sw.copies) (hframe : c.frame = i)
    (hout : c.out = p) (hstarted : c.started = true) (hlate : f.written ≤ c.read) (hmore : c.read < f.cells.length) :
    underrun p s = swDerive (setRung p (min 4 (getNat s (Obj.CT_RUNG p) + 1)) (stompTx p (bump (Obj.UNDERRUN p) s))) := by
  have late : s.sw.copies.any (fun c => c.frame = i && c.out = p && c.started && decide (f.written ≤ c.read ∧ c.read < f.cells.length)) =
      true := List.any_eq_true.2 ⟨c, hc, by simp [hframe, hout, hstarted, hlate, hmore]⟩
  rw [underrun, htx]
  simp only [hkind, hf, hcut, hst, late, Bool.not_false, Bool.and_self, if_true]

theorem rungDown_over (h : 65536 ≤ getNat s (Obj.CT_CLEAN_RUN p)) :
    rungDown p s = setRung p (getNat s (Obj.CT_RUNG p) - 1) s := if_pos h

theorem getN_setRung_rung (r : Nat) : getN (setRung p r s) (Obj.CT_RUNG p) = r :=
  (getN_setN_ne _ _ (by simp)).trans (getN_setJ_same _ _ s)

theorem getN_setRung_clean (r : Nat) : getN (setRung p r s) (Obj.CT_CLEAN_RUN p) = 0 := getN_setN_same _ _ _

theorem getN_linkUp {speed : Nat} {full : Bool} (hlane : (port s p).lane = true) (hmode : (port s p).mode ≠ 0)
    (hshut : (port s p).shut = false) (hdown : portUp s p = false) (hcopper : (port s p).mode = 2 → speed = 1000 ∧ full = true) :
    getN (linkUp p speed full s) (Obj.PORT_LINK p) = 1 := by
  have hlead : Obj.LEAD_NOW p ≠ Obj.PORT_LINK p := by simp only [Obj.LEAD_NOW, Obj.PORT_LINK, ne_eq]; omega
  have hmatch : ¬ ((port s p).mode = 2 ∧ (speed ≠ 1000 ∨ full = false)) := by
    rintro ⟨h2, h⟩
    obtain ⟨rfl, rfl⟩ := hcopper h2
    simp at h
  have hnot : ¬ ((port s p).lane = false ∨ (port s p).mode = 0 ∨ (port s p).shut = true ∨ portUp s p = true ∨
      ((port s p).mode = 2 ∧ (speed ≠ 1000 ∨ full = false))) := by
    simp only [hlane, hmode, hshut, hdown, hmatch, Bool.true_eq_false, Bool.false_eq_true, or_self, not_false_eq_true]
  have hlink (g : Port → Port) : getN (setPort p g (setN (Obj.PORT_LINK p) 1 s)) (Obj.PORT_LINK p) = 1 := getN_setN_same s _ 1
  rw [linkUp]
  simp only [if_neg hnot]
  split
  · rw [getN_setN_ne _ _ hlead, hlink]
  · exact hlink _

end

end Sys2Proof.Machine
end

section
/-! SUPPORT. The events of the switch and of the Sill, one rule for each of their cases (R238–R247, R258–R268). -/
namespace Sys2Proof.Machine

/-! ### The switch -/

/-- What the writes of the derived counts leave, their update leaves. -/
theorem swDerive_leaves {β : Type} (g : State → β) (hfree : ∀ v a, g (setN Obj.SW_SHARED_FREE v a) = g a)
    (hshared : ∀ p v a, g (setN (Obj.SW_SHARED_HELD p) v a) = g a) (hreserve : ∀ p v a, g (setN (Obj.SW_RESERVE_HELD p) v a) = g a)
    (hlog : ∀ p v a, g (setN (Obj.SW_REPL_BACKLOG p) v a) = g a) (s : State) : g (swDerive s) = g s := by
  unfold swDerive
  rw [foldl_leaves g (fun a p => ?_), hfree]
  rw [hlog, hreserve, hshared]

theorem swDerive_sw (s : State) : (swDerive s).sw = s.sw :=
  swDerive_leaves (·.sw) (fun _ _ => rfl) (fun _ _ _ => rfl) (fun _ _ _ => rfl) (fun _ _ _ => rfl) s

theorem evalXoff_sw (p : Nat) (s : State) : (evalXoff p s).sw = s.sw := by
  unfold evalXoff
  split
  · split <;> rfl
  · split <;> rfl

section
variable {s : State}

/-- The first four outputs of the oldest frame get their copies. -/
theorem replicate_copies {p i : Nat} {r : List Nat} {f : CoreFrame} (hlog : s.sw.backlog = i :: r) (hf : coreFrame s i = some f)
    (hport : f.port = p) : (replicate p s).sw.copies = s.sw.copies ++
      (f.dests.take 4).map (fun d => { frame := i, out := d.port, inp := p, cls := f.cls, action := d.action, tick := s.now }) := by
  have hid : f.id = i := by simpa using List.find?_some hf
  have here : s.sw.frames.any (fun f => f.id = i && f.port = p) = true :=
    List.any_eq_true.2 ⟨f, List.mem_of_find?_eq_some hf, by simp [hid, hport]⟩
  have oldest : s.sw.backlog.find? (fun i => s.sw.frames.any (fun f => f.id = i && f.port = p)) = some i := by
    rw [hlog]
    exact List.find?_cons_of_pos here
  rw [replicate, oldest]
  simp only [hf, swDerive_sw, evalXoff_sw]
  rfl

theorem fdbAge_over {mac vid : Nat} {e : FdbEntry} (he : fdbEntry s mac vid = some e) (hst : e.static = false)
    (hage : getNat s Obj.FDB_AGE_TIME ≠ 0) (hover : e.hit + getNat s Obj.FDB_AGE_TIME * sT ≤ s.now) :
    fdbAge mac vid s = fdbCounts (setSw (fun w => { w with fdb := w.fdb.filter (· ≠ e) }) s) := by
  rw [fdbAge, he]
  exact if_pos ⟨hst, hage, hover⟩

section
variable {vlan : Bool} {w : TableWrite} {r : List TableWrite} {t g : Nat} (hw : tableWrites s vlan = w :: r) (hc : w.commit = some (t, g))
include hw hc

theorem tableReturn_clear (hold : s.sw.frames.any (oldFrame vlan g) = false) : tableReturn vlan s = returnTable vlan s := by
  rw [tableReturn, hw]
  simp only [hc, hold, Bool.false_eq_true, if_false]

end

theorem tableWrites_setTableWrites (vlan : Bool) (l : List TableWrite) (s : State) : tableWrites (setTableWrites vlan l s) vlan = l := by
  cases vlan <;> rfl

theorem tableWrites_answerLate (vlan : Bool) (q : Req) (op : ReqOp) (k st : Nat) (old new d : List Byte) (s : State) :
    tableWrites (answerLate q op k st old new d s) vlan = tableWrites s vlan := by
  simp only [tableWrites, answerLate, answer_keeps, setSession_keeps]

/-- The write that is answered leaves the queue, and the next one is committed in its place (R247). -/
theorem returnTable_length {vlan : Bool} {w : TableWrite} {r : List TableWrite} (hw : tableWrites s vlan = w :: r) :
    (tableWrites (returnTable vlan s) vlan).length = r.length := by
  rw [returnTable, hw]
  cases r with
  | nil => simp only [tableWrites_answerLate, tableWrites_setTableWrites]
  | cons n t => simp only [tableWrites_setTableWrites, List.length_cons]

/-- At the timeout the oldest write is answered, whatever remains of the old tables. -/
theorem tableTimeout_length {vlan : Bool} {w : TableWrite} {r : List TableWrite} {t g : Nat} (hw : tableWrites s vlan = w :: r)
    (hc : w.commit = some (t, g)) (hover : t + getNat s Obj.SW_GEN_TIMEOUT * msT ≤ s.now) :
    (tableWrites (tableTimeout vlan s) vlan).length = r.length := by
  rw [tableTimeout, hw]
  simp only [hc, if_neg (Nat.not_lt.2 hover)]
  exact returnTable_length (tableWrites_setTableWrites _ _ _)

/-! ### The Sill -/

variable {p : Nat}

theorem readyDeadline_reached {n : Nat} {q : Slot} (hq : (port s p).slots.find? (fun q => q.num = n) = some q) (hst : q.started = false)
    (hat : reached s (slotAt q (500 * ns48)) = true) : readyDeadline p n s = testSlot p q true s := by
  rw [readyDeadline, hq]
  exact if_pos ⟨hst, hat⟩

theorem preambleStart_inTime {n : Nat} {q : Slot} (htx : (port s p).tx = none) (hq : (port s p).slots.find? (fun q => q.num = n) = some q)
    (hst : q.started = false) (hat : reached s (slotAt q (7 * oct48 s p)) = true) (hlate : lateReason s p q q.ready.isNone = none) :
    preambleStart p n s = startTx p q.sf.queue q.sf.len (.launch n) false false (q.sf.launch.getD q.sf.frame) (t96Of (q.l + oct48 s p))
      (setPort p (fun x => { x with slots := x.slots.map (fun y => if y.num = n then { y with started := true } else y) }) s) := by
  rw [preambleStart, finishTx_idle htx]
  simp only [hq, hst, hat, hlate, Bool.false_eq_true, Bool.true_eq_false, or_self, if_false]

theorem sillLaunch_reached {n : Nat} {q : Slot} {x : PcsStamp} (hq : (port s p).slots.find? (fun q => q.num = n) = some q)
    (hst : q.started = true) (hat : reached s q.l = true) :
    sillLaunch p n x s = serveWait 64 p (finishTx p (launchCheck p q (rawStamp p x true s).1 (rawStamp p x true s).2)) := by
  rw [sillLaunch, hq]
  exact if_pos ⟨hst, hat⟩

/-- A window of launches that were all in time, with slack (R264). -/
theorem getN_leadWindow_shorter (hover : (port s p).winFrom + 10 * msT ≤ s.now) (hadapt : getN s (Obj.LEAD_ADAPT p) = 1)
    (hsome : 0 < (port s p).winLaunched) (hlate : (port s p).winLate = false) (hslack : 2000 ≤ (port s p).winSlack) :
    getN (leadWindow p s) (Obj.LEAD_NOW p) = max (getF s (Obj.LEAD_MIN p)) (getN s (Obj.LEAD_NOW p) - 250) := by
  rw [leadWindow]
  simp only [if_neg (Nat.not_lt.2 hover), if_pos (And.intro hadapt (And.intro hsome (And.intro hlate hslack))), getN_setN_same]

end

end Sys2Proof.Machine
end

section
/-! SUPPORT. What is left of a port's link once its owner has closed it: no later act of the close writes `PORT_LINK` (R229). -/
namespace Sys2Proof.Machine

/-- The link of a port, as its object says it. -/
def link (p : Fin 17) (s : State) : Int := getN s (Obj.PORT_LINK p)

section
variable (p : Fin 17) (q : Nat) (s : State)

/-! ### Operations of the state -/

/-- The objects of the links end in 3, and lie between `PORT_LINK` 0 and `PORT_LINK` 16. -/
@[simp] theorem link_setN {k : Nat} (hk : k % 256 ≠ 3 ∨ k < 0x501003 ∨ 0x502003 < k) (v : Int) : link p (setN k v s) = link p s :=
  getN_setN_ne s v (by simp only [Obj.PORT_LINK, ne_eq]; omega)

@[simp] theorem link_setJ {k : Nat} (hk : k % 256 ≠ 3 ∨ k < 0x501003 ∨ 0x502003 < k) (v : Int) : link p (setJ k v s) = link p s :=
  getN_setJ_ne v s (by simp only [Obj.PORT_LINK, ne_eq]; omega)

@[simp] theorem link_raise (code base : Nat) (i : FaultInfo) : link p (raise code base i s) = link p s :=
  getN_raise code base i s (by revert p; decide)

theorem link_of_replyFrame {s t : State} (h : ReplyFrame s t) : link p t = link p s :=
  h.num _ (by simp only [Obj.PORT_LINK, Obj.NOTIFY_DROP, ne_eq]; omega)

@[simp] theorem link_setLive (code : Nat) (b : Bool) : link p (setLive code b s) = link p s := getN_setLive code b s _

@[simp] theorem link_setPort (f : Port → Port) : link p (setPort q f s) = link p s := rfl

@[simp] theorem link_setPtp (f : Ptp → Ptp) : link p (setPtp f s) = link p s := rfl

@[simp] theorem link_setRef (f : Ref → Ref) : link p (setRef q f s) = link p s := rfl

@[simp] theorem link_setReplica (f : Replica → Replica) : link p (setReplica q f s) = link p s := rfl

@[simp] theorem link_setSession (x : Session) : link p (setSession q x s) = link p s := rfl

@[simp] theorem link_setLatch (f : Latch → Latch) : link p (setLatch f s) = link p s := rfl

@[simp] theorem link_emit (o : Out) : link p (emit o s) = link p s := rfl

@[simp] theorem link_journal (r : JReq) : link p (journal r s) = link p s := link_of_replyFrame p (replyFrame_journal r s)

theorem link_divFree (n : Int) (d : Nat) : link p (divFree n d s).2 = link p s := divFree_leaves (link p) (fun _ _ => rfl) n d s

@[simp] theorem link_swDerive : link p (swDerive s) = link p s :=
  swDerive_leaves (link p) (fun _ a => link_setN p a (by decide) _) (fun _ _ _ => by simp) (fun _ _ _ => by simp)
    (fun q _ _ => link_setN p _ (.inr (.inr (by simp only [Obj.SW_REPL_BACKLOG]; omega))) _) s

@[simp] theorem link_coreGc : link p (coreGc s) = link p s := rfl

@[simp] theorem link_dropCopies (t : Copy → Bool) : link p (dropCopies t s) = link p s := rfl

/-! ### The end of a frame -/

@[simp] theorem link_launchSent (n : Nat) : link p (launchSent q n s) = link p s := by
  simp [launchSent, apply_ite (link p)]

@[simp] theorem link_endTx : link p (endTx q s) = link p s := by
  unfold endTx
  split
  · rfl
  · rename_i t _
    extract_lets s1 sent s2
    have h2 : link p s2 = link p s := by
      simp only [s2]
      split
      · rfl
      · split
        · simp [s1]
        · split <;> simp [s1]
    clear_value s2
    split
    · rw [link_dropCopies, link_setPort, h2]
    · split
      · exact h2
      · rw [link_launchSent, h2]
    · exact h2

@[simp] theorem link_stompTx : link p (stompTx q s) = link p s := link_endTx p q _

@[simp] theorem link_finishTx : link p (finishTx q s) = link p s := by
  unfold finishTx
  split
  · split
    · rfl
    · split <;> simp
  · rfl

/-! ### Slots -/

@[simp] theorem link_countSlots : link p (countSlots q s) = link p s := by simp [countSlots]

@[simp] theorem link_freeSlotNum (n : Nat) : link p (freeSlotNum q n s) = link p s := link_countSlots p q _

@[simp] theorem link_releaseJob (sf : SillFrame) : link p (releaseJob sf s) = link p s := by
  unfold releaseJob
  split
  · unfold releaseCtx
    split
    · rfl
    · exact link_setN p _ (by decide) _
  · rfl

@[simp] theorem link_makeReady (n : Nat) : link p (makeReady q n s) = link p s := by
  unfold makeReady
  split <;> simp

@[simp] theorem link_issue (cls : Nat) (k : CryptoKind) : link p (issue cls k s) = link p s := rfl

@[simp] theorem link_leadUp : link p (leadUp q s) = link p s := by
  unfold leadUp
  split
  · rfl
  · dsimp only
    split <;> simp

@[simp] theorem link_countResp (j : NtpJob) (r : NtpResp) : link p (countResp q j r s) = link p s := by
  simp [countResp, apply_ite (link p)]

@[simp] theorem link_nextSeq : link p (nextSeq q s).2 = link p s := by
  unfold nextSeq
  dsimp only
  split <;> simp

@[simp] theorem link_draw : link p (draw s).2 = link p s := rfl

@[simp] theorem link_chooseL (sf : SillFrame) (num : Option Nat) : link p (chooseL q sf num s) = link p s := by
  unfold chooseL
  extract_lets c e l job sq s1 d slot
  clear_value job
  have hseq : link p sq.2 = link p s := by
    simp only [sq]
    split
    · split
      · exact link_nextSeq p _ s
      · rfl
    · rfl
  have h1 : link p s1 = link p s := by
    simp only [s1]
    split
    · split
      · exact (link_countResp p _ _ _ _).trans hseq
      · exact hseq
    · exact hseq
  have hdraw : link p d.2 = link p s1 := by
    simp only [d]
    split <;> rfl
  split
  · rw [link_releaseJob, starved, bump_eq, link_setN p _ (by decide)]
  · split
    · rfl
    · split
      · simp
      · split
        · exact hseq
        · dsimp only
          split
          · rw [link_issue, link_countSlots, link_setPort, hdraw, h1]
          · rw [link_makeReady, link_countSlots, link_setPort, hdraw, h1]

@[simp] theorem link_serveWait (n : Nat) : link p (serveWait n q s) = link p s := by
  induction n generalizing s with
  | zero => rfl
  | succ n ih =>
    unfold serveWait
    split
    · split
      · simp [ih]
      · rfl
    · rfl

@[simp] theorem link_countLate (r : Late) : link p (bump (r.counter q) s) = link p s := by
  refine link_setN p _ ?_ _
  cases r
  case step => exact .inr (.inr (by simp only [Late.counter, Obj.LATE_STEP]; omega))
  all_goals exact .inl (by simp [Late.counter])

@[simp] theorem link_lateSlot (x : Slot) (r : Late) : link p (lateSlot q x r s) = link p s := by
  unfold lateSlot
  extract_lets u u1 u2
  have h2 : link p u2 = link p s := by
    simp only [u2]
    split <;> simp [u1, u, -bump_eq]
  split
  · simpa using h2
  · simpa using h2

@[simp] theorem link_abortIf (t : Nat → Bool) : link p (abortIf t q s) = link p s := by
  unfold abortIf
  dsimp only
  split
  · split <;> simp
  · simp

/-- A port's replica becomes stale. -/
theorem link_goStale (i : Fin 16) (corr : Int) : link p (goStale (16 + i) corr s) = link p s := by
  have hstale : Obj.REPLICA_STALE (16 + i) < 0x501003 := by simp only [Obj.REPLICA_STALE]; omega
  unfold goStale
  extract_lets was s1 s2
  have h2 : link p s2 = link p s := by
    simp [s2, s1, abortLaunch]
  split
  · rw [link_raise, link_setLive, bump_eq, link_setN p _ (.inr (.inl hstale)), h2]
  · exact h2

/-! ### PTP ports -/

@[simp] theorem link_ptpCounts : link p (ptpCounts s) = link p s := by
  unfold ptpCounts
  dsimp only
  rw [link_setN p _ (by decide), link_setN p _ (by decide), link_setN p _ (by decide), link_divFree, link_divFree]

@[simp] theorem link_enterPort (k st : Nat) : link p (enterPort k q st s) = link p s := by
  unfold enterPort
  dsimp only
  split
  · rfl
  · simp [setPtpState, setPtpPort, leaveReceiver, apply_ite (link p)]

@[simp] theorem link_refreshPort (k : Nat) : link p (refreshPort k q s) = link p s := by
  unfold refreshPort
  dsimp only
  split
  · rfl
  · split
    · simp
    · split
      · simp
      · split
        · simp
        · split <;> simp

@[simp] theorem link_ptpClosed : link p (ptpClosed q s) = link p s := by
  unfold ptpClosed
  dsimp only
  rw [link_ptpCounts]
  refine foldl_leaves (link p) (fun a k => ?_) _ _
  split <;> simp

/-! ### Sessions -/

theorem link_answerLate (x : Req) (op : ReqOp) (k st : Nat) (old new d : List Byte) :
    link p (answerLate x op k st old new d s) = link p s :=
  (link_of_replyFrame p (answer_frame _ _ _ _ _ _ _ _)).trans (link_setSession _ _ _ _)

theorem link_refuseWaiting (n st : Nat) : link p (refuseWaiting n st s) = link p s := by
  unfold refuseWaiting
  exact (foldl_leaves (link p) (fun a w => link_answerLate p a _ _ _ _ _ _ _) _ _).trans
    (foldl_leaves (link p) (fun a w => link_answerLate p a _ _ _ _ _ _ _) _ _)

theorem link_notifyAll (e a : Nat) : link p (notifyAll e a s) = link p s := by
  refine foldl_leaves (link p) (fun a i => ?_) _ s
  split
  · exact link_of_replyFrame p (notify_frame _ _ _ _ _ _)
  · rfl

@[simp] theorem link_latchChange (n : Nat) (o : Origin) : link p (latchChange n o s) = link p s := by
  unfold latchChange
  split
  · rfl
  · dsimp only
    rw [link_notifyAll, link_refuseWaiting, bump_eq, link_setN p _ (by decide), link_journal, link_setN p _ (by decide),
      link_setN p _ (by decide), link_setN p _ (by decide), link_setLatch]
    rfl

theorem link_dropWrites (n : Nat) : link p (dropWrites n s) = link p s := rfl

theorem link_groups (g : List Group) : link p { s with groups := g } = link p s := rfl

theorem link_sendFrame (k n : Nat) (b : Bool) (body : List Byte) : link p (sendFrame k n b body s) = link p s :=
  link_of_replyFrame p (replyFrame_sendFrame k n b body s)

theorem link_closeSession (n reason : Nat) : link p (closeSession n reason s) = link p s := by
  unfold closeSession
  dsimp only
  split
  · rfl
  · rw [link_setSession, link_setLatch, link_groups, apply_ite (link p), link_latchChange, link_setSession, ite_self, link_dropWrites,
      apply_ite (link p), link_sendFrame, link_emit, ite_self, link_journal]

theorem link_closeSessions (reason : Nat) (f : Session → Bool) : link p (closeSessions reason f s) = link p s := by
  refine foldl_leaves (link p) (fun a i => ?_) _ s
  split
  · exact link_closeSession p a _ _
  · rfl

end

/-- A close leaves the link CLOSED (R229). -/
theorem link_closePort (p : Fin 17) (s : State) : link p (closePort p s) = 2 := by
  unfold closePort
  extract_lets power s1 s2 s3 s4 s5 s6
  have h6 : link p s6 = 2 := getN_setN_same _ _ _
  rw [link_swDerive, link_coreGc]
  split
  · rename_i h
    exact (link_goStale p s6 ⟨p, h⟩ 0).trans h6
  · exact h6

theorem link_portGone (p : Fin 17) (s : State) : link p (portGone p s) = 2 := by
  unfold portGone
  dsimp only
  rw [link_closeSessions]
  simp [apply_ite (link p), link_closePort]

end Sys2Proof.Machine
end

section
/-! SUPPORT. The events of the PTP engine, one rule for each of their cases (R274–R308). -/
namespace Sys2Proof.Machine

/-! ### Messages -/

section
variable {p k : Nat} {x : PtpRx} {s s1 s2 : State}

/-- The engine takes the oldest message of the kind. -/
theorem withMsg_taken {t : PtpRx → Bool} {f : PtpRx → State → State} (hp : ptpUp s = true) (hx : takeMsg p t s = some (x, s1)) :
    withMsg p t f s = f x s1 := by
  rw [withMsg, if_neg (by simp [hp]), hx]

theorem onMsg_accepted {typ : Nat} {f : Nat → PtpRx → State → State} (hp : ptpUp s = true)
    (hx : takeMsg p (fun m => m.msg.typ = typ) s = some (x, s1)) (ha : ptpAccept x s1 = (some k, s2)) : onMsg p typ f s = f k x s2 := by
  rw [onMsg, withMsg_taken hp hx, ha]

theorem syncRx_oneStep (hf : follows s k x = true) (hg : grantedBy s k 0 x = true) (hone : x.msg.two = false) :
    syncRx k x s = acceptSync k x.port x.ts x.bound ((x.msg.ts : Int) + x.msg.corr) x.msg.bound s := by
  simp [syncRx, hf, hg, hone]

theorem followUpRx_matched {y : TwoStep} (hy : (ptpPort s (16 * k + x.port)).sync = some y) (hf : follows s k x = true)
    (hg : grantedBy s k 0 x = true) (hseq : y.seq = x.msg.seq) :
    followUpRx k x s = acceptSync k x.port y.t y.bound ((x.msg.ts : Int) + y.corr + x.msg.corr) x.msg.bound
      (setPtpPort (16 * k + x.port) (fun z => { z with sync := none }) s) := by
  simp only [followUpRx, hy]
  exact if_pos ⟨hf, hg, hseq⟩

/-- A T3 without a finite bound ends the exchange (R308). -/
theorem delayRespRx_unbounded {r : ReqSent} {t3 : Nat} {b3 : Int} (hr : (ptpPort s (16 * k + x.port)).req = some r)
    (hf : follows s k x = true) (hg : grantedBy s k 9 x = true) (hseq : r.seq = x.msg.seq) (hreq : x.msg.req = portIdentity s k x.port)
    (ht : r.t = some (t3, b3)) (hb : boundFinite b3 = false) : delayRespRx k x s =
      notePair (16 * k + x.port) x.msg.bound (setPtpPort (16 * k + x.port) (fun y => { y with req := none }) s) := by
  simp [delayRespRx, hr, hf, hg, hseq, hreq, ht, hb]

/-- The parser changes nothing for a message that it passes on. -/
theorem ptpParse_passed (hk : ptpParse x s = (some k, s2)) : s2 = s := by
  unfold ptpParse at hk
  split at hk
  · cases hk
  · extract_lets i vlan enc at hk
    split at hk
    · cases hk
    · split at hk
      · cases hk
      · split at hk
        · cases hk
        · exact (Prod.mk.inj hk).2.symm

theorem delayReqRx_answered {e b u : State} (hk : ptpParse x s = (some k, s2)) (h2p : isP2P s2 k = false)
    (hst : ptpState s2 (16 * k + x.port) = 3) (hl2 : ptpEncap s2 (16 * k + x.port) = 0)
    (htoken : takeToken (16 * k + x.port) x.tick (bump (Obj.DREQ_RX (16 * k + x.port)) s2) = (true, u)) (hevent : takeEvent u = (true, e))
    (hauth : authCheck k x.port x.msg e = (true, b)) : delayReqRx x s =
      answerDreq k x none (getN (bump (Obj.DREQ_RX (16 * k + x.port)) s2) (Obj.PTPP_LOG_MIN_DREQ (16 * k + x.port))) b := by
  obtain rfl := ptpParse_passed hk
  rw [delayReqRx, hk]
  simp only [h2p, hst, hl2, Bool.false_eq_true, ne_eq, not_true_eq_false, or_self, if_false, if_true, l2Dreq, htoken, hevent, hauth,
    Bool.true_eq_false]

theorem getN_noteParent (j q : Nat) (f : Foreign) (s : State) (n : Nat) : getN (noteParent j q f s) n = getN s n := by
  unfold noteParent
  dsimp only
  split <;> rfl

theorem getN_ite_noteParent (c : Prop) [Decidable c] (j q : Nat) (f : Foreign) (s : State) (n : Nat) :
    getN (if c then noteParent j q f s else s) n = getN s n := by
  split
  · exact getN_noteParent j q f s n
  · rfl

/-- An Announce under its grant is counted. -/
theorem getN_announceRx_count {a : AnnounceData} (hg : grantedBy s k 11 x = true) (ha : x.msg.ann = some a) :
    getN (announceRx k x s) (Obj.ANN_RX (16 * k + x.port)) =
      (getN s (Obj.ANN_RX (16 * k + x.port)) + 1) % counterMod (Obj.ANN_RX (16 * k + x.port)) := by
  have hcount : getN (bump (Obj.ANN_RX (16 * k + x.port)) s) (Obj.ANN_RX (16 * k + x.port)) =
      (getN s (Obj.ANN_RX (16 * k + x.port)) + 1) % counterMod (Obj.ANN_RX (16 * k + x.port)) := getN_setN_same _ _ _
  rw [announceRx]
  simp only [hg, ha, if_true, getN_ite_noteParent]
  exact hcount

/-- Requests wait for no cancellation and no renewal on any port (R301). -/
theorem requestTask_first {t : State} (ht : t = reqStale p s) (hcancel : t.ptpIn.any (hasTlv isCancel) = false)
    (hrenew : t.ptpIn.any (isRenewal t) = false) (hup : ptpUp t = true) (hx : takeMsg p (hasTlv isRequest) t = some (x, s1)) :
    requestTask p s = signaling (fun _ _ _ => isRequest) x s1 := by
  simp only [requestTask, ← ht, hcancel, hrenew, Bool.false_eq_true, if_false, withMsg_taken hup hx]

end

/-! ### Transmission -/

section
variable {k p : Nat} {s : State} (hp : ptpUp s = true)
include hp

theorem syncDue_port {t : Nat} (hnext : (ptpPort s (16 * k + p)).nextSync = some t) (hdue : t ≤ mts96 s)
    (hst : ptpState s (16 * k + p) = 3) (hl2 : ptpEncap s (16 * k + p) = 0) (hloud : quiet s = false) (hsent : ptpWithheld s k = false) :
    syncDue k p none s = sendSync k p none (ptpPort s (16 * k + p)).syncSeq
      (setPtpPort (16 * k + p) (fun y => { y with syncSeq := (y.syncSeq + 1) % 65536 })
        (setPtpPort (16 * k + p) (fun y => { y with
          nextSync := some (nextDue t (mts96 s) (logSpan (getN s (Obj.PTPP_LOG_SYNC (16 * k + p))))) }) s)) := by
  rw [syncDue, if_neg (by simp [hp])]
  simp only [portSync, hnext, hst, hl2, hloud, hsent, Nat.not_lt.2 hdue, ne_eq, not_true_eq_false, or_self, Bool.false_eq_true, if_false]

theorem announceDue_port {t : Nat} (hnext : (ptpPort s (16 * k + p)).nextAnn = some t) (hdue : t ≤ mts96 s)
    (hst : ptpState s (16 * k + p) = 3) (hl2 : ptpEncap s (16 * k + p) = 0) (hloud : quiet s = false) :
    announceDue k p none s = sendAnnounce k p none (ptpPort s (16 * k + p)).annSeq
      (announceData s k (getNat s Obj.BOUND_GRADE) (portServed s p))
      (setPtpPort (16 * k + p) (fun y => { y with
        nextAnn := some (nextDue t (mts96 s) (logSpan (getN s (Obj.PTPP_LOG_ANNOUNCE (16 * k + p)))))
        annSeq := (y.annSeq + 1) % 65536 }) s) := by
  rw [announceDue, if_neg (by simp [hp])]
  simp only [hnext, hst, hl2, hloud, Nat.not_lt.2 hdue, ne_eq, not_true_eq_false, or_self, Bool.false_eq_true, if_false]

/-- On L2 the request needs neither a peer nor a grant (R278). -/
theorem delayReqDue_port (h2p : isP2P s k = false) (hst : ptpState s (16 * k + p) = 6 ∨ ptpState s (16 * k + p) = 5)
    (hl2 : ptpEncap s (16 * k + p) = 0) (hdue : (ptpPort s (16 * k + p)).nextReq.getD 0 ≤ mts96 s) :
    delayReqDue k p s = sendPtp k p none (ptpBase s k p none 1 (ptpPort s (16 * k + p)).reqSeq 127) 0 0
      (setPtpPort (16 * k + p) (fun y => { y with
        reqSeq := (y.reqSeq + 1) % 65536, req := some { seq := (ptpPort s (16 * k + p)).reqSeq }, pdresp := none,
        nextReq := some (mts96 s + logSpan (getN s (Obj.PTPP_LOG_MIN_DREQ (16 * k + p)))) }) s) := by
  have hstate : (decide (ptpState s (16 * k + p) = 6) || decide (ptpState s (16 * k + p) = 5)) = true := by simpa using hst
  rw [delayReqDue]
  simp only [h2p, hstate, hp, hl2, Nat.not_lt.2 hdue, ne_eq, not_true_eq_false, decide_false, Bool.not_false, Bool.true_or,
    Bool.or_true, Bool.and_self, Bool.false_eq_true, Bool.true_eq_false, or_self, if_false]
  cases parentOf s k <;> rfl

theorem renewDue_none (hnone : s.ptp.grants = []) : renewDue k s = ucRequests k s := by
  simp [renewDue, hp, hnone]

end

section
variable {k p : Nat} {s : State}

theorem getN_ptpCounts (s : State) {n : Nat} (hs : n ≠ Obj.PTP_SESSIONS) (he : n ≠ Obj.PTP_EVENT_LOAD) (hh : n ≠ Obj.PTP_HMAC_LOAD) :
    getN (ptpCounts s) n = getN s n := by
  unfold ptpCounts
  dsimp only
  rw [getN_setN_ne _ _ hh.symm, getN_setN_ne _ _ he.symm, getN_setN_ne _ _ hs.symm]
  exact (divFree_leaves (getN · n) (fun _ _ => rfl) _ _ _).trans (divFree_leaves (getN · n) (fun _ _ => rfl) _ _ s)

/-- A port that leaves a state for another shows the new one. -/
theorem getN_enterPort {st : Nat} (h : ptpState s (16 * k + p) ≠ st) : getN (enterPort k p st s) (Obj.PTPP_STATE (16 * k + p)) = st := by
  rw [enterPort, if_neg h]
  dsimp only
  rw [getN_ptpCounts _ (by simp only [Obj.PTPP_STATE, Obj.PTP_SESSIONS, ne_eq]; omega)
    (by simp only [Obj.PTPP_STATE, Obj.PTP_EVENT_LOAD, ne_eq]; omega) (by simp only [Obj.PTPP_STATE, Obj.PTP_HMAC_LOAD, ne_eq]; omega)]
  exact getN_setJ_same _ _ _

theorem getN_announceTimeout_state {t : Nat} (hst : ptpState s (16 * k + p) = 6 ∨ ptpState s (16 * k + p) = 5)
    (huntil : (ptpPort s (16 * k + p)).annUntil = some t) (hover : t ≤ s.now) :
    getN (announceTimeout k p s) (Obj.PTPP_STATE (16 * k + p)) = 1 := by
  have hother : ptpState s (16 * k + p) ≠ 1 := by omega
  rw [announceTimeout]
  simp only [huntil, hover, decide_true, and_true, if_pos hst]
  exact getN_enterPort hother

end

/-! ### Grants, security associations and shedding -/

section
variable {s : State}

theorem grantExpiry_sync {j : Nat} {x : PtpSession} (hx : sessionAt s j = some x) (hsync : x.syncG = true) (hover : x.syncExp ≤ mtsSec s)
    (hdresp : x.drespG = false) (hann : x.annG = false) : grantExpiry j s = stopGrant j 0 s := by
  simp [grantExpiry, hx, hsync, hover, hdresp, hann]

/-- The association rolls to its next key (R295). -/
theorem saRoll_due {a : Nat} (hat : getNat s (Obj.SA_ROLL_AT a) ≠ 0) (hdue : getNat s (Obj.SA_ROLL_AT a) ≤ mts96 s)
    (hnew : (s.ptp.sas.getD a { id := a }).rolledAt ≠ getNat s (Obj.SA_ROLL_AT a)) (hnext : getN s (Obj.SA_NEXT_SLOT a) ≠ 0xFF) :
    ∃ f g, saRoll a s = setN (Obj.SA_TX_SEQ a) 0 (setJ (Obj.SA_KEY_ID a) (getN s (Obj.SA_NEXT_ID a))
      (setJ (Obj.SA_KEY_SLOT a) (getN s (Obj.SA_NEXT_SLOT a)) (setSa a f (setSa a g s)))) := by
  have hnot : ¬ (getNat s (Obj.SA_ROLL_AT a) = 0 ∨ mts96 s < getNat s (Obj.SA_ROLL_AT a) ∨
      (s.ptp.sas.getD a { id := a }).rolledAt = getNat s (Obj.SA_ROLL_AT a)) := by
    simp only [hat, Nat.not_lt.2 hdue, hnew, or_self, not_false_eq_true]
  exact ⟨_, _, (if_neg hnot).trans (if_neg hnext)⟩

theorem saOverlap_over {a i j t : Nat} (hprev : (s.ptp.sas.getD a { id := a }).prev = some (i, j, t)) (hover : t ≤ s.now) :
    saOverlap a s = setSa a (fun x => { x with prev := none }) s := by
  simp only [saOverlap, hprev, if_pos hover]

/-- Within the capacity nothing is shed (R307). -/
theorem shedFactor_within (h : (s.ptp.sessions.map (sessionShed s)).sum + (s.ptp.sessions.map (sessionAnn s)).sum ≤
    16 * shaLanes s * 1785714) : shedFactor s = setPtp (fun x => { x with f := 1 }) s := by
  have hnot : ¬ (16 * shaLanes s * 1785714 ≤ (s.ptp.sessions.map (sessionAnn s)).sum ∧ 16 * shaLanes s * 1785714 <
      (s.ptp.sessions.map (sessionShed s)).sum + (s.ptp.sessions.map (sessionAnn s)).sum) := fun ⟨_, hover⟩ => Nat.not_lt.2 h hover
  rw [shedFactor]
  simp only [if_pos h, if_neg hnot]

end

end Sys2Proof.Machine
end

section
/-! SUPPORT. Objects that the last act of a command leaves as the event left them. -/
namespace Sys2Proof.Machine

/-- The first derived object is `KEY_BAD_COUNT`. -/
theorem not_mem_derivedKeys {k : Nat} (h : k < 0x700304) : k ∉ derivedKeys := by
  simp only [derivedKeys, List.mem_cons, List.not_mem_nil, or_false, Obj.FAULT_WORST_STICKY, Obj.FAULT_WORST_LIVE, Obj.FAULT_STICKY_COUNT,
    Obj.FAULT_ROLE_HOLD, Obj.SESSIONS_OPEN, Obj.GROUPS_HELD, Obj.KEY_BAD_COUNT, Obj.INRUSH_QUEUE]
  omega

theorem annRx_not_mem_derivedKeys (i : Nat) : Obj.ANN_RX i ∉ derivedKeys := by
  simp only [derivedKeys, List.mem_cons, List.not_mem_nil, or_false, Obj.FAULT_WORST_STICKY, Obj.FAULT_WORST_LIVE, Obj.FAULT_STICKY_COUNT,
    Obj.FAULT_ROLE_HOLD, Obj.SESSIONS_OPEN, Obj.GROUPS_HELD, Obj.KEY_BAD_COUNT, Obj.INRUSH_QUEUE, Obj.ANN_RX]
  omega

theorem getN_settle_of_lt {k : Nat} {v : Int} {u : State} (hk : k < 0x700304) (h : getN u k = v) : getN (settle u) k = v :=
  (getN_settle u (not_mem_derivedKeys hk)).trans h

/-- The outputs from 4 on are those of the generators. -/
theorem output_of_generator {g o : Nat} (ho : o = g + 4) (x : State) (f : Nat → State) : (if o < 4 then x else f (o - 4)) = f g := by
  rw [ho, if_neg (by omega), Nat.add_sub_cancel]

theorem keepsAll_setN_self (k : Nat) (v : Int) (s : State) : keepsAll [] [k] s (setN k v s) :=
  keepsAll_setN (keepsAll_refl _ _ s) (List.mem_singleton.2 rfl) v

end Sys2Proof.Machine
end

section
namespace Sys2Proof.Machine

/-- Settles O60: each event by the rule of its case. -/
theorem eventsComplete : Obligations.EventsComplete := by
  unfold Obligations.EventsComplete
  intro s hu
  and_intros
  -- The time scale.
  · exact fun x hb => nextWith_of_ifUp rfl hu (if_pos hb) (by simp only [settle_keeps]; rfl)
  · intro p hp
    refine nextWith_of_ifUp rfl hu rfl ⟨getN_settle_of_lt (by decide) ?_, getN_settle_of_lt (by decide) ?_⟩
    · exact (getN_stepTickOf_due hp (by decide) (by decide) (by decide) (by decide)).trans (getN_stepNow_status p _)
    · exact (getN_stepTickOf_due hp (by decide) (by decide) (by decide) (by decide)).trans (getN_stepNow_offset p _)
  -- The channels and the sensors.
  · exact fun c k hruns hlate => congrArg finish (tdcEdge_accepted hruns hlate)
  · exact fun c w hb hw hdue => acts_of_ifUp rfl hu (tdcWindowMax_due hb hw hdue)
  · exact fun c hits a b hc hsum hready hok => acts_of_ifUp rfl hu (histogramDone_accepted hc hsum hready hok)
  · exact fun c h hidle _ => nextWith_of_ifUp rfl hu (coreSwap_idle hidle) ⟨by simp only [settle_keeps], frame_settle (keepsAll_setTdc _)⟩
  · exact fun c hb hc h1 h3 hdue => acts_of_ifUp rfl hu (tdcCalFailed_due hb hc h1 h3 hdue)
  · exact fun xo die hfirst hxf hdf hxo hdie => nextWith_of_ifUp rfl hu rfl
      (by simp only [settle_keeps]; exact sensorConv_good hfirst hxf hdf hxo hdie)
  -- The references.
  · exact fun r hb hst hq => nextWith_of_ifUp rfl hu (refQualified_due hb hst hq)
      ⟨getN_settle_of_lt (by simp only [Obj.REF_STATE]; omega) getN_qualify_state,
        getN_settle_of_lt (by simp only [Obj.REF_WTR_LEFT]; omega) getN_qualify_left⟩
  · exact fun r hb hst hl => acts_of_ifUp rfl hu (refLost_due hb hst hl)
  · exact fun r t hb ht hover => acts_of_ifUp rfl hu (refWtrExpiry_over hb ht hover)
  · exact fun r hb hst hq => acts_of_ifUp rfl hu (disqualHoldExpiry_due hb hst hq)
  · exact fun hb hst hover => acts_of_ifUp rfl hu ((if_pos hb).trans (buildOutTimeout_over hst hover))
  · exact fun hb hsw hover => acts_of_ifUp rfl hu ((if_pos hb).trans (freqSwitchDone_over hsw hover))
  · exact fun a b hab hb hnot hcomp hnew ha hb' hdis hpersist =>
      acts_of_ifUp rfl hu (disputeBegin_persists hab hb hnot hcomp hnew ha hb' hdis hpersist)
  · exact fun a b hab hb hbegun hcomp => acts_of_ifUp rfl hu (disputeEnd_incomparable hab hb hbegun hcomp)
  · exact fun a b r hab hb hbegun _ => acts_of_ifUp rfl hu (disputeUnresolved_voted hab hb hbegun)
  · exact fun t ht hover hn => nextWith_of_ifUp rfl hu rfl (by simp only [settle_keeps]; exact learnPoint_interval ht hover hn)
  -- The atomic oscillator and ESMC.
  · exact fun hover hmode hprof => nextWith_of_ifUp rfl hu rfl (by simp only [settle_keeps]; exact atomSteer_written hover hmode hprof)
  · exact fun b hprof huart hlen hready => acts_of_ifUp rfl hu (atomPoll_due hprof huart hlen hready)
  · exact fun bytes b hprof hhit => acts_of_ifUp rfl hu (atomResponse_hit hprof hhit)
  · exact fun t b hwait hprof hover => acts_of_ifUp rfl hu (atomTimeout_over hwait hprof hover)
  · exact fun high hprof => nextWith_of_ifUp rfl hu rfl
      ⟨getN_settle_of_lt (by decide) (getN_atomLockChange high hprof), by simp only [settle_keeps]; exact atomLockChange_atom high s⟩
  · exact fun p ql e c hp => acts_of_ifUp rfl hu (esmcRx_valid hp)
  · exact fun p hp hup hdue => nextWith_of_ifUp rfl hu (esmcInfo_due hp hup hdue)
      ⟨getN_settle_of_lt (by simp only [Obj.SSM_TX_QL]; omega) (getN_sendEsmc_ql false),
        by simp only [settle_keeps]; exact sendEsmc_out false⟩
  · exact fun p hp hnot hover => acts_of_ifUp rfl hu (esmcFailed_over hp hnot hover)
  -- The outputs.
  · exact fun n higher outer hst hsteps => nextWith_of_ifUp rfl hu rfl
      (getN_settle_of_lt (by simp only [Obj.APLL_STATE]; omega) (getN_searchStep_last hst hsteps))
  · exact fun n diff hst hdiff hgood => nextWith_of_ifUp rfl hu rfl
      (getN_settle_of_lt (by simp only [Obj.APLL_STATE]; omega) ((getN_setLive _ _ _ _).trans (getN_lockWindow_good hst hdiff hgood)))
  · exact fun c hen hsq => nextWith_of_ifUp rfl hu (evalClk_runs hen hsq)
      ⟨getN_settle_of_lt (by simp only [Obj.CLK_STATE]; omega) (getN_setN_same _ _ _), frame_settle (keepsAll_setN_self _ _ s)⟩
  · exact fun g o d rest ho hdue hc hmode => acts_of_ifUp rfl hu
      ((output_of_generator ho _ (commitPg · s)).trans (commitPg_generator hdue hc hmode))
  · exact fun g o e rest ho hedges hat hroute hshown hmode => acts_of_ifUp rfl hu
      ((output_of_generator ho _ (emitPg · s.ts.mts s)).trans (emitPg_unrouted hedges hat hroute hshown hmode))
  · exact fun g t hanchor hst hover hhold => nextWith_of_ifUp rfl hu rfl
      (getN_settle_of_lt (by simp only [Obj.PG_STATE]; omega) (getN_alignMiss_lost hanchor hst hover hhold))
  · exact fun t x rest hdue hstart hloud hthere hfree hfmt => nextWith_of_ifUp rfl hu rfl
      (by simp only [settle_keeps]; exact todStart_fntd_out hdue hstart hloud hthere hfree hfmt)
  · exact fun t x ago sec p m hsec hwait ht hsaid hafter hwin hm =>
      acts_of_ifUp rfl hu (todinRx_matched hsec hwait ht hsaid hafter hwin hm)
  -- The receiver.
  · intro hg
    and_intros
    · exact fun c => acts_of_ifGnss rfl hg rfl
    · exact fun n => acts_of_ifGnss rfl hg rfl
    · intro x hover
      obtain ⟨hsolved, hseq⟩ := Prod.mk.inj (timing_timingSolution (x := x) hover)
      refine nextWith_of_ifGnss rfl hg rfl ⟨?_, getN_settle_of_lt (by decide) hseq⟩
      simp only [settle_keeps, hsolved, wasDone_markDone]
    · intro t r hnext ht hen hthere
      obtain ⟨o, h⟩ := gnssPpsEdge_shown hnext ht hen hthere
      refine nextWith_of_ifGnss rfl hg h ⟨?_, getN_settle_of_lt (by decide) (getN_setN_same _ _ _)⟩
      simp only [settle_keeps]
      rfl
    · exact fun q hvalid hover => acts_of_ifGnss rfl hg (isbTimeout_over hvalid hover)
    · exact fun cur us hon hcut hcur => acts_of_ifGnss rfl hg (antSample_noShort hon hcut hcur)
    · exact fun t hcut hover => acts_of_ifGnss rfl hg (antRetry_over hcut hover)
    · exact fun y => acts_of_ifGnss rfl hg rfl
    · intro l1 l5 h1 h5
      refine nextWith_of_ifGnss rfl hg (noiseMeasure_quiet h1 h5) ⟨?_, getN_settle_of_lt (by decide) ?_, getN_settle_of_lt (by decide) ?_⟩
      · simp only [settle_keeps]
        rfl
      · exact (getN_setN_ne _ _ (by decide)).trans (getN_setN_same _ _ _)
      · exact getN_setN_same _ _ _
    · intro t k harmed ht hk
      obtain ⟨x, hslot, h⟩ := snapStart_begins harmed ht hk
      have := nextSlot_lt hk
      refine nextWith_of_ifGnss rfl hg h ⟨getN_settle_of_lt (by simp only [Obj.SNAP_STATE]; omega) (getN_setN_same _ _ _), ?_⟩
      simp only [settle_keeps]
      exact hslot
    · intro data a1 a5 o1 o5 rate k hslot hk hover
      obtain ⟨b, h⟩ := snapComplete_over (data := data) (a1 := a1) (a5 := a5) (o1 := o1) (o5 := o5) (rate := rate) hslot hover
      refine nextWith_of_ifGnss rfl hg h ⟨getN_settle_of_lt (by simp only [Obj.SNAP_STATE]; omega) ?_, ?_⟩
      · have hlast : Obj.GNSS_SNAP_LAST ≠ Obj.SNAP_STATE k := by simp only [Obj.GNSS_SNAP_LAST, Obj.SNAP_STATE, ne_eq]; omega
        exact (getN_setN_ne _ _ hlast).trans (getN_setN_same _ _ _)
      · simp only [settle_keeps]
        rfl
  -- The ports.
  · exact fun f x hup hrx htx => acts_of_ifUp rfl hu (headArrival_management hup hrx htx)
  · exact fun p r e hrx hcore hok hp => acts_of_ifUp rfl hu (congrArg sortPtp (rxEnd_dispatched hrx hcore hok hp))
  · exact fun p => acts_of_ifUp rfl hu rfl
  · exact fun p o ho hdue hover => acts_of_ifUp rfl hu (xoffRepeat_due ho hdue hover)
  · rintro p x e u htx rfl hup hwire hctrl hhead hfree
    exact acts_of_ifUp rfl hu (txStart_engine htx hup hwire hctrl hhead hfree)
  · exact fun p t i f c htx hkind hf hcut hst hc hframe hout hstarted hlate hmore =>
      acts_of_ifUp rfl hu (underrun_late htx hkind hf hcut hst hc hframe hout hstarted hlate hmore)
  · exact fun p hover => nextWith_of_ifUp rfl hu (rungDown_over hover)
      ⟨getN_settle_of_lt (by simp only [Obj.CT_RUNG]; omega) (getN_setRung_rung _),
        getN_settle_of_lt (by simp only [Obj.CT_CLEAN_RUN]; omega) (getN_setRung_clean _)⟩
  · exact fun p _ => acts_of_ifUp rfl hu rfl
  · exact fun p speed full hlane hmode hshut hdown hcopper => nextWith_of_ifUp rfl hu rfl
      (getN_settle_of_lt (by simp only [Obj.PORT_LINK]; omega) (getN_linkUp hlane hmode hshut hdown hcopper))
  · exact fun p hdue => nextWith_of_ifUp rfl hu (if_pos hdue)
      (getN_settle_of_lt (by simp only [Obj.PORT_LINK]; omega) (link_portGone p s))
  -- The switch.
  · exact fun rx tx => acts_of_ifUp rfl hu rfl
  · exact fun p i r f hlog hf hport => nextWith_of_ifUp rfl hu rfl (by simp only [settle_keeps]; exact replicate_copies hlog hf hport)
  · exact fun mac vid e he hst hage hover => acts_of_ifUp rfl hu (fdbAge_over he hst hage hover)
  · exact fun vlan w r t g hw hc hold => acts_of_ifUp rfl hu (tableReturn_clear hw hc hold)
  · exact fun vlan w r t g hw hc _ _ _ hover => nextWith_of_ifUp rfl hu rfl
      (by simp only [tableWrites, settle_keeps]; exact tableTimeout_length hw hc hover)
  · exact acts_of_ifUp rfl hu rfl
  · exact fun tag o u c hr ho hk h => acts_of_ifUp rfl hu (cryptoDone_cookie hr ho h hk)
  -- The Sill.
  · exact fun p => acts_of_ifUp rfl hu rfl
  · exact fun p n q hq hst hat => acts_of_ifUp rfl hu (readyDeadline_reached hq hst hat)
  · exact fun p n q htx hq hst hat hlate => acts_of_ifUp rfl hu (preambleStart_inTime htx hq hst hat hlate)
  · exact fun p n q x hq hst hat => acts_of_ifUp rfl hu (sillLaunch_reached hq hst hat)
  · exact fun p hover hadapt hsome hlate hslack => nextWith_of_ifUp rfl hu rfl
      (getN_settle_of_lt (by simp only [Obj.LEAD_NOW]; omega) (getN_leadWindow_shorter hover hadapt hsome hlate hslack))
  -- The PTP engine.
  · intro hp p x s1 k s2
    and_intros
    · exact fun hx ha hf hg hone => acts_of_ifUp rfl hu ((onMsg_accepted hp hx ha).trans (syncRx_oneStep hf hg hone))
    · exact fun y hx ha hy hf hg hseq => acts_of_ifUp rfl hu ((onMsg_accepted hp hx ha).trans (followUpRx_matched hy hf hg hseq))
    · exact fun r t3 b3 hx ha hr hf hg hseq hreq ht hb =>
        acts_of_ifUp rfl hu ((onMsg_accepted hp hx ha).trans (delayRespRx_unbounded hr hf hg hseq hreq ht hb))
    · exact fun e b u hx hk h2p hst hl2 htoken hevent hauth =>
        acts_of_ifUp rfl hu ((withMsg_taken hp hx).trans (delayReqRx_answered hk h2p hst hl2 htoken hevent hauth))
    · exact fun hx ha => acts_of_ifUp rfl hu (onMsg_accepted hp hx ha)
    · exact fun hx ha => acts_of_ifUp rfl hu ((withMsg_taken hp hx).trans (by rw [ha]))
    · exact fun a hx ha hg hann => nextWith_of_ifUp rfl hu (onMsg_accepted hp hx ha)
        ((getN_settle _ (annRx_not_mem_derivedKeys _)).trans (getN_announceRx_count hg hann))
    · exact fun hx => acts_of_ifUp rfl hu (withMsg_taken hp hx)
    · exact fun hx => acts_of_ifUp rfl hu (withMsg_taken hp hx)
    · exact fun u hstale hcancel hrenew hup hx => acts_of_ifUp rfl hu (requestTask_first hstale hcancel hrenew hup hx)
  · exact fun k p t hp hnext hdue hst hl2 hloud hsent => acts_of_ifUp rfl hu (syncDue_port hp hnext hdue hst hl2 hloud hsent)
  · exact fun k p t hp hnext hdue hst hl2 hloud => acts_of_ifUp rfl hu (announceDue_port hp hnext hdue hst hl2 hloud)
  · exact fun k p hp h2p hst hl2 hdue => acts_of_ifUp rfl hu (delayReqDue_port hp h2p hst hl2 hdue)
  · exact fun k hp => acts_of_ifUp rfl hu (if_pos hp)
  · exact fun k p t hst huntil hover => nextWith_of_ifUp rfl hu rfl
      (getN_settle_of_lt (by simp only [Obj.PTPP_STATE]; omega) (getN_announceTimeout_state hst huntil hover))
  · exact fun j x hx hsync hover hdresp hann => acts_of_ifUp rfl hu (grantExpiry_sync hx hsync hover hdresp hann)
  · exact fun p => nextWith_of_ifUp rfl hu rfl (by simp only [settle_keeps]; rfl)
  · exact fun k hp hnone => acts_of_ifUp rfl hu (renewDue_none hp hnone)
  · intro a hat hdue hnew hnext
    obtain ⟨f, g, h⟩ := saRoll_due hat hdue hnew hnext
    refine nextWith_of_ifUp rfl hu h ⟨getN_settle_of_lt (by simp only [Obj.SA_KEY_SLOT]; omega) ?_,
      getN_settle_of_lt (by simp only [Obj.SA_KEY_ID]; omega) ?_, getN_settle_of_lt (by simp only [Obj.SA_TX_SEQ]; omega) ?_⟩
    · exact (getN_setN_ne _ _ (by simp)).trans ((getN_setJ_ne _ _ (by simp)).trans (getN_setJ_same _ _ _))
    · exact (getN_setN_ne _ _ (by simp)).trans (getN_setJ_same _ _ _)
    · exact getN_setN_same _ _ _
  · exact fun a i j t hprev hover => acts_of_ifUp rfl hu (saOverlap_over hprev hover)
  · exact fun h => acts_of_ifUp rfl hu (shedFactor_within h)
  -- The NTP engine.
  · exact fun p x hx hr hq => nextWith_of_ifUp rfl hu (ntpArrive_queued hx hr hq) (by simp only [settle_keeps, and_self])
  · exact fun p x hx hfree hr => acts_of_ifUp rfl hu (ntpParse_oldest hx hfree hr)
  · intro hb hts hms hpos hdue
    refine nextWith_of_ifUp rfl hu ((if_pos hb).trans (ntsRotate_again hts hms hpos hdue)) (getN_settle_of_lt (by decide) ?_)
    exact (getN_setN_ne _ _ (by decide)).trans (getN_setJ_same _ _ s)
  · intro p
    refine nextWith_of_ifUp rfl hu rfl (fun n hn hport hdue => ?_)
    simp only [settle_keeps] at hn
    exact ntpOrdered_of_mem_ntpShutOrder hn hport hdue

end Sys2Proof.Machine
end

section
/-! SUPPORT. A tick of a block that has nothing of its own to do (R23, R28): only the counters move, and the next tick finds it the same. -/
namespace Sys2Proof.Machine

/-- What `idleQuiet` tests, by name. -/
structure Quiet (s : State) : Prop where
  pending : s.pending = []
  running : up s = true
  restarts : s.restartsDue = []
  filter : s.ts.nextIncr = none
  shadow : s.ts.shadow = s.ts.mts
  writes : s.ts.incrWrites = []
  ports : ∀ x ∈ s.ports, x.tx = none ∧ x.sillWait = []
  sessions : ∀ x ∈ s.sessions, x.held = [] ∧ seqSpent x = false
  role : getN s Obj.PAIR_ROLE ≠ 2

theorem idleQuiet_iff (s : State) : idleQuiet s = true ↔ Quiet s := by
  simp only [idleQuiet, Bool.and_eq_true, List.isEmpty_iff, Option.isNone_iff_eq_none, decide_eq_true_eq, List.all_eq_true,
    Bool.not_eq_true']
  constructor
  · rintro ⟨⟨⟨⟨⟨⟨⟨⟨hpending, hup⟩, hrestarts⟩, hfilter⟩, hshadow⟩, hwrites⟩, hports⟩, hsessions⟩, hrole⟩
    exact ⟨hpending, hup, hrestarts, hfilter, hshadow, hwrites, hports, hsessions, hrole⟩
  · rintro ⟨hpending, hup, hrestarts, hfilter, hshadow, hwrites, hports, hsessions, hrole⟩
    exact ⟨⟨⟨⟨⟨⟨⟨⟨hpending, hup⟩, hrestarts⟩, hfilter⟩, hshadow⟩, hwrites⟩, hports⟩, hsessions⟩, hrole⟩

/-! ### The acts of a tick where there is nothing to act on -/

/-- What holds of every element and of the default holds of any place of a list. -/
theorem getD_of_forall_mem {α : Type} {P : α → Prop} {l : List α} {d : α} (n : Nat) (h : ∀ x ∈ l, P x) (hd : P d) :
    P (l.getD n d) := by
  by_cases hn : n < l.length
  · rw [List.getD_eq_getElem l d hn]
    exact h _ (List.getElem_mem hn)
  · rwa [List.getD_eq_default l d (Nat.le_of_not_lt hn)]

theorem doRestarts_none {s : State} (h : s.restartsDue = []) : doRestarts s = s := by
  rw [doRestarts, h, List.foldl_nil, ← h]

theorem loopApply_none {s : State} (h : s.ts.nextIncr = none) : loopApply s = s := by
  rw [loopApply, h]

theorem incrTake_none {s : State} (h : s.ts.incrWrites = []) : incrTake s = s := by
  rw [incrTake, h, List.foldl_nil, ← h]

theorem compareShadow_agree {s : State} (h : s.ts.shadow = s.ts.mts) : compareShadow s = s := by
  have hdiff : shadowDiff s = 0 := by rw [shadowDiff, h, Nat.add_sub_cancel_left, Nat.mod_self]
  simp [compareShadow, hdiff]

theorem portTick_idle {p : Nat} {s : State} (htx : (port s p).tx = none) (hwait : (port s p).sillWait = []) : portTick p s = s := by
  have hfinish : finishTx p s = s := by rw [finishTx, htx]
  rw [portTick, hfinish, serveWait, hwait]

theorem releaseReads_none {s : State} {n : Nat} (k : Nat) (h : (session s n).held = []) : releaseReads k n s = s := by
  cases k with
  | zero => rfl
  | succ k => simp only [releaseReads, h]

theorem closeSessions_none {reason : Nat} {f : Session → Bool} {s : State} (h : ∀ n, f (session s n) = false) :
    closeSessions reason f s = s :=
  List.foldl_fixed' (fun i => by rw [h, if_neg Bool.false_ne_true]) _

theorem mirrorSend_standby {s : State} (h : getN s Obj.PAIR_ROLE ≠ 2) : mirrorSend s = s := by
  rw [mirrorSend, if_pos (.inl h)]

/-! ### The tick of a quiet block -/

namespace Quiet
variable {s : State} (h : Quiet s)
include h

theorem port (p : Nat) : (port s p).tx = none ∧ (Machine.port s p).sillWait = [] :=
  getD_of_forall_mem p h.ports ⟨rfl, rfl⟩

theorem session (n : Nat) : (session s n).held = [] ∧ seqSpent (Machine.session s n) = false := by
  unfold Machine.session
  split
  · exact ⟨rfl, rfl⟩
  · exact getD_of_forall_mem (n - 1) h.sessions ⟨rfl, rfl⟩

theorem hostTick : hostTick s = s := by
  have hheld : (List.range 16).foldl (fun a i => releaseReads 64 (i + 1) a) s = s :=
    List.foldl_fixed' (fun i => releaseReads_none 64 (h.session (i + 1)).1) _
  rw [Machine.hostTick, hheld, closeSessions_none fun n => (h.session n).2]

theorem portTicks : (List.range 17).foldl (fun a p => portTick p a) s = s :=
  List.foldl_fixed' (fun p => portTick_idle (h.port p).1 (h.port p).2) _

/-- The counter and its shadow add the same, and nothing that is quiet is touched. -/
theorem tickCounter : Quiet (tickCounter 0 s) where
  pending := h.pending
  running := h.running
  restarts := h.restarts
  filter := h.filter
  shadow := by simp only [Machine.tickCounter, h.shadow]
  writes := h.writes
  ports := h.ports
  sessions := h.sessions
  role := h.role

theorem settle : Quiet (settle s) where
  pending := by simpa using h.pending
  running := by simpa using h.running
  restarts := by simpa using h.restarts
  filter := by simpa using h.filter
  shadow := by simpa using h.shadow
  writes := by simpa using h.writes
  ports := by simpa using h.ports
  sessions := by simpa using h.sessions
  role := by rw [getN_settle _ (by decide)]; exact h.role

theorem tick : tick s = Machine.tickCounter 0 s := by
  have ht := h.tickCounter
  unfold Machine.tick
  rw [doRestarts_none h.restarts, loopApply_none h.filter, incrTake_none h.writes, h.writes, incrInForce, List.foldl_nil,
    compareShadow_agree ht.shadow, if_pos ht.running, ht.portTicks, ht.hostTick, mirrorSend_standby ht.role]

theorem step : step s = .next (Machine.settle (Machine.tickCounter 0 s)) := by
  rw [Machine.step, h.pending]
  exact congrArg finish ((ifUp_up _ _ h.running).trans h.tick)

end Quiet

theorem tickCounter_mts (s : State) : (tickCounter 0 s).ts.mts = (s.ts.mts + s.ts.incr) % mts48Mod := by
  simp only [tickCounter, addMts, Int.add_zero]
  exact_mod_cast Int.toNat_natCast _

theorem run_succ_of_next {M : Host.Core} {s s' : M.State} (h : M.step s = .next s') (n : Nat) : M.run (n + 1) s = M.run n s' := by
  rw [Host.Core.run, h]

theorem mts_after_ticks (m i n : Nat) : ((m + i) % mts48Mod + n * i) % mts48Mod = (m + (n + 1) * i) % mts48Mod := by
  rw [Nat.mod_add_mod]
  congr 1
  ring

end Sys2Proof.Machine
end

section
namespace Sys2Proof.Machine

/-- Settles O5, by induction on the number of ticks: each leaves the block quiet, and its sums add up. -/
theorem idleRun : Obligations.IdleRun := by
  unfold Obligations.IdleRun
  intro n
  induction n with
  | zero =>
    intro s h hlt
    exact ⟨s, rfl, h, rfl, by rw [Nat.zero_mul, Nat.add_zero, Nat.mod_eq_of_lt hlt], by rw [Nat.zero_mul, Nat.add_zero], rfl, rfl, rfl, rfl,
      fun _ _ => rfl⟩
  | succ n ih =>
    intro s h hlt
    have hq := (idleQuiet_iff s).1 h
    have hpos : 0 < mts48Mod := by decide
    have hmts : (settle (tickCounter 0 s)).ts.mts = (s.ts.mts + s.ts.incr) % mts48Mod := by simp [tickCounter_mts]
    obtain ⟨t, hrun, hquiet, hnow, hcount, hsum, hincr, hout, hsessions, hmem, hnum⟩ :=
      ih (settle (tickCounter 0 s)) ((idleQuiet_iff _).2 hq.tickCounter.settle) (hmts ▸ Nat.mod_lt _ hpos)
    rw [hmts] at hcount
    simp only [settle_keeps] at hnow hcount hsum hincr hout hsessions hmem
    refine ⟨t, ?_, hquiet, ?_, ?_, ?_, hincr, hout, hsessions, hmem, fun k hk => (hnum k hk).trans (getN_settle _ hk)⟩
    · exact (run_succ_of_next (M := core) hq.step n).trans hrun
    · exact hnow.trans (Nat.add_right_comm s.now 1 n)
    · exact hcount.trans (mts_after_ticks _ _ _)
    · exact hsum.trans (by simp only [tickCounter]; ring)

end Sys2Proof.Machine
end

section
/-! SUPPORT. What the effects of single commands leave: the captured values, the key slots after a zeroize, the staging slot after a
discard (R32, R345, R508). -/
namespace Sys2Proof.Machine

/-! ### The key slots (R342, R345) -/

theorem keys_of_replyFrame {s t : State} (h : ReplyFrame s t) : t.keys = s.keys := by
  obtain ⟨n, o, j, x, w, rfl⟩ := h.shape
  rfl

theorem keys_answerLate (q : Req) (op : ReqOp) (k st : Nat) (old new d : List Byte) (s : State) :
    (answerLate q op k st old new d s).keys = s.keys := by
  simp only [answerLate, answer_keeps, setSession_keeps]

theorem keys_refuseWaiting (n st : Nat) (s : State) : (refuseWaiting n st s).keys = s.keys := by
  unfold refuseWaiting
  exact (foldl_leaves State.keys (fun a w => keys_answerLate _ _ _ _ _ _ _ a) _ _).trans
    (foldl_leaves State.keys (fun a w => keys_answerLate _ _ _ _ _ _ _ a) _ _)

theorem keys_notifyAll (e a : Nat) (s : State) : (notifyAll e a s).keys = s.keys := by
  refine foldl_leaves State.keys (fun a i => ?_) _ s
  split
  · exact keys_of_replyFrame (notify_frame _ _ _ _ _ _)
  · rfl

theorem keys_latchChange (n : Nat) (o : Origin) (s : State) : (latchChange n o s).keys = s.keys := by
  unfold latchChange
  split
  · rfl
  · simp only [keys_notifyAll, keys_refuseWaiting, bump_eq, setN_keeps, journal_keeps, setLatch_keeps]

theorem keys_closeSession (n reason : Nat) (s : State) : (closeSession n reason s).keys = s.keys := by
  unfold closeSession
  dsimp only
  split
  · rfl
  · have hsent (x : State) (b : List Byte) : (sendFrame 5 n true b x).keys = x.keys := keys_of_replyFrame (replyFrame_sendFrame _ _ _ _ _)
    have hdropped (x : State) : (dropWrites n x).keys = x.keys := rfl
    simp only [setSession_keeps, setLatch_keeps, apply_ite State.keys, keys_latchChange, hdropped, hsent, emit_keeps, journal_keeps, ite_self]

theorem keys_closeUnusable (s : State) : (closeUnusable s).keys = s.keys := by
  refine foldl_leaves State.keys (fun a i => ?_) _ s
  split
  · exact keys_closeSession _ _ a
  · rfl

theorem keys_showSlot (n : Nat) (s : State) : (showSlot n s).keys = s.keys := by
  unfold showSlot
  split <;> simp

/-- A zeroize leaves the other slots, and of its own nothing (R345). -/
theorem slots_zeroize (n : Nat) (s : State) : (zeroize n s).keys.slots = s.keys.slots.filter (fun k => k.id ≠ n) := by
  have hdropped : (dropSlot n s).keys.slots = s.keys.slots.filter (fun k => k.id ≠ n) := by
    rw [dropSlot, keys_showSlot]
    rfl
  unfold zeroize
  dsimp only
  rw [keys_closeUnusable]
  split
  · rw [foldl_leaves (fun x => x.keys.slots) (fun a k => by simp), hdropped]
  · exact hdropped

theorem not_mem_zeroize {n : Nat} {s : State} {k : KeySlot} (h : k ∈ (zeroize n s).keys.slots) : k.id ≠ n := by
  rw [slots_zeroize] at h
  simpa using (List.mem_filter.1 h).2

/-- A fresh challenge leaves the transition that waits (R350, R351). -/
theorem lcPending_freshChallenge (s : State) : (freshChallenge s).keys.lcPending = s.keys.lcPending := by
  unfold freshChallenge
  split <;> rfl

/-! ### The staging slots (R508, R509) -/

theorem getN_autoInstall (s : State) {k : Nat} (hk : Obj.UPD_STATE ≠ k) : getN (autoInstall s) k = getN s k := by
  have hstart : getN (startInstall 0 true s) k = getN s k := by
    rw [startInstall, getN_setJ_ne _ _ hk]
    rfl
  unfold autoInstall
  simp only [apply_ite (getN · k), hstart, ite_self]

theorem getN_emptySlot_state (n : Nat) (s : State) : getN (emptySlot n s) (Obj.STAGE_STATE n) = 0 := by
  have hconflict : Obj.UPD_CONFLICT ≠ Obj.STAGE_STATE n := by simp only [Obj.UPD_CONFLICT, Obj.STAGE_STATE]; omega
  simp [emptySlot, hconflict]

/-! ### The capture (R32) -/

theorem getN_keepAdvance (n : Nat) (s : State) {k : Nat} (hk : Obj.KEEP_COUNT ≠ k) : getN (keepAdvance n s) k = getN s k :=
  getN_setN_ne _ _ hk

/-- The state whose values a capture latches: the keep counter has run on, the bound is that of the tick. -/
def captureTick (keep : Nat) (s : State) : State := updateBound (keepAdvance keep s)

theorem captureTick_keep (keep : Nat) (s : State) : (captureTick keep s).keep.count = (s.keep.count + keep) % 2 ^ 48 := rfl

theorem getN_captureTick (keep : Nat) (s : State) {k : Nat} (hk : Obj.KEEP_COUNT ≠ k) : getN (captureTick keep s) k = getN s k :=
  getN_keepAdvance keep s hk

/-- Every value is that of the captured tick. -/
theorem getN_ruleCapture (keep : Nat) (v : Val) (s : State) :
    getN ((ruleCapture keep).eff v s) Obj.CAP_MTS = mts96 (captureTick keep s) ∧
    getN ((ruleCapture keep).eff v s) Obj.CAP_INCR = (captureTick keep s).ts.incr ∧
    getN ((ruleCapture keep).eff v s) Obj.CAP_TCLK_TICKS = (captureTick keep s).now ∧
    getN ((ruleCapture keep).eff v s) Obj.CAP_KEEP_COUNT = (captureTick keep s).keep.count ∧
    getN ((ruleCapture keep).eff v s) Obj.CAP_UTC_OFFSET = getN (captureTick keep s) Obj.CURRENT_UTC_OFFSET ∧
    getN ((ruleCapture keep).eff v s) Obj.CAP_SEQ = (getN (captureTick keep s) Obj.CAP_SEQ + 1) % 4294967296 := by
  simp [ruleCapture, captureTick]

/-! ### The other effects -/

theorem getN_setRung (p r : Nat) (s : State) : getN (setRung p r s) (Obj.CT_RUNG p) = r := by
  have hclean : Obj.CT_CLEAN_RUN p ≠ Obj.CT_RUNG p := by simp only [Obj.CT_CLEAN_RUN, Obj.CT_RUNG]; omega
  rw [setRung, getN_setN_ne _ _ hclean, getN_setJ_same]

/-- An output behind a divider is realigned and, where it runs, counts a squelch (R168). -/
theorem synth_ruleClkSync {c : Nat} {s : State} (v : Val) (h : (clkDivider (clkOut s c).source).isSome = true) :
    ((ruleClkSync c).eff v s).synth = (setClk c (fun x => { x with synced := true }) s).synth := by
  have hdivider : (clkDivider (clkOut s c).source).isNone = false := by rw [← Option.not_isSome, h]; rfl
  simp only [ruleClkSync, hdivider, Bool.false_eq_true, if_false, apply_ite State.synth, bump_eq, setN_keeps, ite_self]

end Sys2Proof.Machine
end

section
namespace Sys2Proof.Machine

/-- Settles O11: each clause by what its rule's effect writes. -/
theorem commandEffects : Obligations.CommandEffects := by
  unfold Obligations.CommandEffects
  intro s v
  refine ⟨fun keep => ?_, fun n => ⟨?_, rfl, rfl⟩, fun n => rfl, fun ok k hk => ?_, fun p => getN_setRung p 0 s, rfl, rfl, fun n => ?_,
    fun c hc => synth_ruleClkSync v hc, fun n hv hn h2 => ?_⟩
  · obtain ⟨hmts, hincr, hticks, hkeep, hutc, hseq⟩ := getN_ruleCapture keep v s
    rw [getN_captureTick keep s (by decide)] at hutc hseq
    rw [captureTick_keep] at hkeep
    exact ⟨hmts, hincr, hticks, hkeep, hutc, hseq⟩
  · exact getN_setN_same _ _ _
  · simp only [ruleKeyZeroize] at hk
    exact not_mem_zeroize hk
  · exact lcPending_freshChallenge _
  · subst hv
    rw [ruleDiscard]
    exact (getN_autoInstall _ (by simp only [Obj.UPD_STATE, Obj.STAGE_STATE]; omega)).trans (getN_emptySlot_state _ s)

end Sys2Proof.Machine
end

section
/-! SUPPORT. The events of the time scale and its dwells, one rule for each (R34, R40, R60, R62, R63, R87, R94). -/
namespace Sys2Proof.Machine

/-! ### Frames -/

theorem samePart_trans {s t u : State} {p : Part} (h : samePart s t p) (g : samePart t u p) : samePart s u p := by
  cases p <;> exact g.trans h

/-- One part that may change is replaced. -/
theorem keepsAll_replace {ps : List Part} {ks : List Nat} {s t u : State} {q : Part} (h : keepsAll ps ks s t) (hq : q ∈ ps)
    (hparts : ∀ p, p ≠ q → samePart t u p) (hnums : ∀ k, getN u k = getN t k) : keepsAll ps ks s u :=
  ⟨fun p hp => samePart_trans (h.1 p hp) (hparts p fun e => hp (e ▸ hq)), fun k hk => (hnums k).trans (h.2 k hk)⟩

section
variable {ps : List Part} {ks : List Nat} {s t : State} (h : keepsAll ps ks s t)
include h

theorem keepsAll_ts (hq : Part.ts ∈ ps) (x : TimeScale) : keepsAll ps ks s { t with ts := x } := by
  refine keepsAll_replace h hq (fun p hp => ?_) fun _ => rfl
  cases p
  case ts => exact absurd rfl hp
  all_goals rfl

theorem keepsAll_keep (hq : Part.keep ∈ ps) (x : Keep) : keepsAll ps ks s { t with keep := x } := by
  refine keepsAll_replace h hq (fun p hp => ?_) fun _ => rfl
  cases p
  case keep => exact absurd rfl hp
  all_goals rfl

theorem keepsAll_freeCtr (hq : Part.freeCtr ∈ ps) (x : Nat) : keepsAll ps ks s { t with freeCtr := x } := by
  refine keepsAll_replace h hq (fun p hp => ?_) fun _ => rfl
  cases p
  case freeCtr => exact absurd rfl hp
  all_goals rfl

end

/-! ### The increment (R40) and the leap second (R60) -/

theorem loopApply_ts {s : State} {v : Nat} (h : s.ts.nextIncr = some v) :
    (loopApply s).ts = { s.ts with nextIncr := none, incr := v } := by
  simp only [loopApply, h, applyIncr_ts]

theorem leapReached_due {s : State} (hpending : getN s Obj.LEAP_PENDING = 1 ∨ getN s Obj.LEAP_PENDING = 2)
    (hdue : getNat s Obj.LEAP_INSTANT ≤ mts96 s) :
    ∃ x : TimeScale, leapReached s =
      setJ Obj.CURRENT_UTC_OFFSET (getN s Obj.CURRENT_UTC_OFFSET + if getN s Obj.LEAP_PENDING = 1 then 1 else -1)
        (setJ Obj.LEAP_PENDING 0 { s with ts := x }) := by
  have hnone : getN s Obj.LEAP_PENDING ≠ 0 := by omega
  exact ⟨_, if_pos ⟨hnone, hdue⟩⟩

theorem keepsAll_leap (u l : Int) (x : TimeScale) (s : State) : keepsAll [.ts] [Obj.LEAP_PENDING, Obj.CURRENT_UTC_OFFSET] s
    (setJ Obj.CURRENT_UTC_OFFSET u (setJ Obj.LEAP_PENDING l { s with ts := x })) :=
  keepsAll_setJ (keepsAll_setJ (keepsAll_ts (keepsAll_refl _ _ s) (by decide) x) (by decide) l) (by decide) u

/-! ### The KEEP island (R62, R63) -/

theorem keepsAll_keepAdvance {ps : List Part} {ks : List Nat} (hp : Part.keep ∈ ps) (hk : Obj.KEEP_COUNT ∈ ks) (n : Nat) (s : State) :
    keepsAll ps ks s (keepAdvance n s) :=
  keepsAll_setN (keepsAll_keep (keepsAll_refl _ _ s) hp _) hk _

/-- A record is due after the keep counter has run on as it was before. -/
theorem keepWrite_due {s : State} (h : keepRecordDue s = true) (n : Nat) : keepWrite n s = writeKeep (keepAdvance n s) := by
  have hdue : keepRecordDue (keepAdvance n s) = keepRecordDue s := by
    have hstate : getN (keepAdvance n s) Obj.TS_STATE = getN s Obj.TS_STATE := getN_keepAdvance n s (by decide)
    unfold keepRecordDue
    rw [hstate]
    rfl
  exact if_pos (hdue.trans h)

theorem writeKeep_keep (s : State) : (writeKeep s).keep.count = s.keep.count ∧ wasDone (mtsSec s) (writeKeep s).keep.written = true := by
  unfold writeKeep
  dsimp only
  split <;> exact ⟨rfl, wasDone_markDone _ _⟩

/-- The record that has been written is the last complete one. -/
theorem keepRecord_writeKeep (s : State) : ∃ r, keepRecord (writeKeep s) = some r ∧ r.mts = s.ts.mts ∧ r.bound = getNat s Obj.BOUND ∧
    r.utcOffset = getN s Obj.CURRENT_UTC_OFFSET := by
  unfold writeKeep keepRecord
  dsimp only
  split <;> exact ⟨_, rfl, rfl, rfl, rfl⟩

theorem keepsAll_writeKeep {ps : List Part} {ks : List Nat} {s t : State} (h : keepsAll ps ks s t) (hp : Part.keep ∈ ps)
    (hk : Obj.KEEP_VALID ∈ ks) : keepsAll ps ks s (writeKeep t) :=
  keepsAll_keep (keepsAll_setN h hk 1) hp _

/-- The measurement of the keep oscillator begins anew at this tick. -/
def keepMarked (n : Nat) (s : State) : State :=
  { keepAdvance n s with ts := { s.ts with keepLearnTick := s.now, keepMark := ((keepAdvance n s).keep.count, s.ts.run) } }

/-- A published rounding to the nearest: its value, and at most one free value used. -/
theorem setN_nearFree (k : Nat) (n : Int) (d : Nat) (s : State) :
    ∃ v c, setN k (nearFree n d s).1 (nearFree n d s).2 = setN k v { s with freeCtr := c } := by
  obtain ⟨c, hc⟩ := nearFree_shape n d s
  exact ⟨_, c, congrArg (setN k _) hc⟩

/-- After 64 s the measurement begins anew, and where VIN is in range the one that ends is published. -/
theorem keepLearn_due {s : State} (h : s.ts.keepLearnTick + 64 * sT ≤ s.now) (n : Nat) :
    keepLearn n s = keepMarked n s ∨
      ∃ v c, keepLearn n s = setN Obj.KEEP_FREQ_LEARNED v { keepMarked n s with freeCtr := c } := by
  have hdue : ¬ (keepAdvance n s).now < (keepAdvance n s).ts.keepLearnTick + 64 * sT := Nat.not_lt_of_le h
  unfold keepLearn
  dsimp only
  rw [if_neg hdue]
  split
  · exact .inl rfl
  · split
    · exact .inl rfl
    · exact .inr (setN_nearFree Obj.KEEP_FREQ_LEARNED _ _ (keepMarked n s))

theorem keepLearn_ts {s : State} (h : s.ts.keepLearnTick + 64 * sT ≤ s.now) (n : Nat) :
    (keepLearn n s).ts.keepLearnTick = s.now ∧ (keepLearn n s).ts.keepMark = ((keepLearn n s).keep.count, s.ts.run) := by
  obtain e | ⟨v, c, e⟩ := keepLearn_due h n <;> rw [e] <;> exact ⟨rfl, rfl⟩

theorem keepsAll_keepLearn {s : State} (h : s.ts.keepLearnTick + 64 * sT ≤ s.now) (n : Nat) :
    keepsAll [.keep, .ts, .freeCtr] [Obj.KEEP_COUNT, Obj.KEEP_FREQ_LEARNED] s (keepLearn n s) := by
  have hmarked : keepsAll [.keep, .ts, .freeCtr] [Obj.KEEP_COUNT, Obj.KEEP_FREQ_LEARNED] s (keepMarked n s) :=
    keepsAll_ts (keepsAll_keepAdvance (by decide) (by decide) n s) (by decide) _
  obtain e | ⟨v, c, e⟩ := keepLearn_due h n <;> rw [e]
  · exact hmarked
  · exact keepsAll_setN (keepsAll_freeCtr hmarked (by decide) c) (by decide) v

/-! ### The dwells of grade and violation (R87, R94) -/

theorem betterGrade_lt {s : State} {g : Nat} (h : betterGrade s = some g) : g < getNat s Obj.BOUND_GRADE := by
  have hfound := List.find?_some h
  simp only [Bool.and_eq_true, decide_eq_true_eq] at hfound
  exact hfound.1

theorem gradeDwell_better {s : State} {g : Nat} (h : betterGrade s = some g) : gradeDwell s = setJ Obj.BOUND_GRADE g s := by
  simp only [gradeDwell, h]

theorem violExpiry_due {s : State} {v : Nat} (h : s.bound.violTick = some v) (hdue : v + 86400 * sT ≤ s.now) :
    violExpiry s = setN Obj.REF_FREQ_UNC_VIOL 0 s := by
  simp only [violExpiry, h, if_pos hdue]

end Sys2Proof.Machine
end

section
/-! SUPPORT. What the frames released from a cancelled step leave of the time scale (R51, R259). -/
namespace Sys2Proof.Machine

/-- The time scale and its state, as the objects say it. -/
def scale (s : State) : TimeScale × Int × Int := (s.ts, getN s Obj.TS_STATE, getN s Obj.TS_STATE_SINCE)

section
variable (p : Nat) (s : State)

/-- The objects of the units lie above those of the time scale. -/
theorem scale_setN {k : Nat} (hk : 0x200003 < k) (v : Int) : scale (setN k v s) = scale s := by
  have hstate : k ≠ Obj.TS_STATE := by simp only [Obj.TS_STATE]; omega
  have hsince : k ≠ Obj.TS_STATE_SINCE := by simp only [Obj.TS_STATE_SINCE]; omega
  simp [scale, hstate, hsince]

theorem scale_bump {k : Nat} (hk : 0x200003 < k) : scale (bump k s) = scale s := scale_setN s hk _

theorem scale_setPort (f : Port → Port) : scale (setPort p f s) = scale s := rfl

theorem scale_issue (cls : Nat) (k : CryptoKind) : scale (issue cls k s) = scale s := rfl

theorem scale_raise (code base : Nat) (i : FaultInfo) : scale (raise code base i s) = scale s := by
  simp [scale, getN_raise code base i s (k := Obj.TS_STATE) (by decide), getN_raise code base i s (k := Obj.TS_STATE_SINCE) (by decide)]

theorem scale_releaseJob (sf : SillFrame) : scale (releaseJob sf s) = scale s := by
  unfold releaseJob releaseCtx
  split
  · split
    · rfl
    · exact scale_setN _ (by decide) _
  · rfl

theorem scale_countSlots : scale (countSlots p s) = scale s :=
  scale_setN s (by simp only [Obj.SLOTS_HELD]; omega) _

theorem scale_makeReady (n : Nat) : scale (makeReady p n s) = scale s := by
  unfold makeReady
  split
  · rfl
  · exact (scale_releaseJob _ _).trans (scale_setPort _ _ _)

theorem scale_countResp (j : NtpJob) (r : NtpResp) : scale (countResp p j r s) = scale s := by
  have hbound (x : State) : scale (bump (Obj.BOUND_FIELD_TX p) x) = scale x := scale_bump x (by simp only [Obj.BOUND_FIELD_TX]; omega)
  have hkod (x : State) : scale (bump (Obj.KOD_XBND p) x) = scale x := scale_bump x (by simp only [Obj.KOD_XBND]; omega)
  have hnts (x : State) : scale (bump (Obj.NTS_SERVED p) x) = scale x := scale_bump x (by simp only [Obj.NTS_SERVED]; omega)
  have hntp (x : State) : scale (bump (Obj.NTP_SERVED p) x) = scale x := scale_bump x (by simp only [Obj.NTP_SERVED]; omega)
  simp only [countResp, apply_ite scale, hbound, hkod, hnts, hntp, ite_self]

theorem scale_nextSeq : scale (nextSeq p s).2 = scale s := by
  unfold nextSeq
  dsimp only
  split
  · exact (scale_raise _ _ _ _).trans (scale_bump s (by simp only [Obj.SEQNO_EXHAUSTED]; omega))
  · exact scale_setN s (by simp only [Obj.SA_TX_SEQ]; omega) _

theorem scale_chooseL (sf : SillFrame) (num : Option Nat) : scale (chooseL p sf num s) = scale s := by
  unfold chooseL
  extract_lets c e l job sq s1 d slot
  clear_value job
  have hseq : scale sq.2 = scale s := by
    simp only [sq]
    split
    · split
      · exact scale_nextSeq _ s
      · rfl
    · rfl
  have hcounted : scale s1 = scale s := by
    simp only [s1]
    split
    · split
      · exact (scale_countResp p _ _ _).trans hseq
      · exact hseq
    · exact hseq
  have hdrawn : scale d.2 = scale s := by
    refine Eq.trans ?_ hcounted
    simp only [d]
    split <;> rfl
  split
  · exact (scale_releaseJob _ _).trans (scale_bump s (by decide))
  · split
    · rfl
    · split
      · exact (scale_releaseJob _ _).trans (scale_bump s (by simp only [Obj.UNSERVED_DROP]; omega))
      · split
        · exact hseq
        · dsimp only
          split
          · rw [scale_issue, scale_countSlots, scale_setPort, hdrawn]
          · rw [scale_makeReady, scale_countSlots, scale_setPort, hdrawn]

theorem scale_sillAgain (x : SillFrame × Option Nat) : scale (sillAgain p x s) = scale s := by
  unfold sillAgain
  split
  · exact scale_chooseL p s _ _
  · unfold toSill
    split
    · exact (scale_releaseJob _ _).trans (scale_bump s (by simp only [Obj.SLOT_WAIT_DROP]; omega))
    · split
      · exact scale_bump _ (by simp only [Obj.SLOT_FULL]; omega)
      · exact scale_chooseL p s _ _

theorem scale_sillStepped : scale (sillStepped p s) = scale s := by
  unfold sillStepped
  dsimp only
  split
  · rfl
  · exact (scale_setPort _ _ _).trans
      ((foldl_leaves scale (fun a x => (scale_sillAgain p _ x).trans (scale_setPort _ _ _)) _ _).trans (scale_setPort _ _ _))

theorem scale_sillReleased : scale (sillReleased s) = scale s := foldl_leaves scale (fun a p => scale_sillStepped p a) _ s

end

/-! ### Lock (R33, R34) -/

theorem cancelStep_mts (s : State) : (cancelStep s).ts.mts = s.ts.mts := by
  obtain h | ⟨n, j, h, -⟩ := cancelStep_shape s <;> rw [h]

/-- The cancellation of an announced step leaves the counter and the state of the time scale (R51). -/
theorem cancelAnnounced_leaves (s : State) : getN (cancelAnnounced s) Obj.TS_STATE = getN s Obj.TS_STATE ∧
    getN (cancelAnnounced s) Obj.TS_STATE_SINCE = getN s Obj.TS_STATE_SINCE ∧ (cancelAnnounced s).ts.mts = s.ts.mts := by
  have hscale : scale (cancelAnnounced s) = scale (cancelStep s) := by
    simp only [cancelAnnounced, apply_ite scale, scale_sillReleased, ite_self]
  obtain ⟨hts, hstate, hsince⟩ : _ ∧ _ ∧ _ := by simpa only [scale, Prod.mk.injEq] using hscale
  exact ⟨hstate.trans (getN_cancelStep s (by decide)), hsince.trans (getN_cancelStep s (by decide)),
    (congrArg TimeScale.mts hts).trans (cancelStep_mts s)⟩

theorem tsLockedNow_due {s : State} (hstate : getN s Obj.TS_STATE = 1 ∨ getN s Obj.TS_STATE = 4)
    (href : activeTime s ≠ 0xFF ∨ hingeRef s = true) (hlock : lockDue s = true) (hb : atBoundary s = true) (hc : tsChanged s = false) :
    tsLockedNow s = cancelAnnounced (enterTs 2 s) := by
  have hlocked : tsLocked s = enterTs 2 s := if_pos ⟨hstate, href, hlock⟩
  rw [tsLockedNow, hb, hc, hlocked]
  rfl

end Sys2Proof.Machine
end

section
namespace Sys2Proof.Machine

/-- Settles O18: each event by the rule of its case. -/
theorem timeEvents : Obligations.TimeEvents := by
  unfold Obligations.TimeEvents
  refine ⟨fun s hu => ⟨fun v hv => ?_, fun hp hdue => ?_, fun n hdue => ?_, fun n hdue => ?_⟩,
    fun s hu => ⟨fun hstate href hlock hb hc => ?_, fun g hg => ?_, fun v hv hdue => ?_⟩⟩
  · refine nextWith_of_ifUp rfl hu rfl ?_
    simp only [settle_keeps, loopApply_ts hv, and_self]
  · obtain ⟨x, e⟩ := leapReached_due hp hdue
    refine nextWith_of_ifUp rfl hu e ⟨getN_settle_of_lt (by decide) ?_, getN_settle_of_lt (by decide) (getN_setJ_same _ _ _),
      frame_settle (keepsAll_leap _ _ x s)⟩
    exact (getN_setJ_ne _ _ (by decide)).trans (getN_setJ_same _ _ _)
  · obtain ⟨hcount, hdone⟩ := writeKeep_keep (keepAdvance n s)
    obtain ⟨r, hr, hmts, hbound, hutc⟩ := keepRecord_writeKeep (keepAdvance n s)
    refine nextWith_of_ifUp rfl hu (keepWrite_due hdue n) ⟨?_, getN_settle_of_lt (by decide) (getN_setN_same _ Obj.KEEP_VALID 1), ?_,
      ⟨r, ?_, hmts, ?_, ?_⟩, ?_⟩
    · simp only [settle_keeps, hcount]
      rfl
    · simp only [settle_keeps]
      exact hdone
    · simpa only [keepRecord, settle_keeps] using hr
    · rw [hbound, getNat, getN_keepAdvance n s (by decide), ← getNat]
    · exact hutc.trans (getN_keepAdvance n s (by decide))
    · exact frame_settle (keepsAll_writeKeep (keepsAll_keepAdvance (by decide) (by decide) n s) (by decide) (by decide))
  · obtain ⟨htick, hmark⟩ := keepLearn_ts hdue n
    refine nextWith_of_ifUp rfl hu rfl ⟨?_, ?_, frame_settle (keepsAll_keepLearn hdue n)⟩
    · simpa only [settle_keeps] using htick
    · simpa only [settle_keeps] using hmark
  · obtain ⟨hs, hsince, hmts⟩ := cancelAnnounced_leaves (enterTs 2 s)
    obtain ⟨i, x, hts⟩ := enterTs_ts 2 s
    refine nextWith_of_ifUp rfl hu (tsLockedNow_due hstate href hlock hb hc)
      ⟨getN_settle_of_lt (by decide) (hs.trans ?_), getN_settle_of_lt (by decide) (hsince.trans ?_), ?_⟩
    · rw [getN_enterTs, if_neg (by decide), if_pos rfl]
    · rw [getN_enterTs, if_pos rfl]
    · simp only [settle_keeps, hmts, hts]
  · exact nextWith_of_ifUp rfl hu (gradeDwell_better hg) ⟨getN_settle_of_lt (by decide) (getN_setJ_same _ _ _), betterGrade_lt hg,
      frame_settle (keepsAll_setJ (keepsAll_refl _ _ s) (List.mem_singleton.2 rfl) _)⟩
  · exact nextWith_of_ifUp rfl hu (violExpiry_due hv hdue)
      ⟨getN_settle_of_lt (by decide) (getN_setN_same _ _ _), frame_settle (keepsAll_setN_self _ _ s)⟩

end Sys2Proof.Machine
end

section
/-! SUPPORT. What the effects of written objects keep: the resource table (R414, R415), a generator's run (R177), a core's counters (R450);
and the accepted WRITE whose rule keeps what it does not name, or hands the value on (R43, R404, R405). -/
namespace Sys2Proof.Machine

/-! ### The resource table (R106, R165, R177, R414, R415) -/

section
variable {ps : List Part} {ks : List Nat} {s t : State} (h : keepsAll ps ks s t) (hq : Part.claims ∈ ps)
include h hq

theorem keepsAll_claims (l : List Claim) : keepsAll ps ks s { t with claims := l } := by
  refine keepsAll_replace h hq (fun p hp => ?_) fun _ => rfl
  cases p
  case claims => exact absurd rfl hp
  all_goals rfl

theorem keepsAll_claim (c : Claim) : keepsAll ps ks s (claim c t) := by
  unfold claim
  split
  · exact h
  · exact keepsAll_claims h hq _

theorem keepsAll_release (cls num : Nat) : keepsAll ps ks s (release cls num t) := keepsAll_claims h hq _

theorem keepsAll_releaseAll (cls kind knum : Nat) : keepsAll ps ks s (releaseAll cls kind knum t) := keepsAll_claims h hq _

/-- One release for each claim of a list that a test names. -/
theorem keepsAll_releases (f : Claim → Prop) [DecidablePred f] (cls : Nat) (l : List Claim) :
    keepsAll ps ks s (l.foldl (fun a c => if f c then release cls c.num a else a) t) := by
  induction l generalizing t with
  | nil => exact h
  | cons c r ih =>
    refine ih ?_
    show keepsAll ps ks s (if f c then release cls c.num t else t)
    split
    · exact keepsAll_release h hq _ _
    · exact h

theorem keepsAll_monitorClaim (c : Nat) : keepsAll ps ks s (monitorClaim c t) := by
  unfold monitorClaim
  split
  · exact keepsAll_release h hq _ _
  · split
    · exact h
    · exact keepsAll_claim h hq _

end

theorem keepsAll_ruleTdc (c f : Nat) (v : Val) (s : State) : keepsAll [.claims] [] s ((ruleTdc c f).eff v s) := by
  unfold ruleTdc
  split
  · exact keepsAll_monitorClaim (keepsAll_refl _ _ s) (by decide) c
  all_goals exact keepsAll_refl _ _ s

theorem ruleTdc_defer (c f : Nat) : (ruleTdc c f).defer = none := by
  unfold ruleTdc
  split <;> rfl

theorem keepsAll_ruleClkEnable (c : Nat) (v : Val) (s : State) : keepsAll [.claims] [] s ((ruleClkEnable c).eff v s) := by
  have hs := keepsAll_refl [.claims] [] s
  have hreleased : keepsAll [.claims] [] s (releaseAll 0x1104 3 c s) := keepsAll_releaseAll hs (by decide) _ _ _
  simp only [ruleClkEnable]
  split
  · split
    · refine keepsAll_claim ?_ (by decide) _
      split
      · exact hs
      · exact hreleased
    · exact hreleased
  · exact hs

theorem keepsAll_rulePgRoute (g : Nat) (v : Val) (s : State) : keepsAll [.claims] [] s ((rulePgRoute g).eff v s) := by
  have hreleased := keepsAll_releases (keepsAll_refl [.claims] [] s) (by decide)
    (fun c => c.cls = 0x1106 ∧ c.kind = kindPg ∧ c.knum = g) 0x1106 s.claims
  simp only [rulePgRoute]
  split
  · exact hreleased
  · exact keepsAll_claim hreleased (by decide) _

/-! ### A generator's run (R177) and a core's counters (R450) -/

theorem keepsAll_synth {ps : List Part} {ks : List Nat} {s t : State} (h : keepsAll ps ks s t) (hq : Part.synth ∈ ps) (x : Synth) :
    keepsAll ps ks s { t with synth := x } := by
  refine keepsAll_replace h hq (fun p hp => ?_) fun _ => rfl
  cases p
  case synth => exact absurd rfl hp
  all_goals rfl

theorem keepsAll_cores {ps : List Part} {ks : List Nat} {s t : State} (h : keepsAll ps ks s t) (hq : Part.cores ∈ ps) (x : Cores) :
    keepsAll ps ks s { t with cores := x } := by
  refine keepsAll_replace h hq (fun p hp => ?_) fun _ => rfl
  cases p
  case cores => exact absurd rfl hp
  all_goals rfl

theorem keepsAll_rulePgMode (g : Nat) (v : Val) (s : State) : keepsAll [.synth] [Obj.PG_STATE g] s ((rulePgMode g).eff v s) :=
  keepsAll_setN (keepsAll_synth (keepsAll_refl _ _ s) (by decide) _) (List.mem_singleton.2 rfl) 0

theorem keepsAll_rulePmcSel (n j : Nat) (v : Val) (s : State) : keepsAll [.cores] [] s ((rulePmcSel n j).eff v s) :=
  keepsAll_cores (keepsAll_refl _ _ s) (by decide) _

/-! ### Accepted WRITES (R43, R404, R405) -/

/-- Objects that neither the response nor the last act of a command moves. -/
theorem not_mem_answered_of_lt {k : Nat} (h : k < 0x700304) : k ∉ Obj.NOTIFY_DROP :: derivedKeys := by
  refine List.not_mem_cons_of_ne_of_not_mem ?_ (not_mem_derivedKeys h)
  simp only [Obj.NOTIFY_DROP]
  omega

/-- The objects of a family, one for each unit. -/
theorem family_not_mem_answered {base m : Nat} (n : Fin m) (h : base + 256 * m ≤ 0x700304) :
    base + 256 * n ∉ Obj.NOTIFY_DROP :: derivedKeys := not_mem_answered_of_lt (by omega)

theorem tdcField_not_mem_answered (c : Fin 16) (f : Fin 6) : Obj.TDC_SOURCE c + f ∉ Obj.NOTIFY_DROP :: derivedKeys :=
  not_mem_answered_of_lt (by simp only [Obj.TDC_SOURCE]; omega)

theorem leadKey_lt (p : Fin 16) (f : Nat) : leadKey p f < 0x700304 := by
  unfold leadKey
  split <;> simp only [Obj.LEAD_DEFAULT, Obj.LEAD_MIN, Obj.LEAD_MAX] <;> omega

theorem pmcSel_not_mem_answered (n : Fin 5) (j : Fin 8) : Obj.PMC_SEL n j ∉ Obj.NOTIFY_DROP :: derivedKeys := by
  simp only [derivedKeys, List.mem_cons, List.not_mem_nil, or_false, Obj.FAULT_WORST_STICKY, Obj.FAULT_WORST_LIVE, Obj.FAULT_STICKY_COUNT,
    Obj.FAULT_ROLE_HOLD, Obj.SESSIONS_OPEN, Obj.GROUPS_HELD, Obj.KEY_BAD_COUNT, Obj.INRUSH_QUEUE, Obj.NOTIFY_DROP, Obj.PMC_SEL]
  omega

/-- A rule that leaves its own object: the WRITE stores the value, and only what the rule names changes beside it. -/
theorem writes_of_keepsAll {c : Req → Instr} {k : Nat} {r : Rule} {ps : List Part} {ks : List Nat} {s : State} (hu : up s = true)
    (hd : r.defer = none) (hk : k ∉ Obj.NOTIFY_DROP :: derivedKeys) (hown : k ∉ ks)
    (hc : ∀ q, exec (c q) s = finish (ifUp (ownerWrite q k r) s)) (he : ∀ v u, keepsAll ps ks u (r.eff v u)) :
    writes c k r ps ks s := by
  obtain ⟨hdrop, hderived⟩ := List.ne_and_not_mem_of_not_mem_cons hk
  refine writes_of hu hd hderived hdrop hc (fun x u => ?_) fun x u => (he (.num x) u).2 k hown
  obtain ⟨hparts, hnums⟩ := he (.num x) u
  exact ⟨hparts, fun i hi => hnums i (List.ne_and_not_mem_of_not_mem_cons hi).2⟩

/-- A rule that defers: the value is handed on, the request in flight (R375). -/
theorem ownerWrite_deferred {q : Req} {k : Nat} {r : Rule} {s s2 : State} {v : Val} {f : Req → Val → State → State}
    (h : acceptedWrite q k r s = some (v, s2)) (hd : r.defer = some f) : ownerWrite q k r s = f q v (inFlight q s2) := by
  unfold acceptedWrite at h
  unfold ownerWrite
  cases e : acceptFrame q.hdr q.sess s with
  | mk a b =>
    cases a with
    | none => simp [e] at h
    | some s1 =>
      simp only [e] at h ⊢
      split at h
      case isTrue c =>
        obtain ⟨htests, htyp, hdecoded, hchange, hchk⟩ := c
        obtain ⟨rfl, rfl⟩ := Prod.mk.inj (Option.some.inj h)
        have hact : ¬(_ ≠ Access.wo ∧ _ = _) := fun hn => hchange.elim hn.1 fun hne => hne hn.2
        rw [if_neg (not_not.2 htests), if_neg htyp]
        simp only [ne_eq, not_true_eq_false, if_false, hdecoded, hchk, hd, if_neg hact]
        rfl
      case isFalse => cases h

theorem getN_incrAnswer_applied (v : Nat) (q : Req) (s : State) :
    getN (incrAnswer (v, some q) s) Obj.INCR_WRITE = v ∧ getN (incrAnswer (v, some q) s) Obj.INCR_APPLIED_AT = mts96 s := by
  have hanswer (k : Nat) (hk : k ≠ Obj.NOTIFY_DROP) : getN (incrAnswer (v, some q) s) k =
      getN (setN Obj.INCR_WRITE v (setN Obj.INCR_APPLIED_AT (mts96 s) (slotsIncred s))) k := getN_answer _ _ _ _ _ _ _ _ hk
  rw [hanswer _ (by decide), hanswer _ (by decide)]
  exact ⟨getN_setN_same _ _ _, (getN_setN_ne _ _ (by decide)).trans (getN_setN_same _ _ _)⟩

end Sys2Proof.Machine
end

section
namespace Sys2Proof

open Machine

/-- Settles O7: each object by the rule of its key. -/
theorem writes : Obligations.Writes := by
  unfold Obligations.Writes
  refine ⟨fun s hu => ⟨?_, ?_, ?_, fun n => ?_, fun n => ?_, fun c => ?_, fun g => ?_, fun g => ?_, fun r => ?_, fun c f => ?_,
      fun p f => ?_, fun n j => ?_⟩,
    fun s hu => ⟨fun q v s2 h => acts_of_ifUp rfl hu (ownerWrite_deferred h rfl), fun v q => getN_incrAnswer_applied v q s,
      fun r => writesBy_of hu rfl fun _ => rfl, fun p => writesBy_of hu rfl fun _ => rfl, fun p => writesBy_of hu rfl fun _ => rfl,
      fun k f => writesBy_of hu rfl fun _ => rfl, writesBy_of hu rfl fun _ => rfl, writesDomain_of hu rfl fun _ => rfl,
      writesDomain_of hu rfl fun _ => rfl⟩⟩
  · exact writes_of_keepsAll hu rfl (by decide) (by decide) (fun _ => rfl) fun _ => keepsAll_refl _ _
  · exact writes_of_keepsAll hu rfl (by decide) (by decide) (fun _ => rfl) fun _ => keepsAll_refl _ _
  · exact writes_of_keepsAll hu rfl (by decide) (by decide) (fun _ => rfl) fun _ => keepsAll_refl _ _
  · exact writes_of_keepsAll hu rfl (family_not_mem_answered n (by decide)) List.not_mem_nil (fun _ => rfl) fun _ => keepsAll_refl _ _
  · exact writes_of_keepsAll hu rfl (family_not_mem_answered n (by decide)) List.not_mem_nil (fun _ => rfl) fun _ => keepsAll_refl _ _
  · exact writes_of_keepsAll hu rfl (family_not_mem_answered c (by decide)) List.not_mem_nil (fun _ => rfl) (keepsAll_ruleClkEnable c)
  · refine writes_of_keepsAll hu rfl (family_not_mem_answered g (by decide)) ?_ (fun _ => rfl) (keepsAll_rulePgMode g)
    exact fun hg => absurd (List.mem_singleton.1 hg) (by simp only [Obj.PG_MODE, Obj.PG_STATE]; omega)
  · exact writes_of_keepsAll hu rfl (family_not_mem_answered g (by decide)) List.not_mem_nil (fun _ => rfl) (keepsAll_rulePgRoute g)
  · exact writes_of_keepsAll hu rfl (family_not_mem_answered r (by decide)) List.not_mem_nil (fun _ => rfl) fun _ => keepsAll_refl _ _
  · exact writes_of_keepsAll hu (ruleTdc_defer _ _) (tdcField_not_mem_answered c f) List.not_mem_nil (fun _ => rfl)
      (keepsAll_ruleTdc c (f + 1))
  · exact writes_of_keepsAll hu rfl (not_mem_answered_of_lt (leadKey_lt p f)) List.not_mem_nil (fun _ => rfl) fun _ => keepsAll_refl _ _
  · exact writes_of_keepsAll hu rfl (pmcSel_not_mem_answered n j) List.not_mem_nil (fun _ => rfl) (keepsAll_rulePmcSel n j)

end Sys2Proof
end

section
/-! SUPPORT. The selector's events: what a disqualification shows, what each leaves between boundaries, and the vote on one dispute
(R135, R136, R144, R145). -/
namespace Sys2Proof.Machine

theorem getN_disqualify (r cause : Nat) (s : State) :
    getN (disqualify r cause s) (Obj.REF_STATE r) = 6 ∧ getN (disqualify r cause s) (Obj.REF_DISQ_CAUSE r) = cause := by
  have entered (x : State) : getN (enterRef r 6 cause x) (Obj.REF_STATE r) = 6 ∧
      getN (enterRef r 6 cause x) (Obj.REF_DISQ_CAUSE r) = cause := by
    refine ⟨?_, getN_setN_same _ _ _⟩
    exact (getN_setN_ne _ _ (by simp)).trans ((getN_setN_ne _ _ (by simp)).trans (getN_setJ_same _ _ x))
  unfold disqualify
  dsimp only
  split
  · have hstate : Obj.REF_LOST r ≠ Obj.REF_STATE r := by simp
    have hcause : Obj.REF_LOST r ≠ Obj.REF_DISQ_CAUSE r := by simp
    simpa only [bump_eq, getN_setN_ne _ _ hstate, getN_setN_ne _ _ hcause] using entered _
  · exact entered _

/-! ### Between boundaries (R136) -/

section
variable {r : Nat} {s : State} (hb : atBoundary s = false)
include hb

theorem not_boundary_and (P : Prop) : ¬ (atBoundary s = true ∧ P) := by simp [hb]

theorem refQualified_between : refQualified r s = s := if_neg (not_boundary_and hb _)

theorem refLost_between : refLost r s = s := if_neg (not_boundary_and hb _)

theorem refWtrExpiry_between : refWtrExpiry r s = s := if_neg (by simp [hb])

theorem disqualHoldExpiry_between : disqualHoldExpiry r s = s := if_neg (not_boundary_and hb _)

end

/-! ### Votes (R145) -/

/-- The dispute of a pair is of that pair, recorded or not. -/
theorem disputeOf_pair (s : State) (a b : Nat) : (disputeOf s a b).a = a ∧ (disputeOf s a b).b = b := by
  unfold disputeOf
  cases h : s.sel.disputes.find? (fun d => d.a = a && d.b = b) with
  | none => exact ⟨rfl, rfl⟩
  | some d => simpa using List.find?_some h

section
variable {s : State} {d : Dispute}

/-- Nobody outvoted: whoever still disputes after the boundary's lapses is told of. -/
theorem voteOn_tied (h : outvotedIn s d = none) : voteOn [d] s =
    if (disputeOf (endLapsed s) d.a d.b).begun then unresolved d.a d.b (endLapsed s) else endLapsed s := by
  simp [voteOn, h]

/-- The outvoted reference is disqualified before the lapsed disputes end. -/
theorem voteOn_outvoted {r : Nat} (h : outvotedIn s d = some r) : voteOn [d] s =
    if (disputeOf (endLapsed (disqualify r 3 s)) d.a d.b).begun then unresolved d.a d.b (endLapsed (disqualify r 3 s))
    else endLapsed (disqualify r 3 s) := by
  simp [voteOn, h, List.eraseDups_cons]

/-- The C0 event of a dispute comes once in an hour of MTS. -/
theorem unresolved_again {a b t : Nat} (ht : (disputeOf s a b).eventSec = some t) (hhour : mtsSec s < t + 3600) :
    unresolved a b s = s := by
  simp [unresolved, ht, hhour]

end

end Sys2Proof.Machine
end

section
namespace Sys2Proof.Machine

/-- Settles O21: each event by the rule of its case. -/
theorem selectionEvents : Obligations.SelectionEvents := by
  unfold Obligations.SelectionEvents
  refine ⟨fun s r hu => ⟨?_, ?_, ?_, ?_, ?_, ?_, fun x cause => getN_disqualify r cause x, fun hb => ⟨?_, ?_, ?_, ?_, ?_, ?_⟩⟩,
    fun s a b hu hab hb => ⟨?_, ?_, ?_, ?_, fun r d h => voteOn_outvoted h, fun t ht hhour => unresolved_again ht hhour⟩⟩
  · exact fun hb hst hq => acts_of_ifUp rfl hu (refQualified_due hb hst hq)
  · exact fun hb hst hl => acts_of_ifUp rfl hu (refLost_due hb hst hl)
  · exact fun t hb ht hover => acts_of_ifUp rfl hu (refWtrExpiry_over hb ht hover)
  · exact fun hb hst hq => acts_of_ifUp rfl hu (disqualHoldExpiry_due hb hst hq)
  · exact fun hb hst hover => acts_of_ifUp rfl hu ((if_pos hb).trans (buildOutTimeout_over hst hover))
  · exact fun hb hsw hover => acts_of_ifUp rfl hu ((if_pos hb).trans (freqSwitchDone_over hsw hover))
  · exact acts_of_ifUp rfl hu (refQualified_between hb)
  · exact acts_of_ifUp rfl hu (refLost_between hb)
  · exact acts_of_ifUp rfl hu (refWtrExpiry_between hb)
  · exact acts_of_ifUp rfl hu (disqualHoldExpiry_between hb)
  · exact acts_of_ifUp rfl hu (if_neg (by simp [hb]))
  · exact acts_of_ifUp rfl hu (if_neg (by simp [hb]))
  · exact fun hnot hcomp hnew ha hb' hdis hpersist =>
      acts_of_ifUp rfl hu (disputeBegin_persists hab hb hnot hcomp hnew ha hb' hdis hpersist)
  · exact fun hbegun hcomp => acts_of_ifUp rfl hu (disputeEnd_incomparable hab hb hbegun hcomp)
  · intro hbegun htied
    obtain ⟨ha, hb'⟩ := disputeOf_pair s a b
    refine acts_of_ifUp rfl hu ((disputeUnresolved_voted hab hb hbegun).trans ?_)
    rw [voteOn_tied htied, ha, hb']
  · exact fun r hbegun _ => acts_of_ifUp rfl hu (disputeUnresolved_voted hab hb hbegun)

end Sys2Proof.Machine
end

section
/-! SUPPORT. Frames of the units' parts, and what ESMC sends and counts (R154, R155, R480). -/
namespace Sys2Proof.Machine

/-! ### Frames -/

section
variable {ps : List Part} {ks : List Nat} {s t : State} (h : keepsAll ps ks s t)
include h

theorem keepsAll_emit (hq : Part.out ∈ ps) (o : Out) : keepsAll ps ks s (emit o t) := by
  refine keepsAll_replace h hq (fun p hp => ?_) fun _ => rfl
  cases p
  case out => exact absurd rfl hp
  all_goals rfl

theorem keepsAll_setEsmc (hq : Part.esmc ∈ ps) (p : Nat) (f : Esmc → Esmc) : keepsAll ps ks s (setEsmc p f t) := by
  refine keepsAll_replace h hq (fun q hp => ?_) fun _ => rfl
  cases q
  case esmc => exact absurd rfl hp
  all_goals rfl

theorem keepsAll_bump {k : Nat} (hk : k ∈ ks) : keepsAll ps ks s (bump k t) := keepsAll_setN h hk _

end

/-! ### ESMC -/

theorem esmcRx_malformed {p : Nat} {s : State} (hp : p < nPorts s.variant) (ql ecode cascade : Nat) :
    esmcRx p false ql ecode cascade s = bump (Obj.ESMC_BAD p) s :=
  (if_neg (Nat.not_le.2 hp)).trans (if_pos rfl)

theorem keepsAll_sendEsmc (p : Nat) (event : Bool) (s : State) :
    keepsAll [.esmc, .out] [Obj.SSM_TX_QL p, Obj.ESMC_TX p] s (sendEsmc p event s) := by
  have hsent := keepsAll_setEsmc (ps := [.esmc, .out]) (ks := [Obj.SSM_TX_QL p, Obj.ESMC_TX p]) (keepsAll_refl _ _ s) (by decide) p
  exact keepsAll_emit (keepsAll_bump (keepsAll_setN (hsent _) (by simp) _) (by simp)) (by decide) _

/-- "Do not use" goes to the source itself, and from a standby everywhere (R155, R480). -/
theorem txQl_doNotUse {p : Nat} {s : State} (h : activeFreq s = 14 + p ∨ quiet s = true) : (txQl s p).1 = 0x0F :=
  congrArg Prod.fst (if_pos h.symm)

end Sys2Proof.Machine
end

section
namespace Sys2Proof

open Machine

/-- Settles O23: each event by the rule of its case. -/
theorem esmcEvents : Obligations.EsmcEvents := by
  unfold Obligations.EsmcEvents
  refine ⟨fun s p hu hp => ⟨?_, ?_, ?_, ?_⟩, fun s p h => txQl_doNotUse h⟩
  · exact fun ql e c => acts_of_ifUp rfl hu (esmcRx_malformed hp ql e c)
  · exact fun ql e c => acts_of_ifUp rfl hu (esmcRx_valid hp)
  · intro hup hdue
    refine nextWith_of_ifUp rfl hu (esmcInfo_due hp hup hdue)
      ⟨getN_settle_of_lt (by simp only [Obj.SSM_TX_QL]; omega) (getN_sendEsmc_ql false), ?_, frame_settle (keepsAll_sendEsmc p false s)⟩
    simp only [settle_keeps]
    exact sendEsmc_out false
  · exact fun hnot hover => acts_of_ifUp rfl hu (esmcFailed_over hp hnot hover)

end Sys2Proof
end

section
/-! SUPPORT. The steering of the atomic oscillator and the learning point, beyond their completion (R147–R152). -/
namespace Sys2Proof.Machine

/-! ### Frames -/

section
variable {ps : List Part} {ks : List Nat} {s t : State} (h : keepsAll ps ks s t)
include h

theorem keepsAll_setAtom (hq : Part.atom ∈ ps) (f : Atom → Atom) : keepsAll ps ks s (setAtom f t) := by
  refine keepsAll_replace h hq (fun p hp => ?_) fun _ => rfl
  cases p
  case atom => exact absurd rfl hp
  all_goals rfl

theorem keepsAll_putSteer (ha : Part.atom ∈ ps) (hf : Part.freeCtr ∈ ps) (hk : Obj.ATOM_STEER_NOW ∈ ks) (v : Int) :
    keepsAll ps ks s (putSteer v t) := by
  obtain ⟨w, c, e⟩ := setN_nearFree Obj.ATOM_STEER_NOW v 1000 (setAtom (fun a => { a with steer := v }) t)
  rw [putSteer, e]
  exact keepsAll_setN (keepsAll_freeCtr (keepsAll_setAtom h ha _) hf c) hk w

end

/-! ### Steering (R150) -/

section
variable {s : State}

theorem atomSteer_early (h : s.now < s.atom.lastSteer + sT) : atomSteer s = s := if_pos h

/-- `ATOM_STEER_MODE` 2 without a profile: the written value is stored, and the DAC keeps its zero. -/
theorem atomSteer_unprofiled (hover : s.atom.lastSteer + sT ≤ s.now) (hmode : getN s Obj.ATOM_STEER_MODE = 2)
    (hprof : atomProfile s = none) : ∃ c e, atomSteer s = emit (.dac s.atom.lastZero) (setN Obj.ATOM_DAC_CODE s.atom.lastZero
      (putSteer (getN s Obj.ATOM_STEER_SET * 1000)
        (setAtom (fun a => { a with errors := (e :: a.errors).take 64, lastSteer := s.now }) { s with freeCtr := c }))) := by
  obtain ⟨c, hc⟩ : ∃ c, (atomError s).2 = { s with freeCtr := c } := nearFree_shape _ _ s
  have hnext (f : Atom → Atom) : nextSteer (setAtom f { s with freeCtr := c }) =
      (getN s Obj.ATOM_STEER_SET * 1000, setAtom f { s with freeCtr := c }) := nextSteer_written hmode
  refine ⟨c, (atomError s).1, ?_⟩
  simp only [atomSteer, if_neg (Nat.not_lt.2 hover), hprof, hc, hnext]

end

theorem keepsAll_atomSteer_unprofiled (c : Nat) (v : Int) (f : Atom → Atom) (s : State) :
    keepsAll [.atom, .out, .freeCtr] [Obj.ATOM_STEER_NOW, Obj.ATOM_DAC_CODE] s
      (emit (.dac s.atom.lastZero) (setN Obj.ATOM_DAC_CODE s.atom.lastZero (putSteer v (setAtom f { s with freeCtr := c })))) := by
  have hfree := keepsAll_freeCtr (ps := [.atom, .out, .freeCtr]) (ks := [Obj.ATOM_STEER_NOW, Obj.ATOM_DAC_CODE])
    (keepsAll_refl _ _ s) (by decide) c
  have hput := keepsAll_putSteer (keepsAll_setAtom hfree (by decide) f) (by decide) (by decide) (by decide) v
  exact keepsAll_emit (keepsAll_setN hput (by decide) _) (by decide) _

theorem putSteer_out (v : Int) (s : State) : (putSteer v s).out = s.out :=
  nearFree_leaves (·.out) (fun _ _ => rfl) v 1000 (setAtom (fun a => { a with steer := v }) s)

theorem keepsAll_atomLockChange (high : Bool) (s : State) : keepsAll [.atom] [Obj.ATOM_LOCK_STATE] s (atomLockChange high s) :=
  keepsAll_setN (keepsAll_setAtom (keepsAll_refl _ _ s) (by decide) _) (by decide) _

/-! ### Learning (R147–R149) -/

theorem learnPoint_idle {s : State} (h : s.sel.interval = none) : learnPoint s = s := by
  rw [learnPoint, h]

theorem learnPoint_early {s : State} {t : Nat} (ht : s.sel.interval = some t) (h : s.now < t + 64 * sT) : learnPoint s = s := by
  rw [learnPoint, ht]
  exact if_pos (.inl h)

/-- The points before the newest and their published number, with the time scale and the bound beside it. -/
def learned (s : State) : List (Nat × Int) × Int × TimeScale × BoundUnit :=
  (s.sel.points.tail, getN s Obj.LEARN_POINTS, s.ts, s.bound)

theorem learned_setN {k : Nat} (hk : k ≠ Obj.LEARN_POINTS) (v : Int) (s : State) : learned (setN k v s) = learned s := by
  simp only [learned, setN_keeps, getN_setN_ne s v hk]

theorem learned_setLearned {k : Nat} (hk : k ≠ Obj.LEARN_POINTS) (v : Nat) (s : State) : learned (setLearned k v s) = learned s := by
  simp only [setLearned, apply_ite learned, learned_setN hk, ite_self]

theorem learned_divFree (n : Int) (d : Nat) (s : State) : learned (divFree n d s).2 = learned s :=
  divFree_leaves learned (fun _ _ => rfl) n d s

theorem learned_nearFree (n : Int) (d : Nat) (s : State) : learned (nearFree n d s).2 = learned s :=
  nearFree_leaves learned (fun _ _ => rfl) n d s

theorem learned_fitSlope (l : List (Nat × Int)) (s : State) : learned (fitSlope l s).2 = learned s := by
  unfold fitSlope
  dsimp only
  split
  · rfl
  · exact learned_divFree _ _ s

/-- The point is kept with those of the span. -/
theorem learned_learnPoint {t : Nat} {s : State} (ht : s.sel.interval = some t) (hover : t + 64 * sT ≤ s.now)
    (hn : s.sel.intCount ≠ 0) : learned (learnPoint s) =
      (within s (getF s Obj.LEARN_SPAN).toNat s.sel.points,
        ((within s (getF s Obj.LEARN_SPAN).toNat s.sel.points).length : Int) + 1, s.ts, s.bound) := by
  have taken : ¬ (s.now < t + 64 * sT ∨ s.sel.intCount = 0) := not_or.2 ⟨Nat.not_lt.2 hover, hn⟩
  unfold learnPoint
  rw [ht]
  change learned (ite _ _ _) = _
  rw [if_neg taken]
  extract_lets x span den y d v pts full rate s1 s2 day s3 a ap ar t1 t2 aday s4
  have hrate : learned rate.2 = learned s := (learned_fitSlope _ _).trans ((learned_divFree _ _ _).trans (learned_nearFree _ _ s))
  obtain ⟨-, -, hts, hbound⟩ : _ ∧ _ ∧ _ ∧ _ := by simpa only [learned, Prod.mk.injEq] using hrate
  have hkey0 : Obj.FREQ_UNC_LEARNED 0 ≠ Obj.LEARN_POINTS := by decide
  have hkey1 : Obj.FREQ_UNC_LEARNED 1 ≠ Obj.LEARN_POINTS := by decide
  have hkeyDrift : Obj.ATOM_DRIFT_LEARNED ≠ Obj.LEARN_POINTS := by decide
  have hpublished : learned s2 = (within s span s.sel.points, ((within s span s.sel.points).length : Int) + 1, s.ts, s.bound) := by
    rw [← hts, ← hbound]
    exact congrArg (fun n => (within s span s.sel.points, n, rate.2.ts, rate.2.bound)) (getN_setN_same _ _ _)
  have hcrystal : learned s3 = learned s2 := by
    simp only [s3, apply_ite learned, learned_setLearned hkey0, ite_self]
  have hfit : learned t1 = learned s3 := (learned_fitSlope _ _).trans (learned_nearFree _ _ s3)
  have hatom : learned s4 = learned s3 := by
    simp only [s4, t2, apply_ite learned, learned_setLearned hkey1, learned_setN hkeyDrift, hfit, ite_self]
  exact (hatom.trans hcrystal).trans hpublished

end Sys2Proof.Machine
end

section
namespace Sys2Proof.Machine

/-- Settles O22: each event by the rule of its case. -/
theorem atomEvents : Obligations.AtomEvents := by
  unfold Obligations.AtomEvents
  refine ⟨fun s hu => ⟨?_, ?_, ?_, ?_, ?_, ?_, ?_, ?_⟩, fun s t hu ht hover hn => ?_⟩
  · exact fun h => acts_of_ifUp rfl hu (learnPoint_idle h)
  · exact fun t ht h => acts_of_ifUp rfl hu (learnPoint_early ht h)
  · exact fun h => acts_of_ifUp rfl hu (atomSteer_early h)
  · intro hover hmode hprof
    obtain ⟨hsteer, hlast⟩ := atomSteer_written hover hmode hprof
    obtain ⟨c, e, h⟩ := atomSteer_unprofiled hover hmode hprof
    rw [h] at hsteer hlast
    refine nextWith_of_ifUp rfl hu h ⟨?_, ?_, getN_settle_of_lt (by decide) (getN_setN_same _ _ _), ?_,
      frame_settle (keepsAll_atomSteer_unprofiled c _ _ s)⟩
    · simpa only [settle_keeps] using hsteer
    · simpa only [settle_keeps] using hlast
    · simp only [settle_keeps, emit_keeps, setN_keeps, putSteer_out, setAtom]
  · exact fun b hprof huart hlen hready => acts_of_ifUp rfl hu (atomPoll_due hprof huart hlen hready)
  · exact fun bytes b hprof hhit => acts_of_ifUp rfl hu (atomResponse_hit hprof hhit)
  · exact fun t b hwait hprof hover => acts_of_ifUp rfl hu (atomTimeout_over hwait hprof hover)
  · exact fun high hprof => nextWith_of_ifUp rfl hu rfl ⟨getN_settle_of_lt (by decide) (getN_atomLockChange high hprof),
      by simp only [settle_keeps]; exact atomLockChange_atom high s, frame_settle (keepsAll_atomLockChange high s)⟩
  · obtain ⟨hinterval, hcount, hsum⟩ := learnPoint_interval ht hover hn
    obtain ⟨hpoints, hnum, hts, hbound⟩ : _ ∧ _ ∧ _ ∧ _ := by
      simpa only [learned, Prod.mk.injEq] using learned_learnPoint ht hover hn
    refine nextWith_of_ifUp rfl hu rfl ⟨?_, ?_, ?_, ?_, getN_settle_of_lt (by decide) hnum, ?_, ?_⟩ <;> simpa only [settle_keeps]

end Sys2Proof.Machine
end

section
/-! SUPPORT. The edges of the native outputs, of the generators and of the time of day: what each event commits, emits and leaves
(R130, R170–R180). -/
namespace Sys2Proof.Machine

/-! ### Descriptions of an instant (R178) -/

/-- What changes the synthesis block alone at every step of a fold, the fold changes the block alone. -/
theorem foldl_synth {α : Type} {f : State → α → State} (h : ∀ a x, ∃ y, f a x = { a with synth := y }) (l : List α) (s : State) :
    ∃ y, l.foldl f s = { s with synth := y } := by
  induction l generalizing s with
  | nil => exact ⟨s.synth, rfl⟩
  | cons x r ih =>
    obtain ⟨y, hy⟩ := h s x
    obtain ⟨z, hz⟩ := ih (f s x)
    exact ⟨z, by rw [List.foldl_cons, hz, hy]⟩

/-- A description waits in the outputs that follow the land. -/
theorem describe_shape (n src edge : Nat) (omitted : Bool) (pair : Int) (s : State) :
    ∃ y, describe n src edge omitted pair s = { s with synth := y } := by
  refine foldl_synth (fun a t => ?_) _ s
  split
  · exact ⟨_, rfl⟩
  · exact ⟨a.synth, rfl⟩

/-! ### Native edges (R170–R173) -/

/-- The outputs up to 3 are the native ones. -/
theorem output_of_native {n o : Nat} (ho : o = n) (hn : n < 4) (f : Nat → State) (x : State) : (if o < 4 then f o else x) = f n := by
  rw [ho, if_pos hn]

/-- The last native instant of an output that lies at most 2 µs ahead. -/
def nativeDue (s : State) (n : Nat) : Int := nativeAt (pps s n).offset (lastNative (pps s n).offset (s.ts.mts + 2 * us48))

section
variable {n : Nat} {s : State}

theorem commitNative_disabled (h : (pps s n).enabled = false) : commitNative n s = s := if_pos h

/-- An instant that has not been committed is, at the offset in force since the last one. -/
theorem commitNative_due (hen : (pps s n).enabled = true) (hsame : (pps s n).changed = false)
    (hfresh : ∀ l, (pps s n).lastAt = some l → l < (nativeDue s n).toNat) (hpos : 0 ≤ nativeDue s n)
    (hdue : commitDue s (nativeDue s n).toNat = true) :
    commitNative n s = countSquelch
      (makeEdge s (some n) (getN s (Obj.PPS_POLARITY n)) (getNat s (Obj.PPS_WIDTH n)) (nativeDue s n).toNat)
      (setPps n (fun y => { y with edges := y.edges ++
          [makeEdge s (some n) (getN s (Obj.PPS_POLARITY n)) (getNat s (Obj.PPS_WIDTH n)) (nativeDue s n).toNat] })
        (setPps n (fun y => { y with lastAt := some (nativeDue s n).toNat, changed := false }) s)) := by
  have fresh : (match (pps s n).lastAt with | some l => decide (l < (nativeDue s n).toNat) | none => true) = true := by
    cases h : (pps s n).lastAt with
    | none => rfl
    | some l => exact decide_eq_true (hfresh l h)
  unfold nativeDue at *
  rw [commitNative, if_neg (by simp [hen])]
  refine (if_neg ?_).trans ?_
  · rintro (hneg | hstale | hwait)
    · exact Int.not_lt.2 hpos hneg
    · exact Bool.noConfusion (hstale.symm.trans fresh)
    · exact Bool.noConfusion (hwait.symm.trans hdue)
  · simp only [hsame, Bool.false_and, Bool.false_eq_true, if_false]

section
variable {e : Edge} {rest : List Edge} {m : Nat} (hedges : (pps s n).edges = e :: rest) (hat : e.atI ≤ m)
include hedges hat

theorem emitNative_hidden (hhidden : edgeHidden s e = true) : ∃ y, emitNative n m s = { s with synth := y } := by
  rw [emitNative, hedges]
  simp only [if_neg (Nat.not_lt.2 hat), hhidden, if_true]
  exact describe_shape _ _ _ _ _ _

theorem emitNative_shown (hshown : edgeHidden s e = false) :
    ∃ y, emitNative n m s = setN (Obj.PPS_STATE n) 1 (recordEdge n e { s with synth := y }) := by
  rw [emitNative, hedges]
  simp only [if_neg (Nat.not_lt.2 hat), hshown, Bool.false_eq_true, if_false]
  exact describe_shape _ _ _ _ _ _

end

end

/-- The land and its state show the edge that left (R171). -/
theorem getN_recordEdge (n : Nat) (e : Edge) (s : State) :
    getN (setN (Obj.PPS_STATE n) 1 (recordEdge n e s)) (Obj.PPS_LAST_EDGE n) = t96Of e.atI ∧
    getN (setN (Obj.PPS_STATE n) 1 (recordEdge n e s)) (Obj.PPS_LAST_BOUND n) = e.pair := by
  simp [recordEdge]

theorem keepsAll_recordEdge {ps : List Part} {ks : List Nat} {s t : State} {n : Nat} (h : keepsAll ps ks s t) (hq : Part.out ∈ ps)
    (hedge : Obj.PPS_LAST_EDGE n ∈ ks) (hbound : Obj.PPS_LAST_BOUND n ∈ ks) (hcount : Obj.PPS_EMITTED n ∈ ks) (e : Edge) :
    keepsAll ps ks s (recordEdge n e t) :=
  keepsAll_emit (keepsAll_bump (keepsAll_setN (keepsAll_setN h hedge _) hbound _) hcount) hq _

/-! ### Generators (R174, R175) -/

theorem pgPublish_shape (g : Nat) (s : State) : pgPublish g s = s ∨ ∃ v, pgPublish g s = setN (Obj.PG_NEXT g) v s := by
  unfold pgPublish
  split
  · exact .inr ⟨_, rfl⟩
  · exact .inl rfl

theorem getN_pgPublish_ne {g k : Nat} (hk : Obj.PG_NEXT g ≠ k) (s : State) : getN (pgPublish g s) k = getN s k := by
  obtain e | ⟨v, e⟩ := pgPublish_shape g s <;> rw [e]
  exact getN_setN_ne s v hk

theorem keepsAll_pgPublish {ps : List Part} {ks : List Nat} {s t : State} {g : Nat} (h : keepsAll ps ks s t) (hk : Obj.PG_NEXT g ∈ ks) :
    keepsAll ps ks s (pgPublish g t) := by
  obtain e | ⟨v, e⟩ := pgPublish_shape g t <;> rw [e]
  · exact h
  · exact keepsAll_setN h hk v

section
variable {g t : Nat} {s : State} (hanchor : (pg s g).anchor = some t)
  (hst : getN s (Obj.PG_STATE g) = 2 ∨ getN s (Obj.PG_STATE g) = 3)
  (hover : 8 * of96 t + 9 * of96 (getNat s (Obj.PG_PERIOD g)) < 8 * s.ts.mts)
include hanchor hst hover

/-- The hold runs out: ALIGN_LOST, and nothing is placed. -/
theorem alignMiss_lost (hhold : getNat s (Obj.PG_ALIGN_HOLD g) ≤ (pg s g).misses + 1) :
    ∃ y, alignMiss g s = setN (Obj.PG_STATE g) 5 { bump (Obj.ALIGN_MISS g) s with synth := y } := by
  rw [alignMiss]
  simp only [hanchor, if_pos (And.intro hst hover), if_pos hhold]
  exact ⟨_, rfl⟩

/-- Within the hold the generator flywheels: the next output is placed one period on. -/
theorem alignMiss_flywheel (hhold : (pg s g).misses + 1 < getNat s (Obj.PG_ALIGN_HOLD g)) :
    ∃ y, alignMiss g s = pgPublish g (setN (Obj.PG_STATE g) 3 { bump (Obj.ALIGN_MISS g) s with synth := y }) := by
  rw [alignMiss]
  simp only [hanchor, if_pos (And.intro hst hover), if_neg (Nat.not_le.2 hhold)]
  exact ⟨_, rfl⟩

end

/-! ### Time of day (R130, R178–R180) -/

section
variable {t : Nat} {s : State}

theorem todStart_none (h : (tod s t).due = []) : todStart t s = s := by
  rw [todStart, h]

section
variable {x : Sentence} {rest : List Sentence} (hdue : (tod s t).due = x :: rest)
  (hstart : of96 x.edge + getNat s (Obj.TOD_DELAY t) * us48 ≤ s.ts.mts) (hloud : silentOutputs s = false)
  (hthere : outputsAbsent s = false)
include hdue hstart hloud hthere

/-- A sentence that finds the line taken is skipped. -/
theorem todStart_busy (hbusy : s.now < (tod s t).busyUntil) :
    todStart t s = bump (Obj.TOD_SKIPPED t) (setTod t (fun y => { y with due := rest }) s) := by
  rw [todStart]
  simp only [hdue, if_neg (Nat.not_lt.2 hstart), hloud, hthere, Bool.false_eq_true, or_self, if_false, if_pos hbusy]

/-- An FNTD output sends one sentence and takes the line. -/
theorem todStart_fntd (hfree : (tod s t).busyUntil ≤ s.now) (hfmt : getNat s (Obj.TOD_FORMAT t) = 0) :
    ∃ y, todStart t s = emit (.sentence t (fntdBytes x (tod s t).seq)) (bump (Obj.TOD_SENT t) { s with synth := y }) := by
  have hsome : (fntdBytes x (tod s t).seq).isEmpty = false := rfl
  rw [todStart]
  simp only [hdue, if_neg (Nat.not_lt.2 hstart), hloud, hthere, Bool.false_eq_true, or_self, if_false, if_neg (Nat.not_lt.2 hfree),
    hfmt, hsome, Nat.zero_ne_one, true_or, if_true, List.isEmpty_nil, List.append_nil, Nat.add_zero, Nat.one_ne_zero]
  exact ⟨_, rfl⟩

end

theorem todinRx_invalid {x : TodSentence} (ago : Nat) (h : todSecond s t x = none) : todinRx t x ago s = bump (Obj.TODIN_BAD t) s := by
  rw [todinRx, h]

theorem todinRx_orphan {x : TodSentence} {sec : Nat} (ago : Nat) (h : todSecond s t x = some sec) (hnone : s.pulseWait = []) :
    todinRx t x ago s = bump (Obj.TODIN_ORPHAN t) s := by
  rw [todinRx, h]
  simp only [hnone, List.reverse_nil, List.find?_nil]

end

end Sys2Proof.Machine
end

section
namespace Sys2Proof.Machine

/-- Settles O25: each event by the rule of its case. -/
theorem pulseEvents : Obligations.PulseEvents := by
  unfold Obligations.PulseEvents
  refine ⟨fun s n hu => ⟨?_, ?_, ?_, ?_⟩, fun s g o hu ho => ⟨?_, ?_, ?_, ?_⟩, fun s t hu => ⟨?_, ?_, ?_, ?_, ?_, ?_⟩⟩
  -- Native edges.
  · exact fun o ho h => acts_of_ifUp rfl hu ((output_of_native ho n.isLt (commitNative · s) _).trans (commitNative_disabled h))
  · exact fun o ho hen hsame hfresh hpos hdue => acts_of_ifUp rfl hu
      ((output_of_native ho n.isLt (commitNative · s) _).trans (commitNative_due hen hsame hfresh hpos hdue))
  · intro o e rest ho hedges hat hshown
    obtain ⟨y, h⟩ := emitNative_shown hedges hat hshown
    obtain ⟨hedge, hbound⟩ := getN_recordEdge n e { s with synth := y }
    have hsynth := keepsAll_synth (ps := [.synth, .out])
      (ks := [Obj.PPS_LAST_EDGE n, Obj.PPS_LAST_BOUND n, Obj.PPS_EMITTED n, Obj.PPS_STATE n]) (keepsAll_refl _ _ s) (by decide) y
    refine nextWith_of_ifUp rfl hu ((output_of_native ho n.isLt (emitNative · s.ts.mts s) _).trans h)
      ⟨getN_settle_of_lt (by simp only [Obj.PPS_LAST_EDGE]; omega) hedge, getN_settle_of_lt (by simp only [Obj.PPS_LAST_BOUND]; omega) hbound,
        getN_settle_of_lt (by simp only [Obj.PPS_STATE]; omega) (getN_setN_same _ _ _), ?_, frame_settle ?_⟩
    · simp only [settle_keeps]
      rfl
    · exact keepsAll_setN (keepsAll_recordEdge hsynth (by decide) (by simp) (by simp) (by simp) e) (by simp) 1
  · intro o e rest ho hedges hat hhidden
    obtain ⟨y, h⟩ := emitNative_hidden hedges hat hhidden
    refine nextWith_of_ifUp rfl hu ((output_of_native ho n.isLt (emitNative · s.ts.mts s) _).trans h)
      ⟨?_, frame_settle (keepsAll_synth (keepsAll_refl _ _ s) (by decide) y)⟩
    simp only [settle_keeps]
  -- Generators.
  · exact fun d rest hdue hc hmode => acts_of_ifUp rfl hu
      ((output_of_generator ho _ (commitPg · s)).trans (commitPg_generator hdue hc hmode))
  · exact fun e rest hedges hat hroute hshown hmode => acts_of_ifUp rfl hu
      ((output_of_generator ho _ (emitPg · s.ts.mts s)).trans (emitPg_unrouted hedges hat hroute hshown hmode))
  · intro t hanchor hst hover hhold
    obtain ⟨y, h⟩ := alignMiss_lost hanchor hst hover hhold
    refine nextWith_of_ifUp rfl hu h ⟨getN_settle_of_lt (by simp only [Obj.PG_STATE]; omega) (getN_setN_same _ _ _),
      getN_settle_of_lt (by simp only [Obj.ALIGN_MISS]; omega) ((getN_setN_ne _ _ (by simp)).trans (getN_setN_same s _ _)), frame_settle ?_⟩
    exact keepsAll_setN (keepsAll_synth (keepsAll_bump (keepsAll_refl _ _ s) (by simp)) (by decide) y) (by simp) 5
  · intro t hanchor hst hover hhold
    obtain ⟨y, h⟩ := alignMiss_flywheel hanchor hst hover hhold
    refine nextWith_of_ifUp rfl hu h ⟨getN_settle_of_lt (by simp only [Obj.PG_STATE]; omega)
      ((getN_pgPublish_ne (by simp) _).trans (getN_setN_same _ _ _)), frame_settle (keepsAll_pgPublish ?_ (by simp))⟩
    exact keepsAll_setN (keepsAll_synth (keepsAll_bump (keepsAll_refl _ _ s) (by simp)) (by decide) y) (by simp) 3
  -- Time of day.
  · exact fun h => acts_of_ifUp rfl hu (todStart_none h)
  · exact fun x rest hdue hstart hloud hthere hbusy => acts_of_ifUp rfl hu (todStart_busy hdue hstart hloud hthere hbusy)
  · intro x rest hdue hstart hloud hthere hfree hfmt
    obtain ⟨y, h⟩ := todStart_fntd hdue hstart hloud hthere hfree hfmt
    refine nextWith_of_ifUp rfl hu h ⟨?_, getN_settle_of_lt (by simp only [Obj.TOD_SENT]; omega) (getN_setN_same s _ _), frame_settle ?_⟩
    · simp only [settle_keeps]
      rfl
    · exact keepsAll_emit (keepsAll_bump (keepsAll_synth (keepsAll_refl _ _ s) (by decide) y) (by simp)) (by decide) _
  · exact fun x ago h => acts_of_ifUp rfl hu (todinRx_invalid ago h)
  · exact fun x ago sec h hnone => acts_of_ifUp rfl hu (todinRx_orphan ago h hnone)
  · exact fun x ago sec p m hsec hwait ht hsaid hafter hwin hm =>
      acts_of_ifUp rfl hu (todinRx_matched hsec hwait ht hsaid hafter hwin hm)

end Sys2Proof.Machine
end

section
/-! SUPPORT. The searches and windows of the analog PLLs and the squelch of the clock outputs, beyond their completion (R161–R167). -/
namespace Sys2Proof.Machine

/-! ### Clock outputs (R165, R167) -/

section
variable {c : Nat} {s : State}

theorem evalClk_disabled (h : (clkOut s c).enabled = false) : evalClk c s = setN (Obj.CLK_STATE c) 0 s := if_pos h

/-- The start of a squelch is counted. -/
theorem evalClk_squelchStarts (hen : (clkOut s c).enabled = true) (hsq : squelched s c = true) (hst : getN s (Obj.CLK_STATE c) ≠ 2) :
    evalClk c s = bump (Obj.CLK_SQUELCHES c) (setN (Obj.CLK_STATE c) 2 s) := by
  simp only [evalClk, hen, hsq, if_neg hst, Bool.true_eq_false, if_false, if_true]

/-- A squelch that goes on is not counted again. -/
theorem evalClk_squelchGoesOn (hen : (clkOut s c).enabled = true) (hsq : squelched s c = true) (hst : getN s (Obj.CLK_STATE c) = 2) :
    evalClk c s = s := by
  simp only [evalClk, hen, hsq, if_pos hst, Bool.true_eq_false, if_false, if_true]

theorem keepsAll_squelchStarts : keepsAll [] [Obj.CLK_STATE c, Obj.CLK_SQUELCHES c] s
    (bump (Obj.CLK_SQUELCHES c) (setN (Obj.CLK_STATE c) 2 s)) :=
  keepsAll_bump (keepsAll_setN (keepsAll_refl _ _ s) (by simp) 2) (by simp)

/-- The standby that is silent squelches every output (R480). -/
theorem squelched_of_silentOutputs (h : silentOutputs s = true) : squelched s c = true := by
  simp only [squelched, h, Bool.or_true, Bool.true_or]

end

theorem keepsAll_evalClk (c : Nat) (s : State) : keepsAll [] [Obj.CLK_STATE c, Obj.CLK_SQUELCHES c] s (evalClk c s) := by
  have shows (v : Int) := keepsAll_setN (keepsAll_refl [] [Obj.CLK_STATE c, Obj.CLK_SQUELCHES c] s) (k := Obj.CLK_STATE c) (by simp) v
  by_cases hen : (clkOut s c).enabled = true
  · by_cases hsq : squelched s c = true
    · by_cases hst : getN s (Obj.CLK_STATE c) = 2
      · rw [evalClk_squelchGoesOn hen hsq hst]
        exact keepsAll_refl _ _ s
      · rw [evalClk_squelchStarts hen hsq hst]
        exact keepsAll_squelchStarts
    · rw [evalClk_runs hen (Bool.eq_false_of_not_eq_true hsq)]
      exact shows 1
  · rw [evalClk_disabled (Bool.eq_false_of_not_eq_true hen)]
    exact shows 0

/-- The outputs' objects begin at index 0x3820: those below, the analog PLLs' among them, stay. -/
theorem getN_evalClks_of_lt {k : Nat} (hk : k < 0x382000) (s : State) : getN (evalClks s) k = getN s k := by
  refine foldl_leaves (getN · k) (fun a c => ?_) _ s
  obtain ⟨-, hnums⟩ := keepsAll_evalClk c a
  refine hnums k ?_
  simp only [Obj.CLK_STATE, Obj.CLK_SQUELCHES, List.mem_cons, List.not_mem_nil, or_false]
  omega

/-! ### Analog PLLs (R161–R163) -/

theorem getN_setApllState_ne {n k : Nat} (hk : Obj.APLL_STATE n ≠ k) (v : Int) (s : State) : getN (setApllState n v s) k = getN s k :=
  getN_setN_ne _ _ hk

section
variable {n : Nat} {s : State}

section
variable {outer : Nat} {higher : Bool} (hst : getN s (Obj.APLL_STATE n) = 0)
include hst

/-- Steps 1 to 6 halve the set of bands. -/
theorem searchStep_halves (hsteps : (apll s n).steps < 6) : searchStep n higher outer s =
    setN (Obj.APLL_BAND n) (if higher then (apll s n).lo + (apll s n).size / 2 else (apll s n).lo : Nat)
      (setApll n (fun x => { x with
        steps := (apll s n).steps + 1, lo := if higher then (apll s n).lo + (apll s n).size / 2 else (apll s n).lo,
        size := (apll s n).size / 2 }) s) :=
  (if_neg (not_not.2 hst)).trans (if_pos hsteps)

/-- The seventh step may move to the neighbouring band. -/
theorem getN_searchStep_band (hn : n < 4) (hsteps : 6 ≤ (apll s n).steps) : getN (searchStep n higher outer s) (Obj.APLL_BAND n) =
    (if outer = 1 then (apll s n).lo - 1 else if outer = 2 then min 63 ((apll s n).lo + 1) else (apll s n).lo : Nat) := by
  have hbelow : Obj.APLL_BAND n < 0x382000 := by simp only [Obj.APLL_BAND]; omega
  have hne : Obj.APLL_STATE n ≠ Obj.APLL_BAND n := by simp
  rw [searchStep]
  simp only [hst, Nat.not_lt.2 hsteps, ne_eq, not_true_eq_false, if_false, getN_evalClks_of_lt hbelow, getN_setApllState_ne hne,
    getN_setN_same]

end

section
variable {diff : Nat} (hst : getN s (Obj.APLL_STATE n) = 2)
include hst

theorem getNat_of_locked : getNat s (Obj.APLL_STATE n) = 2 := congrArg Int.toNat hst

/-- A window within 8 leaves a lock as it is. -/
theorem lockWindow_within (hdiff : diff ≤ 8) : lockWindow n diff s = s := by
  simp only [lockWindow, getNat_of_locked hst, if_neg (Nat.not_lt.2 hdiff)]

/-- An APLL other than APLL0 loses its lock without a raise of its own (R162, R163). -/
theorem lockWindow_lost (hn : n ≠ 0) (hdiff : 8 < diff) :
    lockWindow n diff s = evalClks (setLive (0x0900 + n) true (bump (Obj.APLL_UNLOCK n) (startSearch n s))) := by
  simp only [lockWindow, getNat_of_locked hst, if_pos hdiff, if_neg hn]

end

/-- The loss of a lock is counted, and the state is that of a search. -/
theorem getN_lostLock (hn : n < 4) (code : Nat) (b : Bool) :
    getN (evalClks (setLive code b (bump (Obj.APLL_UNLOCK n) (startSearch n s)))) (Obj.APLL_STATE n) = 0 ∧
    getN (evalClks (setLive code b (bump (Obj.APLL_UNLOCK n) (startSearch n s)))) (Obj.APLL_UNLOCK n) =
      (getN s (Obj.APLL_UNLOCK n) + 1) % counterMod (Obj.APLL_UNLOCK n) := by
  have hcount : Obj.APLL_UNLOCK n ≠ Obj.APLL_STATE n := by simp
  have hbefore : getN (startSearch n s) (Obj.APLL_UNLOCK n) = getN s (Obj.APLL_UNLOCK n) := getN_setApllState_ne hcount.symm 0 _
  constructor
  · rw [getN_evalClks_apll, getN_setLive, bump_eq, getN_setN_ne _ _ hcount]
    exact getN_setApllState n 0 _
  · rw [getN_evalClks_of_lt (by simp only [Obj.APLL_UNLOCK]; omega), getN_setLive, bump_eq, getN_setN_same, hbefore]

end

end Sys2Proof.Machine
end

section
namespace Sys2Proof.Machine

/-- Settles O24: each event by the rule of its case. -/
theorem clockEvents : Obligations.ClockEvents := by
  unfold Obligations.ClockEvents
  refine ⟨fun s n hu => ⟨?_, ?_, ?_, ?_, ?_⟩, fun s c hu => ⟨?_, ?_, ?_, squelched_of_silentOutputs⟩⟩
  -- The analog PLLs.
  · exact fun higher outer hst hsteps => acts_of_ifUp rfl hu (searchStep_halves hst hsteps)
  · exact fun higher outer hst hsteps => nextWith_of_ifUp rfl hu rfl
      ⟨getN_settle_of_lt (by simp only [Obj.APLL_STATE]; omega) (getN_searchStep_last hst hsteps),
        getN_settle_of_lt (by simp only [Obj.APLL_BAND]; omega) (getN_searchStep_band hst n.isLt hsteps)⟩
  · exact fun diff hst hdiff hgood => nextWith_of_ifUp rfl hu rfl
      (getN_settle_of_lt (by simp only [Obj.APLL_STATE]; omega) ((getN_setLive _ _ _ _).trans (getN_lockWindow_good hst hdiff hgood)))
  · intro diff hst hdiff
    refine acts_of_ifUp rfl hu ?_
    simp only [lockWindow_within hst hdiff, hst, ne_eq, not_true_eq_false, decide_false]
  · intro diff hn hst hdiff
    obtain ⟨hstate, hcount⟩ := getN_lostLock (s := s) n.isLt (0x0900 + n) true
    rw [← lockWindow_lost hst (Fin.val_ne_of_ne hn) hdiff] at hstate hcount
    exact nextWith_of_ifUp rfl hu rfl
      ⟨getN_settle_of_lt (by simp only [Obj.APLL_STATE]; omega) ((getN_setLive _ _ _ _).trans hstate),
        getN_settle_of_lt (by simp only [Obj.APLL_UNLOCK]; omega) ((getN_setLive _ _ _ _).trans hcount)⟩
  -- The clock outputs.
  · exact fun hen => nextWith_of_ifUp rfl hu (evalClk_disabled hen)
      ⟨getN_settle_of_lt (by simp only [Obj.CLK_STATE]; omega) (getN_setN_same _ _ _), frame_settle (keepsAll_setN_self _ _ s)⟩
  · exact fun hen hsq => nextWith_of_ifUp rfl hu (evalClk_runs hen hsq)
      ⟨getN_settle_of_lt (by simp only [Obj.CLK_STATE]; omega) (getN_setN_same _ _ _), frame_settle (keepsAll_setN_self _ _ s)⟩
  · intro hen hsq hst
    have hne : Obj.CLK_STATE c ≠ Obj.CLK_SQUELCHES c := by simp
    refine nextWith_of_ifUp rfl hu (evalClk_squelchStarts hen hsq hst)
      ⟨getN_settle_of_lt (by simp only [Obj.CLK_STATE]; omega) ?_, getN_settle_of_lt (by simp only [Obj.CLK_SQUELCHES]; omega) ?_,
        frame_settle keepsAll_squelchStarts⟩
    · rw [bump_eq, getN_setN_ne _ _ hne.symm, getN_setN_same]
    · rw [bump_eq, getN_setN_same, getN_setN_ne _ _ hne]

end Sys2Proof.Machine
end

section
/-! SUPPORT. The receiver's edges, samples and captures beyond their completion, and what each of them leaves (R188, R192, R193, R197,
R199, R201, R202). -/
namespace Sys2Proof.Machine

/-! ### Frames -/

section
variable {ps : List Part} {ks : List Nat} {s t : State} (h : keepsAll ps ks s t)
include h

theorem keepsAll_setGnss (hq : Part.gnss ∈ ps) (f : Gnss → Gnss) : keepsAll ps ks s (setGnss f t) := by
  refine keepsAll_replace h hq (fun p hp => ?_) fun _ => rfl
  cases p
  case gnss => exact absurd rfl hp
  all_goals rfl

theorem keepsAll_setB (hq : Part.blobs ∈ ps) (k : Nat) (b : List Byte) : keepsAll ps ks s (setB k b t) := by
  refine keepsAll_replace h hq (fun p hp => ?_) fun _ => rfl
  cases p
  case blobs => exact absurd rfl hp
  all_goals rfl

end

theorem keepsAll_setGnss_self (ks : List Nat) (f : Gnss → Gnss) (s : State) : keepsAll [.gnss] ks s (setGnss f s) :=
  keepsAll_setGnss (keepsAll_refl _ _ s) (List.mem_singleton.2 rfl) f

section
variable {s : State}

/-! ### Seconds (R188) -/

/-- A second that is over is not solved again. -/
theorem timingSolution_over (x : TimingInput) (h : secondOver s (mtsSec s) = true) : timingSolution x s = s := if_pos h

/-! ### GNSSPPS (R192, R193) -/

/-- An edge that is not squelched leaves with the width of its pulse, and its instant is published. -/
theorem gnssPpsEdge_emits {t edge : Nat} {r : List (Nat × Bool)} (hnext : s.gnss.ppsNext = (t, false) :: r) (ht : t ≤ s.now)
    (hen : getN s Obj.GNSSPPS_ENABLE ≠ 0) (hthere : outputsAbsent s = false)
    (hedge : edge = t96Of (s.ts.mts - (s.now - t) * s.ts.incr + getNat s Obj.GNSSPPS_PATH_DELAY * ns48 / 1000)) :
    gnssPpsEdge s = emit (.gnssPps edge (getNat s Obj.GNSSPPS_WIDTH))
      (setN Obj.GNSSPPS_LAST_EDGE edge (setGnss (fun g => { g with ppsNext := r }) s)) := by
  have hshown : ¬ (false = true ∨ getN s Obj.GNSSPPS_ENABLE = 0 ∨ outputsAbsent s = true) := by simp [hen, hthere]
  rw [gnssPpsEdge, hnext, hedge]
  exact (if_neg (Nat.not_lt.2 ht)).trans (if_neg hshown)

/-- A squelched edge is taken from the plan, and nothing leaves. -/
theorem gnssPpsEdge_squelched {t : Nat} {r : List (Nat × Bool)} (hnext : s.gnss.ppsNext = (t, true) :: r) (ht : t ≤ s.now) :
    gnssPpsEdge s = setGnss (fun g => { g with ppsNext := r }) s := by
  rw [gnssPpsEdge, hnext]
  exact (if_neg (Nat.not_lt.2 ht)).trans (if_pos (.inl rfl))

theorem keepsAll_gnssPpsEdge_emits (o : Out) (v : Int) (f : Gnss → Gnss) :
    keepsAll [.gnss, .out] [Obj.GNSSPPS_LAST_EDGE] s (emit o (setN Obj.GNSSPPS_LAST_EDGE v (setGnss f s))) :=
  keepsAll_emit (keepsAll_setN (keepsAll_setGnss (keepsAll_refl _ _ s) (by simp) f) (by simp) v) (by simp) o

/-! ### The antenna (R197) -/

/-- Without a supply the state is OFF, and no short is remembered. -/
theorem antSample_off (cur us : Nat) (hoff : getN s Obj.GNSS_ANT_SUPPLY = 0) :
    antSample cur us s = setN Obj.GNSS_ANT_STATE 0
      (setGnss (fun g => { g with antCut := none }) (setN Obj.GNSS_ANT_CURRENT (cur % 65536 : Nat) s)) := if_pos hoff

/-- A current above the limit for 100 µs cuts the supply and is raised. -/
theorem antSample_short {cur us : Nat} (hon : getN s Obj.GNSS_ANT_SUPPLY ≠ 0) (hcut : s.gnss.antCut = none)
    (hcur : getNat s Obj.GNSS_ANT_I_LIMIT * 10 < cur) (hus : 100 ≤ us) :
    antSample cur us s = raise 0x1300 1 { detail := 2 } (bump Obj.ANT_SHORT (setN Obj.GNSS_ANT_STATE 3
      (setGnss (fun g => { g with antCut := some s.now }) (setN Obj.GNSS_ANT_CURRENT (cur % 65536 : Nat) s)))) := by
  have hpowered : ¬ s.gnss.antCut.isSome = true := by simp [hcut]
  exact (if_neg hon).trans ((if_neg hpowered).trans (if_pos ⟨hcur, hus⟩))

/-! ### Noise (R199) -/

theorem keepsAll_noiseMeasure_quiet (v1 v5 : Int) (f : Gnss → Gnss) :
    keepsAll [.gnss] [Obj.GNSS_JN_L1, Obj.GNSS_JN_L5] s (setGnss f (setN Obj.GNSS_JN_L5 v5 (setN Obj.GNSS_JN_L1 v1 s))) :=
  keepsAll_setGnss (keepsAll_setN (keepsAll_setN (keepsAll_refl _ _ s) (by simp) v1) (by simp) v5) (by simp) f

/-- Noise above the threshold in a band begins JAM, counted, raised and journalled. -/
theorem noiseMeasure_jams {l1 l5 : Int} (hno : s.gnss.jam = false)
    (hloud : getN s Obj.GNSS_JAM_THRESHOLD < l1 ∨ getN s Obj.GNSS_JAM_THRESHOLD < l5) :
    noiseMeasure l1 l5 s = journal { kind := 7, key := Obj.FAULT_RECORD, new := be 2 0x1300 } (raise 0x1300 0 {} (bump Obj.JAM_EVENTS
      (setGnss (fun g => { g with jam := true })
        (setN Obj.GNSS_JN_L5 (clampInt (-32768) 32767 l5) (setN Obj.GNSS_JN_L1 (clampInt (-32768) 32767 l1) s))))) := by
  have hbegins : (decide (getN s Obj.GNSS_JAM_THRESHOLD < l1 ∨ getN s Obj.GNSS_JAM_THRESHOLD < l5) && !s.gnss.jam) = true := by
    rw [decide_eq_true hloud, hno]
    rfl
  rw [noiseMeasure, if_pos hbegins, decide_eq_true hloud]

/-- JAM holds, and its begin is counted once: neither the raise nor the entry touches the count. -/
theorem noiseMeasure_jams_counted {l1 l5 : Int} (hno : s.gnss.jam = false)
    (hloud : getN s Obj.GNSS_JAM_THRESHOLD < l1 ∨ getN s Obj.GNSS_JAM_THRESHOLD < l5) :
    (noiseMeasure l1 l5 s).gnss.jam = true ∧
      getN (noiseMeasure l1 l5 s) Obj.JAM_EVENTS = (getN s Obj.JAM_EVENTS + 1) % counterMod Obj.JAM_EVENTS := by
  have hraise (t : State) : getN (raise 0x1300 0 {} t) Obj.JAM_EVENTS = getN t Obj.JAM_EVENTS := getN_raise _ _ _ _ (by decide)
  have hset (f : Gnss → Gnss) (t : State) : getN (setGnss f t) Obj.JAM_EVENTS = getN t Obj.JAM_EVENTS := rfl
  rw [noiseMeasure_jams hno hloud]
  constructor
  · simp only [journal_keeps, raise_keeps]
    rfl
  · simp only [journal_keeps, hraise, bump_eq, getN_setN_same, hset]
    rw [getN_setN_ne _ _ (by decide), getN_setN_ne _ _ (by decide)]

/-! ### Snapshots (R201, R202) -/

/-- Where every slot is being read the snapshot is dropped. -/
theorem snapStart_dropped {t : Nat} (harmed : s.gnss.snap.armed = some t) (ht : t ≤ s.ts.mts) (hnone : nextSlot s = none) :
    snapStart s = bump Obj.SNAP_DROPPED (setGnss (fun g => { g with snap := { g.snap with armed := none } }) s) := by
  rw [snapStart, harmed]
  simp only [if_neg (Nat.not_lt.2 ht), hnone]

/-- The capture that begins is armed no more, has its slot, and its first sample is of now. -/
theorem snapStart_captures {t k : Nat} (harmed : s.gnss.snap.armed = some t) (ht : t ≤ s.ts.mts) (hk : nextSlot s = some k) :
    ∃ x : Snap, (x.armed = none ∧ x.slot = some k ∧ x.first = mts96 s) ∧
      snapStart s = setN (Obj.SNAP_STATE k) 1 (setGnss (fun g => { g with snap := x }) s) := by
  rw [snapStart, harmed]
  simp only [if_neg (Nat.not_lt.2 ht), hk]
  exact ⟨_, ⟨rfl, rfl, rfl⟩, rfl⟩

theorem length_snapHeader (x : Snap) (stale : Bool) (a1 a5 o1 o5 : Nat) (rate : Int) :
    (snapHeader x stale a1 a5 o1 o5 rate).length = 64 := by
  simp only [snapHeader, List.length_append, length_be, length_t96Bytes]

/-- The complete capture is its header with the samples behind it. -/
theorem snapComplete_stores {data : List Byte} {a1 a5 o1 o5 : Nat} {rate : Int} {k : Nat} (hslot : s.gnss.snap.slot = some k)
    (hover : s.gnss.snap.began + s.gnss.snap.len * msT ≤ s.now) :
    ∃ samples, snapComplete data a1 a5 o1 o5 rate s = setB (Obj.SNAP_DATA k)
      (snapHeader s.gnss.snap (s.gnss.snap.stale || !replicaFresh s 1) a1 a5 o1 o5 rate ++ samples)
      (setN Obj.GNSS_SNAP_LAST k (setN (Obj.SNAP_STATE k) 2 (setGnss (fun g => { g with snap := {} }) s))) := by
  rw [snapComplete, hslot]
  exact ⟨_, if_neg (Nat.not_lt.2 hover)⟩

theorem keepsAll_snapComplete (k : Nat) (b : List Byte) (v w : Int) (f : Gnss → Gnss) :
    keepsAll [.gnss, .blobs] [Obj.SNAP_STATE k, Obj.GNSS_SNAP_LAST] s
      (setB (Obj.SNAP_DATA k) b (setN Obj.GNSS_SNAP_LAST v (setN (Obj.SNAP_STATE k) w (setGnss f s)))) := by
  have hstate := keepsAll_setN (keepsAll_setGnss (keepsAll_refl [.gnss, .blobs] [Obj.SNAP_STATE k, Obj.GNSS_SNAP_LAST] s) (by simp) f)
    (k := Obj.SNAP_STATE k) (by simp) w
  exact keepsAll_setB (keepsAll_setN hstate (by simp) v) (by simp) _ b

end

end Sys2Proof.Machine
end

section
namespace Sys2Proof.Machine

/-- Settles O26: each event by the rule of its case. -/
theorem gnssEvents : Obligations.GnssEvents := by
  unfold Obligations.GnssEvents
  refine ⟨fun s hg => ⟨?_, ?_, ?_, ?_, ?_⟩, fun s hg => ⟨?_, ?_, ?_, ?_, ?_, ?_, ?_, ?_, ?_⟩, fun s hg => ⟨?_, ?_, ?_⟩⟩
  -- The cores and the seconds.
  · exact fun c => acts_of_ifGnss rfl hg rfl
  · exact fun n => acts_of_ifGnss rfl hg rfl
  · exact fun x hover => acts_of_ifGnss rfl hg (timingSolution_over x hover)
  · intro x hover
    obtain ⟨hsolved, hseq⟩ := Prod.mk.inj (timing_timingSolution (x := x) hover)
    refine nextWith_of_ifGnss rfl hg rfl ⟨?_, getN_settle_of_lt (by decide) hseq⟩
    simp only [settle_keeps, hsolved, wasDone_markDone]
  · exact fun q hvalid hover => acts_of_ifGnss rfl hg (isbTimeout_over hvalid hover)
  -- GNSSPPS.
  · intro t r edge hnext ht hen hthere hedge
    refine nextWith_of_ifGnss rfl hg (gnssPpsEdge_emits hnext ht hen hthere hedge)
      ⟨?_, getN_settle_of_lt (by decide) (getN_setN_same _ _ _), ?_, frame_settle (keepsAll_gnssPpsEdge_emits _ _ _)⟩
    all_goals simp only [settle_keeps]; rfl
  · intro t r hnext ht
    refine nextWith_of_ifGnss rfl hg (gnssPpsEdge_squelched hnext ht) ⟨?_, frame_settle (keepsAll_setGnss_self _ _ s)⟩
    simp only [settle_keeps]
    rfl
  -- The antenna, the excluded systems and the noise.
  · exact fun cur us hoff => acts_of_ifGnss rfl hg (antSample_off cur us hoff)
  · exact fun cur us hon hcut hcur hus => acts_of_ifGnss rfl hg (antSample_short hon hcut hcur hus)
  · exact fun cur us hon hcut hcur => acts_of_ifGnss rfl hg (antSample_noShort hon hcut hcur)
  · exact fun t hcut hover => acts_of_ifGnss rfl hg (antRetry_over hcut hover)
  · exact fun y => acts_of_ifGnss rfl hg rfl
  · intro l1 l5 h1 h5
    refine nextWith_of_ifGnss rfl hg (noiseMeasure_quiet h1 h5) ⟨?_, getN_settle_of_lt (by decide) ?_,
      getN_settle_of_lt (by decide) (getN_setN_same _ _ _), frame_settle (keepsAll_noiseMeasure_quiet _ _ _)⟩
    · simp only [settle_keeps]
      rfl
    · exact (getN_setN_ne _ _ (by decide)).trans (getN_setN_same _ _ _)
  · intro l1 l5 hno hloud
    obtain ⟨hjam, hcount⟩ := noiseMeasure_jams_counted hno hloud
    exact nextWith_of_ifGnss rfl hg rfl ⟨by simp only [settle_keeps, hjam], getN_settle_of_lt (by decide) hcount⟩
  -- The snapshots.
  · exact fun t harmed ht hnone => acts_of_ifGnss rfl hg (snapStart_dropped harmed ht hnone)
  · intro t k harmed ht hk
    obtain ⟨x, ⟨hoff, hslot, hfirst⟩, h⟩ := snapStart_captures harmed ht hk
    have hlt := nextSlot_lt hk
    refine nextWith_of_ifGnss rfl hg h ⟨getN_settle_of_lt (by simp only [Obj.SNAP_STATE]; omega) (getN_setN_same _ _ _), ?_, ?_, ?_,
      frame_settle (keepsAll_setN (keepsAll_setGnss_self _ _ s) (List.mem_singleton.2 rfl) 1)⟩
    all_goals simp only [settle_keeps]
    · exact hoff
    · exact hslot
    · exact hfirst
  · intro data a1 a5 o1 o5 rate k hslot hk hover
    obtain ⟨samples, h⟩ := snapComplete_stores (data := data) (a1 := a1) (a5 := a5) (o1 := o1) (o5 := o5) (rate := rate) hslot hover
    have hlast : Obj.GNSS_SNAP_LAST ≠ Obj.SNAP_STATE k := by simp only [Obj.GNSS_SNAP_LAST, Obj.SNAP_STATE, ne_eq]; omega
    refine nextWith_of_ifGnss rfl hg h ⟨getN_settle_of_lt (by simp only [Obj.SNAP_STATE]; omega) ?_,
      getN_settle_of_lt (by decide) (getN_setN_same _ _ _), ?_, ?_, frame_settle (keepsAll_snapComplete k _ _ _ _)⟩
    · exact (getN_setN_ne _ _ hlast).trans (getN_setN_same _ _ _)
    · simp only [settle_keeps]
      rfl
    · simp only [settle_keeps, getB_setB_same]
      exact List.take_left' (length_snapHeader ..)

end Sys2Proof.Machine
end

section
/-! SUPPORT. The links, the flow control and the ladder of the ports beyond their completion, the classes of a received frame and what each
of them counts, and what the egress scheduler starts (R205, R207, R213–R216, R219–R222, R225–R228, R231, R234, R236). -/
namespace Sys2Proof.Machine

/-! ### Frames -/

theorem keepsAll_setPort {ps : List Part} {ks : List Nat} {s t : State} (h : keepsAll ps ks s t) (hq : Part.ports ∈ ps) (p : Nat)
    (f : Port → Port) : keepsAll ps ks s (setPort p f t) := by
  refine keepsAll_replace h hq (fun q hne => ?_) fun _ => rfl
  cases q
  case ports => exact absurd rfl hne
  all_goals rfl

section
variable {p : Nat} {s : State}

/-! ### Links (R205, R227, R228) -/

theorem linkLoss_down (h : portUp s p = false) : linkLoss p s = s := if_pos h

/-- In SGMII any control word but 1000 Mb/s, full duplex leaves the link as it is. -/
theorem linkUp_mismatch {speed : Nat} {full : Bool} (hmode : (port s p).mode = 2) (h : speed ≠ 1000 ∨ full = false) :
    linkUp p speed full s = s := if_pos (.inr (.inr (.inr (.inr ⟨hmode, h⟩))))

section
variable {speed : Nat} {full : Bool} (hlane : (port s p).lane = true) (hmode : (port s p).mode ≠ 0) (hshut : (port s p).shut = false)
  (hdown : portUp s p = false) (hcopper : (port s p).mode = 2 → speed = 1000 ∧ full = true)
include hlane hmode hshut hdown hcopper

/-- The link rises, its window starts afresh, and the lead of a data port is its default. -/
theorem linkUp_rises : ∃ f : Port → Port, linkUp p speed full s =
    if p < 16 then setN (Obj.LEAD_NOW p) (getF s (Obj.LEAD_DEFAULT p)) (setPort p f (setN (Obj.PORT_LINK p) 1 s))
    else setPort p f (setN (Obj.PORT_LINK p) 1 s) := by
  have hmatch : ¬ ((port s p).mode = 2 ∧ (speed ≠ 1000 ∨ full = false)) := by
    rintro ⟨h2, hword⟩
    obtain ⟨hspeed, hfull⟩ := hcopper h2
    simp [hspeed, hfull] at hword
  refine ⟨_, if_neg ?_⟩
  simp only [hlane, hmode, hshut, hdown, hmatch, Bool.true_eq_false, Bool.false_eq_true, or_self, not_false_eq_true]

theorem getN_linkUp_lead (hp : p < 16) : getN (linkUp p speed full s) (Obj.LEAD_NOW p) = getF s (Obj.LEAD_DEFAULT p) := by
  obtain ⟨f, h⟩ := linkUp_rises hlane hmode hshut hdown hcopper
  rw [h, if_pos hp]
  exact getN_setN_same _ _ _

theorem keepsAll_linkUp : keepsAll [.ports] [Obj.PORT_LINK p, Obj.LEAD_NOW p] s (linkUp p speed full s) := by
  obtain ⟨f, h⟩ := linkUp_rises hlane hmode hshut hdown hcopper
  have hlink := keepsAll_setPort (keepsAll_setN (keepsAll_refl [.ports] [Obj.PORT_LINK p, Obj.LEAD_NOW p] s) (k := Obj.PORT_LINK p)
    (by simp) 1) (by simp) p f
  rw [h]
  split
  · exact keepsAll_setN hlink (by simp) _
  · exact hlink

end

/-! ### Back-pressure and the ladder (R225, R226, R236) -/

/-- Back-pressure that is no longer due ends, in the mode in which it was requested. -/
theorem xoffRepeat_over {o : XoffState} (ho : (port s p).xoff = some o) (hnot : xoffDue s p = false) :
    xoffRepeat p s = sendPause p o.mode 0 o.classes (setPort p (fun x => { x with xoff := none }) s) := by
  have hrelease : evalXoff p s = sendPause p o.mode 0 o.classes (setPort p (fun x => { x with xoff := none }) s) := by
    rw [evalXoff, ho]
    exact if_neg (by simp [hnot])
  rw [xoffRepeat, ho]
  exact (if_pos hnot).trans hrelease

theorem underrun_idle (h : (port s p).tx = none) : underrun p s = s := by
  rw [underrun, h]

theorem rungDown_early (h : getNat s (Obj.CT_CLEAN_RUN p) < 65536) : rungDown p s = s := if_neg (Nat.not_le.2 h)

theorem keepsAll_setRung (r : Nat) : keepsAll [] [Obj.CT_RUNG p, Obj.CT_CLEAN_RUN p] s (setRung p r s) :=
  keepsAll_setN (keepsAll_setJ (keepsAll_refl _ _ s) (by simp) _) (by simp) _

/-! ### Heads (R207, R216, R234) -/

theorem headArrival_ignored (f : Frame) (x : PcsStamp) (h : portUp s p = false ∨ (port s p).rx.isSome = true) :
    headArrival p f x s = s := if_pos h

theorem headArrival_data (f : Frame) (x : PcsStamp) (hp : p ≠ 16) (hup : portUp s p = true) (hrx : (port s p).rx = none)
    (htx : (port s p).tx = none) : headArrival p f x s = dataHead p f x s := by
  rw [headArrival, finishTx_idle htx, if_neg (by simp [hup, hrx])]
  exact if_neg hp

/-- The record of a head that arrives at s and is stamped with raw, which leaves u: its stamp, its row, the verdict of `PORT_TAG_MODE`. -/
def headRecord (s u : State) (p raw : Nat) (f : Frame) : RxCur :=
  { frame := f, maxFrame := getNat s Obj.MAX_FRAME, ts := (stampIn u p raw).1, bound := (stampIn u p raw).2, tick := s.now,
    vlan := vlanOf s p f, refused := tagRefused s p f, row := classify s p f, svc := svcFor s p f }

section
variable {f : Frame} {x : PcsStamp} {raw : Nat} {u : State} (hraw : (raw, u) = rawStamp p x false s)
include hraw

/-- A frame that is not for the core is held with its record. -/
theorem dataHead_held (hcore : toCore (classify s p f) f (tagRefused s p f) = false) :
    dataHead p f x s = setPort p (fun y => { y with rx := some (headRecord s u p raw f) })
      (setReplica (16 + p) (fun r => { r with held := r.held + 1 }) u) := by
  simp only [dataHead, ← hraw, hcore, Bool.false_eq_true, if_false, Option.isSome_none, headRecord]

/-- A frame that the core admits holds its number in the core too, and back-pressure is judged. -/
theorem dataHead_admitted {v : State} {i : Nat} (hcore : toCore (classify s p f) f (tagRefused s p f) = true)
    (hadmit : (some i, v) = admitCore p (classify s p f) f (stampIn u p raw).1 (stampIn u p raw).2 u) :
    dataHead p f x s = swDerive (evalXoff p (setPort p
      (fun y => { y with rx := some { headRecord s u p raw f with core := some i } })
      (setReplica (16 + p) (fun r => { r with held := r.held + 1 }) v))) := by
  simp only [dataHead, ← hraw, hcore, if_true, ← hadmit, Option.isSome_some, headRecord]

end

/-! ### The classes of a received frame (R213) -/

section
variable {r : RxCur} {e : RxEnd}

theorem ingress_runt (h : e.len ≤ 63) : ingress s p r e = .runt := if_pos h

section
variable (hlong : 63 < e.len)
include hlong

theorem ingress_giant (h : r.maxFrame < e.len) : ingress s p r e = .giant := (if_neg (Nat.not_le.2 hlong)).trans (if_pos h)

variable (hmax : e.len ≤ r.maxFrame)
include hmax

theorem ingress_fcs (h : e.fcsOk = false ∨ e.codeError = true) : ingress s p r e = .fcs :=
  (if_neg (Nat.not_le.2 hlong)).trans ((if_neg (Nat.not_lt.2 hmax)).trans (if_pos h))

theorem ingress_len (hfcs : e.fcsOk = true) (hcode : e.codeError = false) (htype : r.frame.etherType < 0x600)
    (hshort : e.len - 18 - 4 * r.frame.tags.length < r.frame.etherType) : ingress s p r e = .len := by
  have hgood : ¬ (e.fcsOk = false ∨ e.codeError = true) := by simp [hfcs, hcode]
  exact (if_neg (Nat.not_le.2 hlong)).trans
    ((if_neg (Nat.not_lt.2 hmax)).trans ((if_neg hgood).trans (if_pos ⟨htype, hshort⟩)))

end

/-- An accepted frame of a data port has passed every test. -/
theorem ingress_ok (h : ingress s p r e = .ok) (hp : p < 16) : 64 ≤ e.len ∧ e.len ≤ r.maxFrame ∧ e.fcsOk = true ∧
    e.codeError = false ∧ r.frame.etherType ≠ 0x8808 ∧ r.refused = false := by
  have hdata : p ≠ 16 := Nat.ne_of_lt hp
  simp only [ingress, if_neg hdata] at h
  split at h; · cases h
  rename_i hlong
  split at h; · cases h
  rename_i hmax
  split at h; · cases h
  rename_i hgood
  split at h; · cases h
  split at h; · cases h
  rename_i htype
  split at h; · cases h
  rename_i hrefused
  obtain ⟨hfcs, hcode⟩ := not_or.1 hgood
  exact ⟨Nat.not_le.1 hlong, Nat.not_lt.1 hmax, Bool.eq_true_of_not_eq_false hfcs, Bool.eq_false_of_not_eq_true hcode, htype,
    Bool.eq_false_of_not_eq_true hrefused⟩

/-! ### The end of a frame (R213, R215, R231) -/

/-- The counter of a class that ends a frame. -/
def Ingress.dropCounter (p : Nat) : Ingress → Option Nat
  | .runt => some (Obj.RUNT p)
  | .giant => some (Obj.GIANT p)
  | .fcs => some (Obj.FCS_ERR p)
  | .len => some (Obj.LEN_ERR p)
  | .tagged => some (Obj.ADMIT_DROP p)
  | .ctrl | .ok => none

/-- The port after its frame: nothing in reception, the symbol errors counted. -/
def rxTaken (p : Nat) (e : RxEnd) (s : State) : State :=
  bumpBy (Obj.SYMBOL_ERR p) e.symbols (setPort p (fun x => { x with rx := none }) s)

theorem rxEnd_idle (h : (port s p).rx = none) : rxEnd p e s = bumpBy (Obj.SYMBOL_ERR p) e.symbols s := by
  rw [rxEnd, h]

section
variable (hrx : (port s p).rx = some r)
include hrx

/-- A frame that its class ends, and that the core does not hold, counts in the counter of that class alone. -/
theorem rxEnd_dropped {k : Nat} (hcore : r.core = none) (hk : (ingress s p r e).dropCounter p = some k) :
    rxEnd p e s = bump k (rxTaken p e s) := by
  rw [rxEnd, hrx]
  simp only [hcore]
  cases hclass : ingress s p r e <;> rw [hclass] at hk <;> cases hk <;> rfl

/-- A PAUSE frame is counted and heeded. -/
theorem rxEnd_pause {n : Nat} (hclass : ingress s p r e = .ctrl) (hbody : r.frame.body = .pause n) :
    rxEnd p e s = applyPause p (.pause n) (bump (Obj.PAUSE_RX p) (rxTaken p e s)) := by
  rw [rxEnd, hrx]
  simp only [hclass, hbody, rxTaken]

/-- A good frame of the management port goes to the CORE island. -/
theorem rxEnd_management (hok : ingress s p r e = .ok) (hp : p = 16) :
    rxEnd p e s = mgmtFrame r.frame (bumpBy (Obj.RX_OCTETS p) e.len (bump (Obj.RX_OK p) (rxTaken p e s))) := by
  rw [rxEnd, hrx]
  simp only [hok, if_pos hp, rxTaken]

section
variable {i : Nat} (hcore : r.core = some i)
include hcore

theorem rxEnd_core_giant (hclass : ingress s p r e = .giant) :
    rxEnd p e s = coreBad i e.len (bump (Obj.GIANT p) (rxTaken p e s)) := by
  rw [rxEnd, hrx]
  simp only [hclass, hcore, rxTaken]

theorem rxEnd_core_fcs (hclass : ingress s p r e = .fcs) (hcode : e.codeError = false) :
    rxEnd p e s = coreBad i (e.len - 4) (bump (Obj.FCS_ERR p) (rxTaken p e s)) := by
  rw [rxEnd, hrx]
  simp only [hclass, hcore, hcode, Bool.false_eq_true, if_false, rxTaken]

/-- A good frame that the core holds is whole, and back-pressure is judged. -/
theorem rxEnd_core_whole (hok : ingress s p r e = .ok) (hp : p ≠ 16) : rxEnd p e s = swDerive (evalXoff p (coreWhole i e.len
    (bumpBy (Obj.RX_OCTETS p) e.len (bump (Obj.RX_OK p) (rxTaken p e s))))) := by
  rw [rxEnd, hrx]
  simp only [hok, if_neg hp, hcore, rxTaken]

end

end

end

/-! ### What a port starts to send (R219–R221) -/

section
variable (x : PcsStamp) (htx : (port s p).tx = none)
include htx

/-- Without a link, or on a busy wire, only the front end's frames enter their queue. -/
theorem txStart_closed (h : portUp (takeNet p s) p = false ∨ wireReady (takeNet p s) p = false) : txStart p x s = takeNet p s := by
  rw [txStart, finishTx_idle htx]
  exact if_pos h

variable (hup : portUp (takeNet p s) p = true) (hwire : wireReady (takeNet p s) p = true)
include hup hwire

/-- A MAC control frame goes before the queues, unless it would run into a launch slot. -/
theorem txStart_control {f : Frame} {r : List Frame} (hctrl : (port (takeNet p s) p).ctrl = f :: r) :
    txStart p x s = if guarded (takeNet p s) p 64 then takeNet p s
      else startTx p 8 64 .ctrl false false f 0 (setPort p (fun y => { y with ctrl := r }) (takeNet p s)) := by
  rw [txStart, finishTx_idle htx]
  simp only [hup, hwire, Bool.true_eq_false, or_self, if_false, hctrl]

/-- Without a MAC control frame the head of the highest queue is next. -/
theorem txStart_head (hctrl : (port (takeNet p s) p).ctrl = []) : txStart p x s = startHead p x (takeNet p s) := by
  rw [txStart, finishTx_idle htx]
  simp only [hup, hwire, Bool.true_eq_false, or_self, if_false, hctrl]

end

section
variable (x : PcsStamp)

theorem startHead_none (h : nextHead s p = none) : startHead p x s = s := by
  rw [startHead, h]

theorem startHead_engine {e : EngFrame} (h : nextHead s p = some (.eng e)) :
    startHead p x s = if guarded s p (engineTag s p e).2 then s else startEngine p e x s := by
  rw [startHead, h]

section
variable {c : Copy} (h : nextHead s p = some (.copy c))
include h

theorem startHead_granted (hgrant : granted s p = some c) :
    startHead p x s = if guarded s p (copyLen s c) then s else startCopy p c x s := by
  rw [startHead, h]
  exact if_neg (not_not.2 hgrant)

/-- A grant that another frame outranks is given up. -/
theorem startHead_outranked (hgrant : granted s p ≠ some c) : startHead p x s = unlock p s := by
  rw [startHead, h]
  exact if_pos hgrant

end

end

end

end Sys2Proof.Machine
end

section
namespace Sys2Proof.Machine

/-- Settles O28: each head and each end of a frame by the rule of its case, the classes in their order. -/
theorem reception : Obligations.Reception := by
  unfold Obligations.Reception
  refine ⟨fun s hu => ⟨?_, ?_, ?_, ?_, ?_, ?_, ?_⟩, fun s p r e => ⟨?_, ?_, ?_, ?_, ?_⟩⟩
  -- Heads.
  · exact fun p f x h => acts_of_ifUp rfl hu (headArrival_ignored f x h)
  · exact fun f x hup hrx htx => acts_of_ifUp rfl hu (headArrival_management hup hrx htx)
  · exact fun p f x raw u hup hrx htx hraw hcore => acts_of_ifUp rfl hu
      ((headArrival_data f x (Nat.ne_of_lt p.isLt) hup hrx htx).trans (dataHead_held hraw hcore))
  · exact fun p f x raw u v i hup hrx htx hraw hcore hadmit => acts_of_ifUp rfl hu
      ((headArrival_data f x (Nat.ne_of_lt p.isLt) hup hrx htx).trans (dataHead_admitted hraw hcore hadmit))
  -- Ends.
  · exact fun p e hrx => acts_of_ifUp rfl hu (congrArg sortPtp (rxEnd_idle hrx))
  · rintro p r e u hrx hcore rfl
    have dropped {k : Nat} (hk : (ingress s p r e).dropCounter p = some k) :
        acts (.rxFrame p e) s (sortPtp (bump k (rxTaken p e s))) :=
      acts_of_ifUp rfl hu (congrArg sortPtp (rxEnd_dropped hrx hcore hk))
    refine ⟨?_, ?_, ?_, ?_, ?_, ?_, ?_, ?_⟩
    iterate 5 exact fun hclass => dropped (by rw [hclass, Ingress.dropCounter])
    · exact fun hclass n hbody => acts_of_ifUp rfl hu (congrArg sortPtp (rxEnd_pause hrx hclass hbody))
    · exact fun hok hp => acts_of_ifUp rfl hu (congrArg sortPtp (rxEnd_management hrx hok hp))
    · exact fun hok hp => acts_of_ifUp rfl hu (congrArg sortPtp (rxEnd_dispatched hrx hcore hok hp))
  · rintro p r e i u hrx hcore rfl
    refine ⟨?_, ?_, ?_⟩
    · exact fun hclass => acts_of_ifUp rfl hu (congrArg sortPtp (rxEnd_core_giant hrx hcore hclass))
    · exact fun hclass hcode => acts_of_ifUp rfl hu (congrArg sortPtp (rxEnd_core_fcs hrx hcore hclass hcode))
    · exact fun hok hp => acts_of_ifUp rfl hu (congrArg sortPtp (rxEnd_core_whole hrx hcore hok hp))
  -- Classes.
  · exact ingress_runt
  · exact ingress_giant
  · exact ingress_fcs
  · exact ingress_len
  · exact ingress_ok

end Sys2Proof.Machine
end

section
namespace Sys2Proof.Machine

/-- Settles O27: each event by the rule of its case. -/
theorem linkEvents : Obligations.LinkEvents := by
  unfold Obligations.LinkEvents
  refine ⟨fun s hu => ⟨?_, ?_, ?_, ?_, ?_, ?_⟩, fun s p hu => ⟨?_, ?_, ?_, ?_, ?_, ?_⟩⟩
  -- Links and pauses.
  · exact fun p hdown => acts_of_ifUp rfl hu (linkLoss_down hdown)
  · exact fun p _ => acts_of_ifUp rfl hu rfl
  · intro p speed full hlane hmode hshut hdown hcopper
    exact nextWith_of_ifUp rfl hu rfl
      ⟨getN_settle_of_lt (by simp only [Obj.PORT_LINK]; omega) (getN_linkUp hlane hmode hshut hdown hcopper),
        fun hp => getN_settle_of_lt (by simp only [Obj.LEAD_NOW]; omega) (getN_linkUp_lead hlane hmode hshut hdown hcopper hp),
        frame_settle (keepsAll_linkUp hlane hmode hshut hdown hcopper)⟩
  · exact fun p speed full hmode hword => acts_of_ifUp rfl hu (linkUp_mismatch hmode hword)
  · exact fun p hdue => nextWith_of_ifUp rfl hu (if_pos hdue)
      (getN_settle_of_lt (by simp only [Obj.PORT_LINK]; omega) (link_portGone p s))
  · exact fun p => acts_of_ifUp rfl hu rfl
  -- Back-pressure and the ladder.
  · exact fun o ho hdue hover => acts_of_ifUp rfl hu (xoffRepeat_due ho hdue hover)
  · exact fun o ho hnot => acts_of_ifUp rfl hu (xoffRepeat_over ho hnot)
  · exact fun htx => acts_of_ifUp rfl hu (underrun_idle htx)
  · exact fun t i f c htx hkind hf hcut hst hc hframe hout hstarted hlate hmore =>
      acts_of_ifUp rfl hu (underrun_late htx hkind hf hcut hst hc hframe hout hstarted hlate hmore)
  · exact fun hover => nextWith_of_ifUp rfl hu (rungDown_over hover)
      ⟨getN_settle_of_lt (by simp only [Obj.CT_RUNG]; omega) (getN_setRung_rung _),
        getN_settle_of_lt (by simp only [Obj.CT_CLEAN_RUN]; omega) (getN_setRung_clean _), frame_settle (keepsAll_setRung _)⟩
  · exact fun hearly => acts_of_ifUp rfl hu (rungDown_early hearly)

end Sys2Proof.Machine
end

section
namespace Sys2Proof.Machine

/-- Settles O29: each start by the rule of its case. -/
theorem egress : Obligations.Egress := by
  unfold Obligations.Egress
  rintro s u p x hu htx rfl
  refine ⟨?_, ?_, ?_, ?_, ?_, ?_, ?_, ?_⟩
  · exact fun hdown => acts_of_ifUp rfl hu (txStart_closed x htx (.inl hdown))
  · exact fun hbusy => acts_of_ifUp rfl hu (txStart_closed x htx (.inr hbusy))
  · exact fun f r hup hwire hctrl hguard => acts_of_ifUp rfl hu ((txStart_control x htx hup hwire hctrl).trans (if_pos hguard))
  · exact fun f r hup hwire hctrl hfree => acts_of_ifUp rfl hu
      ((txStart_control x htx hup hwire hctrl).trans (if_neg (ne_true_of_eq_false hfree)))
  · exact fun hup hwire hctrl hnone => acts_of_ifUp rfl hu ((txStart_head x htx hup hwire hctrl).trans (startHead_none x hnone))
  · exact fun e hup hwire hctrl hhead => acts_of_ifUp rfl hu
      ((txStart_head x htx hup hwire hctrl).trans (startHead_engine x hhead))
  · exact fun c hup hwire hctrl hhead hgrant => acts_of_ifUp rfl hu
      ((txStart_head x htx hup hwire hctrl).trans (startHead_granted x hhead hgrant))
  · exact fun c hup hwire hctrl hhead hgrant => acts_of_ifUp rfl hu
      ((txStart_head x htx hup hwire hctrl).trans (startHead_outranked x hhead hgrant))

end Sys2Proof.Machine
end

section
/-! SUPPORT. The writes of the tables: a deferred write is handed on in flight, waits for the one before it, and commits at one edge
(R246, R247). -/
namespace Sys2Proof.Machine

/-! ### A write that is answered later -/

/-- A deferred WRITE of a DOMAIN in one segment: acceptance hands its bytes on, in flight. -/
theorem ownerWrite_domain_deferred {q : Req} {k : Nat} {r : Rule} {s s2 : State} {v : Val} {f : Req → Val → State → State}
    (h : acceptedDomain q .write k r s = some (v, s2)) (hd : r.defer = some f) :
    ownerWrite q k r s = f q (.oct (q.value.take q.valueLen)) (inFlight q s2) := by
  obtain ⟨rfl, howner⟩ := ownerWrite_domain h
  rw [howner, hd]

theorem acceptTable_waits {vlan : Bool} {s : State} (w : TableWrite) (h : tableWrites s vlan ≠ []) :
    acceptTable vlan w s = setTableWrites vlan (tableWrites s vlan ++ [w]) s :=
  if_neg (by simpa using h)

/-! ### The counts of the FDB -/

@[simp] theorem fdbCounts_sw (s : State) : (fdbCounts s).sw = s.sw := rfl

theorem getN_fdbCounts {k : Nat} (s : State) (hstatic : Obj.FDB_STATIC_COUNT ≠ k) (hlearned : Obj.FDB_LEARNED_COUNT ≠ k) :
    getN (fdbCounts s) k = getN s k :=
  (getN_setN_ne _ _ hlearned).trans (getN_setN_ne _ _ hstatic)

/-! ### The commit -/

/-- A flush of the ports of the mask leaves the static entries and the learned ones of other ports (R246). -/
def keptByFlush (mask : Nat) (e : FdbEntry) : Bool :=
  e.static || (List.range 16).all (fun p => !(mask.testBit p && e.mask.testBit p))

section
variable {w : TableWrite} (s : State)

theorem commitTable_vlan (h : w.key = Obj.VLAN_WRITE) : (commitTable w s).2 = setN Obj.VLAN_GEN ((getN s Obj.VLAN_GEN + 1) % 4294967296)
    (setSw (fun x => { x with vlans := (entriesOf 12 256 w.value).foldl (fun a e => vlanApply e a) x.vlans }) s) := by
  rw [commitTable, if_pos h]

theorem commitTable_flush (h : w.key = Obj.FDB_FLUSH) : (commitTable w s).2 = fdbCounts (setN Obj.FDB_GEN
    ((getN s Obj.FDB_GEN + 1) % 4294967296) (setSw (fun x => { x with fdb := s.sw.fdb.filter (keptByFlush (ofBe w.value)) }) s)) := by
  have hnot : w.key ≠ Obj.VLAN_WRITE := by simp [h]
  rw [commitTable, if_neg hnot]
  simp only [if_pos h]
  rfl

theorem getN_commitTable_flush (h : w.key = Obj.FDB_FLUSH) :
    getN (commitTable w s).2 Obj.FDB_GEN = (getN s Obj.FDB_GEN + 1) % 4294967296 := by
  rw [commitTable_flush s h, getN_fdbCounts _ (by decide) (by decide), getN_setN_same]

theorem commitTable_flush_fdb (h : w.key = Obj.FDB_FLUSH) :
    (commitTable w s).2.sw.fdb = s.sw.fdb.filter (keptByFlush (ofBe w.value)) := by
  rw [commitTable_flush s h, fdbCounts_sw]
  rfl

end

end Sys2Proof.Machine
end

section
namespace Sys2Proof

open Machine

/-- Settles O9: each request by its rule's deferral, and each commit by what it writes. -/
theorem tableWrites : Obligations.TableWrites := by
  unfold Obligations.TableWrites
  refine ⟨fun s hu => ⟨?_, ?_, ?_, ?_⟩, fun s w => ⟨fun hvlan => ⟨?_, ?_, ?_⟩, fun hflush => ⟨?_, ?_, ?_⟩⟩⟩
  -- Requests.
  · exact fun q v s2 h => acts_of_ifUp rfl hu (ownerWrite_domain_deferred h rfl)
  · exact fun q v s2 h => acts_of_ifUp rfl hu (ownerWrite_domain_deferred h rfl)
  · exact fun q v s2 h => acts_of_ifUp rfl hu (ownerCommand_deferred h rfl)
  · exact fun vlan w h => by rw [acceptTable_waits w h, tableWrites_setTableWrites]
  -- A commit of the VLAN table.
  · rw [commitTable_vlan s hvlan, getN_setN_same]
  · rw [commitTable_vlan s hvlan]
    rfl
  · rw [commitTable_vlan s hvlan]
    exact getN_setN_ne _ _ (by decide)
  -- A flush of the FDB.
  · exact getN_commitTable_flush s hflush
  · intro e he
    rw [commitTable_flush_fdb s hflush] at he
    exact List.mem_of_mem_filter he
  · intro e he hstatic
    rw [commitTable_flush_fdb s hflush]
    exact List.mem_filter.2 ⟨he, by simp [keptByFlush, hstatic]⟩

end Sys2Proof
end

section
/-! SUPPORT. The Sill beyond its completion: a frame that is late at its preamble, and the window of the lead, what it leaves and what it
changes (R264, R266, R267). -/
namespace Sys2Proof.Machine

section
variable {p : Nat} {s : State}

/-! ### The preamble (R266, R267) -/

theorem preambleStart_late {n : Nat} {q : Slot} {r : Late} (htx : (port s p).tx = none)
    (hq : (port s p).slots.find? (fun q => q.num = n) = some q) (hst : q.started = false)
    (hat : reached s (slotAt q (7 * oct48 s p)) = true) (hlate : lateReason s p q q.ready.isNone = some r) :
    preambleStart p n s = lateSlot p q r s := by
  rw [preambleStart, finishTx_idle htx]
  simp only [hq, hst, hat, hlate, Bool.false_eq_true, Bool.true_eq_false, or_self, if_false]

/-! ### The window of the lead (R264) -/

theorem leadWindow_open (h : s.now < (port s p).winFrom + 10 * msT) : leadWindow p s = s := if_pos h

section
variable (hover : (port s p).winFrom + 10 * msT ≤ s.now) (hadapt : getN s (Obj.LEAD_ADAPT p) = 1)
  (hsome : 0 < (port s p).winLaunched) (hlate : (port s p).winLate = false) (hslack : 2000 ≤ (port s p).winSlack)
include hover hadapt hsome hlate hslack

/-- A window of launches in time: its least slack is shown, the next one starts afresh, and the lead falls by 250 ns down to `LEAD_MIN`. -/
theorem leadWindow_falls : leadWindow p s =
    setN (Obj.LEAD_NOW p) (max (getF s (Obj.LEAD_MIN p)) (getN s (Obj.LEAD_NOW p) - 250))
      (setPort p (fun y => { y with winFrom := s.now, winLaunched := 0, winLate := false, winSlack := 4294967295 })
        (setN (Obj.SLACK_MIN_LAST p) (port s p).winSlack s)) := by
  rw [leadWindow]
  simp only [if_neg (Nat.not_lt.2 hover), if_pos (And.intro hadapt (And.intro hsome (And.intro hlate hslack))), if_neg hsome.ne']

theorem getN_leadWindow_slack : getN (leadWindow p s) (Obj.SLACK_MIN_LAST p) = (port s p).winSlack := by
  rw [leadWindow_falls hover hadapt hsome hlate hslack, getN_setN_ne _ _ (by simp only [Obj.LEAD_NOW, Obj.SLACK_MIN_LAST]; omega)]
  exact getN_setN_same _ _ _

theorem keepsAll_leadWindow : keepsAll [.ports] [Obj.LEAD_NOW p, Obj.SLACK_MIN_LAST p] s (leadWindow p s) := by
  have hslackShown : keepsAll [.ports] [Obj.LEAD_NOW p, Obj.SLACK_MIN_LAST p] s (setN (Obj.SLACK_MIN_LAST p) (port s p).winSlack s) :=
    keepsAll_setN (keepsAll_refl _ _ s) (by simp) _
  rw [leadWindow_falls hover hadapt hsome hlate hslack]
  exact keepsAll_setN (keepsAll_setPort hslackShown (by simp) p _) (by simp) _

end

end

end Sys2Proof.Machine
end

section
namespace Sys2Proof.Machine

/-- Settles O31: each event by the rule of its case. -/
theorem sillEvents : Obligations.SillEvents := by
  unfold Obligations.SillEvents
  refine fun s p hu => ⟨?_, ?_, ?_, ?_, ?_, ?_, ?_⟩
  -- The deadline and the preamble of a slot.
  · exact fun n q hq hst hat => acts_of_ifUp rfl hu (readyDeadline_reached hq hst hat)
  · exact fun n q htx hq hst hat hlate => acts_of_ifUp rfl hu (preambleStart_inTime htx hq hst hat hlate)
  · exact fun n q r htx hq hst hat hlate => acts_of_ifUp rfl hu (preambleStart_late htx hq hst hat hlate)
  -- The launch, and the frames that wait for a slot.
  · exact fun n q x hq hst hat => acts_of_ifUp rfl hu (sillLaunch_reached hq hst hat)
  · exact acts_of_ifUp rfl hu rfl
  -- The window of the lead.
  · exact fun hopen => acts_of_ifUp rfl hu (leadWindow_open hopen)
  · exact fun hover hadapt hsome hlate hslack => nextWith_of_ifUp rfl hu rfl
      ⟨getN_settle_of_lt (by simp only [Obj.LEAD_NOW]; omega) (getN_leadWindow_shorter hover hadapt hsome hlate hslack),
        getN_settle_of_lt (by simp only [Obj.SLACK_MIN_LAST]; omega) (getN_leadWindow_slack hover hadapt hsome hlate hslack),
        frame_settle (keepsAll_leadWindow hover hadapt hsome hlate hslack)⟩

end Sys2Proof.Machine
end

section
/-! SUPPORT. The PTP engine beyond the completion of its events: a Sync that goes no further or waits for its Follow_Up, a Delay_Req that
is not answered, a Sync that is not sent, and what the roll of a security association changes (R281, R293–R295, R300, R305, R308). -/
namespace Sys2Proof.Machine

/-! ### Messages -/

section
variable {p k : Nat} {x : PtpRx} {s s1 s2 : State}

theorem onMsg_refused {typ : Nat} {f : Nat → PtpRx → State → State} (hp : ptpUp s = true)
    (hx : takeMsg p (fun m => m.msg.typ = typ) s = some (x, s1)) (ha : ptpAccept x s1 = (none, s2)) : onMsg p typ f s = s2 := by
  rw [onMsg, withMsg_taken hp hx, ha]

/-- From another than the parent, or without a grant over UDP (R274). -/
theorem syncRx_ignored (h : follows s k x = false ∨ grantedBy s k 0 x = false) : syncRx k x s = s := if_pos h

theorem syncRx_twoStep (hf : follows s k x = true) (hg : grantedBy s k 0 x = true) (htwo : x.msg.two = true) :
    syncRx k x s = setPtpPort (16 * k + x.port)
      (fun y => { y with sync := some { seq := x.msg.seq, t := x.ts, bound := x.bound, corr := x.msg.corr } }) s := by
  simp [syncRx, hf, hg, htwo]

/-- A port that is no time transmitter drops the request. -/
theorem delayReqRx_dropped (hk : ptpParse x s = (some k, s2)) (hst : ptpState s2 (16 * k + x.port) ≠ 3) : delayReqRx x s = s2 := by
  obtain rfl := ptpParse_passed hk
  rw [delayReqRx, hk]
  exact if_pos (.inr hst)

section
variable (hk : ptpParse x s = (some k, s2)) (h2p : isP2P s2 k = false) (hst : ptpState s2 (16 * k + x.port) = 3)
include hk h2p hst

/-- A time transmitter port counts the request; what follows is the business of its encapsulation. -/
theorem delayReqRx_counted : delayReqRx x s =
    if ptpEncap s2 (16 * k + x.port) = 0 then l2Dreq k x (bump (Obj.DREQ_RX (16 * k + x.port)) s2)
    else ucDreq k x (bump (Obj.DREQ_RX (16 * k + x.port)) s2) := by
  obtain rfl := ptpParse_passed hk
  rw [delayReqRx, hk]
  exact if_neg (by simp [h2p, hst])

theorem delayReqRx_policed (hl2 : ptpEncap s2 (16 * k + x.port) = 0)
    (htoken : (takeToken (16 * k + x.port) x.tick (bump (Obj.DREQ_RX (16 * k + x.port)) s2)).1 = false) :
    delayReqRx x s = bump (Obj.DREQ_POLICED (16 * k + x.port))
      (takeToken (16 * k + x.port) x.tick (bump (Obj.DREQ_RX (16 * k + x.port)) s2)).2 :=
  (delayReqRx_counted hk h2p hst).trans ((if_pos hl2).trans (if_pos htoken))

theorem delayReqRx_ungranted (hudp : ptpEncap s2 (16 * k + x.port) ≠ 0)
    (hsess : sessionOf (bump (Obj.DREQ_RX (16 * k + x.port)) s2) k x.port (rxPeer x).addr = none) :
    delayReqRx x s = bump (Obj.DREQ_NO_GRANT (16 * k + x.port)) (bump (Obj.DREQ_RX (16 * k + x.port)) s2) := by
  rw [delayReqRx_counted hk h2p hst, if_neg hudp, ucDreq, hsess]

end

end

/-! ### The sequencer -/

section
variable {k p : Nat} {s : State}

theorem syncDue_restarting (j : Option Nat) (h : ptpUp s = false) : syncDue k p j s = s := if_pos h

/-- A withheld Sync moves its due instant and is counted (R281). -/
theorem syncDue_withheld (hp : ptpUp s = true) {t : Nat} (hnext : (ptpPort s (16 * k + p)).nextSync = some t) (hdue : t ≤ mts96 s)
    (hst : ptpState s (16 * k + p) = 3) (hl2 : ptpEncap s (16 * k + p) = 0) (hloud : quiet s = false) (hheld : ptpWithheld s k = true) :
    syncDue k p none s = bump (Obj.SYNC_WITHHELD (16 * k + p)) (setPtpPort (16 * k + p) (fun y => { y with
      nextSync := some (nextDue t (mts96 s) (logSpan (getN s (Obj.PTPP_LOG_SYNC (16 * k + p))))) }) s) := by
  rw [syncDue, if_neg (by simp [hp])]
  simp only [portSync, hnext, hst, hl2, hloud, hheld, Nat.not_lt.2 hdue, ne_eq, not_true_eq_false, or_self, Bool.false_eq_true, if_false,
    if_true]

end

/-! ### Security associations -/

section
variable {a : Nat} {s : State}

/-- Without a next key the roll is missed (R295). -/
theorem saRoll_missed (hat : getNat s (Obj.SA_ROLL_AT a) ≠ 0) (hdue : getNat s (Obj.SA_ROLL_AT a) ≤ mts96 s)
    (hnew : (s.ptp.sas.getD a { id := a }).rolledAt ≠ getNat s (Obj.SA_ROLL_AT a)) (hnone : getN s (Obj.SA_NEXT_SLOT a) = 0xFF) :
    saRoll a s = bump (Obj.ROLL_MISSED a) (setSa a (fun x => { x with rolledAt := getNat s (Obj.SA_ROLL_AT a) }) s) := by
  have hnot : ¬ (getNat s (Obj.SA_ROLL_AT a) = 0 ∨ mts96 s < getNat s (Obj.SA_ROLL_AT a) ∨
      (s.ptp.sas.getD a { id := a }).rolledAt = getNat s (Obj.SA_ROLL_AT a)) := by
    simp only [hat, Nat.not_lt.2 hdue, hnew, or_self, not_false_eq_true]
  exact (if_neg hnot).trans (if_pos hnone)

theorem keepsAll_setSa {ps : List Part} {ks : List Nat} {t : State} (h : keepsAll ps ks s t) (hq : Part.ptp ∈ ps) (f : Sa → Sa) :
    keepsAll ps ks s (setSa a f t) := by
  refine keepsAll_replace h hq (fun q hne => ?_) fun _ => rfl
  cases q
  case ptp => exact absurd rfl hne
  all_goals rfl

/-! The roll: the next slot and identifier are current, the count starts at 0, and only these and the mark of the roll move (R295). -/

section
variable (hat : getNat s (Obj.SA_ROLL_AT a) ≠ 0) (hdue : getNat s (Obj.SA_ROLL_AT a) ≤ mts96 s)
  (hnew : (s.ptp.sas.getD a { id := a }).rolledAt ≠ getNat s (Obj.SA_ROLL_AT a)) (hnext : getN s (Obj.SA_NEXT_SLOT a) ≠ 0xFF)
include hat hdue hnew hnext

theorem getN_saRoll_slot : getN (saRoll a s) (Obj.SA_KEY_SLOT a) = getN s (Obj.SA_NEXT_SLOT a) := by
  obtain ⟨f, g, h⟩ := saRoll_due hat hdue hnew hnext
  rw [h, getN_setN_ne _ _ (by simp), getN_setJ_ne _ _ (by simp)]
  exact getN_setJ_same _ _ _

theorem getN_saRoll_key : getN (saRoll a s) (Obj.SA_KEY_ID a) = getN s (Obj.SA_NEXT_ID a) := by
  obtain ⟨f, g, h⟩ := saRoll_due hat hdue hnew hnext
  rw [h, getN_setN_ne _ _ (by simp)]
  exact getN_setJ_same _ _ _

theorem getN_saRoll_seq : getN (saRoll a s) (Obj.SA_TX_SEQ a) = 0 := by
  obtain ⟨f, g, h⟩ := saRoll_due hat hdue hnew hnext
  rw [h]
  exact getN_setN_same _ _ _

theorem keepsAll_saRoll : keepsAll [.ptp] [Obj.SA_KEY_SLOT a, Obj.SA_KEY_ID a, Obj.SA_TX_SEQ a] s (saRoll a s) := by
  obtain ⟨f, g, h⟩ := saRoll_due hat hdue hnew hnext
  have hmarks : keepsAll [.ptp] [Obj.SA_KEY_SLOT a, Obj.SA_KEY_ID a, Obj.SA_TX_SEQ a] s (setSa a f (setSa a g s)) :=
    keepsAll_setSa (keepsAll_setSa (keepsAll_refl _ _ s) (by simp) g) (by simp) f
  rw [h]
  exact keepsAll_setN (keepsAll_setJ (keepsAll_setJ hmarks (by simp) _) (by simp) _) (by simp) _

end

end

end Sys2Proof.Machine
end

section
namespace Sys2Proof.Machine

/-- Settles O32: each message by the rule of its case. -/
theorem ptpMessages : Obligations.PtpMessages := by
  unfold Obligations.PtpMessages
  refine ⟨fun s p x s1 hu hp => ⟨?_, ?_, ?_, ?_, ?_, ?_, ?_, ?_, ?_⟩, fun s p x s1 k s2 hu hp hx hk => ⟨?_, ?_, ?_, ?_⟩⟩
  -- Sync and Follow_Up.
  · exact fun s2 hx ha => acts_of_ifUp rfl hu (onMsg_refused hp hx ha)
  · exact fun k s2 hx ha hnot => acts_of_ifUp rfl hu ((onMsg_accepted hp hx ha).trans (syncRx_ignored hnot))
  · exact fun k s2 hx ha hf hg htwo => acts_of_ifUp rfl hu ((onMsg_accepted hp hx ha).trans (syncRx_twoStep hf hg htwo))
  · exact fun k s2 hx ha hf hg hone => acts_of_ifUp rfl hu ((onMsg_accepted hp hx ha).trans (syncRx_oneStep hf hg hone))
  · exact fun k s2 y hx ha hy hf hg hseq => acts_of_ifUp rfl hu ((onMsg_accepted hp hx ha).trans (followUpRx_matched hy hf hg hseq))
  -- The delay exchanges of a time receiver port.
  · exact fun k s2 r t3 b3 hx ha hr hf hg hseq hreq ht hb =>
      acts_of_ifUp rfl hu ((onMsg_accepted hp hx ha).trans (delayRespRx_unbounded hr hf hg hseq hreq ht hb))
  · exact fun k s2 hx ha => acts_of_ifUp rfl hu (onMsg_accepted hp hx ha)
  · exact fun k s2 hx ha => acts_of_ifUp rfl hu ((withMsg_taken hp hx).trans (by rw [ha]))
  -- Announce.
  · exact fun k s2 a hx ha hg hann => nextWith_of_ifUp rfl hu (onMsg_accepted hp hx ha)
      ((getN_settle _ (annRx_not_mem_derivedKeys _)).trans (getN_announceRx_count hg hann))
  -- Delay_Req.
  · exact fun hst => acts_of_ifUp rfl hu ((withMsg_taken hp hx).trans (delayReqRx_dropped hk hst))
  · exact fun h2p hst hl2 htoken => acts_of_ifUp rfl hu ((withMsg_taken hp hx).trans (delayReqRx_policed hk h2p hst hl2 htoken))
  · exact fun h2p hst hudp hsess => acts_of_ifUp rfl hu ((withMsg_taken hp hx).trans (delayReqRx_ungranted hk h2p hst hudp hsess))
  · exact fun e b u h2p hst hl2 htoken hevent hauth =>
      acts_of_ifUp rfl hu ((withMsg_taken hp hx).trans (delayReqRx_answered hk h2p hst hl2 htoken hevent hauth))

/-- Settles O33: each due instant and each roll by the rule of its case. -/
theorem ptpTimers : Obligations.PtpTimers := by
  unfold Obligations.PtpTimers
  refine ⟨fun s k p hu => ⟨?_, ?_, ?_, ?_, ?_, ?_, ?_⟩, fun s a hu => ⟨?_, ?_, ?_, ?_⟩⟩
  -- What is due on a port.
  · exact fun j hdown => acts_of_ifUp rfl hu (syncDue_restarting _ hdown)
  · exact fun t hp hnext hdue hst hl2 hloud hheld => acts_of_ifUp rfl hu (syncDue_withheld hp hnext hdue hst hl2 hloud hheld)
  · exact fun t hp hnext hdue hst hl2 hloud hsent => acts_of_ifUp rfl hu (syncDue_port hp hnext hdue hst hl2 hloud hsent)
  · exact fun t hp hnext hdue hst hl2 hloud => acts_of_ifUp rfl hu (announceDue_port hp hnext hdue hst hl2 hloud)
  · exact fun hp => acts_of_ifUp rfl hu (if_pos hp)
  · exact fun t hst huntil hover => nextWith_of_ifUp rfl hu rfl
      (getN_settle_of_lt (by simp only [Obj.PTPP_STATE]; omega) (getN_announceTimeout_state hst huntil hover))
  · exact fun hp h2p hst hl2 hdue => acts_of_ifUp rfl hu (delayReqDue_port hp h2p hst hl2 hdue)
  -- Security associations and the shed factor.
  · exact fun hat hdue hnew hnext => nextWith_of_ifUp rfl hu rfl
      ⟨getN_settle_of_lt (by simp only [Obj.SA_KEY_SLOT]; omega) (getN_saRoll_slot hat hdue hnew hnext),
        getN_settle_of_lt (by simp only [Obj.SA_KEY_ID]; omega) (getN_saRoll_key hat hdue hnew hnext),
        getN_settle_of_lt (by simp only [Obj.SA_TX_SEQ]; omega) (getN_saRoll_seq hat hdue hnew hnext),
        frame_settle (keepsAll_saRoll hat hdue hnew hnext)⟩
  · exact fun hat hdue hnew hnone => acts_of_ifUp rfl hu (saRoll_missed hat hdue hnew hnone)
  · exact fun i j t hprev hover => acts_of_ifUp rfl hu (saOverlap_over hprev hover)
  · exact fun h => acts_of_ifUp rfl hu (shedFactor_within h)

end Sys2Proof.Machine
end

section
/-! SUPPORT. What every command and every step has in common: the last act of each arm of `exec` is `settle`. -/
namespace Sys2Proof.Machine

/-- Every command ends by settling some state: `finish` is the head of each arm of `exec`. -/
theorem exec_finishes (c : Instr) (s : State) : ∃ u, exec c s = finish u := by
  cases c <;> exact ⟨_, rfl⟩

/-- So does every step: an empty queue idles for a tick, which is settled as a command is. -/
theorem step_finishes (s : State) : ∃ u, step s = finish u := by
  unfold step
  split
  · exact exec_finishes _ _
  · exact ⟨_, rfl⟩

/-- What a finished command answers is settled, hence meets the invariant. -/
theorem derived_of_finish {u t : State} (h : finish u = .next t) : Derived t := by
  obtain rfl : settle u = t := by injection h
  exact derived_settle u

/-- An event of a unit of a module that does not run answers the state settled and nothing else (R494). -/
theorem acts_of_ifUp_down {c : Instr} {f : State → State} {s : State} (hc : exec c s = finish (ifUp f s)) (hd : up s = false) :
    acts c s s := by
  unfold acts; rw [hc, ifUp_down f s hd]; rfl

/-- A channel of a module that does not run takes no edge. -/
theorem tdcEdge_down {s : State} (hd : up s = false) (c k : Nat) : tdcEdge c k s = s :=
  if_pos (by simp [tdcRuns, hd])

end Sys2Proof.Machine
end

section
namespace Sys2Proof.Machine

/-- Settles O3: the last act of every step is `settle`, which derives the summaries, drives the lands and makes the store canonical,
whatever the state that the command left. -/
theorem stepKeepsDerived : Obligations.StepKeepsDerived := by
  unfold Obligations.StepKeepsDerived
  intro s t _ h
  obtain ⟨u, hu⟩ := step_finishes s
  exact derived_of_finish (hu ▸ h)

/-- Settles O2: every arm finishes, and the arms named are `ifUp` of their event. -/
theorem everyCommandGoesOn : Obligations.EveryCommandGoesOn := by
  unfold Obligations.EveryCommandGoesOn
  refine ⟨⟨fun c s => ?_, fun s => ?_⟩, fun s hd => ⟨?_, ?_, ?_, ?_, ?_, ?_, ?_, ?_⟩⟩
  · obtain ⟨u, hu⟩ := exec_finishes c s
    exact ⟨_, hu⟩
  · obtain ⟨u, hu⟩ := step_finishes s
    exact ⟨_, hu⟩
  · exact congrArg finish (ifUp_down tick _ hd)
  · exact fun q i j => acts_of_ifUp_down rfl hd
  · exact fun q i j => acts_of_ifUp_down rfl hd
  · exact fun p f raw => acts_of_ifUp_down rfl hd
  · exact fun c e => congrArg finish (tdcEdge_down hd c e)
  · exact fun x => acts_of_ifUp_down rfl hd
  · exact acts_of_ifUp_down rfl hd
  · exact fun t o b => acts_of_ifUp_down rfl hd

/-- Settles O1: the queue's front is the case that `step` takes. -/
theorem stepRunsFront : Obligations.StepRunsFront := fun _ _ => rfl

/-- Settles O4: the reset state is a closed term, so each of its facts is evaluated. -/
theorem resetState : Obligations.ResetState := by
  unfold Obligations.ResetState
  have hd : Derived State.reset := by constructor <;> decide +kernel
  exact ⟨hd, rfl, rfl, rfl, rfl, rfl, rfl, rfl, rfl, hd.pins⟩

/-- Settles O8: each command is an owner's command with the rule of its object. -/
theorem actingCommands : Obligations.ActingCommands := by
  unfold Obligations.ActingCommands
  intro s hu
  refine ⟨?_, ?_, ?_, ?_, ?_, ?_, ?_, ?_, ?_, ?_, ?_, ?_, ?_, ?_, ?_, ?_, ?_, ?_, ?_, ?_, ?_, ?_, ?_, ?_, ?_, ?_⟩
  -- The time scale: a step, a time that is set, a capture.
  · exact fun q v s2 h => acts_of_ifUp rfl hu (ownerCommand_accepted h rfl rfl).2
  · exact fun q v s2 h => acts_of_ifUp rfl hu (ownerCommand_accepted h rfl rfl).2
  · exact fun keep => commandsBy_of hu rfl rfl fun _ => rfl
  -- Outputs, the receiver and the ports.
  · exact fun c => commandsBy_of hu rfl rfl fun _ => rfl
  · exact fun g => commandsBy_of hu rfl rfl fun _ => rfl
  · exact commandsBy_of hu rfl rfl fun _ => rfl
  · exact commandsBy_of hu rfl rfl fun _ => rfl
  · exact fun p => commandsBy_of hu rfl rfl fun _ => rfl
  -- Sessions, keys and the life cycle.
  · exact commandsBy_of hu rfl rfl fun _ => rfl
  · exact commandsBy_of hu rfl rfl fun _ => rfl
  · exact commandsBy_of hu rfl rfl fun _ => rfl
  · exact fun ok => commandsBy_of hu rfl rfl fun _ => rfl
  · exact fun q v s2 h => acts_of_ifUp rfl hu (ownerCommand_accepted h rfl rfl).2
  · exact commandsBy_of hu rfl rfl fun _ => rfl
  · exact commandsBy_of hu rfl rfl fun _ => rfl
  · exact commandsBy_of hu rfl rfl fun _ => rfl
  -- Memories, faults, the pair and updates.
  · exact commandsBy_of hu rfl rfl fun _ => rfl
  · exact commandsBy_of hu rfl rfl fun _ => rfl
  · exact commandsBy_of hu rfl rfl fun _ => rfl
  · exact commandsBy_of hu rfl rfl fun _ => rfl
  · exact commandsBy_of hu rfl rfl fun _ => rfl
  · exact commandsBy_of hu rfl rfl fun _ => rfl
  · exact fun ok => commandsBy_of hu rfl rfl fun _ => rfl
  · exact commandsBy_of hu rfl rfl fun _ => rfl
  -- Commands with a DOMAIN argument.
  · exact fun q ok m v s2 h => acts_of_ifUp rfl hu (ownerCommand_domain h rfl).2
  · exact fun q keys v s2 h => acts_of_ifUp rfl hu (ownerCommand_domain h rfl).2

end Sys2Proof.Machine
end

section
/-! SUPPORT. The rows of "Request handling" (R316), one lemma for each row: the rows before it have passed. -/
namespace Sys2Proof.Machine

section
variable {s : State} {x : NtpRx} {h : IpHdr} (hip : x.frame.ip = some h)
include hip

theorem ntpRows_standby (hq : quiet s = true) : ntpRows x s = bump (Obj.NTP_STANDBY_DROP x.port) s := by
  simp [ntpRows, hip, hq]

theorem ntpRows_length (hq : quiet s = false) (hlen : ntpLenOk x.req = false) : ntpRows x s = bump (Obj.NTP_LEN_DROP x.port) s := by
  simp [ntpRows, hip, hq, hlen]

theorem ntpRows_checksum (hq : quiet s = false) (hlen : ntpLenOk x.req = true)
    (hcsum : x.req.csumOk = false ∨ (h.v6 = true ∧ h.csum = 0)) : ntpRows x s = bump (Obj.NTP_CSUM_DROP x.port) s := by
  simp [ntpRows, hip, hq, hlen, hcsum]

section
variable (hq : quiet s = false) (hlen : ntpLenOk x.req = true) (hcsum : x.req.csumOk = true) (hv4 : h.v6 = false)
include hq hlen hcsum hv4

theorem ntpRows_version (h3 : x.req.vn ≠ 3) (h4 : x.req.vn ≠ 4) : ntpRows x s = bump (Obj.NTP_VERSION_DROP x.port) s := by
  simp [ntpRows, hip, hq, hlen, hcsum, hv4, h3, h4]

theorem ntpRows_mode6 (hvn : x.req.vn = 4) (hmode : x.req.mode = 6) : ntpRows x s = bump (Obj.MODE6_DROP x.port) s := by
  simp [ntpRows, hip, hq, hlen, hcsum, hv4, hvn, hmode]

/-- A client's request whose fields parse, to a service that asks for no NTS, reaches the Louvre. -/
theorem ntpRows_client (hvn : x.req.vn = 4) (hmode : x.req.mode = 3)
    (hext : extParse (x.req.ext.map (·.len)) (extLen x.req) = true) (hsvc : getN s (Obj.SVC_NTP x.svc) ≠ 2) :
    ntpRows x s = louvreRow x h s := by
  simp [ntpRows, hip, hq, hlen, hcsum, hv4, hvn, hmode, hext, hsvc]
end
end

end Sys2Proof.Machine
end

section
namespace Sys2Proof

open Machine

/-- Settles O36: each row by the lemma of its row. -/
theorem ntpRows : Obligations.NtpRows := by
  unfold Obligations.NtpRows
  intro s x h hip
  exact ⟨ntpRows_standby hip, ntpRows_length hip, ntpRows_checksum hip, ntpRows_version hip, ntpRows_mode6 hip, ntpRows_client hip⟩

end Sys2Proof
end

section
/-! SUPPORT. Requests that name no object: an accepted one reaches its operation, and what a change of the Latch's holder leaves (R369,
R374, R380–R383). -/
namespace Sys2Proof.Machine

/-! ### An accepted request -/

/-- An accepted REQUEST passes to its operation in the state that the acceptance left. -/
theorem request_accepted {q : Req} {s s1 : State} (h : acceptedRequest q s = some s1) (body : State → State) :
    request q s body = body s1 := by
  unfold acceptedRequest at h
  unfold request
  cases e : acceptFrame q.hdr q.sess s with
  | mk a b =>
    cases a with
    | none => simp [e] at h
    | some u =>
      simp only [e, Option.map_some, Option.some.injEq] at h
      simp only [h]

/-- A form whose event is a request: accepted, it answers what its operation makes of that state. -/
theorem acts_of_request {c : Instr} {q : Req} {body : State → State} {s s1 u : State} (hc : exec c s = finish (ifUp (fun s => request q s body) s))
    (hu : up s = true) (h : acceptedRequest q s = some s1) (hb : body s1 = u) : acts c s u :=
  acts_of_ifUp hc hu ((request_accepted h body).trans hb)

theorem recordTests_of_ownerTests {q : Req} {s : State} (h : ownerTests q s = stOk) : recordTests q s = stOk ∧ s.latch.holder = q.sess := by
  unfold ownerTests at h
  dsimp only at h
  split at h
  · rename_i hne
    exact absurd h hne
  · rename_i hrec
    refine ⟨not_not.1 hrec, ?_⟩
    by_contra hholder
    rw [if_pos hholder] at h
    exact absurd h (by decide)

/-- A record that passes its tests, from a session that does not hold the Latch, fails the owner's test (R377). -/
theorem ownerTests_other {q : Req} {s : State} (h : recordTests q s = stOk) (hholder : s.latch.holder ≠ q.sess) :
    ownerTests q s = stNotOwner := by
  unfold ownerTests
  rw [if_neg (not_not.2 h), if_pos hholder]

/-! ### What answers and notices leave -/

theorem replyFrame_foldl {α : Type} {f : State → α → State} (h : ∀ a x, ReplyFrame a (f a x)) (l : List α) (s : State) :
    ReplyFrame s (l.foldl f s) := by
  induction l generalizing s with
  | nil => exact .refl s
  | cons x l ih => exact (h s x).trans (ih _)

theorem replyFrame_answerLate (q : Req) (op : ReqOp) (k st : Nat) (old new d : List Byte) (s : State) :
    ReplyFrame s (answerLate q op k st old new d s) :=
  (replyFrame_setSession _ _ s).trans (answer_frame _ _ _ _ _ _ _ _)

theorem replyFrame_refuseWaiting (n st : Nat) (s : State) : ReplyFrame (dropWrites n s) (refuseWaiting n st s) :=
  (replyFrame_foldl (fun a _ => replyFrame_answerLate _ _ _ _ _ _ _ a) _ _).trans
    (replyFrame_foldl (fun a _ => replyFrame_answerLate _ _ _ _ _ _ _ a) _ _)

theorem replyFrame_notifyAll (e a : Nat) (s : State) : ReplyFrame s (notifyAll e a s) := by
  refine replyFrame_foldl (fun x i => ?_) _ s
  split
  · exact notify_frame _ _ _ _ _ _
  · exact .refl x

theorem latch_of_replyFrame {s t : State} (h : ReplyFrame s t) : t.latch = s.latch := by
  obtain ⟨_, n, o, j, x, w, rfl⟩ := h
  rfl

/-! ### The Latch -/

theorem latchChange_same {n : Nat} {o : Origin} {s : State} (h : s.latch.holder = n) : latchChange n o s = s := if_pos h

/-- The Latch after a change of holder: the new holder from now, and no election. -/
theorem latch_latchChange {n : Nat} {o : Origin} {s : State} (h : s.latch.holder ≠ n) :
    (latchChange n o s).latch = { s.latch with holder := n, leaseFrom := s.now, electionFrom := none, claims := [] } := by
  unfold latchChange
  rw [if_neg h]
  dsimp only
  rw [latch_of_replyFrame (replyFrame_notifyAll _ _ _), latch_of_replyFrame (replyFrame_refuseWaiting _ _ _)]
  simp only [dropWrites, bump_eq, setN_keeps, journal_keeps, setLatch_keeps]

/-- The holder's accepted request renews its lease (R381). -/
theorem leaseFrom_acceptRequest {n : Nat} {s : State} (h : s.latch.holder = n) : (acceptRequest n s).latch.leaseFrom = s.now := by
  unfold acceptRequest
  rw [if_pos h]

theorem latch_acceptRequest {n : Nat} {s : State} (h : s.latch.holder ≠ n) : (acceptRequest n s).latch = s.latch := by
  unfold acceptRequest
  rw [if_neg h]
  split <;> simp only [setSession_keeps, journal_keeps]

/-- A record that passes its tests carries as many bytes as its VALUE has (R378). -/
theorem valueLen_le_of_recordTests {q : Req} {s : State} (h : recordTests q s = stOk) : q.valueLen ≤ q.value.length := by
  by_contra hshort
  unfold recordTests at h
  rw [if_pos (Nat.lt_of_not_le hshort)] at h
  dsimp only at h
  split at h
  · exact absurd h (by decide)
  · split at h <;> exact absurd h (by decide)

theorem length_take_of_recordTests {q : Req} {s : State} (h : recordTests q s = stOk) : (q.value.take q.valueLen).length = q.valueLen := by
  rw [List.length_take]
  exact Nat.min_eq_left (valueLen_le_of_recordTests h)

section
variable {q : Req} {s : State}

theorem latchHand_taken (ht : ownerTests q s = stOk) (hlen : q.valueLen = 2) (hst : (session s (ofBe (q.value.take 2))).state = 2)
    (hcap : ownerCapable s (session s (ofBe (q.value.take 2))).slot = true) (hlo : 1 ≤ ofBe (q.value.take 2))
    (hhi : ofBe (q.value.take 2) ≤ 16) {f : State} (hs : acceptedRequest q f = some s) :
    latchHand q f = reply q 10 stOk []
      (latchChange (ofBe (q.value.take 2)) (.session q.sess) (setLatch (fun l => { l with leaseFrom := s.now }) s)) := by
  unfold latchHand
  rw [request_accepted hs]
  have h2 := length_take_of_recordTests (recordTests_of_ownerTests ht).1
  rw [hlen] at h2 ⊢
  rw [if_neg (not_not.2 ht), if_neg (not_not.2 h2), if_pos ⟨hlo, hhi, hst, hcap⟩]

theorem latchHand_refused (ht : ownerTests q s = stOk) (hlen : q.valueLen = 2)
    (hno : ofBe (q.value.take 2) = 0 ∨ 16 < ofBe (q.value.take 2) ∨ (session s (ofBe (q.value.take 2))).state ≠ 2 ∨
      ownerCapable s (session s (ofBe (q.value.take 2))).slot = false) {f : State} (hs : acceptedRequest q f = some s) :
    latchHand q f = reply q 10 stConflict (holderBytes s) s := by
  unfold latchHand
  rw [request_accepted hs]
  have h2 := length_take_of_recordTests (recordTests_of_ownerTests ht).1
  rw [hlen] at h2 ⊢
  rw [if_neg (not_not.2 ht), if_neg (not_not.2 h2), if_neg]
  rintro ⟨hlo, hhi, hst, hcap⟩
  rcases hno with h | h | h | h
  · omega
  · omega
  · exact h hst
  · rw [hcap] at h
    exact absurd h (by decide)
end

end Sys2Proof.Machine
end

section
namespace Sys2Proof.Machine

/-- Settles O14: the lease by the two ends of its run, and each request of the Latch by its operation. -/
theorem latchLease : Obligations.LatchLease := by
  unfold Obligations.LatchLease
  refine ⟨fun s n o h => ?_, fun s n h => leaseFrom_acceptRequest h, fun s n h => latch_acceptRequest h,
    fun s hu => ⟨?_, ?_, ?_, ?_, ?_, ?_, ?_⟩⟩
  · rw [latch_latchChange h]
    exact ⟨rfl, rfl⟩
  -- A renewal, by the holder and by another.
  · exact fun q s1 hs ht hh => acts_of_request rfl hu hs (by simp [ht, hh])
  · exact fun q s1 hs ht hh => acts_of_request rfl hu hs (by simp [ht, hh, holderBytes])
  -- The end of the lease.
  · exact fun hh hover => acts_of_ifUp rfl hu (if_pos ⟨hh, hover⟩)
  · exact fun h => acts_of_ifUp rfl hu (if_neg fun ⟨hh, hover⟩ => h.elim hh fun hlt => absurd hover (Nat.not_le.2 hlt))
  -- A hand, and a release.
  · exact fun q s1 hs ht hlen hst hcap hlo hhi => acts_of_ifUp rfl hu (latchHand_taken ht hlen hst hcap hlo hhi hs)
  · exact fun q s1 hs ht hlen hno => acts_of_ifUp rfl hu (latchHand_refused ht hlen hno hs)
  · exact fun q s1 hs ht => acts_of_request rfl hu hs (if_neg (not_not.2 ht))

end Sys2Proof.Machine
end

section
/-! SUPPORT. The election of the Latch (R380): the winner by rank and session, and the end of the window. -/
namespace Sys2Proof.Machine

/-- The rank of the credential that a session was opened with. -/
def sessionRank (s : State) (n : Nat) : Nat := getNat s (Obj.CRED_RANK (session s n).slot)

/-- Session a goes before session b: a higher rank, or the same rank and a lower or the same ID (R380). -/
def outranks (s : State) (a b : Nat) : Prop := sessionRank s b < sessionRank s a ∨ sessionRank s b = sessionRank s a ∧ a ≤ b

theorem outranks_refl (s : State) (n : Nat) : outranks s n n := .inr ⟨rfl, Nat.le_refl n⟩

theorem outranks_trans {s : State} {a b c : Nat} (h : outranks s a b) (g : outranks s b c) : outranks s a c := by
  unfold outranks at *
  omega

/-- What a claim makes of the winner so far. -/
def winnerOf (s : State) (w n : Nat) : Nat :=
  if w = 0 ∨ sessionRank s w < sessionRank s n ∨ (sessionRank s w = sessionRank s n ∧ n < w) then n else w

theorem winner_eq_foldl (s : State) (l : List (Nat × Nat)) : winner s l = l.foldl (fun w c => winnerOf s w c.1) 0 := rfl

/-- It is one of the two, and goes before both. -/
theorem winnerOf_outranks {s : State} {w n : Nat} (hw : w ≠ 0) : (winnerOf s w n = w ∨ winnerOf s w n = n) ∧
    outranks s (winnerOf s w n) w ∧ outranks s (winnerOf s w n) n := by
  unfold winnerOf outranks
  split <;> omega

theorem winnerOf_zero (s : State) (n : Nat) : winnerOf s 0 n = n := if_pos (.inl rfl)

/-- From a first claimant on, the winner so far is that claimant or a later one, and goes before all of them. -/
theorem foldl_winnerOf {s : State} (l : List (Nat × Nat)) {w : Nat} (hw : w ≠ 0) (hl : ∀ c ∈ l, c.1 ≠ 0) :
    (l.foldl (fun w c => winnerOf s w c.1) w = w ∨ ∃ c ∈ l, c.1 = l.foldl (fun w c => winnerOf s w c.1) w) ∧
    outranks s (l.foldl (fun w c => winnerOf s w c.1) w) w ∧
    ∀ c ∈ l, outranks s (l.foldl (fun w c => winnerOf s w c.1) w) c.1 := by
  induction l generalizing w with
  | nil => exact ⟨.inl rfl, outranks_refl s w, fun c hc => absurd hc (List.not_mem_nil)⟩
  | cons c l ih =>
    obtain ⟨hone, hbefore, hnew⟩ := winnerOf_outranks (s := s) (n := c.1) hw
    have hw' : winnerOf s w c.1 ≠ 0 := by
      rcases hone with h | h
      · rw [h]; exact hw
      · rw [h]; exact hl c List.mem_cons_self
    obtain ⟨hmem, hfirst, hrest⟩ := ih hw' fun d hd => hl d (List.mem_cons_of_mem c hd)
    rw [List.foldl_cons]
    refine ⟨?_, outranks_trans hfirst hbefore, fun d hd => ?_⟩
    · rcases hmem with h | ⟨d, hd, h⟩
      · rw [h]
        exact hone.imp id fun h => ⟨c, List.mem_cons_self, h.symm⟩
      · exact .inr ⟨d, List.mem_cons_of_mem c hd, h⟩
    · rcases List.mem_cons.1 hd with rfl | hd
      · exact outranks_trans hfirst hnew
      · exact hrest d hd

/-- The winner of a window with a claim is a claimant, and goes before every claimant. -/
theorem winner_outranks {s : State} {l : List (Nat × Nat)} (hne : l ≠ []) (hl : ∀ c ∈ l, c.1 ≠ 0) :
    (∃ c ∈ l, c.1 = winner s l) ∧ ∀ c ∈ l, outranks s (winner s l) c.1 := by
  obtain ⟨c, l, rfl⟩ := List.exists_cons_of_ne_nil hne
  rw [winner_eq_foldl, List.foldl_cons, winnerOf_zero]
  obtain ⟨hmem, hfirst, hrest⟩ := foldl_winnerOf (s := s) l (hl c List.mem_cons_self) fun d hd => hl d (List.mem_cons_of_mem c hd)
  refine ⟨?_, fun d hd => ?_⟩
  · rcases hmem with h | ⟨d, hd, h⟩
    · exact ⟨c, List.mem_cons_self, h.symm⟩
    · exact ⟨d, List.mem_cons_of_mem c hd, h⟩
  · rcases List.mem_cons.1 hd with rfl | hd
    · exact hfirst
    · exact hrest d hd

/-! ### The end of the window -/

section
variable {s : State} {t : Nat} (hfrom : s.latch.electionFrom = some t)
include hfrom

theorem electionEnd_open (h : s.now < t + 500 * msT) : electionEnd s = s := by
  rw [electionEnd, hfrom]
  exact if_pos h

theorem electionEnd_over (h : t + 500 * msT ≤ s.now) : electionEnd s =
    s.latch.claims.foldl (fun a c => answerClaim (winner s s.latch.claims) c a)
      (if winner s s.latch.claims = 0 then setLatch (fun x => { x with electionFrom := none, claims := [] }) (setN Obj.LATCH_STATE 0 s)
        else latchChange (winner s s.latch.claims) (.session (winner s s.latch.claims))
          (setLatch (fun x => { x with electionFrom := none, claims := [] }) (setN Obj.LATCH_STATE 0 s))) := by
  rw [electionEnd, hfrom]
  exact if_neg (Nat.not_lt.2 h)

/-- A window in which nobody claimed leaves the Latch as it is. -/
theorem electionEnd_unclaimed (h : t + 500 * msT ≤ s.now) (hnone : s.latch.claims = []) :
    electionEnd s = setLatch (fun x => { x with electionFrom := none, claims := [] }) (setN Obj.LATCH_STATE 0 s) := by
  rw [electionEnd_over hfrom h, hnone]
  rfl
end

end Sys2Proof.Machine
end

section
namespace Sys2Proof.Machine

/-- Settles O42: the winner goes before every claimant, by induction on the claims. -/
theorem electionWinner : Obligations.ElectionWinner := by
  unfold Obligations.ElectionWinner
  intro s l hne hl
  obtain ⟨hmem, hall⟩ := winner_outranks (s := s) hne hl
  refine ⟨hmem, fun c hc => ?_⟩
  rcases hall c hc with h | ⟨h, hle⟩
  · exact ⟨Nat.le_of_lt h, fun heq => absurd heq (Nat.ne_of_lt h)⟩
  · exact ⟨Nat.le_of_eq h, fun _ => hle⟩

/-- Settles O41: each claim by the tests of its operation, and the end of the window by its winner. -/
theorem latchElection : Obligations.LatchElection := by
  unfold Obligations.LatchElection
  intro s hu
  refine ⟨?_, ?_, ?_, ?_, ?_, ?_, ?_⟩
  -- A claim.
  · exact fun q s1 hs ht hcap hfree => acts_of_request rfl hu hs (by simp [ht, hcap, hfree])
  · exact fun q s1 hs ht hcap => acts_of_request rfl hu hs (by simp [ht, hcap])
  · exact fun q s1 hs ht hcap hheld => acts_of_request rfl hu hs (by simp [ht, hcap, hheld, holderBytes])
  -- A release by another session.
  · exact fun q s1 hs ht hh => acts_of_request rfl hu hs
      (by rw [ownerTests_other ht hh]; rfl)
  -- The window.
  · exact fun t hfrom hopen => acts_of_ifUp rfl hu (electionEnd_open hfrom hopen)
  · exact fun t hfrom hover hnone => nextWith_of_ifUp rfl hu (electionEnd_unclaimed hfrom hover hnone)
      ⟨by simp only [settle_keeps, setLatch_keeps], by simp only [settle_keeps, setLatch_keeps, setN_keeps],
        (getN_settle _ (by decide)).trans (getN_setN_same _ _ _)⟩
  · exact fun t hfrom hover => acts_of_ifUp rfl hu (electionEnd_over hfrom hover)

end Sys2Proof.Machine
end

section
/-! SUPPORT. Commit groups: what each request and each instant makes of the groups that are held (R384–R389). -/
namespace Sys2Proof.Machine

section
variable {q : Req} {s s1 : State} (hs : acceptedRequest q s = some s1)
include hs

section
variable (ht : ownerTests q s1 = stOk)
include ht

theorem groupOpen_full (hfull : 8 ≤ s1.groups.length) : groupOpen q s = reply q 4 stBusy [] s1 := by
  rw [groupOpen, request_accepted hs, if_neg (not_not.2 ht), if_pos hfull]

theorem groupOpen_room (hroom : s1.groups.length < 8) : groupOpen q s = reply q 4 stOk (be 2 (nextGroupId s1))
    { s1 with
      nextGroup := nextGroupId s1 % 65535 + 1
      groups := s1.groups ++ [{ id := nextGroupId s1, session := q.sess, opened := (session s1 q.sess).openedTick }] } := by
  rw [groupOpen, request_accepted hs, if_neg (not_not.2 ht), if_neg (Nat.not_le.2 hroom)]

/-- A commit whose group passes its check waits for AT (R386). -/
theorem groupCommit_waits {a i : Nat} {g : Group} (hlen : (q.value.take q.valueLen).length = 12)
    (ha : t96OfBytes (q.value.take q.valueLen) = some a) (hg : openGroup s1 q = some g) (hat : commitAt s1 a = .inr i)
    (hrun : (groupRun { g with atI := i } s1).status = stOk) :
    groupCommit q s = reply q 6 stPending [] (groupEntry (.session q.sess) stPending g.id (t96Bytes (t96Of i))
      { setGroup g.id (fun x => { x with state := 1, atI := i, order := s1.commits }) s1 with commits := s1.commits + 1 }) := by
  rw [groupCommit, request_accepted hs]
  simp only [ha, hg, hat]
  rw [if_neg (not_not.2 ht), if_neg (not_not.2 hlen), if_neg (not_not.2 hrun)]

section
variable {g : Group} (hg : groupOf s1 q.group = some g)
include hg

theorem groupAbort_held (hst : g.state ≠ 2) : groupAbort q s = reply q 7 stOk [] (dropGroup g.id s1) := by
  rw [groupAbort, request_accepted hs, hg]
  dsimp only
  rw [if_neg (not_not.2 ht), if_neg hst]

theorem groupAbort_staged (hst : g.state = 2) : groupAbort q s = reply q 7 stBusy [] s1 := by
  rw [groupAbort, request_accepted hs, hg]
  dsimp only
  rw [if_neg (not_not.2 ht), if_pos hst]
end
end

section
variable {i j : Nat} (ht : tests1to9 q .groupAdd i j s1 = stOk)
include ht

theorem groupAdd_noGroup (hg : openGroup s1 q = none) : groupAdd q i j s = answerAdd q (i * 256 + j) stRange s1 := by
  rw [groupAdd, request_accepted hs, hg]
  exact if_neg (not_not.2 ht)

/-- A write that every test accepts joins the group (R385). -/
theorem groupAdd_joins {g : Group} (hg : openGroup s1 q = some g) (hroom : g.writes.length < 256)
    (hval : (decodeVal (i * 256 + j) (objKind i j) (q.value.take q.valueLen)).1 = stOk)
    (hown : ownStatus s1 (i * 256 + j) (decodeVal (i * 256 + j) (objKind i j) (q.value.take q.valueLen)).2 = stOk)
    (hbytes : g.bytes + (q.value.take q.valueLen).length ≤ 16384) :
    groupAdd q i j s = answerAdd q (i * 256 + j) stOk (setGroup g.id (fun x =>
      { x with writes := x.writes ++ [{ key := i * 256 + j, val := (decodeVal (i * 256 + j) (objKind i j) (q.value.take q.valueLen)).2 }],
               bytes := x.bytes + (q.value.take q.valueLen).length }) s1) := by
  rw [groupAdd, request_accepted hs, hg]
  dsimp only
  rw [if_neg (not_not.2 ht), if_neg (Nat.not_le.2 hroom), if_neg (not_not.2 hval), if_neg (not_not.2 hown), if_neg (Nat.not_lt.2 hbytes)]
end
end

section
variable {s : State}

theorem groupStage_due {n : Nat} {g : Group} (hg : groupOf s n = some g) (hst : g.state = 1)
    (hsoon : g.atI ≤ s.ts.mts + 1000 * ms48) (hlate : s.ts.mts + 2 * ms48 ≤ g.atI) :
    groupStage n s = setGroup n (fun x => { x with state := 2 }) s := by
  rw [groupStage, hg]
  exact if_pos ⟨hst, hsoon, hlate⟩

theorem groupsDue_none (h : dueGroups s = []) : groupsDue s = s := by simp [groupsDue, h]

theorem groupsDue_some (h : dueGroups s ≠ []) : groupsDue s = (dueGroups s).foldl applyGroup (releasesDue s) := by
  simp [groupsDue, h]
end

end Sys2Proof.Machine
end

section
namespace Sys2Proof.Machine

/-- Settles O43: each request by its operation in the state of its acceptance, and the instants AT − 1,000 ms and AT by their marks. -/
theorem groupRequests : Obligations.GroupRequests := by
  unfold Obligations.GroupRequests
  intro s hu
  refine ⟨?_, ?_, ?_, ?_, ?_, ?_, ?_, ?_, ?_, ?_⟩
  · exact fun q s1 hs ht hfull => acts_of_ifUp rfl hu (groupOpen_full hs ht hfull)
  · exact fun q s1 hs ht hroom => acts_of_ifUp rfl hu (groupOpen_room hs ht hroom)
  · exact fun q i j s1 g hs ht hg hroom hval hown hbytes => acts_of_ifUp rfl hu (groupAdd_joins hs ht hg hroom hval hown hbytes)
  · exact fun q i j s1 hs ht hg => acts_of_ifUp rfl hu (groupAdd_noGroup hs ht hg)
  · exact fun q s1 a g i hs ht hlen ha hg hat hrun => acts_of_ifUp rfl hu (groupCommit_waits hs ht hlen ha hg hat hrun)
  · exact fun q s1 g hs ht hg hst => acts_of_ifUp rfl hu (groupAbort_held hs ht hg hst)
  · exact fun q s1 g hs ht hg hst => acts_of_ifUp rfl hu (groupAbort_staged hs ht hg hst)
  -- Staging, and AT.
  · exact fun n g hg hst hsoon hlate => acts_of_ifUp rfl hu (groupStage_due hg hst hsoon hlate)
  · refine fun h => acts_of_ifUp rfl hu ?_
    rcases h with hnone | ⟨hdue, hat⟩
    · rw [groupsDue_none hnone, ite_self]
    · exact if_neg (by simp [hdue, hat])
  · exact fun h hsome => acts_of_ifUp rfl hu ((if_pos (by simpa using h)).trans (groupsDue_some hsome))

end Sys2Proof.Machine
end

section
/-! SUPPORT. One entry of the journal: its fields, its chain and where it goes (R391–R393). -/
namespace Sys2Proof.Machine

/-- The fields of an entry that the module forms itself, before its chain. -/
def ownFields (r : JReq) (s : State) : JEntry :=
  { kind := r.kind, result := r.result, seq := s.journal.next, epoch := s.journal.epoch, time := r.time.getD (mts96 s),
    bound := (servedPair (getN s Obj.BOUND) (getNat s Obj.READ_BUDGET) (getNat s Obj.READ_BUDGET)).toNat,
    iface := (originFields s r.origin).1, port := (originFields s r.origin).2.1, session := (originFields s r.origin).2.2.1,
    credential := (originFields s r.origin).2.2.2, index := r.key / 256, sub := r.key % 256,
    flags := r.flags + ((if 64 < r.old.length then 1 else 0) + (if 64 < r.new.length then 2 else 0)), group := r.group,
    old := storedValue r.old, oldLen := r.old.length, new := storedValue r.new, newLen := r.new.length,
    chain := 0, origin := r.origin, pos := s.journal.head }

/-- The entry: its chain covers the chain before it and its own fields, under the key of the epoch (R393). -/
def ownEntry (r : JReq) (s : State) : JEntry :=
  { ownFields r s with
    chain := Config.cmac (epochKey (s.keys.root 3) s.journal.epoch) (be 16 s.journal.chain ++ entryBody (ownFields r s)) }

/-- What one entry makes of the journal. -/
def withEntry (e : JEntry) (closed : Nat) (j : Journal) : Journal :=
  let ring := trimRing (j.head + entryLength e) (e :: j.ring)
  { j with
    ring := ring, head := j.head + entryLength e, next := j.next + 1, chain := e.chain,
    oldest := (ring.getLast?.map (·.seq)).getD j.next, tail := if 3 ≤ closed then e :: j.tail else j.tail }

theorem journal_own {r : JReq} (hm : r.mirror = none) (s : State) :
    journal r s = { s with journal := withEntry (ownEntry r s) s.power.closed s.journal } := by
  obtain ⟨⟩ := r
  subst hm
  rfl

/-- The ring holds the entry and otherwise only what it held. -/
theorem mem_withEntry_ring {e x : JEntry} {closed : Nat} {j : Journal} (h : x ∈ (withEntry e closed j).ring) : x = e ∨ x ∈ j.ring := by
  simp only [withEntry, trimRing, List.mem_filter, List.mem_cons] at h
  exact h.1

/-- An entry changes no part of the state but the journal. -/
theorem samePart_journal (r : JReq) (s : State) (p : Part) : samePart s (journal r s) p := by
  obtain ⟨j, h⟩ := journal_shape r s
  rw [h]
  cases p <;> rfl

theorem getN_journal (r : JReq) (s : State) (k : Nat) : getN (journal r s) k = getN s k := by
  obtain ⟨j, h⟩ := journal_shape r s
  rw [h]
  rfl

end Sys2Proof.Machine
end

section
namespace Sys2Proof.Machine

/-- Settles O47: the journal holds the entry of the request, and nothing else of the state moved. -/
theorem journalAppend : Obligations.JournalAppend := by
  unfold Obligations.JournalAppend
  intro r s hm ht
  refine ⟨?_, ⟨ownEntry r s, ?_⟩, samePart_journal r s, getN_journal r s⟩
  · rw [journal_own hm]
    rfl
  · rw [journal_own hm]
    exact ⟨rfl, rfl, rfl, rfl, congrArg (Option.getD · (mts96 s)) ht, rfl, rfl, rfl, rfl, rfl, rfl, fun x hx => mem_withEntry_ring hx⟩

end Sys2Proof.Machine
end

section
/-! SUPPORT. Frames of the parts that the host link, the keys, the memories, the cores, the collector, the pair and the updates change. -/
namespace Sys2Proof.Machine

section
variable {ps : List Part} {ks : List Nat} {s t : State} (h : keepsAll ps ks s t)
include h

theorem keepsAll_setHost (hq : Part.host ∈ ps) (f : HostLink → HostLink) : keepsAll ps ks s (setHost f t) := by
  refine keepsAll_replace h hq (fun p hp => ?_) fun _ => rfl
  cases p
  case host => exact absurd rfl hp
  all_goals rfl

theorem keepsAll_setKeys (hq : Part.keys ∈ ps) (f : Keys → Keys) : keepsAll ps ks s (setKeys f t) := by
  refine keepsAll_replace h hq (fun p hp => ?_) fun _ => rfl
  cases p
  case keys => exact absurd rfl hp
  all_goals rfl

theorem keepsAll_mem (hq : Part.mem ∈ ps) (x : Mem) : keepsAll ps ks s { t with mem := x } := by
  refine keepsAll_replace h hq (fun p hp => ?_) fun _ => rfl
  cases p
  case mem => exact absurd rfl hp
  all_goals rfl

theorem keepsAll_replicas (hq : Part.replicas ∈ ps) (x : List Replica) : keepsAll ps ks s { t with replicas := x } := by
  refine keepsAll_replace h hq (fun p hp => ?_) fun _ => rfl
  cases p
  case replicas => exact absurd rfl hp
  all_goals rfl

theorem keepsAll_putFault (hq : Part.faults ∈ ps) (f : FaultSrc) : keepsAll ps ks s (putFault f t) := by
  refine keepsAll_replace h hq (fun p hp => ?_) fun _ => rfl
  cases p
  case faults => exact absurd rfl hp
  all_goals rfl

theorem keepsAll_setHinge (hq : Part.hinge ∈ ps) (f : Hinge → Hinge) : keepsAll ps ks s (setHinge f t) := by
  refine keepsAll_replace h hq (fun p hp => ?_) fun _ => rfl
  cases p
  case hinge => exact absurd rfl hp
  all_goals rfl

theorem keepsAll_setUpd (hq : Part.update ∈ ps) (f : Update → Update) : keepsAll ps ks s (setUpd f t) := by
  refine keepsAll_replace h hq (fun p hp => ?_) fun _ => rfl
  cases p
  case update => exact absurd rfl hp
  all_goals rfl
end

end Sys2Proof.Machine
end

section
/-! SUPPORT. The host link's buffers and the tests of a session's frames (R367–R371). -/
namespace Sys2Proof.Machine

section
variable {s : State}

/-! ### The host link (R367, R368) -/

theorem writeFrame_full (f : List Byte) (agree : Bool) (h : 8 ≤ s.host.written.length) : writeFrame f agree s = bump Obj.SPI_OVERRUN s :=
  if_pos h

theorem writeFrame_length {f : List Byte} {agree : Bool} (hroom : s.host.written.length < 8) (h : agree = false ∨ 1408 < f.length) :
    writeFrame f agree s = bump Obj.TRANSOM_LEN_DROP s :=
  (if_neg (Nat.not_le.2 hroom)).trans (if_pos h)

theorem writeFrame_waits {f : List Byte} (hroom : s.host.written.length < 8) (h : f.length ≤ 1408) :
    writeFrame f true s = setHost (fun x => { x with written := x.written ++ [f] }) s :=
  (if_neg (Nat.not_le.2 hroom)).trans (if_neg (by simpa using h))

theorem readFrame_none (whole : Bool) (h : s.host.read = []) : readFrame whole s = emit (.hostFrame []) s := by
  rw [readFrame, h]

theorem readFrame_cut {f : List Byte} {r : List (List Byte)} (h : s.host.read = f :: r) : readFrame false s = s := by
  rw [readFrame, h]
  rfl

theorem readFrame_whole {f : List Byte} {r : List (List Byte)} (h : s.host.read = f :: r) : readFrame true s =
    emit (.hostFrame f) (setHost (fun x => { x with read := r ++ x.waiting.take 1, waiting := x.waiting.drop 1 }) s) := by
  rw [readFrame, h]
  rfl

theorem statusByte_eq (s : State) :
    statusByte s = (if s.host.read = [] then 0 else 1) + (if s.host.written.length < 8 then 2 else 0) := by
  simp only [statusByte, List.isEmpty_iff]
end

/-! ### Frames of a session (R370, R371) -/

/-- The frame comes the way its session came. -/
def sameWay (s : State) (n : Nat) (h : FrameHdr) : Prop :=
  (session s n).iface = h.iface ∧ (session s n).peer = h.peer ∧ (session s n).port = h.port

/-- A frame with a good tag that comes the way of its session passes the test of R370. -/
theorem authentic_of_sameWay {s : State} {n : Nat} {h : FrameHdr} (hst : (session s n).state ≠ 0) (hway : sameWay s n h) (htag : h.tagOk = true) :
    ¬((session s n).state = 0 ∨ (session s n).iface ≠ h.iface ∨
      (h.iface ≠ 3 ∧ ((session s n).peer ≠ h.peer ∨ (session s n).port ≠ h.port)) ∨ h.tagOk = false) := by
  obtain ⟨hif, hpeer, hport⟩ := hway
  simp [hst, hif, hpeer, hport, htag]

section
variable {h : FrameHdr} {n : Nat} {s0 s : State} (hs : s = takeFrame h s0) (htr : transportOk s h = true) (hudp : h.udpOk = true)
  (hbytes : h.bytes ≤ 1408) (hver : h.version = 1) (hlen : h.lengthOk = true)
include hs htr hudp hbytes hver hlen

/-- A frame that transport and form let in is tested by its session. -/
theorem acceptFrame_formed : acceptFrame h n s0 =
    if (session s n).state = 0 ∨ (session s n).iface ≠ h.iface ∨
        (h.iface ≠ 3 ∧ ((session s n).peer ≠ h.peer ∨ (session s n).port ≠ h.port)) ∨ h.tagOk = false then
      (none, bump Obj.FRAME_AUTH_FAIL s)
    else if h.seq + 64 ≤ (session s n).rxHigh ∨ (session s n).rxSeen.contains h.seq then (none, bump Obj.FRAME_REPLAY s)
    else (some (setSession n { session s n with
        rxHigh := max (session s n).rxHigh h.seq
        rxSeen := (h.seq :: (session s n).rxSeen).filter (fun q => max (session s n).rxHigh h.seq < q + 64)
        lastAccepted := s.now } s), s) := by
  subst hs
  unfold acceptFrame
  rw [if_neg (by simp [htr]), if_neg (by simp [hudp, hver, hlen]; omega)]

theorem acceptFrame_unauthentic (hbad : h.tagOk = false ∨ (session s n).state = 0 ∨ (session s n).iface ≠ h.iface ∨
    (h.iface ≠ 3 ∧ ((session s n).peer ≠ h.peer ∨ (session s n).port ≠ h.port))) :
    acceptFrame h n s0 = (none, bump Obj.FRAME_AUTH_FAIL s) := by
  rw [acceptFrame_formed hs htr hudp hbytes hver hlen, if_pos]
  rcases hbad with htag | hst | hif | hway
  · exact .inr (.inr (.inr htag))
  · exact .inl hst
  · exact .inr (.inl hif)
  · exact .inr (.inr (.inl hway))

section
variable (hst : (session s n).state ≠ 0) (hway : sameWay s n h) (htag : h.tagOk = true)
include hst hway htag

theorem acceptFrame_replayed (hseq : h.seq + 64 ≤ (session s n).rxHigh ∨ h.seq ∈ (session s n).rxSeen) :
    acceptFrame h n s0 = (none, bump Obj.FRAME_REPLAY s) := by
  rw [acceptFrame_formed hs htr hudp hbytes hver hlen, if_neg (authentic_of_sameWay hst hway htag),
    if_pos (by simpa using hseq)]

/-- The session's record after an accepted frame: its SEQ is seen, and is the highest where it is above it. -/
theorem acceptFrame_taken (hnew : (session s n).rxHigh < h.seq + 64) (hunseen : h.seq ∉ (session s n).rxSeen) :
    (acceptFrame h n s0).1 = some (setSession n { session s n with
      rxHigh := max (session s n).rxHigh h.seq
      rxSeen := (h.seq :: (session s n).rxSeen).filter (fun q => max (session s n).rxHigh h.seq < q + 64)
      lastAccepted := s.now } s) := by
  rw [acceptFrame_formed hs htr hudp hbytes hver hlen, if_neg (authentic_of_sameWay hst hway htag),
    if_neg (by simpa using ⟨hnew, hunseen⟩)]
end
end

theorem session_setSession_same {n : Nat} {s : State} (h1 : 1 ≤ n) (hn : n ≤ s.sessions.length) (x : Session) :
    session (setSession n x s) n = x := by
  have hlt : n - 1 < s.sessions.length := by omega
  have h0 : n ≠ 0 := by omega
  simp [session, setSession, hlt, h0]

end Sys2Proof.Machine
end

section
namespace Sys2Proof.Machine

/-- Settles O39: the buffers by what they hold, and a session's frame by the first test it fails. -/
theorem hostLinkFrames : Obligations.HostLinkFrames := by
  unfold Obligations.HostLinkFrames
  refine ⟨fun s hu => ⟨?_, ?_, ?_, ?_, ?_, ?_, ?_⟩, fun h n s0 s hs htr hudp hbytes hver hlen => ⟨?_, ?_, ?_⟩⟩
  -- The buffers.
  · exact fun f agree hfull => acts_of_ifUp rfl hu (writeFrame_full f agree hfull)
  · exact fun f agree hroom hbad => acts_of_ifUp rfl hu (writeFrame_length hroom hbad)
  · exact fun f hroom hf => nextWith_of_ifUp rfl hu (writeFrame_waits hroom hf)
      ⟨by simp only [settle_keeps, setHost_keeps], frame_settle (keepsAll_setHost (keepsAll_refl _ _ s) (by decide) _)⟩
  · exact fun hnone whole => acts_of_ifUp rfl hu (readFrame_none whole hnone)
  · exact fun f r hread => acts_of_ifUp rfl hu (readFrame_cut hread)
  · exact fun f r hread => nextWith_of_ifUp rfl hu (readFrame_whole hread)
      ⟨by simp only [settle_keeps, emit_keeps, setHost_keeps], by simp only [settle_keeps, emit_keeps, setHost_keeps],
        frame_settle (keepsAll_emit (keepsAll_setHost (keepsAll_refl _ _ s) (by decide) _) (by decide) _)⟩
  · exact nextWith_of_ifUp rfl hu rfl ⟨by simp only [settle_keeps, emit_keeps, statusByte_eq],
      frame_settle (keepsAll_emit (keepsAll_refl _ _ s) (by decide) _)⟩
  -- A session's frame.
  · exact fun hbad => acceptFrame_unauthentic hs htr hudp hbytes hver hlen hbad
  · exact fun hst hif hpeer hport htag hseq =>
      acceptFrame_replayed hs htr hudp hbytes hver hlen hst ⟨hif, hpeer, hport⟩ htag hseq
  · intro hst hif hpeer hport htag hnew hunseen h1 hn
    refine ⟨_, acceptFrame_taken hs htr hudp hbytes hver hlen hst ⟨hif, hpeer, hport⟩ htag hnew hunseen, ?_⟩
    rw [session_setSession_same h1 hn]
    refine ⟨List.mem_filter.2 ⟨List.mem_cons_self, ?_⟩, rfl, rfl⟩
    exact decide_eq_true (by omega)

end Sys2Proof.Machine
end

section
/-! SUPPORT. The collector: what it holds for a source, and what a raise of a source that may act makes of it (R456–R463). -/
namespace Sys2Proof.Machine

/-! ### The records of the sources (R458) -/

theorem faultOf_code (s : State) (c : Nat) : (faultOf s c).code = c := by
  unfold faultOf
  cases e : s.faults.find? (fun f => f.code = c) with
  | none => rfl
  | some f => simpa using List.find?_some e

theorem find_insertFault_same (f : FaultSrc) (l : List FaultSrc) : (insertFault f l).find? (fun g => g.code = f.code) = some f := by
  induction l with
  | nil => simp [insertFault]
  | cons g l ih =>
    unfold insertFault
    split
    · simp
    · split
      · simp
      · rename_i hne
        rw [List.find?_cons_of_neg (by simpa using Ne.symm hne), ih]

theorem find_insertFault_ne {f : FaultSrc} {c : Nat} (hc : f.code ≠ c) (l : List FaultSrc) :
    (insertFault f l).find? (fun g => g.code = c) = l.find? (fun g => g.code = c) := by
  induction l with
  | nil => simp [insertFault, hc]
  | cons g l ih =>
    unfold insertFault
    split
    · rw [List.find?_cons_of_neg (by simpa using hc)]
    · split
      · rename_i heq
        rw [List.find?_cons_of_neg (by simpa using hc), List.find?_cons_of_neg (by simpa using heq ▸ hc)]
      · simp only [List.find?_cons, ih]

theorem faultOf_putFault_same {f : FaultSrc} {c : Nat} (hc : f.code = c) (s : State) : faultOf (putFault f s) c = f := by
  subst hc
  simp only [faultOf, putFault_keeps, find_insertFault_same, Option.getD_some]

theorem faultOf_putFault_ne {f : FaultSrc} {c : Nat} (hc : f.code ≠ c) (s : State) : faultOf (putFault f s) c = faultOf s c := by
  simp only [faultOf, putFault_keeps, find_insertFault_ne hc]

theorem faultOf_congr {s t : State} (h : t.faults = s.faults) (c : Nat) : faultOf t c = faultOf s c := by rw [faultOf, faultOf, h]

theorem faultOf_settle (s : State) (c : Nat) : faultOf (settle s) c = faultOf s c := faultOf_congr (by simp only [settle_keeps]) c

/-! ### Raises whose reaction restarts no unit -/

theorem react_quiet (effects : Nat → State → State) {code base cls : Nat} {s : State}
    (h : cls < 2 ∨ unitOf code = 0 ∨ restarting s (unitOf code) = true) : react effects code base cls s = s := by
  refine if_neg ?_
  rintro ⟨hcls, hunit, hno⟩
  rcases h with h | h | h
  · omega
  · exact hunit h
  · rw [hno] at h
    exact absurd h (by decide)

/-- A source without a unit raises the same whatever a restart does. -/
theorem raiseWith_unitless (effects : Nat → State → State) {code : Nat} (h : unitOf code = 0) (base : Nat) (i : FaultInfo) (s : State) :
    raiseWith effects code base i s = raise code base i s := by
  have quiet : ∀ (e : Nat → State → State) (cls : Nat) (t : State), react e code base cls t = t := fun e cls t => react_quiet e (.inr (.inl h))
  simp only [raise, raiseWith, quiet]

theorem report_eq_raiseWith {code base : Nat} (h : base ≠ 2 ∨ code < 0x2500 ∨ 0x2504 < code) (i : FaultInfo) (s : State) :
    report code base i s = raiseWith unitRestart code base i s :=
  if_neg (by omega)

theorem report_unitless {code base : Nat} (h : unitOf code = 0) (hcode : base ≠ 2 ∨ code < 0x2500 ∨ 0x2504 < code) (i : FaultInfo) (s : State) :
    report code base i s = raise code base i s :=
  (report_eq_raiseWith hcode i s).trans (raiseWith_unitless _ h base i s)

theorem raises_guard {si : SrcInfo} {s : State} (hrun : up s = true) (hpres : si.present = true) :
    ¬(s.mode = .safe ∨ s.mode = .unpowered ∨ si.present = false) := by
  have hmode : s.mode = .running := by simpa [up] using hrun
  simp [hmode, hpres]

/-! ### A raise of a source that may act (R461, R463) -/

section
variable (si : SrcInfo) (code base : Nat) (info : FaultInfo) (s : State)

/-- The window with this raise in it. -/
def raiseWindow : Window :=
  match openWindow s (faultOf s code) with
  | some w => { w with count := w.count + 1 }
  | none => { count := 1, openedAt := s.now, n := (faultNW s code).1, w := (faultNW s code).2 }

/-- One raise more than N in the window escalates. -/
def raiseEscalates : Bool := decide ((base = 1 ∨ base = 2) ∧ (raiseWindow code s).n < (raiseWindow code s).count)

def raiseClass : Nat :=
  if base = 1 ∨ base = 2 then
    max base (min (si.cap.getD base) (base + (faultOf s code).level + (if raiseEscalates code base s then 1 else 0)))
  else base

/-- The source's record with this raise. -/
def raisedSource : FaultSrc :=
  { faultOf s code with
    raises := ((faultOf s code).raises + 1) % 4294967296, lastAt := mts96 s, decayFrom := s.now, lastBase := base
    window := if base = 1 ∨ base = 2 then (if raiseEscalates code base s then none else some (raiseWindow code s)) else (faultOf s code).window
    level := if raiseEscalates code base s then min 3 ((faultOf s code).level + 1) else (faultOf s code).level
    live := (faultOf s code).live || (decide (2 ≤ raiseClass si code base s) && decide (unitOf code ≠ 0))
    sticky := true
    capture := if (faultOf s code).sticky then (faultOf s code).capture
      else some { base := base, info := withSuspect s code info, firstAt := mts96 s }
    classSticky := some (max (raiseClass si code base s) ((faultOf s code).classSticky.getD 0)) }

/-- The record is kept and an escalation counted. -/
def raiseKept : State :=
  if raiseEscalates code base s then bump Obj.ESCALATIONS (putFault (raisedSource si code base info s) s)
  else putFault (raisedSource si code base info s) s

/-- The raise counts in its class, and is journalled where it is new. -/
def raiseCounted : State :=
  let t := bump (classCounter (raiseClass si code base s)) (raiseKept si code base info s)
  if (faultOf s code).sticky = false ∨ raiseEscalates code base s ∨ (faultOf s code).classSticky.getD 0 < raiseClass si code base s then
    journal { kind := 7, key := Obj.FAULT_RECORD, new := faultRecord s.variant (raisedSource si code base info s) true } t
  else bump Obj.RAISES_UNJOURNALLED t

variable {si code base s}

/-- The whole effect of a raise of a source that may act, of a module that collects. -/
theorem raiseWith_collected (hsi : srcInfo s.variant code = some si) (hgo : ¬(s.mode = .safe ∨ s.mode = .unpowered ∨ si.present = false))
    (effects : Nat → State → State) (hbase : base ≠ 0) (hact : si.stickyOnly = false) :
    raiseWith effects code base info s =
      if raiseClass si code base s = 4 then safeState (raisedSource si code base info s) true (raiseKept si code base info s)
      else react effects code base (raiseClass si code base s) (raiseCounted si code base info s) := by
  unfold raiseWith
  rw [hsi]
  dsimp only
  rw [if_neg hgo, if_neg hbase, if_neg (by simp [hact])]
  rfl

variable (hrun : up s = true) (hsi : srcInfo s.variant code = some si) (hpres : si.present = true)
include hrun hsi hpres

theorem raiseWith_acting (effects : Nat → State → State) (hbase : base ≠ 0) (hact : si.stickyOnly = false) :
    raiseWith effects code base info s =
      if raiseClass si code base s = 4 then safeState (raisedSource si code base info s) true (raiseKept si code base info s)
      else react effects code base (raiseClass si code base s) (raiseCounted si code base info s) :=
  raiseWith_collected info hsi (raises_guard hrun hpres) effects hbase hact

/-- A C0 event counts, and its record keeps all but the count and the instant. -/
theorem raiseWith_c0 (effects : Nat → State → State) : raiseWith effects code 0 info s =
    bump Obj.FAULTS_C0 (putFault { faultOf s code with raises := ((faultOf s code).raises + 1) % 4294967296, lastAt := mts96 s } s) := by
  unfold raiseWith
  rw [hsi]
  dsimp only
  rw [if_neg (raises_guard hrun hpres), if_pos rfl]
end

section
variable {si : SrcInfo} {code base : Nat} {s : State} (info : FaultInfo)

theorem faultOf_raiseKept : faultOf (raiseKept si code base info s) code = raisedSource si code base info s := by
  have hput := faultOf_putFault_same (f := raisedSource si code base info s) (faultOf_code s code) s
  unfold raiseKept
  split
  · exact hput
  · exact hput

theorem faultOf_raiseKept_ne {c : Nat} (hc : code ≠ c) : faultOf (raiseKept si code base info s) c = faultOf s c := by
  have hput := faultOf_putFault_ne (f := raisedSource si code base info s) (fun h => hc ((faultOf_code s code).symm.trans h)) s
  unfold raiseKept
  split
  · exact hput
  · exact hput

theorem faults_raiseCounted : (raiseCounted si code base info s).faults = (raiseKept si code base info s).faults := by
  unfold raiseCounted
  dsimp only
  split <;> simp only [bump_eq, setN_keeps, journal_keeps]

theorem faultOf_raiseCounted : faultOf (raiseCounted si code base info s) code = raisedSource si code base info s :=
  (faultOf_congr (faults_raiseCounted info) code).trans (faultOf_raiseKept info)

theorem faultOf_raiseCounted_ne {c : Nat} (hc : code ≠ c) : faultOf (raiseCounted si code base info s) c = faultOf s c :=
  (faultOf_congr (faults_raiseCounted info) c).trans (faultOf_raiseKept_ne info hc)

theorem restarts_raiseCounted : (raiseCounted si code base info s).restarts = s.restarts := by
  have hkept : (raiseKept si code base info s).restarts = s.restarts := by
    unfold raiseKept
    split <;> simp only [bump_eq, setN_keeps, putFault_keeps]
  unfold raiseCounted
  dsimp only
  split <;> simp only [bump_eq, setN_keeps, journal_keeps, hkept]

/-- An object that no raise counts in, or the counter of the class: what the count leaves of it. -/
theorem getN_raiseCounted_class (h : classCounter (raiseClass si code base s) ≠ Obj.RAISES_UNJOURNALLED)
    (hesc : classCounter (raiseClass si code base s) ≠ Obj.ESCALATIONS) :
    getN (raiseCounted si code base info s) (classCounter (raiseClass si code base s)) =
      (getN s (classCounter (raiseClass si code base s)) + 1) % counterMod (classCounter (raiseClass si code base s)) := by
  have hkept : getN (raiseKept si code base info s) (classCounter (raiseClass si code base s)) =
      getN s (classCounter (raiseClass si code base s)) := by
    unfold raiseKept
    split
    · exact getN_setN_ne _ _ (Ne.symm hesc)
    · rfl
  unfold raiseCounted
  dsimp only
  split
  · rw [getN_journal, bump_eq, getN_setN_same, hkept]
  · rw [bump_eq, getN_setN_ne _ _ (Ne.symm h), bump_eq, getN_setN_same, hkept]

theorem getN_raiseCounted_escalations (h : raiseEscalates code base s = true) (hc : Obj.ESCALATIONS ≠ classCounter (raiseClass si code base s)) :
    getN (raiseCounted si code base info s) Obj.ESCALATIONS = (getN s Obj.ESCALATIONS + 1) % counterMod Obj.ESCALATIONS := by
  have hkept : getN (raiseKept si code base info s) Obj.ESCALATIONS = (getN s Obj.ESCALATIONS + 1) % counterMod Obj.ESCALATIONS := by
    unfold raiseKept
    rw [if_pos h]
    exact getN_setN_same _ _ _
  unfold raiseCounted
  dsimp only
  rw [if_pos (.inr (.inl h)), getN_journal, bump_eq, getN_setN_ne _ _ (Ne.symm hc), hkept]
end

/-! ### A raise at C1 that does not escalate -/

/-- A source capped at C1 stays there. -/
theorem raiseClass_capped {si : SrcInfo} (hcap : si.cap = some 1) (code : Nat) (s : State) : raiseClass si code 1 s = 1 := by
  rw [raiseClass, if_pos (.inl rfl), hcap, Option.getD_some]
  omega

section
variable {si : SrcInfo} {code : Nat} {s : State} (hrun : up s = true) (hsi : srcInfo s.variant code = some si) (hpres : si.present = true)
  (hact : si.stickyOnly = false)
include hrun hsi hpres hact

/-- At C1 a raise counts, and nothing restarts. -/
theorem raiseWith_c1 (effects : Nat → State → State) (info : FaultInfo) (hcls : raiseClass si code 1 s = 1) :
    raiseWith effects code 1 info s = raiseCounted si code 1 info s := by
  rw [raiseWith_acting info hrun hsi hpres effects (by decide) hact, hcls, if_neg (by decide), react_quiet effects (.inl (by decide))]

theorem raiseWith_capped (effects : Nat → State → State) (info : FaultInfo) (hcap : si.cap = some 1) :
    raiseWith effects code 1 info s = raise code 1 info s :=
  (raiseWith_c1 hrun hsi hpres hact effects info (raiseClass_capped hcap code s)).trans
    (raiseWith_c1 hrun hsi hpres hact dueRestart info (raiseClass_capped hcap code s)).symm

/-- What the collector holds after a raise capped at C1. -/
theorem faultOf_raise_capped (info : FaultInfo) (hcap : si.cap = some 1) :
    faultOf (raise code 1 info s) code = raisedSource si code 1 info s := by
  rw [raise, raiseWith_c1 hrun hsi hpres hact _ info (raiseClass_capped hcap code s), faultOf_raiseCounted]

theorem faultOf_raise_capped_ne (info : FaultInfo) (hcap : si.cap = some 1) {c : Nat} (hc : code ≠ c) :
    faultOf (raise code 1 info s) c = faultOf s c := by
  rw [raise, raiseWith_c1 hrun hsi hpres hact _ info (raiseClass_capped hcap code s), faultOf_raiseCounted_ne info hc]
end

end Sys2Proof.Machine
end

section
/-! SUPPORT. Correctable errors and the bucket of a memory region, and restarts that are raised again (R437, R440, R456, R457). -/
namespace Sys2Proof.Machine

/-! ### What a raise leaves of the other sources -/

theorem faults_finalKeep (s : State) : (finalKeep s).faults = s.faults := by
  unfold finalKeep
  split
  · rfl
  · unfold writeKeep
    split <;> rfl

theorem faults_safeState (f : FaultSrc) (b : Bool) (s : State) : (safeState f b s).faults = s.faults := by
  unfold safeState
  dsimp only
  split
  · rfl
  · exact faults_finalKeep _

theorem faults_react (code base cls : Nat) (s : State) : (react dueRestart code base cls s).faults = s.faults := by
  unfold react
  dsimp only
  split <;> rfl

/-- The record of a source that only sticks, with a raise in it. -/
def stuckSource (code base : Nat) (s : State) : FaultSrc :=
  { faultOf s code with
    raises := ((faultOf s code).raises + 1) % 4294967296, lastAt := mts96 s, decayFrom := s.now, lastBase := base }

/-- Its bit is set in the KEEP island and its record kept (R460). -/
def stuckKept (code base : Nat) (s : State) : State :=
  putFault { stuckSource code base s with classSticky := some (max base ((stuckSource code base s).classSticky.getD 0)) }
    { s with keep := { s.keep with
      stickyOnly := (code, max (((s.keep.stickyOnly.find? (fun p => p.1 = code)).map (·.2)).getD 0) base) ::
        s.keep.stickyOnly.filter (fun p => p.1 ≠ code) } }

/-- The whole effect of a raise of a source that only sticks. -/
theorem raiseWith_sticks {code base : Nat} {s : State} {si : SrcInfo} (i : FaultInfo) (hsi : srcInfo s.variant code = some si)
    (hgo : ¬(s.mode = .safe ∨ s.mode = .unpowered ∨ si.present = false)) (effects : Nat → State → State) (hbase : base ≠ 0)
    (hstick : si.stickyOnly = true) : raiseWith effects code base i s =
      if base = 4 then safeState (stuckSource code base s) (code ≠ 0) (stuckKept code base s)
      else react effects code base base (bump (classCounter base) (stuckKept code base s)) := by
  unfold raiseWith
  rw [hsi]
  dsimp only
  rw [if_neg hgo, if_neg hbase, if_pos hstick]
  rfl

/-- A raise moves the record of its own source only. -/
theorem faultOf_raise_ne {code c : Nat} (hc : code ≠ c) (base : Nat) (i : FaultInfo) (s : State) :
    faultOf (raise code base i s) c = faultOf s c := by
  have hput : ∀ (f : FaultSrc) (t : State), f.code = code → faultOf (putFault f t) c = faultOf t c :=
    fun f t hf => faultOf_putFault_ne (fun h => hc (hf.symm.trans h)) t
  cases hsi : srcInfo s.variant code with
  | none => rw [raise, raiseWith, hsi]
  | some si =>
    by_cases hgo : s.mode = .safe ∨ s.mode = .unpowered ∨ si.present = false
    · rw [raise, raiseWith, hsi]
      exact congrArg (faultOf · c) (if_pos hgo)
    · by_cases hbase : base = 0
      · rw [raise, raiseWith, hsi]
        dsimp only
        rw [if_neg hgo, if_pos hbase]
        exact hput _ _ (faultOf_code s code)
      · by_cases hstick : si.stickyOnly = true
        · rw [raise, raiseWith_sticks i hsi hgo dueRestart hbase hstick]
          split
          · exact (faultOf_congr (faults_safeState _ _ _) c).trans (hput _ _ (faultOf_code s code))
          · exact (faultOf_congr (faults_react _ _ _ _) c).trans (hput _ _ (faultOf_code s code))
        · rw [raise, raiseWith_collected i hsi hgo dueRestart hbase (Bool.eq_false_iff.2 hstick)]
          split
          · exact (faultOf_congr (faults_safeState _ _ _) c).trans (faultOf_raiseKept_ne i hc)
          · exact (faultOf_congr (faults_react _ _ _ _) c).trans (faultOf_raiseCounted_ne i hc)

/-! ### The region and the page of an error -/

theorem regionOf_lt {s : State} {a r : Nat} (h : regionOf s a = some r) : r < 10 := by
  obtain ⟨t, -, ht⟩ := Option.bind_eq_some_iff.1 h
  cases t with
  | rom o => cases ht; decide
  | sram o => cases ht; decide
  | regs o => cases ht
  | nor o => cases ht
  | dram o =>
    obtain rfl := Option.some.inj ht
    unfold dramRegion
    split_ifs <;> decide

theorem sram_offset_lt {s : State} {a o : Nat} (h : targetOf s a = some (.sram o)) : o < 0x400000 := by
  unfold targetOf at h
  dsimp only at h
  split_ifs at h <;> simp only [Option.some.injEq, Target.sram.injEq, reduceCtorEq] at h <;> omega

/-- A memory source is of one channel or of one array on the die (R440). -/
theorem memSource_range {s : State} {a c : Nat} (h : memSource s a = some c) : 0x2100 ≤ c ∧ c < 0x2120 := by
  unfold memSource at h
  split at h
  · cases h; omega
  · rename_i ho
    have := sram_offset_lt ho
    cases h; omega
  · cases h

theorem unitOf_memSource {c : Nat} (h : 0x2100 ≤ c ∧ c < 0x2120) : unitOf c = 0 := by
  have hc : c / 256 = 0x21 := by omega
  simp only [unitOf, hc]

/-- What the replacement of a page or row leaves: the objects that it does not count in, and the sources that are no memory's. -/
theorem startRemap_leaves {k c : Nat} (hk : k ∉ raiseKeys) (hne : k ≠ Obj.REMAP_EXHAUSTED) (hc : c < 0x2100) (a cause : Nat) (s : State) :
    getN (startRemap a cause s) k = getN s k ∧ faultOf (startRemap a cause s) c = faultOf s c := by
  unfold startRemap
  split
  · exact ⟨rfl, rfl⟩
  · split
    · exact ⟨rfl, rfl⟩
    · split
      · exact ⟨rfl, rfl⟩
      · split
        · rename_i src hsrc
          have hrange := memSource_range hsrc
          rw [report_unitless (unitOf_memSource hrange) (.inl (by decide)), getN_raise _ _ _ _ hk, bump_eq, getN_setN_ne _ _ (Ne.symm hne),
            faultOf_raise_ne (by omega)]
          exact ⟨rfl, rfl⟩
        · exact ⟨rfl, rfl⟩

theorem trackPage_leaves {k c : Nat} (hk : k ∉ raiseKeys) (hne : k ≠ Obj.REMAP_EXHAUSTED) (hc : c < 0x2100) (a : Nat) (s : State) :
    getN (trackPage a s) k = getN s k ∧ faultOf (trackPage a s) c = faultOf s c := by
  unfold trackPage
  split
  · exact ⟨rfl, rfl⟩
  · dsimp only
    split
    · exact startRemap_leaves hk hne hc a 0 _
    · exact ⟨rfl, rfl⟩

/-! ### The bucket (R437) -/

/-- The objects of the regions: no raise counts in one, and none is derived. -/
theorem regionKey_free {k : Nat} (h : 0x801000 ≤ k ∧ k < 0x802000) : k ∉ raiseKeys ∧ k ∉ derivedKeys ∧ k ≠ Obj.REMAP_EXHAUSTED := by
  simp only [raiseKeys, derivedKeys, List.mem_cons, List.not_mem_nil, or_false, Obj.FAULTS_C0, Obj.FAULTS_C1, Obj.FAULTS_C2, Obj.FAULTS_C3,
    Obj.ESCALATIONS, Obj.RAISES_UNJOURNALLED, Obj.KEEP_VALID, Obj.KEEP_COUNT, Obj.FAULT_WORST_STICKY, Obj.FAULT_WORST_LIVE,
    Obj.FAULT_STICKY_COUNT, Obj.FAULT_ROLE_HOLD, Obj.SESSIONS_OPEN, Obj.GROUPS_HELD, Obj.KEY_BAD_COUNT, Obj.INRUSH_QUEUE, Obj.REMAP_EXHAUSTED]
  omega

/-- The bucket's own source is capped at C1. -/
theorem srcInfo_region (v : Variant) {r : Nat} (h : r < 10) : srcInfo v (0x2000 + r) = some { cap := some 1 } := by
  have hd : (0x2000 + r) / 256 = 0x20 := by omega
  have hm : (0x2000 + r) % 256 = r := by omega
  simp only [srcInfo, hd, hm, if_pos h]

/-- The error is counted, with the instant at which the bucket began to fill. -/
def errorCounted (a : BusAccess) (r : Nat) (s : State) : State :=
  let s1 := bump (Obj.CE_COUNT r) (setN (Obj.LAST_CE_ADDR r) (a.address : Nat) s)
  if getNat s (Obj.CE_BUCKET r) + 1 = 1 then setMem (fun m => { m with leakFrom := m.leakFrom.set r s.now }) s1 else s1

section
variable {s : State} {a : BusAccess} {r : Nat} (hr : regionOf s a.address = some r)

theorem errorCounted_keeps (a : BusAccess) (r : Nat) (s : State) : (errorCounted a r s).variant = s.variant ∧
    up (errorCounted a r s) = up s ∧ (errorCounted a r s).faults = s.faults := by
  unfold errorCounted
  dsimp only
  split <;> exact ⟨rfl, rfl, rfl⟩

theorem getN_errorCounted_ne {k : Nat} (h1 : Obj.CE_COUNT r ≠ k) (h2 : Obj.LAST_CE_ADDR r ≠ k) :
    getN (errorCounted a r s) k = getN s k := by
  have hcount : getN (bump (Obj.CE_COUNT r) (setN (Obj.LAST_CE_ADDR r) (a.address : Nat) s)) k = getN s k := by
    rw [bump_eq, getN_setN_ne _ _ h1, getN_setN_ne _ _ h2]
  unfold errorCounted
  dsimp only
  split
  · exact hcount
  · exact hcount

include hr

theorem correctable_below (h : getNat s (Obj.CE_BUCKET r) + 1 < getNat s (Obj.CE_THRESHOLD r)) :
    correctable a s = trackPage a.address (setN (Obj.CE_BUCKET r) ((getNat s (Obj.CE_BUCKET r) + 1 : Nat) : Int) (errorCounted a r s)) := by
  rw [correctable, hr]
  dsimp only
  rw [if_neg (Nat.not_le.2 h)]
  rfl

/-- The state in which the trip is raised. -/
theorem correctable_trips (h : getNat s (Obj.CE_THRESHOLD r) ≤ getNat s (Obj.CE_BUCKET r) + 1) :
    correctable a s = trackPage a.address (report (0x2000 + r) 1 (accessInfo a r)
      (bump (Obj.CE_BUCKET_TRIPS r) (setN (Obj.CE_BUCKET r) 0 (errorCounted a r s)))) := by
  rw [correctable, hr]
  dsimp only
  rw [if_pos h]
  rfl
end

section
variable {s : State} {a : BusAccess} {r : Nat} (hr : regionOf s a.address = some r)
include hr

theorem bucket_below (h : getNat s (Obj.CE_BUCKET r) + 1 < getNat s (Obj.CE_THRESHOLD r)) :
    getN (correctable a s) (Obj.CE_BUCKET r) = ((getNat s (Obj.CE_BUCKET r) + 1 : Nat) : Int) ∧
    getN (correctable a s) (Obj.CE_BUCKET_TRIPS r) = getN s (Obj.CE_BUCKET_TRIPS r) ∧
    faultOf (correctable a s) (0x2000 + r) = faultOf s (0x2000 + r) := by
  have hlt := regionOf_lt hr
  obtain ⟨hb, -, hbx⟩ := regionKey_free (k := Obj.CE_BUCKET r) (by simp only [Obj.CE_BUCKET]; omega)
  obtain ⟨ht, -, htx⟩ := regionKey_free (k := Obj.CE_BUCKET_TRIPS r) (by simp only [Obj.CE_BUCKET_TRIPS]; omega)
  have hsrc : 0x2000 + r < 0x2100 := by omega
  rw [correctable_below hr h, (trackPage_leaves hb hbx hsrc _ _).1, (trackPage_leaves ht htx hsrc _ _).1, (trackPage_leaves ht htx hsrc _ _).2]
  refine ⟨getN_setN_same _ _ _, ?_, faultOf_congr (errorCounted_keeps a r s).2.2 _⟩
  rw [getN_setN_ne _ _ (by simp only [Obj.CE_BUCKET, Obj.CE_BUCKET_TRIPS]; omega)]
  exact getN_errorCounted_ne (by simp only [Obj.CE_COUNT, Obj.CE_BUCKET_TRIPS]; omega) (by simp only [Obj.LAST_CE_ADDR, Obj.CE_BUCKET_TRIPS]; omega)

theorem bucket_trips (hu : up s = true) (h : getNat s (Obj.CE_THRESHOLD r) ≤ getNat s (Obj.CE_BUCKET r) + 1) :
    getN (correctable a s) (Obj.CE_BUCKET r) = 0 ∧
    getN (correctable a s) (Obj.CE_BUCKET_TRIPS r) = (getN s (Obj.CE_BUCKET_TRIPS r) + 1) % counterMod (Obj.CE_BUCKET_TRIPS r) ∧
    (faultOf (correctable a s) (0x2000 + r)).raises = ((faultOf s (0x2000 + r)).raises + 1) % 4294967296 ∧
    (faultOf (correctable a s) (0x2000 + r)).lastBase = 1 := by
  have hlt := regionOf_lt hr
  obtain ⟨hb, -, hbx⟩ := regionKey_free (k := Obj.CE_BUCKET r) (by simp only [Obj.CE_BUCKET]; omega)
  obtain ⟨ht, -, htx⟩ := regionKey_free (k := Obj.CE_BUCKET_TRIPS r) (by simp only [Obj.CE_BUCKET_TRIPS]; omega)
  have hsrc : 0x2000 + r < 0x2100 := by omega
  obtain ⟨hv, hup, hf⟩ := errorCounted_keeps a r s
  rw [correctable_trips hr h, (trackPage_leaves hb hbx hsrc _ _).1, (trackPage_leaves ht htx hsrc _ _).1, (trackPage_leaves ht htx hsrc _ _).2]
  generalize hs2 : bump (Obj.CE_BUCKET_TRIPS r) (setN (Obj.CE_BUCKET r) 0 (errorCounted a r s)) = s2
  have hup2 : up s2 = true := by rw [← hs2, ← hu, ← hup]; rfl
  have hsi : srcInfo s2.variant (0x2000 + r) = some { cap := some 1 } := srcInfo_region _ hlt
  have hfault : faultOf s2 (0x2000 + r) = faultOf s (0x2000 + r) := faultOf_congr (by rw [← hs2, ← hf]; rfl) _
  rw [report_eq_raiseWith (.inl (by decide)), raiseWith_capped hup2 hsi rfl rfl _ _ rfl, getN_raise _ _ _ _ hb, getN_raise _ _ _ _ ht,
    faultOf_raise_capped hup2 hsi rfl rfl _ rfl]
  refine ⟨?_, ?_, ?_, rfl⟩
  · rw [← hs2, bump_eq, getN_setN_ne _ _ (by simp only [Obj.CE_BUCKET, Obj.CE_BUCKET_TRIPS]; omega), getN_setN_same]
  · rw [← hs2, bump_eq, getN_setN_same, getN_setN_ne _ _ (by simp only [Obj.CE_BUCKET, Obj.CE_BUCKET_TRIPS]; omega),
      getN_errorCounted_ne (by simp only [Obj.CE_COUNT, Obj.CE_BUCKET_TRIPS]; omega) (by simp only [Obj.LAST_CE_ADDR, Obj.CE_BUCKET_TRIPS]; omega)]
  · rw [raisedSource, hfault]
end

/-! ### The leak (R437) -/

theorem bucketLeak_falls {r : Nat} {s : State} (hsome : getNat s (Obj.CE_BUCKET r) ≠ 0)
    (hover : s.mem.leakFrom.getD r 0 + getNat s (Obj.CE_LEAK_PERIOD r) * sT ≤ s.now) :
    bucketLeak r s = setN (Obj.CE_BUCKET r) ((getNat s (Obj.CE_BUCKET r) - 1 : Nat) : Int)
      (setMem (fun m => { m with leakFrom := m.leakFrom.set r s.now }) s) :=
  if_neg fun h => h.elim hsome (Nat.not_lt.2 hover)

/-! ### Restarts (R457) -/

theorem restartTimeout_late {u : Nat} {r : Restart} {s : State}
    (hr : s.restarts.find? (fun r => decide (r.unit = u) && !r.late) = some r) (hover : r.began + sT ≤ s.now) :
    restartTimeout u s = report r.source r.base {}
      { s with restarts := s.restarts.map (fun x => if x.unit = u then { x with late := true } else x) } := by
  rw [restartTimeout, hr]
  exact if_neg (Nat.not_lt.2 hover)

theorem restartTimeout_early {u : Nat} {r : Restart} {s : State}
    (hr : s.restarts.find? (fun r => decide (r.unit = u) && !r.late) = some r) (hearly : s.now < r.began + sT) : restartTimeout u s = s := by
  rw [restartTimeout, hr]
  exact if_pos hearly

/-- Below C4 a raise of a source whose unit restarts counts, and begins nothing (R457). -/
theorem raiseWith_restarting {code base : Nat} {s : State} {si : SrcInfo} (info : FaultInfo) (hu : up s = true)
    (hsi : srcInfo s.variant code = some si) (hpres : si.present = true) (hact : si.stickyOnly = false) (hbase : base ≠ 0)
    (hcls : raiseClass si code base s ≠ 4) (hr : restarting s (unitOf code) = true) (effects : Nat → State → State) :
    raiseWith effects code base info s = raiseCounted si code base info s := by
  rw [raiseWith_acting info hu hsi hpres effects hbase hact, if_neg hcls, react_quiet]
  exact .inr (.inr ((congrArg (List.any · _) (restarts_raiseCounted info)).trans hr))

end Sys2Proof.Machine
end

section
namespace Sys2Proof.Machine

/-- Settles O13: the bucket on each side of its threshold, and its leak. -/
theorem ceBucket : Obligations.CeBucket := by
  unfold Obligations.CeBucket
  intro s hu
  refine ⟨fun a r hr hbelow => ?_, fun a r hr htrips => ?_, fun r hsome hover => ?_, fun r h => acts_of_ifUp rfl hu (if_pos h)⟩
  · have hlt := regionOf_lt hr
    obtain ⟨hb, ht, hf⟩ := bucket_below hr hbelow
    refine nextWith_of_ifUp rfl hu (if_pos rfl) ⟨?_, ?_, (faultOf_settle _ _).trans hf⟩
    · exact (getN_settle _ (regionKey_free (by simp only [Obj.CE_BUCKET]; omega)).2.1).trans hb
    · exact (getN_settle _ (regionKey_free (by simp only [Obj.CE_BUCKET_TRIPS]; omega)).2.1).trans ht
  · have hlt := regionOf_lt hr
    obtain ⟨hb, ht, hraises, hbase⟩ := bucket_trips hr hu htrips
    refine nextWith_of_ifUp rfl hu (if_pos rfl) ⟨?_, ?_, ?_, ?_⟩
    · exact (getN_settle _ (regionKey_free (by simp only [Obj.CE_BUCKET]; omega)).2.1).trans hb
    · exact (getN_settle _ (regionKey_free (by simp only [Obj.CE_BUCKET_TRIPS]; omega)).2.1).trans ht
    · rw [faultOf_settle, hraises]
    · rw [faultOf_settle, hbase]
  · have hkey := regionKey_free (k := Obj.CE_BUCKET r) (by simp only [Obj.CE_BUCKET]; omega)
    exact nextWith_of_ifUp rfl hu (bucketLeak_falls hsome hover) ⟨(getN_settle _ hkey.2.1).trans (getN_setN_same _ _ _),
      by simp only [settle_keeps, setN_keeps, setMem_keeps],
      frame_settle (keepsAll_setN (keepsAll_mem (keepsAll_refl _ _ s) (by decide) _) (List.mem_singleton.2 rfl) _)⟩

/-- Settles O15: a raise during the restart of its unit is only counted, and one second after its beginning the restart raises again. -/
theorem restartRaises : Obligations.RestartRaises := by
  unfold Obligations.RestartRaises
  intro s hu
  refine ⟨fun code si d hsi hpres hact hcap hunit hr => ?_, fun u r hr hover => acts_of_ifUp rfl hu (restartTimeout_late hr hover),
    fun u r hr hearly => acts_of_ifUp rfl hu (restartTimeout_early hr hearly)⟩
  have hcls : raiseClass si code 2 s ≠ 4 := by
    rw [raiseClass, if_pos (.inr rfl)]
    omega
  rw [raiseWith_restarting _ hu hsi hpres hact (by decide) hcls hr, restarts_raiseCounted, faultOf_raiseCounted]
  exact ⟨rfl, rfl⟩

end Sys2Proof.Machine
end

section
/-! SUPPORT. The three courses of a raise that the collector's statement names: a C0 event, a first raise, an escalation (R456, R461). -/
namespace Sys2Proof.Machine

theorem faultOf_setN (k : Nat) (v : Int) (s : State) (c : Nat) : faultOf (setN k v s) c = faultOf s c := rfl

section
variable {s : State} {code : Nat} {si : SrcInfo} (info : FaultInfo) (hu : up s = true) (hsi : srcInfo s.variant code = some si)
  (hpres : si.present = true)
include hu hsi hpres

theorem faultOf_raiseWith_c0 (effects : Nat → State → State) : faultOf (raiseWith effects code 0 info s) code =
    { faultOf s code with raises := ((faultOf s code).raises + 1) % 4294967296, lastAt := mts96 s } := by
  rw [raiseWith_c0 info hu hsi hpres, bump_eq, faultOf_setN]
  exact faultOf_putFault_same (by exact faultOf_code s code) s

theorem getN_raiseWith_c0 (effects : Nat → State → State) : getN (raiseWith effects code 0 info s) Obj.FAULTS_C0 =
    (getN s Obj.FAULTS_C0 + 1) % counterMod Obj.FAULTS_C0 := by
  rw [raiseWith_c0 info hu hsi hpres]
  exact getN_setN_same _ _ _
end

/-- A reaction whose restart does nothing to the unit only notes the restart. -/
theorem react_noted (code base cls : Nat) (s : State) : (∀ c, faultOf (react (fun _ x => x) code base cls s) c = faultOf s c) ∧
    ∀ k, getN (react (fun _ x => x) code base cls s) k = getN s k := by
  unfold react
  dsimp only
  split <;> exact ⟨fun _ => rfl, fun _ => rfl⟩

section
variable {s : State} {code : Nat} {si : SrcInfo}

theorem raiseWindow_opens (hwin : openWindow s (faultOf s code) = none) :
    raiseWindow code s = { count := 1, openedAt := s.now, n := (faultNW s code).1, w := (faultNW s code).2 } := by
  rw [raiseWindow, hwin]

theorem raiseWindow_counts {w : Window} (hwin : openWindow s (faultOf s code) = some w) :
    raiseWindow code s = { w with count := w.count + 1 } := by
  rw [raiseWindow, hwin]

/-- A first raise in a window that admits one does not escalate. -/
theorem raiseEscalates_first (hwin : openWindow s (faultOf s code) = none) (hn : 1 ≤ (faultNW s code).1) :
    raiseEscalates code 1 s = false :=
  decide_eq_false fun h => absurd h.2 (by rw [raiseWindow_opens hwin]; exact Nat.not_lt.2 hn)

theorem raiseEscalates_over {w : Window} (hwin : openWindow s (faultOf s code) = some w) (hn : w.n < w.count + 1) :
    raiseEscalates code 1 s = true :=
  decide_eq_true ⟨.inl rfl, by rw [raiseWindow_counts hwin]; exact hn⟩

theorem raiseClass_first (hlevel : (faultOf s code).level = 0) (hesc : raiseEscalates code 1 s = false) (hcap : 1 ≤ si.cap.getD 1) :
    raiseClass si code 1 s = 1 := by
  rw [raiseClass, if_pos (.inl rfl), hlevel, hesc]
  simp only [Bool.false_eq_true, if_false]
  omega

theorem raiseClass_over {c : Nat} (hlevel : (faultOf s code).level = 0) (hesc : raiseEscalates code 1 s = true) (hcap : si.cap = some c)
    (hc : 1 ≤ c) : raiseClass si code 1 s = min c 2 := by
  rw [raiseClass, if_pos (.inl rfl), hlevel, hesc, hcap, Option.getD_some, if_pos rfl]
  omega

/-- The capture of a first raise (R463). -/
theorem raisedSource_capture {base : Nat} (info : FaultInfo) (hnew : (faultOf s code).sticky = false) :
    ((raisedSource si code base info s).capture.map fun c => (c.base, c.info.detail, c.firstAt)) = some (base, info.detail, mts96 s) := by
  simp only [raisedSource, hnew, Bool.false_eq_true, if_false, Option.map_some, withSuspect]
  split <;> rfl
end

end Sys2Proof.Machine
end

section
namespace Sys2Proof.Machine

/-- Settles O53: a C0 event, a first raise that does not escalate, and one that does, each by the class it is taken at. -/
theorem raiseRules : Obligations.RaiseRules := by
  unfold Obligations.RaiseRules
  intro s code si d eff hu hsi hpres
  refine ⟨?_, ?_, ?_⟩
  -- A C0 event.
  · rw [getN_raiseWith_c0 _ hu hsi hpres, faultOf_raiseWith_c0 _ hu hsi hpres]
    exact ⟨rfl, rfl, rfl⟩
  -- A first raise, which opens a window.
  · intro hact hnew hlevel hwin hn hcap
    have hesc := raiseEscalates_first hwin hn
    have hcls := raiseClass_first hlevel hesc hcap
    have hcount := getN_raiseCounted_class (si := si) (code := code) (base := 1) (s := s) { detail := d }
    rw [hcls] at hcount
    rw [raiseWith_c1 hu hsi hpres hact eff _ hcls, faultOf_raiseCounted]
    refine ⟨rfl, raisedSource_capture _ hnew, ?_, hcount (by decide) (by decide)⟩
    simp only [raisedSource, hesc, Bool.false_eq_true, if_false, hlevel]
  -- One more than N in an open window.
  · intro w c hact hlevel hwin hn hcap h1 h3
    have hesc := raiseEscalates_over hwin hn
    have hcls := raiseClass_over hlevel hesc hcap h1
    have hcount := getN_raiseCounted_escalations (si := si) (s := s) { detail := d } hesc
    have hkept := faultOf_raiseCounted (si := si) (code := code) (base := 1) (s := s) { detail := d }
    rw [raiseWith_acting _ hu hsi hpres _ (by decide) hact, if_neg (by omega)]
    rw [(react_noted _ _ _ _).1, (react_noted _ _ _ _).2, hkept]
    refine ⟨?_, ?_, ?_, hcount ?_⟩
    · simp only [raisedSource, hesc, if_true, hlevel]
      decide
    · simp only [raisedSource, hesc, if_true, true_or]
    · simp only [raisedSource, hcls]
    · rcases Nat.lt_or_ge c 2 with h | h
      · rw [hcls, Nat.min_eq_left (Nat.le_of_lt h), show c = 1 by omega]
        decide
      · rw [hcls, Nat.min_eq_right h]
        decide

end Sys2Proof.Machine
end

section
/-! SUPPORT. The core time of a frame: what a pass over the classes gives, and the sum of two passes (R443, R444). -/
namespace Sys2Proof.Machine

/-! ### A pass over the classes -/

/-- A pass gives to every class, in its order. -/
theorem allotPass_classes (want : Nat → Nat) (l : List Nat) (left : Nat) : (allotPass want l left).map (·.1) = l := by
  induction l generalizing left with
  | nil => rfl
  | cons t l ih => exact congrArg (t :: ·) (ih _)

/-- A pass gives no more than is left. -/
theorem allotPass_sum_le (want : Nat → Nat) (l : List Nat) (left : Nat) : ((allotPass want l left).map (·.2)).sum ≤ left := by
  induction l generalizing left with
  | nil => exact Nat.zero_le left
  | cons t l ih =>
    have h := ih (left - min (want t) left)
    simp only [allotPass, List.map_cons, List.sum_cons]
    omega

/-- A pass gives a class no more than it wants. -/
theorem allotPass_le_want {want : Nat → Nat} {l : List Nat} {left t g : Nat} (h : (t, g) ∈ allotPass want l left) : g ≤ want t := by
  induction l generalizing left with
  | nil => exact absurd h List.not_mem_nil
  | cons u l ih =>
    rcases List.mem_cons.1 h with e | h
    · obtain ⟨rfl, rfl⟩ := Prod.mk.inj e
      exact Nat.min_le_left _ _
    · exact ih h

/-! ### A list with one entry for each key -/

theorem mem_of_lookupKV {α : Type} {k : Nat} {v : α} {l : List (Nat × α)} (h : lookupKV k l = some v) : (k, v) ∈ l := by
  induction l with
  | nil => exact absurd h (by simp [lookupKV])
  | cons p l ih =>
    unfold lookupKV at h
    split at h
    · rename_i hk
      obtain rfl := Option.some.inj h
      exact List.mem_cons.2 (.inl (Prod.ext hk.symm rfl))
    · exact List.mem_cons_of_mem p (ih h)

theorem lookupKV_of_mem {α : Type} {p : Nat × α} {l : List (Nat × α)} (hnd : (l.map (·.1)).Nodup) (h : p ∈ l) :
    lookupKV p.1 l = some p.2 := by
  induction l with
  | nil => exact absurd h List.not_mem_nil
  | cons q l ih =>
    obtain ⟨hq, hl⟩ := List.nodup_cons.1 hnd
    unfold lookupKV
    rcases List.mem_cons.1 h with rfl | h
    · exact if_pos rfl
    · rw [if_neg, ih hl h]
      exact fun e => hq (List.mem_map.2 ⟨p, h, e.symm⟩)

/-- Looking up every key of such a list in turn gives its values. -/
theorem map_lookupKV {l : List (Nat × Nat)} (hnd : (l.map (·.1)).Nodup) :
    (l.map (·.1)).map (fun t => (lookupKV t l).getD 0) = l.map (·.2) := by
  rw [List.map_map]
  exact List.map_congr_left fun p hp => by
    simp only [Function.comp, lookupKV_of_mem hnd hp, Option.getD_some]

theorem lookupKV_getD_le {l : List (Nat × Nat)} {k n : Nat} (h : ∀ v, (k, v) ∈ l → v ≤ n) : (lookupKV k l).getD 0 ≤ n := by
  cases e : lookupKV k l with
  | none => exact Nat.zero_le n
  | some v => exact h v (mem_of_lookupKV e)

/-! ### The two passes of a frame -/

section
variable (s : State) (work : List (Nat × Nat)) (parked : Bool)

/-- The classes of the service cores. -/
def serviceClasses : List Nat := [1, 2, 3, 4, 5, 6, 7, 8]

/-- The first pass: the reserves. -/
def reservePass : List (Nat × Nat) :=
  allotPass (fun t => min (offered s work t) (if parked then taskReserve t / 4 else taskReserve t)) serviceClasses (1000 * coresUp s)

/-- The second pass: what is left of the frame, for what is left of the offers. -/
def restPass : List (Nat × Nat) :=
  allotPass (fun t => offered s work t - (lookupKV t (reservePass s work parked)).getD 0) serviceClasses
    (1000 * coresUp s - ((reservePass s work parked).map (·.2)).sum)

theorem frameTime_eq : frameTime s work parked =
    (reservePass s work parked).map (fun p => (p.1, p.2 + (lookupKV p.1 (restPass s work parked)).getD 0)) := rfl

theorem reservePass_classes : (reservePass s work parked).map (·.1) = serviceClasses := allotPass_classes _ _ _

theorem restPass_classes : (restPass s work parked).map (·.1) = serviceClasses := allotPass_classes _ _ _

theorem frameTime_classes : (frameTime s work parked).map (·.1) = serviceClasses := by
  rw [frameTime_eq, List.map_map]
  exact reservePass_classes s work parked

/-- What the second pass adds is its sum. -/
theorem frameTime_sum : ((frameTime s work parked).map (·.2)).sum =
    ((reservePass s work parked).map (·.2)).sum + ((restPass s work parked).map (·.2)).sum := by
  have hnd : ((restPass s work parked).map (·.1)).Nodup := restPass_classes s work parked ▸ (by decide : serviceClasses.Nodup)
  have hrest := map_lookupKV hnd
  rw [restPass_classes, ← reservePass_classes s work parked, List.map_map] at hrest
  rw [← hrest, ← List.sum_map_add, frameTime_eq, List.map_map]
  rfl

theorem frameTime_le_offered {t g : Nat} (h : (t, g) ∈ frameTime s work parked) : g ≤ offered s work t := by
  rw [frameTime_eq] at h
  obtain ⟨p, hp, e⟩ := List.mem_map.1 h
  obtain ⟨rfl, rfl⟩ := Prod.mk.inj e
  have hnd : ((reservePass s work parked).map (·.1)).Nodup := reservePass_classes s work parked ▸ (by decide : serviceClasses.Nodup)
  have hfirst : p.2 ≤ offered s work p.1 := (allotPass_le_want hp).trans (Nat.min_le_left _ _)
  have hrest : (lookupKV p.1 (restPass s work parked)).getD 0 ≤ offered s work p.1 - p.2 := by
    refine lookupKV_getD_le fun v hv => ?_
    have := allotPass_le_want hv
    rwa [lookupKV_of_mem hnd hp, Option.getD_some] at this
  omega

theorem coresUp_le : coresUp s ≤ 4 := (List.countP_le_length).trans_eq List.length_range
end

end Sys2Proof.Machine
end

section
namespace Sys2Proof.Machine

/-- Settles O51: each pass gives no more than it has and than is wanted, and the frame's time is the two together. -/
theorem frameBudget : Obligations.FrameBudget := by
  unfold Obligations.FrameBudget
  intro s work parked
  refine ⟨?_, fun t g h => frameTime_le_offered s work parked h, frameTime_classes s work parked, coresUp_le s⟩
  have hfirst : ((reservePass s work parked).map (·.2)).sum ≤ 1000 * coresUp s := allotPass_sum_le _ _ _
  have hrest : ((restPass s work parked).map (·.2)).sum ≤ 1000 * coresUp s - ((reservePass s work parked).map (·.2)).sum :=
    allotPass_sum_le _ _ _
  rw [frameTime_sum]
  omega

end Sys2Proof.Machine
end

section
/-! SUPPORT. PHASE_LOCKED and the loss of the Hinge (R472, R475). -/
namespace Sys2Proof.Machine

/-- The clearing is raised by a source without a unit. -/
theorem phaseUnlock_locked {s : State} (h : s.hinge.locked = true) : phaseUnlock s =
    raise 0x3300 1 { detail := (getN s Obj.HINGE_OFFSET).natAbs * 1000 / 65536 % 4294967296 }
      (bump Obj.LOCK_LOSS (setHinge (fun h => { h with locked := false }) s)) :=
  (if_neg (by simp [h])).trans (report_unitless (by decide) (.inl (by decide)) _ _)

theorem phaseUnlock_unlocked {s : State} (h : s.hinge.locked = false) : phaseUnlock s = s := if_pos h

theorem locked_phaseUnlock (s : State) : (phaseUnlock s).hinge.locked = false := by
  cases h : s.hinge.locked with
  | false => rw [phaseUnlock_unlocked h, h]
  | true => simp only [phaseUnlock_locked h, raise_keeps, bump_eq, setN_keeps, setHinge_keeps]

section
variable {s : State} {x : Int}

theorem phaseLock_within (h : x.natAbs * 1000 ≤ 6553600) : phaseLock x s = setHinge (fun h =>
    { h with within := h.within + 1, beyond := 0, locked := h.locked || decide (16 ≤ h.within + 1) }) s := if_pos h

theorem phaseLock_beyond (h : 6553600 < x.natAbs * 1000) (hfew : s.hinge.beyond + 1 < 16) :
    phaseLock x s = setHinge (fun h => { h with within := 0, beyond := h.beyond + 1 }) s :=
  (if_neg (Nat.not_le.2 h)).trans (if_neg (Nat.not_le.2 hfew))

theorem phaseLock_lost (h : 6553600 < x.natAbs * 1000) (hmany : 16 ≤ s.hinge.beyond + 1) :
    phaseLock x s = phaseUnlock (setHinge (fun h => { h with within := 0, beyond := h.beyond + 1 }) s) :=
  (if_neg (Nat.not_le.2 h)).trans (if_pos hmany)

/-- What a clearing counts and raises. -/
theorem phaseUnlock_counts (hu : up s = true) (h : s.hinge.locked = true) :
    getN (phaseUnlock s) Obj.LOCK_LOSS = (getN s Obj.LOCK_LOSS + 1) % counterMod Obj.LOCK_LOSS ∧
    (faultOf (phaseUnlock s) 0x3300).raises = ((faultOf s 0x3300).raises + 1) % 4294967296 ∧
    (faultOf (phaseUnlock s) 0x3300).lastBase = 1 := by
  have hkeeps := faultOf_raise_capped (si := { cap := some 1 }) (code := 0x3300)
    (s := bump Obj.LOCK_LOSS (setHinge (fun h => { h with locked := false }) s)) hu rfl rfl rfl
    { detail := (getN s Obj.HINGE_OFFSET).natAbs * 1000 / 65536 % 4294967296 } rfl
  rw [phaseUnlock_locked h, getN_raise _ _ _ _ (by decide), hkeeps, bump_eq]
  exact ⟨getN_setN_same _ _ _, rfl, rfl⟩

theorem hingeDown_falls (hup : hingeUp s = true) (hover : s.hinge.lastValid + 100 * usT ≤ s.now) : hingeDown s =
    decideRole false (phaseUnlock (report 0x3000 1 {} (bump Obj.HINGE_DOWN_EVENTS (setN Obj.HINGE_STATE 0
      (setHinge (fun h => { h with
        validFrom := none, settled := s.now, exch := [], within := 0, beyond := 0, sessionsSynced := false, copying := false, peerSeq := none })
        { s with ts := { s.ts with prevMeas := none } }))))) :=
  if_neg fun h => h.elim (fun hno => by rw [hup] at hno; exact absurd hno (by decide)) (Nat.not_lt.2 hover)
end

end Sys2Proof.Machine
end

section
namespace Sys2Proof

open Machine

/-- Settles O16: a measurement on each side of 100 ps and of its count, the clearing, and the loss of the Hinge. -/
theorem phaseLock : Obligations.PhaseLock := by
  unfold Obligations.PhaseLock
  refine ⟨fun s x h => ?_, fun s x h hfew => ?_, fun s x h hmany => ?_, fun s hu hl => ⟨locked_phaseUnlock s, phaseUnlock_counts hu hl⟩,
    fun s x h hmany => phaseLock_lost h hmany, fun s hu hup hover => acts_of_ifUp rfl hu (hingeDown_falls hup hover)⟩
  · rw [phaseLock_within h]
    rfl
  · rw [phaseLock_beyond h hfew]
    rfl
  · rw [phaseLock_lost h hmany]
    exact locked_phaseUnlock _

end Sys2Proof
end

section
/-! SUPPORT. The role of the module: what the protocols, the outputs and the loops leave of it when they take its conduct (R482, R483). -/
namespace Sys2Proof.Machine

/-- The module's role and its Hinge. -/
def roleView (s : State) : Int × Hinge := (getN s Obj.PAIR_ROLE, s.hinge)

theorem roleView_fst (s : State) : (roleView s).1 = getN s Obj.PAIR_ROLE := rfl

theorem roleView_snd (s : State) : (roleView s).2 = s.hinge := rfl

theorem roleView_setN {k : Nat} (hk : k ≠ Obj.PAIR_ROLE) (v : Int) (s : State) : roleView (setN k v s) = roleView s :=
  Prod.ext (getN_setN_ne s v hk) rfl

theorem roleView_setJ {k : Nat} (hk : k ≠ Obj.PAIR_ROLE) (v : Int) (s : State) : roleView (setJ k v s) = roleView s :=
  Prod.ext (getN_setJ_ne v s hk) (by simp only [roleView, setJ_keeps])

theorem roleView_divFree (n : Int) (d : Nat) (s : State) : roleView (divFree n d s).2 = roleView s :=
  divFree_leaves roleView (fun _ _ => rfl) n d s

/-! ### The instances of PTP and the clock outputs -/

theorem roleView_ptpCounts (s : State) : roleView (ptpCounts s) = roleView s := by
  unfold ptpCounts
  dsimp only
  rw [roleView_setN (by decide), roleView_setN (by decide), roleView_setN (by decide), roleView_divFree, roleView_divFree]

theorem roleView_leaveReceiver (k : Nat) (s : State) : roleView (leaveReceiver k s) = roleView s :=
  roleView_setN (by simp only [Obj.INST_TR_PORT, Obj.PAIR_ROLE]; omega) _ _

theorem roleView_enterPort (k p st : Nat) (s : State) : roleView (enterPort k p st s) = roleView s := by
  unfold enterPort
  dsimp only
  split
  · rfl
  · rw [roleView_ptpCounts, setPtpState, roleView_setJ (by simp only [Obj.PTPP_STATE, Obj.PAIR_ROLE]; omega)]
    have hleft : roleView (if ptpState s (16 * k + p) = 6 then leaveReceiver k s else s) = roleView s := by
      split
      · exact roleView_leaveReceiver k s
      · rfl
    exact hleft

theorem roleView_refreshPort (k p : Nat) (s : State) : roleView (refreshPort k p s) = roleView s := by
  unfold refreshPort
  dsimp only
  split
  · rfl
  · split
    · exact roleView_enterPort k p 0 s
    · split
      · exact roleView_enterPort k p 7 s
      · split
        · exact roleView_enterPort k p 3 s
        · split
          · exact roleView_enterPort k p 1 s
          · rfl

theorem roleView_refreshInsts (s : State) : roleView (refreshInsts s) = roleView s :=
  foldl_leaves roleView (fun a k => foldl_leaves roleView (fun b p => roleView_refreshPort k p b) _ a) _ s

theorem roleView_evalClks (s : State) : roleView (evalClks s) = roleView s := by
  refine foldl_leaves roleView (fun a c => ?_) _ s
  obtain ⟨hparts, hnums⟩ := keepsAll_evalClk c a
  refine Prod.ext (hnums _ ?_) (hparts .hinge List.not_mem_nil)
  simp only [Obj.CLK_STATE, Obj.CLK_SQUELCHES, Obj.PAIR_ROLE, List.mem_cons, List.not_mem_nil, or_false]
  omega

/-! ### A change of role -/

/-- The role that is set, from now. -/
theorem roleView_setRole (r : Nat) (s : State) : roleView (setRole r s) = ((r : Int), { s.hinge with roleTick := s.now }) := by
  unfold setRole
  dsimp only
  rw [roleView_evalClks, roleView_refreshInsts, roleView_setN (by decide)]
  exact Prod.ext (getN_setJ_same _ _ _) (by simp only [roleView, setJ_keeps, setHinge_keeps])

theorem getN_setRole (r : Nat) (s : State) : getN (setRole r s) Obj.PAIR_ROLE = r := by
  rw [← roleView_fst, roleView_setRole]

theorem hinge_setRole (r : Nat) (s : State) : (setRole r s).hinge = { s.hinge with roleTick := s.now } := by
  rw [← roleView_snd, roleView_setRole]

/-- The second of `PAIR_WTR_LEFT` is all that loading it moves. -/
theorem loadWtr_role (s : State) : getN (loadWtr s) Obj.PAIR_ROLE = getN s Obj.PAIR_ROLE ∧ (loadWtr s).hinge.roleTick = s.hinge.roleTick := by
  unfold loadWtr
  split
  · exact ⟨getN_setN_ne _ _ (by decide), rfl⟩
  · exact ⟨rfl, rfl⟩

theorem becomeStandby_role (s : State) : getN (becomeStandby s) Obj.PAIR_ROLE = 1 ∧ (becomeStandby s).hinge.roleTick = s.now := by
  rw [becomeStandby, (loadWtr_role _).1, (loadWtr_role _).2, getN_setRole, hinge_setRole]
  exact ⟨rfl, rfl⟩

theorem roleView_resumePtp (s : State) : roleView (resumePtp s) = roleView s := by
  unfold resumePtp
  dsimp only
  have hmissed : ∀ (n : Int) (a : State), roleView (bumpBy Obj.SYNC_MISSED n a) = roleView a := fun n a => roleView_setN (by decide) _ a
  refine (foldl_leaves roleView (fun a x => ?_) _ _).trans (foldl_leaves roleView (fun a x => ?_) _ s)
  · split
    · exact hmissed _ a
    · rfl
  · split
    · exact hmissed _ a
    · rfl

theorem roleView_announceAll (s : State) : roleView (announceAll s) = roleView s := by
  refine foldl_leaves roleView (fun a n => ?_) _ s
  split
  · refine foldl_leaves roleView (fun b p => ?_) _ a
    split <;> rfl
  · rfl

theorem roleView_clearLouvre (s : State) : roleView (clearLouvre s) = roleView s := rfl

theorem becomeActive_role (s : State) : getN (becomeActive s) Obj.PAIR_ROLE = 2 := by
  have h : roleView (becomeActive s) = roleView (setRole 2 (takeLoops s)) := by
    rw [becomeActive, roleView_announceAll, roleView_resumePtp, roleView_clearLouvre, bump_eq, roleView_setN (by decide)]
  rw [← roleView_fst, h, roleView_fst, getN_setRole]
  rfl

/-! ### The decision (R482) -/

section
variable {s : State} (change : Bool) (hen : getN s Obj.PAIR_ENABLE = 1) (hst : s.hinge.started = true)
include hen hst

theorem decideRole_started : ¬(getN s Obj.PAIR_ENABLE = 0 ∨ s.hinge.started = false) := by
  rw [hen, hst]
  decide

section
variable (hlow : s.hinge.activeIn = false)
include hlow

theorem decideRole_low_standby (hrole : getN s Obj.PAIR_ROLE = 1) : decideRole change s = s := by
  unfold decideRole
  dsimp only
  rw [if_neg (decideRole_started hen hst), if_pos hlow, if_pos hrole]

theorem decideRole_low_active (hrole : getN s Obj.PAIR_ROLE = 2) (hheeds : ignoresLow s = false) : decideRole change s = becomeStandby s := by
  unfold decideRole
  dsimp only
  rw [if_neg (decideRole_started hen hst), if_pos hlow, hrole, if_neg (by decide), if_neg (by decide), if_neg (by rw [hheeds]; decide)]

theorem decideRole_low_ignored (hrole : getN s Obj.PAIR_ROLE = 2) (hignores : ignoresLow s = true) : decideRole change s = s := by
  unfold decideRole
  dsimp only
  rw [if_neg (decideRole_started hen hst), if_pos hlow, hrole, if_neg (by decide), if_neg (by decide), if_pos hignores]
end

section
variable (hhigh : s.hinge.activeIn = true) (hrole : getN s Obj.PAIR_ROLE = 1)
include hhigh hrole

theorem decideRole_high_unfit (hunfit : fit s = false) : decideRole change s = s := by
  unfold decideRole
  dsimp only
  rw [if_neg (decideRole_started hen hst), if_neg (by rw [hhigh]; decide), hrole, if_neg (by decide), if_neg (by decide), if_pos hunfit,
    if_neg (by decide)]

theorem decideRole_high_takes (hfit : fit s = true) (hpeer : hingeUp s = false ∨ peerRole s ≠ 2) : decideRole change s = becomeActive s := by
  have hno : (hingeUp s && decide (peerRole s = 2)) = false := by
    rcases hpeer with h | h
    · rw [h, Bool.false_and]
    · rw [decide_eq_false h, Bool.and_false]
  unfold decideRole
  dsimp only
  rw [if_neg (decideRole_started hen hst), if_neg (by rw [hhigh]; decide), hrole, if_neg (by decide), if_neg (by decide),
    if_neg (by rw [hfit]; decide), if_pos hno]
end
end

end Sys2Proof.Machine
end

section
namespace Sys2Proof.Machine

/-- Settles O56: each decision by the level of ACTIVE_IN and the role. -/
theorem roleDecision : Obligations.RoleDecision := by
  unfold Obligations.RoleDecision
  intro s change hen hst
  refine ⟨decideRole_low_standby change hen hst, fun hlow hrole hheeds => ?_, decideRole_low_ignored change hen hst,
    decideRole_high_unfit change hen hst, fun hhigh hrole hfit hpeer => ?_⟩
  · rw [decideRole_low_active change hen hst hlow hrole hheeds]
    exact becomeStandby_role s
  · rw [decideRole_high_takes change hen hst hhigh hrole hfit hpeer]
    exact becomeActive_role s

end Sys2Proof.Machine
end


section
/-! SUPPORT. The frames, exchanges and self-tests of the Hinge, one rule for the case of each (R472–R479). -/
namespace Sys2Proof.Machine

section frames
variable {s : State} {b : HingeBody}

/-- A frame whose tag is not right. -/
theorem hingeFrame_badTag (hlane : s.hinge.lane = true) : hingeFrame true false b s = hingeAuthFail s := by
  unfold hingeFrame
  rw [if_neg (by simp [hlane]), if_neg (by decide), if_pos (.inl rfl)]

/-- An untagged frame has a meaning in the bonding exchange alone. -/
theorem hingeFrame_untagged {ok : Bool} (hlane : s.hinge.lane = true) (hbond : s.keys.bond = none) :
    hingeFrame false ok b s = hingeAuthFail s := by
  unfold hingeFrame
  rw [if_neg (by simp [hlane]), if_pos rfl, hbond]

theorem hingeFrame_authentic (hlane : s.hinge.lane = true) (hkey : (useKey 2 usePairing s).1 = true) (hpair : getN s Obj.PAIR_ENABLE = 1) :
    hingeFrame true true b s = hingeBody b (hingeValid s) := by
  unfold hingeFrame
  rw [if_neg (by simp [hlane]), if_neg (by decide), if_neg (by simp [hkey]), if_neg (by simp [hpair])]

theorem heartbeat_due (hruns : hingeRuns s = true) (hout : outputsAbsent s = false) (hdue : s.hinge.beatTick + 10 * usT ≤ s.now) :
    heartbeat s = sendHinge 0 (be 4 (healthWord s (getNat s Obj.HEALTH_WORD))) (setHinge (fun h => { h with beatTick := s.now }) s) :=
  if_neg (by simp [hruns, hout, hdue])

theorem heartbeat_silent (h : hingeRuns s = false ∨ outputsAbsent s = true) : heartbeat s = s := by
  unfold heartbeat
  rw [if_pos]
  exact h.imp id Or.inl

theorem hingeRises_due {t : Nat} (hruns : hingeRuns s = true) (hdown : hingeUp s = false) (hfrom : s.hinge.validFrom = some t)
    (hms : t + msT ≤ s.now) (hfresh : s.now < s.hinge.lastValid + 100 * usT) :
    hingeRises s = decideRole false (setN Obj.HINGE_STATE 1 (setHinge
      (fun h => { h with settled := s.now, copying := true, sentSessions := [], sentSeq := s.journal.next, sentKeys := none })
      { s with ts := { s.ts with prevMeas := none } })) :=
  if_neg (by simp [hruns, hdown, hfrom, hms, hfresh])

theorem keysTx_due (hrole : getN s Obj.PAIR_ROLE = 2) (hup : hingeUp s = true) (hruns : hingeRuns s = true) (hsent : s.hinge.sentKeys = none) :
    ∃ f, keysTx s = sendHinge 2 (be 4 (getNat s Obj.NTS_EPOCH) ++ t96Bytes (getNat s Obj.NTS_NEXT_ROTATE) ++ be 4 (getNat s Obj.NTS_ROTATE))
      (setHinge f s) := by
  unfold keysTx
  rw [if_neg (by simp [hrole, hup, hruns]), if_neg (by simp [hsent])]
  exact ⟨_, rfl⟩

theorem keepsAll_sendHinge {ps : List Part} {ks : List Nat} {s t : State} (h : keepsAll ps ks s t) (hq : Part.out ∈ ps) (kind : Nat)
    (data : List Byte) : keepsAll ps ks s (sendHinge kind data t) :=
  keepsAll_emit h hq _

end frames

section measurement
variable {s : State}

theorem hingeExchange_due {t1 t2 t3 t4 : Int} {b : Nat} (hrole : isStandby s = true) (hruns : hingeRuns s = true)
    (hdue : s.hinge.exchTick + 125 * usT ≤ s.now) : hingeExchange t1 t2 t3 t4 b s =
      setHinge (fun h => { h with
        exchTick := s.now
        activeBound := b
        exch := (((t4 - t3) - (t2 - t1) + (ps96 (getF s Obj.HINGE_DELAY_TX - getF s Obj.HINGE_DELAY_RX) s).1) :: h.exch).take 8 })
        (hingeValid (nextFree s)) := by
  unfold hingeExchange
  rw [if_neg (by simp [hrole, hruns, hdue])]
  dsimp only
  rw [ps96, divFree_snd]

theorem hingeMeasure_active (h : isStandby s = false) : hingeMeasure s = s := if_pos (.inl h)

/-- The state in which the mean of eight exchanges is tested: the offset and the tick are shown, and the bound is as of now. -/
def hingeMean (s : State) : State :=
  setN Obj.HINGE_OFFSET (divFree s.hinge.exch.sum 16 s).1
    (setHinge (fun h => { h with measTick := s.now }) (updateBound (divFree s.hinge.exch.sum 16 s).2))

theorem activeBound_hingeMean (s : State) : (hingeMean s).hinge.activeBound = s.hinge.activeBound :=
  divFree_leaves (fun t => t.hinge.activeBound) (fun _ _ => rfl) _ _ s

theorem mts_hingeMean (s : State) : (hingeMean s).ts.mts = s.ts.mts := divFree_leaves (fun t => t.ts.mts) (fun _ _ => rfl) _ _ s

/-- A half of the measurement: the active's half with the budgets of the Hinge (R474). -/
def hingeHalf (half : Int → Nat) (s : State) : Nat := half s.hinge.activeBound + 60 + (getF (hingeMean s) Obj.HINGE_ASYM_UNC).toNat

def hingeMeas (s : State) : Meas :=
  { ref := 0xFD, x := (divFree s.hinge.exch.sum 16 s).1, uM := some (hingeHalf boundM s), uP := some (hingeHalf boundP s)
    atI := s.ts.mts, mark := markNow (hingeMean s) }

section due
variable (hrole : isStandby s = true) (hup : hingeUp s = true) (hfull : 8 ≤ s.hinge.exch.length) (hdue : s.hinge.measTick + msT ≤ s.now)
include hrole hup hfull hdue

theorem hingeMeasure_unbounded (hbound : boundFinite s.hinge.activeBound = false) :
    hingeMeasure s = phaseLock (divFree s.hinge.exch.sum 16 s).1 (hingeMean s) := by
  unfold hingeMeasure
  rw [if_neg (by simp [hrole, hup, hfull, hdue])]
  refine if_neg fun h => ?_
  rw [← activeBound_hingeMean s] at hbound
  exact absurd (h.symm.trans hbound) (by decide)

/-- Where the bound gives no verdict, the measurement is not outside it. -/
theorem hingeMeasure_bounded (hbound : boundFinite s.hinge.activeBound = true) (htest : testMeas (hingeMean s) (hingeMeas s) = none) :
    hingeMeasure s = phaseLock (divFree s.hinge.exch.sum 16 s).1
      (driveLoop (hingeMeas s) false (resetBound (hingeMeas s) (hingeHalf boundM s) (hingeHalf boundP s) (hingeMean s))) := by
  have hmeas : hingeMeasure s = phaseLock (divFree s.hinge.exch.sum 16 s).1
      (driveLoop (hingeMeas s) (match testMeas (hingeMean s) (hingeMeas s) with | some (ok, _) => !ok | none => false)
        (resetBound (hingeMeas s) (hingeHalf boundM s) (hingeHalf boundP s) (hingeMean s))) := by
    unfold hingeMeasure hingeMeas hingeHalf
    rw [if_neg (by simp [hrole, hup, hfull, hdue]), ← mts_hingeMean s]
    rw [← activeBound_hingeMean s] at hbound ⊢
    exact if_pos hbound
  rw [hmeas, htest]

end due

section selftests
variable (hrole : isStandby s = true)
include hrole

theorem resyncDone_standby (hcopy : s.hinge.copying = true) (hup : hingeUp s = true) :
    resyncDone s = bump Obj.MIRROR_RESYNC (setHinge (fun h => { h with copying := false, sessionsSynced := true }) s) :=
  if_pos (by simp [hrole, hcopy, hup])

theorem prbs_first {p : Nat} (hp : p < nPorts s.variant) (hmode : getN s (Obj.PORT_MODE p) = 0) (hlast : s.hinge.prbsTick.getD p 0 = 0) :
    prbs p 0 s = setHinge (fun h => { h with prbsTick := h.prbsTick.set p s.now }) s := by
  unfold prbs
  dsimp only
  rw [if_neg (by simp only [hrole, hmode, hlast]; simpa using hp), if_pos rfl]

theorem kat_first (hlast : s.hinge.katTick = 0) : kat true s = setHinge (fun h => { h with katTick := s.now }) s := by
  unfold kat
  rw [if_neg (by simp [hrole, hlast])]
  rfl

end selftests
end measurement

end Sys2Proof.Machine
end

section
namespace Sys2Proof.Machine

/-- Settles O54: each event by the rule of its case. -/
theorem hingeEvents : Obligations.HingeEvents := by
  unfold Obligations.HingeEvents
  refine fun s hu => ⟨fun _ _ b hl => acts_of_ifUp rfl hu (if_pos hl), fun b hl => acts_of_ifUp rfl hu (hingeFrame_badTag hl),
    fun ok b hl hb => acts_of_ifUp rfl hu (hingeFrame_untagged hl hb),
    fun b hl hk hp => acts_of_ifUp rfl hu (hingeFrame_authentic hl hk hp),
    fun hr ho hd => nextWith_of_ifUp rfl hu (heartbeat_due hr ho hd) ⟨by simp only [settle_keeps]; rfl, by simp only [settle_keeps]; rfl, ?_⟩,
    fun h => acts_of_ifUp rfl hu (heartbeat_silent h),
    fun t hr hd hf hm hv => acts_of_ifUp rfl hu (hingeRises_due hr hd hf hm hv),
    fun t1 t2 t3 t4 b hs hr hd => nextWith_of_ifUp rfl hu (hingeExchange_due hs hr hd)
      ⟨by simp only [settle_keeps]; rfl, by simp only [settle_keeps]; rfl, by simp only [settle_keeps]; rfl,
        by simp only [settle_keeps]; rfl, ?_⟩,
    fun hs => acts_of_ifUp rfl hu (hingeMeasure_active hs),
    fun hs hh hf hd hb => acts_of_ifUp rfl hu (hingeMeasure_unbounded hs hh hf hd hb),
    fun hs hh hf hd hb ht => acts_of_ifUp rfl hu (hingeMeasure_bounded hs hh hf hd hb ht),
    fun hc hs hh => nextWith_of_ifUp rfl hu (resyncDone_standby hs hc hh) ⟨?_, by simp only [settle_keeps]; rfl, ?_⟩,
    fun p hs hp hm hl => acts_of_ifUp rfl hu (prbs_first hs hp hm hl),
    fun hs hl => acts_of_ifUp rfl hu (kat_first hs hl), fun hr hh hn hk => ?_, fun hr => acts_of_ifUp rfl hu (if_pos (.inl hr))⟩
  · exact frame_settle (keepsAll_sendHinge (keepsAll_setHinge (keepsAll_refl _ _ s) (by decide) _) (by decide) _ _)
  · exact frame_settle (keepsAll_setHinge (keepsAll_setHinge (keepsAll_freeCtr (keepsAll_refl _ _ s) (by decide) _) (by decide) _)
      (by decide) _)
  · rw [getN_settle _ (by decide), bump_eq, getN_setN_same]
    rfl
  · exact frame_settle (keepsAll_bump (keepsAll_setHinge (keepsAll_refl _ _ s) (by decide) _) (by decide))
  · obtain ⟨f, h⟩ := keysTx_due hr hh hn hk
    refine nextWith_of_ifUp rfl hu h ⟨by simp only [settle_keeps]; rfl, ?_⟩
    exact frame_settle (keepsAll_sendHinge (keepsAll_setHinge (keepsAll_refl _ _ s) (by decide) _) (by decide) _ _)

end Sys2Proof.Machine
end


section
/-! SUPPORT. ACTIVE_IN and the handover, one rule for the case of each (R481–R486). -/
namespace Sys2Proof.Machine

section pins
variable {s : State} {level : Bool}

theorem activeInChange_disabled (hpair : getN s Obj.PAIR_ENABLE = 0) :
    activeInChange level s = setHinge (fun h => { h with activeIn := level }) s :=
  if_pos (.inr (.inl hpair))

variable (hu : up s = true) (hpair : getN s Obj.PAIR_ENABLE = 1)
include hu hpair

theorem pair_enabled : ¬ (up s = false ∨ getN s Obj.PAIR_ENABLE = 0) := by
  rw [hu, hpair]
  decide

/-- With no handover in course, the change decides the role at once. -/
theorem activeInChange_decides (hnew : s.hinge.activeIn ≠ level) (hnone : s.hinge.handover = none) :
    activeInChange level s = decideRole true (setHinge (fun h => { h with activeIn := level }) s) := by
  have hacts : ¬ (up s = false ∨ getN s Obj.PAIR_ENABLE = 0 ∨ s.hinge.activeIn = level) := by
    rw [← or_assoc]
    exact not_or.2 ⟨pair_enabled hu hpair, hnew⟩
  refine (if_neg hacts).trans (congrArg (decideRole true) ?_)
  dsimp only [setHinge]
  rw [hnone]

theorem peerPinChange_enabled : peerPinChange level s =
    setN Obj.PEER_HEALTH_PIN (if level then 1 else 0) (setHinge (fun h => { h with peerPin := level }) s) :=
  if_neg (pair_enabled hu hpair)

end pins

section dwell
variable {s : State}

theorem startRoleDwell_waits (h : s.hinge.started = true ∨ milestone s 9 = false) : startRoleDwell s = s :=
  if_pos (h.imp_right Or.inl)

theorem startRoleDwell_ends (hnew : s.hinge.started = false) (hmile : milestone s 9 = true) (hdwell : s.hinge.settled + sT ≤ s.now) :
    startRoleDwell s = decideRole true (setHinge (fun h => { h with started := true }) s) :=
  if_neg (by simp [hnew, hmile, hdwell])

theorem wtrExpiry_active (h : isStandby s = false) : wtrExpiry s = s := by
  unfold wtrExpiry
  rw [h]
  rfl

/-- The home module that is ready to be active again asks for the role. -/
theorem wtrExpiry_asks (hrole : isStandby s = true) (hup : hingeUp s = true) (hhome : getN s Obj.PAIR_HOME = 1)
    (hrev : getN s Obj.PAIR_REVERTIVE = 1) (hleft : getN s Obj.PAIR_WTR_LEFT = 0) (hfit : fit s = true) (hready : ready s = true)
    (hpeer : s.hinge.peerHome = false) (hnone : s.hinge.handover = none) : wtrExpiry s =
      sendHandover 5 (handoverSecond s) (setHinge (fun h => { h with handover := some { mine := true, sec := handoverSecond s } }) s) :=
  if_pos (by simp [hrole, hup, hhome, hrev, hleft, hfit, hready, hpeer, hnone])

end dwell

section handover
variable {s : State} {x : Handover}

theorem handoverInstant_none (h : s.hinge.handover = none) : handoverInstant s = s := by
  unfold handoverInstant
  rw [h]

section instant
variable (hheld : s.hinge.handover = some x) (hacc : x.accepted = true) (hnew : x.acted = none) (hsec : x.sec * sec48 ≤ s.ts.mts)
include hacc hnew hsec

/-- An accepted handover acts once, when its second has come. -/
theorem handover_due : ¬ (x.accepted = false ∨ x.acted.isSome ∨ s.ts.mts < x.sec * sec48) := by
  simp [hacc, hnew, hsec]

include hheld

theorem handoverInstant_yields (hmine : x.mine = false) (hrole : getN s Obj.PAIR_ROLE = 2) : handoverInstant s =
    setRole 3 (setHinge (fun h => { h with handover := some { x with acted := some s.now } }) s) := by
  unfold handoverInstant
  rw [hheld]
  dsimp only
  rw [if_neg (handover_due hacc hnew hsec), if_neg (by rw [hmine]; decide), if_pos hrole]

theorem handoverInstant_takes (hmine : x.mine = true) (hrole : isStandby s = true) (hfit : fit s = true) : handoverInstant s =
    becomeActive (setHinge (fun h => { h with
      handover := some { x with acted := some s.now }, ignoreLow := some (s.now + getNat s Obj.PAIR_ARB_TIME * usT) }) s) := by
  unfold handoverInstant
  rw [hheld]
  dsimp only
  rw [if_neg (handover_due hacc hnew hsec), if_pos hmine, if_pos (by rw [hrole, hfit]; rfl)]

end instant

section timeout
variable {t : Nat} (hheld : s.hinge.handover = some x) (hacted : x.acted = some t)
include hheld hacted

theorem handoverTimeout_early (h : s.now < t + getNat s Obj.PAIR_ARB_TIME * usT) : handoverTimeout s = s := by
  unfold handoverTimeout
  rw [hheld]
  dsimp only
  rw [hacted]
  exact if_pos h

variable (hover : t + getNat s Obj.PAIR_ARB_TIME * usT ≤ s.now)
include hover

/-- The requester has not taken the role: the module that yielded takes it back. -/
theorem handoverTimeout_fails (hmine : x.mine = false) (hrole : getN s Obj.PAIR_ROLE = 3) : handoverTimeout s =
    arbFault 2 (bump Obj.HANDBACK_FAIL (setHinge (fun h => { h with handover := none, ignoreLow := none }) (becomeActive s))) := by
  unfold handoverTimeout
  rw [hheld]
  dsimp only
  rw [hacted]
  dsimp only
  rw [if_neg (Nat.not_lt.2 hover), if_neg (by rw [hmine]; decide), if_pos hrole]

theorem handoverTimeout_succeeds (hmine : x.mine = true) (hactive : s.hinge.activeIn = true) : handoverTimeout s = handoverDone s := by
  unfold handoverTimeout
  rw [hheld]
  dsimp only
  rw [hacted]
  dsimp only
  rw [if_neg (Nat.not_lt.2 hover), if_pos hmine, if_pos hactive]

end timeout

theorem homeConflict_found (hpair : getN s Obj.PAIR_ENABLE = 1) (hup : hingeUp s = true)
    (hhome : s.hinge.peerHome = decide (getN s Obj.PAIR_HOME = 1)) (hfirst : s.hinge.conflictTick = none) :
    homeConflict s = arbFault 3 (setHinge (fun h => { h with conflictTick := some s.now }) s) :=
  if_pos ⟨hpair, hup, hhome, by rw [hfirst]⟩

theorem homeConflict_apart (h : s.hinge.peerHome ≠ decide (getN s Obj.PAIR_HOME = 1)) : homeConflict s = s :=
  if_neg fun ⟨_, _, hsame, _⟩ => h hsame

end handover

end Sys2Proof.Machine
end

section
namespace Sys2Proof.Machine

/-- Settles O55: each event by the rule of its case. -/
theorem pairRoles : Obligations.PairRoles := by
  unfold Obligations.PairRoles
  refine fun s => ⟨fun level hp => congrArg finish (activeInChange_disabled hp),
    fun level hu hp hnew hnone => congrArg finish (activeInChange_decides hu hp hnew hnone),
    fun level hu hp => nextWith_finish (congrArg finish (peerPinChange_enabled hu hp)) ⟨?_, by simp only [settle_keeps]; rfl, ?_⟩,
    fun hu h => acts_of_ifUp rfl hu (startRoleDwell_waits h),
    fun hu hnew hm hd => acts_of_ifUp rfl hu (startRoleDwell_ends hnew hm hd), fun hu h => acts_of_ifUp rfl hu (wtrExpiry_active h),
    fun hu hs hh hhome hrev hleft hfit hready hpeer hnone =>
      nextWith_of_ifUp rfl hu (wtrExpiry_asks hs hh hhome hrev hleft hfit hready hpeer hnone)
        ⟨by simp only [settle_keeps]; rfl, by simp only [settle_keeps]; rfl, ?_⟩, fun hu h => acts_of_ifUp rfl hu ?_,
    fun x hu hx hacc hnew hsec hm hb hr => acts_of_ifUp rfl hu ((if_pos hb).trans (handoverInstant_yields hx hacc hnew hsec hm hr)),
    fun x hu hx hacc hnew hsec hm hb hr hf => acts_of_ifUp rfl hu ((if_pos hb).trans (handoverInstant_takes hx hacc hnew hsec hm hr hf)),
    fun x t hu hx ht hearly => acts_of_ifUp rfl hu (handoverTimeout_early hx ht hearly),
    fun x t hu hx ht hover hm hr => acts_of_ifUp rfl hu (handoverTimeout_fails hx ht hover hm hr),
    fun x t hu hx ht hover hm ha => acts_of_ifUp rfl hu (handoverTimeout_succeeds hx ht hover hm ha),
    fun hu hp hh hhome hfirst => acts_of_ifUp rfl hu (homeConflict_found hp hh hhome hfirst),
    fun hu _ _ hhome => acts_of_ifUp rfl hu (homeConflict_apart hhome)⟩
  · rw [getN_settle _ (by decide), getN_setN_same]
  · exact frame_settle (keepsAll_setN (keepsAll_setHinge (keepsAll_refl _ _ s) (by decide) _) (by decide) _)
  · exact frame_settle (keepsAll_sendHinge (keepsAll_setHinge (keepsAll_refl _ _ s) (by decide) _) (by decide) _ _)
  · rcases h with hnone | hbetween
    · rw [handoverInstant_none hnone, ite_self]
    · rw [hbetween]
      rfl

end Sys2Proof.Machine
end


section
/-! SUPPORT. The collector's own events: a unit's raise, the decay of LEVEL and of the window, the end of a restart, and the copies that
differ (R23, R456–R464, R467). -/
namespace Sys2Proof.Machine

section raises
variable {s : State} {src base d : Nat} {si : SrcInfo}

theorem faultRaise_absent (a : Option BusAccess) (h : srcInfo s.variant src = none) : faultRaise src base d a s = s := by
  unfold faultRaise
  rw [h]

theorem faultRaise_reports (hsi : srcInfo s.variant src = some si) (hpres : si.present = true)
    (hbase : (raisedAs s.variant src).contains base = true) (hmile : milestone s 2 = true) (hacts : base ≠ 0) (hsrc : src ≠ 0x0800) :
    faultRaise src base d none s = report src base { detail := d } s := by
  unfold faultRaise
  rw [hsi]
  dsimp only
  rw [if_neg (by rw [hpres, hbase, hmile]; decide), if_neg hacts, if_neg hsrc]

/-- The difference that a slip leaves, which is more than one fraction LSB of TIME96. -/
theorem shadowDiff_shadowSlip (d : Nat) (h : s.ts.mts < mts48Mod) : shadowDiff (shadowSlip d s) = 8589934592 + d % 4294967296 := by
  unfold shadowDiff shadowSlip addMts
  unfold mts48Mod sec48 ns48 at *
  dsimp only
  have hd : d % 4294967296 < 4294967296 := Nat.mod_lt _ (by decide)
  generalize d % 4294967296 = low at *
  omega

theorem compareShadow_shadowSlip (d : Nat) (h : s.ts.mts < mts48Mod) :
    compareShadow (shadowSlip d s) = report 0x0800 4 { detail := d % 4294967296 } (shadowSlip d s) := by
  have hd : d % 4294967296 < 4294967296 := Nat.mod_lt _ (by decide)
  unfold compareShadow
  rw [shadowDiff_shadowSlip d h, if_pos (by unfold mts48Mod sec48 ns48; omega)]
  congr 2
  omega

/-- The shadow counter's raise is the comparison's own, of the difference that the slip leaves. -/
theorem faultRaise_shadow (d : Nat) (hmile : milestone s 2 = true) (h : s.ts.mts < mts48Mod) :
    faultRaise 0x0800 4 d none s = report 0x0800 4 { detail := d % 4294967296 } (shadowSlip d s) := by
  have hsi : srcInfo s.variant 0x0800 = some {} := rfl
  unfold faultRaise
  rw [hsi]
  dsimp only
  rw [if_neg (by rw [hmile]; simp [raisedAs]), if_neg (by decide), if_pos rfl, compareShadow_shadowSlip d h]

end raises

section decay
variable {s : State} {src : Nat}

theorem levelDecay_due (hlevel : (faultOf s src).level ≠ 0) (hdue : (faultOf s src).decayFrom + (faultNW s src).2 * sT ≤ s.now) :
    levelDecay src s = putFault { faultOf s src with level := (faultOf s src).level - 1, decayFrom := s.now } s :=
  if_neg (not_or.2 ⟨hlevel, Nat.not_lt.2 hdue⟩)

theorem windowExpiry_due {w : Window} (hopen : (faultOf s src).window = some w) (hdue : w.openedAt + w.w * sT ≤ s.now) :
    windowExpiry src s = putFault { faultOf s src with window := none } s := by
  unfold windowExpiry
  dsimp only
  rw [hopen]
  exact if_pos hdue

/-- What the settled state holds for the source whose record was put. -/
theorem faultOf_settle_putFault {f : FaultSrc} (hcode : f.code = src) : faultOf (settle (putFault f s)) src = f := by
  rw [faultOf_settle, faultOf_putFault_same hcode]

theorem restartDone_idle {u : Nat} (h : restarting s u = false) : restartDone u s = s := if_pos h

theorem restartDone_plain {u : Nat} (h : restarting s u = true) (hunit : u / 256 = 0x24) : restartDone u s = endRestart u s := by
  unfold restartDone
  rw [if_neg (by rw [h]; decide), hunit]
  rfl

end decay

section mismatch
variable {s : State}

/-- The state in which the collector's copies differ, as their raise has recorded it. -/
theorem report_mismatch (hu : up s = true) : report 0 4 {} s = safeState (stuckSource 0 4 s) false (stuckKept 0 4 s) := by
  have hsi : srcInfo s.variant 0 = some { stickyOnly := true } := rfl
  rw [report_eq_raiseWith (.inl (by decide)), raiseWith_sticks _ hsi (raises_guard hu rfl) _ (by decide) rfl, if_pos rfl]
  rfl

/-- The safe state of a source that takes the keep records with it (R467, R468). -/
theorem safeState_ends {f : FaultSrc} (b : Bool) (t : State) (hcode : f.code = 0) : (safeState f b t).mode = .safe ∧
    getN (safeState f b t) Obj.KEEP_VALID = 0 ∧ (safeState f b t).keep.recA = none ∧ (safeState f b t).keep.recB = none ∧
    (safeState f b t).keep.lastC4.isSome = true ∧ (safeState f b t).groups = [] := by
  unfold safeState
  dsimp only
  rw [if_pos (.inr (.inr hcode))]
  exact ⟨rfl, getN_setN_same _ _ _, rfl, rfl, rfl, rfl⟩

/-- A module that does not run shows HEALTH_OUT low. -/
theorem healthOut_settle_down {t : State} (hd : up t = false) : (settle t).pins.healthOut = false := by
  have hdown : up (deriveObjects t) = false := by
    have h : up (settle t) = up t := by simp only [settle_keeps]
    exact h.trans hd
  show fit (deriveObjects t) = false
  unfold fit
  rw [hdown]
  rfl

end mismatch

end Sys2Proof.Machine
end

section
namespace Sys2Proof.Machine

/-- Settles O52: each event by the rule of its case. -/
theorem faultEvents : Obligations.FaultEvents := by
  unfold Obligations.FaultEvents
  refine fun s hu => ⟨fun _ _ _ a h => acts_of_ifUp rfl hu (faultRaise_absent a h),
    fun _ _ _ _ hsi hp hb hm h0 hne => acts_of_ifUp rfl hu (faultRaise_reports hsi hp hb hm h0 hne),
    fun d hm h => acts_of_ifUp rfl hu (faultRaise_shadow d hm h),
    fun src hl hd => nextWith_of_ifUp rfl hu (levelDecay_due hl hd)
      ⟨faultOf_settle_putFault (faultOf_code s src), frame_settle (keepsAll_putFault (keepsAll_refl _ _ s) (by decide) _)⟩,
    fun src hl => acts_of_ifUp rfl hu (if_pos (.inl hl)),
    fun src w hw hd => nextWith_of_ifUp rfl hu (windowExpiry_due hw hd)
      ⟨faultOf_settle_putFault (faultOf_code s src), frame_settle (keepsAll_putFault (keepsAll_refl _ _ s) (by decide) _)⟩,
    fun u h => acts_of_ifUp rfl hu (restartDone_idle h), fun u h hn => acts_of_ifUp rfl hu (restartDone_plain h hn), fun hm => ?_⟩
  obtain ⟨hmode, hvalid, hA, hB, hlast, hgroups⟩ := safeState_ends (f := stuckSource 0 4 s) false (stuckKept 0 4 s) (faultOf_code s 0)
  refine nextWith_of_ifUp rfl hu ((if_pos hm).trans (report_mismatch hu)) ?_
  refine ⟨?_, ?_, ?_, ?_, ?_, ?_, healthOut_settle_down ?_⟩
  · simpa only [settle_keeps] using hmode
  · rw [getN_settle _ (by decide)]
    exact hvalid
  · simpa only [settle_keeps] using hA
  · simpa only [settle_keeps] using hB
  · simpa only [settle_keeps] using hlast
  · simpa only [settle_keeps] using hgroups
  · rw [up, hmode]
    rfl

end Sys2Proof.Machine
end


section
/-! SUPPORT. The management cores: what a frame leaves, a core that stalls or is back, and a sample (R442–R453). -/
namespace Sys2Proof.Machine

/-! ### What a frame leaves -/

/-- The instant of the frame and the parts that no class's time moves. -/
def frameView (s : State) : Nat × List Out × Mem := (s.cores.frameAt, s.out, s.mem)

theorem frameView_setN (k : Nat) (v : Int) (s : State) : frameView (setN k v s) = frameView s := rfl

theorem frameView_startClock (n : Nat) (s : State) : frameView (startClock n s) = frameView s := by
  unfold startClock
  split <;> rfl

theorem frameView_parkCores (s : State) : frameView (parkCores s) = frameView s := by
  refine foldl_leaves frameView (fun a n => ?_) _ s
  split_ifs
  · rfl
  · rfl
  · rw [frameView_setN, frameView_startClock]
  · rfl

theorem frameView_showTask (n : Nat) (l : List (Nat × Nat)) (s : State) : frameView (showTask n l s) = frameView s := by
  unfold showTask
  dsimp only
  split <;> rfl

theorem frameView_schedFrame {s : State} (work : List (Nat × Nat)) (hdue : s.cores.frameAt + msT ≤ s.now) (hmile : milestone s 6 = true) :
    frameView (schedFrame work s) = (s.now, s.out, s.mem) := by
  unfold schedFrame
  rw [if_neg (not_or.2 ⟨Nat.not_lt.2 hdue, by rw [hmile]; decide⟩)]
  dsimp only
  rw [frameView_showTask, foldl_leaves frameView fun a n => frameView_showTask n _ a,
    foldl_leaves frameView (f := fun a (p : Nat × Nat) => bumpBy (Obj.TASK_TIME p.1) (p.2 : Nat) a) fun _ _ => rfl, frameView_parkCores]
  rfl

/-! ### Stalls and restarts -/

section stalls
variable {s : State} {n : Nat}

theorem coreWatchdog_stalled (hmile : milestone s 6 = true) (hruns : getN s (Obj.CORE_STATE n) = 0) : coreWatchdog n none s =
    report (0x2500 + n) 2 { detail := getNat s (Obj.CORE_TASK n), master := n, access := 4 } s :=
  if_neg (not_or.2 ⟨by rw [hmile]; decide, not_not.2 hruns⟩)

theorem timeCoreWatchdog_stalled (hmile : milestone s 6 = true) (hruns : getN s (Obj.CORE_STATE 4) = 0) : timeCoreWatchdog s =
    report 0x2504 2 { detail := getNat s (Obj.CORE_TASK 4), master := 4, access := 4 } s :=
  if_neg (not_or.2 ⟨by rw [hmile]; decide, not_not.2 hruns⟩)

theorem getN_startClock (n k : Nat) (s : State) : getN (startClock n s) k = getN s k := by
  unfold startClock
  split <;> rfl

theorem getN_endRestart (u k : Nat) (s : State) : getN (endRestart u s) k = getN s k :=
  foldl_leaves (fun t => getN t k) (fun a (r : Restart) => getN_setLive r.source false a k) _ _

/-- While another core restarts, the one that is back ends its own restart only. -/
theorem coreRestartDone_first {m : Nat} (hm : m < 5) (hne : n ≠ m) (hown : getN s (Obj.CORE_STATE n) = 2)
    (hother : getN s (Obj.CORE_STATE m) = 2) :
    coreRestartDone n s = endRestart (0x2500 + n) (startClock n (setN (Obj.CORE_STATE n) 0 s)) := by
  have hstill : getN (endRestart (0x2500 + n) (startClock n (setN (Obj.CORE_STATE n) 0 s))) (Obj.CORE_STATE m) = 2 := by
    rw [getN_endRestart, getN_startClock, getN_setN_ne _ _ (by simp only [Obj.CORE_STATE]; omega), hother]
  unfold coreRestartDone
  rw [if_neg (not_not.2 hown)]
  exact if_pos (List.any_eq_true.2 ⟨m, List.mem_range.2 hm, decide_eq_true hstill⟩)

end stalls

/-! ### Samples -/

section samples
variable {s : State} {x : SampleIn} (hcore : x.core < 5) (hen : (getNat s Obj.SAMPLE_ENABLE).testBit x.core = true)
  (hruns : getN s (Obj.CORE_STATE x.core) = 0)
include hcore hen hruns

/-- A sample of a core that runs and is enabled. -/
theorem sample_taken : ¬ (5 ≤ x.core ∨ (getNat s Obj.SAMPLE_ENABLE).testBit x.core = false ∨ getN s (Obj.CORE_STATE x.core) ≠ 0) := by
  rw [hen, hruns]
  simpa using hcore

theorem instrSample_dropped (hfull : 8 ≤ s.cores.awaiting.length) : instrSample x 0 s = bump Obj.SAMPLE_DROPPED (writeSamples 0 s) :=
  (if_neg (sample_taken hcore hen hruns)).trans (if_pos hfull)

theorem instrSample_awaits (hroom : s.cores.awaiting.length < 8) : instrSample x 0 s =
    bump Obj.SAMPLES (setN Obj.SAMPLE_HEAD_SEQ (sampleSeq s : Nat) (handOnBy 0
      (setCores (fun c => { c with awaiting := c.awaiting ++ [(getNat s Obj.SAMPLES % 4096, sampleBytes s x)] }) s))) :=
  (if_neg (sample_taken hcore hen hruns)).trans (if_neg (Nat.not_le.2 hroom))

end samples

end Sys2Proof.Machine
end

section
namespace Sys2Proof.Machine

/-- Settles O50: each event by the rule of its case. -/
theorem coreEvents : Obligations.CoreEvents := by
  unfold Obligations.CoreEvents
  refine fun s hu => ⟨fun _ h => acts_of_ifUp rfl hu (if_pos h), fun work hd hm => nextWith_of_ifUp rfl hu rfl ?_,
    fun _ hm hr => acts_of_ifUp rfl hu (coreWatchdog_stalled hm hr), fun hm hr => acts_of_ifUp rfl hu (timeCoreWatchdog_stalled hm hr),
    fun _ h => acts_of_ifUp rfl hu (if_pos h),
    fun n m hne hn hm => acts_of_ifUp rfl hu (coreRestartDone_first m.isLt (fun e => hne (Fin.ext e)) hn hm),
    fun x hc he hr hf => acts_of_ifUp rfl hu (instrSample_dropped hc he hr hf),
    fun x hc he hr hf => nextWith_of_ifUp rfl hu (instrSample_awaits hc he hr hf) ⟨by simp only [settle_keeps]; rfl, ?_, ?_⟩⟩
  · have h := frameView_schedFrame work hd hm
    simp only [frameView, Prod.mk.injEq] at h
    simpa only [settle_keeps] using h
  · rw [getN_settle _ (by decide), bump_eq, getN_setN_same, getN_setN_ne _ _ (by decide)]
    rfl
  · exact frame_settle (keepsAll_bump (keepsAll_setN (keepsAll_replicas (keepsAll_cores (keepsAll_refl _ _ s) (by decide) _) (by decide) _)
      (by decide) _) (by decide))

end Sys2Proof.Machine
end


section
/-! SUPPORT. A READ by the tests it meets, what the agent answers for each kind of object, a WRITE by index, and the epochs of the journal
(R375–R378, R394–R396, R408, R409). -/
namespace Sys2Proof.Machine

section reads
variable {q : Req} {i j : Nat} {s s1 : State}

theorem readObject_unordered (hacc : (acceptFrame q.hdr q.sess s).1 = some s1) (hord : q.ordered = false) :
    readObject q i j s = tryRead q i j (acceptRequest q.sess s1) := by
  unfold readObject
  cases hframe : acceptFrame q.hdr q.sess s with
  | mk taken after =>
    rw [hframe] at hacc
    cases hacc
    exact if_neg fun h => absurd (hord.symm.trans h.1) (by decide)

variable (hagent : (objKind i j).mirrored = false)
include hagent

theorem tryRead_agent : tryRead q i j s =
    if tests1to9 q .read i j s = stOk then answerRead q i j false (agentCount s)
    else respond q 1 (tests1to9 q .read i j s) i j 1 0 [] (countBusy (tests1to9 q .read i j s) (agentCount s)) := by
  unfold tryRead
  rw [hagent, Bool.false_and]
  dsimp only
  rw [if_neg (fun h : tests1to9 q .read i j s = stUnitAbsent ∧ false = true => absurd h.2 (by decide))]
  rfl

/-- A READ that the agent answers: its tests pass. -/
theorem readObject_answered (hacc : (acceptFrame q.hdr q.sess s).1 = some s1) (hord : q.ordered = false)
    (htests : tests1to9 q .read i j (acceptRequest q.sess s1) = stOk) :
    readObject q i j s = answerRead q i j false (agentCount (acceptRequest q.sess s1)) := by
  rw [readObject_unordered hacc hord, tryRead_agent hagent, if_pos htests]

theorem readObject_refused (hacc : (acceptFrame q.hdr q.sess s).1 = some s1) (hord : q.ordered = false)
    (htests : tests1to9 q .read i j (acceptRequest q.sess s1) ≠ stOk) : readObject q i j s =
      respond q 1 (tests1to9 q .read i j (acceptRequest q.sess s1)) i j 1 0 []
        (countBusy (tests1to9 q .read i j (acceptRequest q.sess s1)) (agentCount (acceptRequest q.sess s1))) := by
  rw [readObject_unordered hacc hord, tryRead_agent hagent, if_neg htests]

end reads

section answers
variable {q : Req} {s : State}

/-- An object of one value is read whole. -/
theorem answerRead_value {i j : Nat} (hkind : (objKind i j).typ ≠ .dom) (hentries : i * 256 + j ≠ Obj.JOURNAL_ENTRIES)
    (hkey : i * 256 + j ≠ Obj.JOURNAL_KEY) (hchallenge : i * 256 + j ≠ Obj.LC_CHALLENGE) (hoff : q.offset = 0) :
    answerRead q i j false s = respond q 1 stOk i j 1 (readValue (if stampedRead (i * 256 + j) then handOnBy 0 s else s) i j).length
      (readValue (if stampedRead (i * 256 + j) then handOnBy 0 s else s) i j) (if stampedRead (i * 256 + j) then handOnBy 0 s else s) := by
  unfold answerRead
  dsimp only
  rw [if_neg hentries, if_neg hkey, if_pos hkind, if_neg (not_not.2 hoff), if_neg hchallenge]
  rfl

theorem answerRead_entries : answerRead q (Obj.JOURNAL_ENTRIES / 256) (Obj.JOURNAL_ENTRIES % 256) false s =
    respond q 1 (journalRead s q.offset).1 (Obj.JOURNAL_ENTRIES / 256) (Obj.JOURNAL_ENTRIES % 256)
      (if (journalRead s q.offset).2.2 then 1 else 0) (journalRead s q.offset).2.1.length (journalRead s q.offset).2.1 s := by
  unfold answerRead
  exact if_pos rfl

theorem answerRead_key : answerRead q (Obj.JOURNAL_KEY / 256) (Obj.JOURNAL_KEY % 256) false s =
    respond q 1 (keyRead s q.offset).1 (Obj.JOURNAL_KEY / 256) (Obj.JOURNAL_KEY % 256) 1 (keyRead s q.offset).2.length
      (keyRead s q.offset).2 s := by
  unfold answerRead
  exact (if_neg (by decide)).trans (if_pos rfl)

theorem keyRead_open {e : Nat} (h : s.journal.disclosed ≤ e) : keyRead s e = (stRange, []) := if_neg (Nat.not_lt.2 h)

theorem keyRead_closed {e : Nat} (h : e < s.journal.disclosed) : keyRead s e = (stOk, be 16 (epochKey (s.keys.root 3) e)) := if_pos h

end answers

/-- A WRITE by index acts as its object's rule says, and closes the sessions that it moves. -/
theorem writeObject_accepted {q : Req} {i j : Nat} {v : Val} {s s2 : State} (hkey : i * 256 + j ≠ Obj.UPD_STAGE_TRANSOM)
    (hnow : (ruleOf (i * 256 + j)).defer = none) (hacc : acceptedWrite q (i * 256 + j) (ruleOf (i * 256 + j)) s = some (v, s2)) :
    writeObject q i j s = closeMoved s (answer q .write (i * 256 + j) (ruleOf (i * 256 + j)).status (heldBytes s2 (i * 256 + j))
      (q.value.take q.valueLen) [] ((ruleOf (i * 256 + j)).eff v (storeVal (i * 256 + j) v s2))) := by
  unfold writeObject
  rw [if_neg hkey, (ownerWrite_accepted hacc hnow).2]
  rfl

/-- Closing the open epoch begins the next one and discloses the one closed. -/
theorem closeEpoch_discloses (s : State) :
    (closeEpoch s).journal.epoch = s.journal.epoch + 1 ∧ (closeEpoch s).journal.disclosed = s.journal.epoch + 1 :=
  ⟨rfl, rfl⟩

end Sys2Proof.Machine
end

section
namespace Sys2Proof.Machine

/-- Settles O46: each READ by its tests and its object, each WRITE by its rule, and the epochs by what is disclosed. -/
theorem reads : Obligations.Reads := by
  unfold Obligations.Reads
  refine ⟨fun s hu => ⟨?_, fun q i j s1 hacc hord htests hagent => acts_of_ifUp rfl hu (readObject_refused hagent hacc hord htests),
      fun q i j v s2 hkey hnow hacc => acts_of_ifUp rfl hu (writeObject_accepted hkey hnow hacc)⟩,
    fun s hu => ⟨fun q s1 hacc hord htests => acts_of_ifUp rfl hu ?_, fun q s1 hacc hord htests => acts_of_ifUp rfl hu ?_,
      fun q n => acts_of_ifUp rfl hu rfl, fun q n => acts_of_ifUp rfl hu rfl⟩,
    fun s => ⟨fun e h => keyRead_open h, fun e h => keyRead_closed h, (closeEpoch_discloses s).1, (closeEpoch_discloses s).2,
      fun hu hm hd => acts_of_ifUp rfl hu (if_pos ⟨hm, hd⟩), fun hu hd => acts_of_ifUp rfl hu (if_neg fun h => Nat.not_le.2 hd h.2),
      fun hu hm hd => acts_of_ifUp rfl hu (if_pos ⟨hm, hd⟩)⟩⟩
  · rintro q i j s1 u v hacc hord htests hkind hagent hentries hkey hchallenge hoff rfl rfl
    refine acts_of_ifUp rfl hu ?_
    rw [readObject_answered hagent hacc hord htests, answerRead_value hkind hentries hkey hchallenge hoff]
  · exact (readObject_answered (by decide) hacc hord htests).trans answerRead_entries
  · exact (readObject_answered (by decide) hacc hord htests).trans answerRead_key

end Sys2Proof.Machine
end


section
/-! SUPPORT. The closing of sessions and the store of keys leave the objects below theirs; the root, the DRBG, JTAG and the pair bond, one
rule for the case of each (R339–R355, R426). -/
namespace Sys2Proof.Machine

/-! ### The objects below those of Transom -/

section transom
variable {k : Nat} (hk : k < 0x9C0011)
include hk

theorem getN_of_replyFrame {s t : State} (h : ReplyFrame s t) : getN t k = getN s k := h.num k (Nat.ne_of_lt hk)

theorem getN_answerLate (q : Req) (op : ReqOp) (key st : Nat) (old new d : List Byte) (s : State) :
    getN (answerLate q op key st old new d s) k = getN s k :=
  (getN_of_replyFrame hk (answer_frame _ _ _ _ _ _ _ _)).trans rfl

theorem getN_refuseWaiting (n st : Nat) (s : State) : getN (refuseWaiting n st s) k = getN s k := by
  unfold refuseWaiting
  exact (foldl_leaves (fun t => getN t k) (fun a w => getN_answerLate hk _ _ _ _ _ _ _ a) _ _).trans
    (foldl_leaves (fun t => getN t k) (fun a w => getN_answerLate hk _ _ _ _ _ _ _ a) _ _)

theorem getN_notifyAll (e a : Nat) (s : State) : getN (notifyAll e a s) k = getN s k := by
  refine foldl_leaves (fun t => getN t k) (fun b i => ?_) _ s
  split
  · exact getN_of_replyFrame hk (notify_frame _ _ _ _ _ _)
  · rfl

theorem getN_latchChange (n : Nat) (o : Origin) (s : State) : getN (latchChange n o s) k = getN s k := by
  have hne {j : Nat} (hj : 0x9C0011 ≤ j) : j ≠ k := (Nat.lt_of_lt_of_le hk hj).ne'
  unfold latchChange
  split
  · rfl
  · dsimp only
    rw [getN_notifyAll hk, getN_refuseWaiting hk, bump_eq, getN_setN_ne _ _ (hne (by decide)), getN_journal,
      getN_setN_ne _ _ (hne (by decide)), getN_setN_ne _ _ (hne (by decide)), getN_setN_ne _ _ (hne (by decide))]
    rfl

theorem getN_closeSession (n reason : Nat) (s : State) : getN (closeSession n reason s) k = getN s k := by
  unfold closeSession
  dsimp only
  split
  · rfl
  · have hset (x : Session) (t : State) : getN (setSession n x t) k = getN t k := rfl
    have hlatch (f : Latch → Latch) (t : State) : getN (setLatch f t) k = getN t k := rfl
    have hgroups (g : List Group) (t : State) : getN { t with groups := g } k = getN t k := rfl
    have hdropped (t : State) : getN (dropWrites n t) k = getN t k := rfl
    have hsent (b : List Byte) (t : State) : getN (sendFrame 5 n true b t) k = getN t k := getN_of_replyFrame hk (replyFrame_sendFrame _ _ _ _ _)
    have hemit (o : Out) (t : State) : getN (emit o t) k = getN t k := rfl
    rw [hset, hlatch, hgroups, apply_ite (fun t => getN t k), getN_latchChange hk, hset, ite_self, hdropped,
      apply_ite (fun t => getN t k), hsent, hemit, ite_self, getN_journal]

theorem getN_closeUnusable (s : State) : getN (closeUnusable s) k = getN s k := by
  refine foldl_leaves (fun t => getN t k) (fun a i => ?_) _ s
  split
  · exact getN_closeSession hk _ _ a
  · rfl

end transom

/-! ### The objects below those of the slots -/

section slots
variable {k : Nat} (hk : k < 0x710001)
include hk

theorem getN_showSlot (n : Nat) (s : State) : getN (showSlot n s) k = getN s k := by
  have hheader : Obj.SLOT_HEADER n ≠ k := by simp only [Obj.SLOT_HEADER]; omega
  have hid : Obj.KEY_ID n ≠ k := by simp only [Obj.KEY_ID]; omega
  have hstate : Obj.SLOT_STATE n ≠ k := by simp only [Obj.SLOT_STATE]; omega
  have hblob (t : State) (b : List Byte) : getN (setB (Obj.PUBLIC_KEY n) b t) k = getN t k := rfl
  unfold showSlot
  split <;> rw [getN_setJ_ne _ _ hstate, hblob, getN_setN_ne _ _ hid, getN_setN_ne _ _ hheader]

theorem getN_putSlot (x : KeySlot) (s : State) : getN (putSlot x s) k = getN s k := getN_showSlot hk _ _

theorem getN_deriveKeys (hl : Obj.NTS_LINEAGE_ID ≠ k) (s : State) : getN (deriveKeys s) k = getN s k := by
  have hslots := foldl_leaves (fun t => getN t k) (fun a x => getN_putSlot hk x a) derivedSlots
    (setKeys (fun x => { x with ram := true, drbgReseed := s.now }) s)
  unfold deriveKeys
  generalize derivedSlots.foldl (fun a x => putSlot x a) (setKeys (fun x => { x with ram := true, drbgReseed := s.now }) s) = t at hslots ⊢
  exact (getN_setN_ne _ _ hl).trans hslots

/-- What the check of the slots finds shows in no object below theirs but those of the raises. -/
theorem getN_slotCheck_none (hr : k ∉ raiseKeys) (s : State) : getN (slotCheck [] s) k = getN s k := by
  have hclose : getN (closeUnusable s) k = getN s k := getN_closeUnusable (hk.trans (by decide)) s
  unfold slotCheck
  dsimp only
  split
  · rw [report_c4, getN_raise _ _ _ _ hr]
    exact hclose
  · exact hclose

end slots

/-! ### The root and the DRBG -/

section root
variable {s : State} {n ber : Nat} {bad : List Nat} (hmile : getN s Obj.START_MILESTONE = 2) (hhelper : s.keys.helper = true)
include hmile hhelper

theorem pufRegenerate_fails : pufRegenerate n false ber bad s =
    report 0x0300 4 {} (setN Obj.PUF_ATTEMPTS 3 (setN Obj.PUF_ATTEMPTS (min 3 (max 1 n) : Nat) s)) := by
  unfold pufRegenerate
  rw [if_neg (not_not.2 hmile), if_neg (by rw [hhelper]; decide), if_pos rfl]

/-- The root that is found again, with few errors: milestone 3 completes where the check of the slots leaves the module running. -/
theorem pufRegenerate_succeeds (hber : ber ≤ 1500) : ∃ t,
    t = slotCheck [] (deriveKeys (setN Obj.PUF_BER ber (setN Obj.PUF_ATTEMPTS (min 3 (max 1 n) : Nat) s))) ∧
    pufRegenerate n true ber [] s = if up t then complete 3 t else t := by
  refine ⟨_, rfl, ?_⟩
  unfold pufRegenerate
  rw [if_neg (not_not.2 hmile), if_neg (by rw [hhelper]; decide), if_neg (by decide)]
  dsimp only
  rw [if_neg (Nat.not_lt.2 hber)]
  rfl

end root

theorem getN_complete {k : Nat} (hk : Obj.START_MILESTONE ≠ k) (n : Nat) (s : State) : getN (complete n s) k = getN s k :=
  getN_setMax_ne _ _ hk

/-- The root's objects show what it was found with. -/
theorem getN_pufRegenerate {s : State} {n ber k : Nat} (hmile : getN s Obj.START_MILESTONE = 2) (hhelper : s.keys.helper = true)
    (hber : ber ≤ 1500) (hk : k < 0x710001) (hr : k ∉ raiseKeys) (hl : Obj.NTS_LINEAGE_ID ≠ k) :
    getN (pufRegenerate n true ber [] s) k = getN (setN Obj.PUF_BER ber (setN Obj.PUF_ATTEMPTS (min 3 (max 1 n) : Nat) s)) k := by
  obtain ⟨t, ht, hroot⟩ := pufRegenerate_succeeds (n := n) hmile hhelper hber
  have hkeys : getN t k = getN (setN Obj.PUF_BER ber (setN Obj.PUF_ATTEMPTS (min 3 (max 1 n) : Nat) s)) k := by
    rw [ht, getN_slotCheck_none hk hr, getN_deriveKeys hk hl]
  rw [hroot]
  split
  · rw [getN_complete (Nat.lt_of_lt_of_le hk (by decide)).ne', hkeys]
  · exact hkeys

section drbg
variable {s : State}

theorem periodicCheck_due (hdue : s.keys.checkTick + 60 * sT ≤ s.now) (hmile : milestone s 3 = true) (bad : List Nat) :
    periodicCheck bad s = slotCheck bad (setN Obj.KEY_CHECK_LAST (mts96 s) (setKeys (fun k => { k with checkTick := s.now }) s)) :=
  if_neg (not_or.2 ⟨Nat.not_lt.2 hdue, by rw [hmile]; decide⟩)

theorem drbgReseed_fails {f : Nat} (hruns : drbgDown s = false) (hf : f ≠ 0) : drbgReseed f s = report 0x0500 2 { detail := f } s := by
  unfold drbgReseed
  rw [if_neg (by rw [hruns]; decide), if_pos hf]

theorem drbgReseed_due (hruns : drbgDown s = false) (hdue : s.keys.drbgReseed + sT ≤ s.now ∨ 65536 ≤ s.keys.drbgRequests) :
    drbgReseed 0 s = setKeys (fun k => { k with drbgRequests := 0, drbgReseed := s.now }) s := by
  unfold drbgReseed
  rw [if_neg (by rw [hruns]; decide), if_neg (not_not.2 rfl), if_pos hdue]

theorem keys_endRestart (u : Nat) (s : State) : (endRestart u s).keys = s.keys :=
  foldl_leaves State.keys (fun a (r : Restart) => by simp only [setLive_keeps]) _ _

theorem drbgDone_down (hdown : drbgDown s = true) : drbgDone s = endRestart 0x0500 (setN Obj.DRBG_STATE 0
    (setKeys (fun k => { k with drbgRestart := none, drbgRequests := 0, drbgReseed := s.now, challenge := none }) s)) :=
  if_pos hdown

theorem drbgDone_runs (hruns : drbgDown s = false) : drbgDone s = s := if_neg (by rw [hruns]; decide)

end drbg

/-! ### JTAG and the pair bond -/

section jtag
variable {s : State}

theorem firstTck_seen (h : s.keys.tckSeen = true) : firstTck s = s := if_pos (.inl h)

theorem firstTck_provisioned (hnew : s.keys.tckSeen = false) (hlc : getN s Obj.LC_STATE = 1) : firstTck s =
    journal { kind := 7, key := Obj.FAULT_RECORD, new := be 2 0x0400 } (raise 0x0400 0 {} (setKeys (fun k => { k with tckSeen := true }) s)) :=
  if_neg (by rw [hnew, hlc]; decide)

theorem jtagTest_alive (b : Bool) (hlc : getN s Obj.LC_STATE ≤ 1) : jtagTest b s =
    setN Obj.REMAP_BIT (if b = false ∧ milestone s 5 then 1 else 0) (setKeys (fun k => { k with jtagTest := b }) s) :=
  if_neg (Int.not_lt.2 hlc)

variable {x : BondExchange} (hbond : s.keys.bond = some x)
include hbond

theorem bondTimeout_over (hnone : x.keyOk = false) (hover : x.began + 60 * sT ≤ s.now) : bondTimeout s = bondFail 1 s := by
  unfold bondTimeout
  rw [hbond]
  exact if_pos ⟨hnone, hover⟩

theorem bondTimeout_waits (h : x.keyOk = true ∨ s.now < x.began + 60 * sT) : bondTimeout s = s := by
  unfold bondTimeout
  rw [hbond]
  refine if_neg fun ⟨hnone, hover⟩ => ?_
  rcases h with hdone | hearly
  · exact absurd (hnone.symm.trans hdone) (by decide)
  · exact Nat.not_le.2 hearly hover

theorem lineageApply_due {t : Nat} (hfrom : x.applyFrom = some t) (hdue : (t + ms48 - 1) / ms48 * ms48 ≤ s.ts.mts) :
    lineageApply s = applyLineage 2 (setJ Obj.PAIR_BOND_STATE 2 (setKeys (fun k => { k with bond := none }) s)) := by
  unfold lineageApply
  rw [hbond]
  dsimp only
  rw [hfrom]
  exact if_pos hdue

end jtag

/-- A bond in force: the lineage is that of slot 2. -/
theorem applyLineage_bonded (s : State) (f : Keys → Keys) (hslots : (f s.keys).slots = s.keys.slots) (hbond : (f s.keys).bond = none) :
    let u := applyLineage 2 (setJ Obj.PAIR_BOND_STATE 2 (setKeys f s))
    getN u Obj.PAIR_BOND_STATE = 2 ∧ u.keys.lineage = 2 ∧ u.keys.bond = none ∧
      getN u Obj.NTS_LINEAGE_ID = (((slotOf s 2).map (·.keyId)).getD 0 % 65536 : Nat) := by
  have hslot : slotOf (setJ Obj.PAIR_BOND_STATE 2 (setKeys f s)) 2 = slotOf s 2 := by
    simp only [slotOf, setJ_keeps, setKeys, hslots]
  refine ⟨?_, rfl, ?_, ?_⟩
  · exact (getN_setN_ne _ _ (by decide)).trans (getN_setJ_same _ _ _)
  · show (setJ Obj.PAIR_BOND_STATE 2 (setKeys f s)).keys.bond = none
    simp only [setJ_keeps]
    exact hbond
  · refine (getN_setN_same _ _ _).trans ?_
    rw [hslot]

end Sys2Proof.Machine
end

section
namespace Sys2Proof.Machine

/-- Settles O37: each event by the rule of its case. -/
theorem keyEvents : Obligations.KeyEvents := by
  unfold Obligations.KeyEvents
  refine ⟨fun s hu => ⟨fun _ _ _ _ h => acts_of_ifUp rfl hu (if_pos h), fun _ _ _ hm hh => acts_of_ifUp rfl hu (pufRegenerate_fails hm hh),
      fun n ber hm hh hb _ => nextWith_of_ifUp rfl hu rfl ⟨?_, ?_⟩, fun _ h => acts_of_ifUp rfl hu (if_pos (.inl h)),
      fun hd hm => acts_of_ifUp rfl hu (periodicCheck_due hd hm []), fun _ hr hf => acts_of_ifUp rfl hu (drbgReseed_fails hr hf),
      fun hr hd => acts_of_ifUp rfl hu (drbgReseed_due hr hd), fun hd => nextWith_of_ifUp rfl hu (drbgDone_down hd) ⟨?_, ?_, ?_⟩,
      fun hr => acts_of_ifUp rfl hu (drbgDone_runs hr)⟩,
    fun s hu => ⟨fun h => acts_of_ifUp rfl hu (firstTck_seen h), fun hn hl => acts_of_ifUp rfl hu (firstTck_provisioned hn hl),
      fun _ h => acts_of_ifUp rfl hu (if_pos h),
      fun b hl => nextWith_of_ifUp rfl hu (jtagTest_alive b hl) ⟨?_, by simp only [settle_keeps]; rfl, ?_⟩,
      fun x hx hn ho => nextWith_of_ifUp rfl hu (bondTimeout_over hx hn ho) ⟨?_, ?_, ?_, ?_⟩,
      fun x hx h => acts_of_ifUp rfl hu (bondTimeout_waits hx h),
      fun x t hx ht hd hb => nextWith_of_ifUp rfl hu ((if_pos hb).trans (lineageApply_due hx ht hd)) ?_,
      fun hb => acts_of_ifUp rfl hu (if_neg (by rw [hb]; decide))⟩⟩
  · rw [getN_settle _ (by decide), getN_pufRegenerate hm hh hb (by decide) (by decide) (by decide), getN_setN_same]
  · rw [getN_settle _ (by decide), getN_pufRegenerate hm hh hb (by decide) (by decide) (by decide), getN_setN_ne _ _ (by decide),
      getN_setN_same]
  · rw [getN_settle _ (by decide), getN_endRestart, getN_setN_same]
  · simp only [settle_keeps, keys_endRestart]
    rfl
  · simp only [settle_keeps, keys_endRestart]
    rfl
  · rw [getN_settle _ (by decide), getN_setN_same]
  · exact frame_settle (keepsAll_setN (keepsAll_setKeys (keepsAll_refl _ _ s) (by decide) _) (by decide) _)
  · simp only [settle_keeps, bondFail, setN_keeps, setJ_keeps]
    rfl
  · rw [getN_settle _ (by decide), bondFail, getN_setN_ne _ _ (by decide), getN_setJ_same]
  · rw [getN_settle _ (by decide), bondFail, getN_setN_same]
    rfl
  · exact frame_settle (keepsAll_setN (keepsAll_setJ (keepsAll_setKeys (keepsAll_refl _ _ s) (by decide) _) (by decide) _) (by decide) _)
  · obtain ⟨hstate, hlineage, hbond, hid⟩ := applyLineage_bonded s (fun k => { k with bond := none }) rfl rfl
    refine ⟨?_, ?_, ?_, ?_⟩
    · rw [getN_settle _ (by decide)]
      exact hstate
    · simpa only [settle_keeps] using hlineage
    · simpa only [settle_keeps] using hbond
    · rw [getN_settle _ (by decide)]
      exact hid

end Sys2Proof.Machine
end


section
/-! SUPPORT. The tamper monitor: an alarm as it is counted, by the source's watch, and what the loss of the keep supply leaves (R357,
R360, R371, R489). -/
namespace Sys2Proof.Machine

theorem tamperLive_stored (src : Fin 8) : Obj.TAMPER_LIVE src ∉ derivedKeys := by
  revert src
  decide

theorem tamperEvents_stored (src : Fin 8) : Obj.TAMPER_EVENTS src ∉ derivedKeys := by
  revert src
  decide

section alarms
variable {s : State} {src : Fin 8} {keep : Nat}

/-- The state in which a source that was quiet has alarmed and is counted. -/
def alarmCounted (src keep : Nat) (s : State) : State :=
  bump (Obj.TAMPER_EVENTS src) (setN (Obj.TAMPER_LIVE src) 1 (keepAdvance keep s))

theorem getN_alarmCounted {k : Nat} (hevents : Obj.TAMPER_EVENTS src ≠ k) (hlive : Obj.TAMPER_LIVE src ≠ k) (hcount : Obj.KEEP_COUNT ≠ k) :
    getN (alarmCounted src keep s) k = getN s k := by
  rw [alarmCounted, bump_eq, getN_setN_ne _ _ hevents, getN_setN_ne _ _ hlive, getN_keepAdvance _ _ hcount]

theorem milestone_alarmCounted (n : Nat) : milestone (alarmCounted src keep s) n = milestone s n := by
  have hnat : getNat (alarmCounted src keep s) Obj.START_MILESTONE = getNat s Obj.START_MILESTONE :=
    congrArg Int.toNat (getN_alarmCounted (by revert src; decide) (by revert src; decide) (by decide))
  rw [milestone, milestone, hnat]

theorem live_alarmCounted : getN (alarmCounted src keep s) (Obj.TAMPER_LIVE src) = 1 := by
  rw [alarmCounted, bump_eq, getN_setN_ne _ _ (by revert src; decide), getN_setN_same]

theorem events_alarmCounted : getN (alarmCounted src keep s) (Obj.TAMPER_EVENTS src) =
    (getN s (Obj.TAMPER_EVENTS src) + 1) % counterMod (Obj.TAMPER_EVENTS src) := by
  rw [alarmCounted, bump_eq, getN_setN_same, getN_setN_ne _ _ (by revert src; decide), getN_keepAdvance _ _ (by revert src; decide)]

theorem watched_alarmCounted : (getNat (alarmCounted src keep s) Obj.TAMPER_ENABLE).testBit src = (getNat s Obj.TAMPER_ENABLE).testBit src := by
  rw [getNat, getN_alarmCounted (by revert src; decide) (by revert src; decide) (by decide), getNat]

theorem tamperAlarm_live (hlive : getN s (Obj.TAMPER_LIVE src) = 1) :
    tamperAlarm src keep s = setN (Obj.TAMPER_LIVE src) 1 (keepAdvance keep s) :=
  if_pos hlive

variable (hquiet : getN s (Obj.TAMPER_LIVE src) ≠ 1)
include hquiet

theorem tamperAlarm_quiet : tamperAlarm src keep s =
    match tamperContext (alarmCounted src keep s) with
    | some c => if tamperWatches (alarmCounted src keep s) src then tamperTake src c (alarmCounted src keep s) else alarmCounted src keep s
    | none => alarmCounted src keep s :=
  if_neg hquiet

/-- A source that is not watched is counted and acts on nothing. -/
theorem tamperAlarm_unwatched (hoff : (getNat s Obj.TAMPER_ENABLE).testBit src = false) :
    tamperAlarm src keep s = alarmCounted src keep s := by
  have hwatch : tamperWatches (alarmCounted src keep s) src = false := by rw [tamperWatches, watched_alarmCounted, hoff, Bool.false_and]
  rw [tamperAlarm_quiet hquiet]
  split
  · rw [hwatch]
    rfl
  · rfl

/-- In service a watched source acts in context 0. -/
theorem tamperAlarm_service (hrun : s.mode = .running) (hmile : milestone s 6 = true)
    (hon : (getNat s Obj.TAMPER_ENABLE).testBit src = true) (hvolt : src ≠ 5) :
    tamperAlarm src keep s = tamperTake src 0 (alarmCounted src keep s) := by
  have hmode : (alarmCounted src keep s).mode = .running := hrun
  have hcontext : tamperContext (alarmCounted src keep s) = some 0 := by
    rw [tamperContext, hmode, milestone_alarmCounted, hmile]
    rfl
  have hwatch : tamperWatches (alarmCounted src keep s) src = true := by
    have hother : decide ((src : Nat) ≠ 5) = true := decide_eq_true fun e => hvolt (Fin.ext e)
    rw [tamperWatches, watched_alarmCounted, hon, hother]
    rfl
  rw [tamperAlarm_quiet hquiet, hcontext]
  exact if_pos hwatch

end alarms

section keep
variable {s : State}

theorem keepArm_armed (h : s.keep.voltArmed = true) : keepArm s = s := if_pos (.inl h)

theorem keepArm_arms (hnew : s.keep.voltArmed = false) (hdue : up s = false ∨ s.keep.poweredAt + 10 * msT ≤ s.now)
    (hquiet : getN s (Obj.TAMPER_LIVE 5) ≠ 1) : keepArm s = { s with keep := { s.keep with voltArmed := true } } := by
  have harms : ¬ (s.keep.voltArmed = true ∨ (up s = true ∧ s.now < s.keep.poweredAt + 10 * msT)) := by
    rw [hnew]
    rcases hdue with hdown | hover
    · simp [hdown]
    · exact not_or.2 ⟨by decide, fun h => Nat.not_lt.2 hover h.2⟩
  unfold keepArm
  rw [if_neg harms]
  exact if_neg fun h => hquiet h.1

/-- Slots that a list of zeroizes leaves. -/
theorem slots_zeroizeAll (l : List Nat) (s : State) : (zeroizeAll l s).keys.slots = s.keys.slots.filter (fun k => k.id ∉ l) := by
  unfold zeroizeAll
  induction l generalizing s with
  | nil => simp
  | cons n l ih =>
    rw [List.foldl_cons, ih, slots_zeroize, List.filter_filter]
    refine List.filter_congr fun k _ => ?_
    simp [Bool.and_comm]

/-- No keep-mode slot is left once they are zeroized. -/
theorem keepSlots_zeroized {k : KeySlot} (h : k ∈ (zeroizeAll (keepSlots s) s).keys.slots) : k.id < 248 := by
  rw [slots_zeroizeAll] at h
  obtain ⟨hslot, hleft⟩ := List.mem_filter.1 h
  refine Nat.lt_of_not_le fun hkeep => of_decide_eq_true hleft ?_
  exact List.mem_map.2 ⟨k, List.mem_filter.2 ⟨hslot, decide_eq_true hkeep⟩, rfl⟩

theorem keepLost_running (h : s.mode = .running) : keepLost s = s := if_pos (by rw [h]; decide)

theorem keepLost_unpowered (h : s.mode = .unpowered) : keepLost s =
    setN Obj.KEEP_VALID 0 (setN Obj.KEEP_COUNT 0 { zeroizeAll (keepSlots s) s with keep := {}, tamper := {} }) :=
  if_neg fun hpowered => hpowered.1 h

end keep

end Sys2Proof.Machine
end

section
namespace Sys2Proof.Machine

/-- Settles O38: each event by the rule of its case. -/
theorem tamperEvents : Obligations.TamperEvents := by
  unfold Obligations.TamperEvents
  refine fun s src => ⟨fun keep hl => congrArg finish (tamperAlarm_live hl),
    fun keep _ hq ho => nextWith_finish (congrArg finish (tamperAlarm_unwatched hq ho)) ⟨?_, ?_, ?_, ?_, ?_⟩,
    fun keep hr hm hq ho hv => congrArg finish (tamperAlarm_service hq hr hm ho hv),
    nextWith_finish rfl ⟨?_, ?_, ?_⟩, fun ha => congrArg finish (keepArm_armed ha),
    fun hn hd hq => congrArg finish (keepArm_arms hn hd hq), fun hr => congrArg finish (keepLost_running hr),
    fun hu => nextWith_finish (congrArg finish (keepLost_unpowered hu)) ⟨?_, ?_, ?_, ?_, fun k hk => ?_⟩⟩
  · rw [getN_settle _ (tamperLive_stored src), live_alarmCounted]
  · rw [getN_settle _ (tamperEvents_stored src), events_alarmCounted]
  · simp only [settle_keeps]
    rfl
  · simp only [settle_keeps]
    rfl
  · simp only [settle_keeps]
    rfl
  · rw [getN_settle _ (tamperLive_stored src), getN_setLive, getN_setN_same]
  · simp only [settle_keeps, setLive_keeps]
    rfl
  · simp only [settle_keeps, setLive_keeps]
    rfl
  · rw [getN_settle _ (by decide), getN_setN_same]
  · rw [getN_settle _ (by decide), getN_setN_ne _ _ (by decide), getN_setN_same]
  · simp only [settle_keeps]
    rfl
  · simp only [settle_keeps]
    rfl
  · simp only [settle_keeps] at hk
    exact keepSlots_zeroized hk

end Sys2Proof.Machine
end


section
/-! SUPPORT. A start of the module: what outlives it and what it begins with; the supplies, the reset and the rails (R487–R494). -/
namespace Sys2Proof.Machine

/-! ### What outlives a start -/

/-- A filter on keys leaves the lookup of a key it passes, and none of another. -/
theorem lookupKV_filter_key {α : Type} (f : Nat → Bool) (k : Nat) (l : List (Nat × α)) :
    lookupKV k (l.filter (fun p => f p.1)) = if f k then lookupKV k l else none := by
  induction l with
  | nil => simp [lookupKV]
  | cons p l ih =>
    obtain ⟨j, v⟩ := p
    by_cases hj : j = k
    · subst hj
      by_cases hf : f j = true <;> simp [List.filter, hf, lookupKV, ih]
    · by_cases hf : f j = true <;> simp [List.filter, hf, lookupKV, ih, hj]

/-- A start in which no trial of an update is under way: what it shows before the tamper monitor speaks. -/
def startShown (cause : Nat) (b : State) : State :=
  let s2 := b |> setN Obj.START_CAUSE cause |> setN (Obj.APLL_STATE 0) 2 |> complete 1 |> complete 2
  if getN s2 Obj.PAIR_BOND_STATE = 2 then s2 else setN Obj.PAIR_BOND_STATE 0 s2

/-- The trial's part of a start. -/
def startTried (s3 : State) : State :=
  let s4 := if (s3.update.trial.map (·.starts)).getD 0 < 3 then s3 else trialFail s3
  let s5 := if s4.update.trial.isSome then setN Obj.UPD_STATE 5 (setN Obj.UPD_TRIAL_LEFT (getN s4 Obj.UPD_TRIAL) s4) else s4
  tamperStart s5

/-- What a start keeps of the state before it, and what is as at reset. -/
structure Born (s b : State) : Prop where
  variant : b.variant = s.variant
  nums : b.nums = s.nums.filter (fun p => outlives p.1)
  mode : b.mode = .running
  now : b.now = 0
  groups : b.groups = []
  sessions : b.sessions.all (fun x => decide (x.state = 0)) = true
  nor : b.nor = s.nor
  resetLow : b.power.resetLow = s.power.resetLow
  trial : s.update.trial = none → b.update.trial = none

theorem startUp_born (cause : Nat) (s : State) : ∃ b, startUp cause s = startTried (startShown cause b) ∧ Born s b :=
  ⟨_, rfl, rfl, rfl, rfl, rfl, rfl, rfl, rfl, rfl, fun h => by rw [h]; rfl⟩

/-! ### What a start shows -/

/-- A hold marker leads to TAMPER_REVIEW. -/
def reviewMarked (s : State) : State := if s.nor.holdMarker ∨ s.tamper.keepHold then setN Obj.TAMPER_STATE 1 s else s

/-- t is s but for its number objects and the instants of its milestones. -/
def Shows (s t : State) : Prop := ∃ n m, t = { s with nums := n, power := { s.power with milestones := m } }

theorem shows_setN {s t : State} (h : Shows s t) (k : Nat) (v : Int) : Shows s (setN k v t) := by
  obtain ⟨n, m, rfl⟩ := h
  exact ⟨_, m, rfl⟩

theorem shows_complete {s t : State} (h : Shows s t) (k : Nat) : Shows s (complete k t) := by
  obtain ⟨n, m, rfl⟩ := h
  unfold complete setMax
  split
  · exact ⟨_, _, rfl⟩
  · exact ⟨_, _, rfl⟩

theorem shows_startShown (cause : Nat) (b : State) : Shows b (startShown cause b) := by
  have hdone : Shows b (complete 2 (complete 1 (setN (Obj.APLL_STATE 0) 2 (setN Obj.START_CAUSE cause b)))) :=
    shows_complete (shows_complete (shows_setN (shows_setN ⟨b.nums, b.power.milestones, rfl⟩ _ _) _ _) 1) 2
  unfold startShown
  dsimp only
  split
  · exact hdone
  · exact shows_setN hdone _ _

theorem shows_reviewMarked {s t : State} (h : Shows s t) : Shows s (reviewMarked t) := by
  unfold reviewMarked
  split
  · exact shows_setN h _ _
  · exact h

section shown
variable (cause : Nat) (b : State)

/-- The state of `startShown` before the bond's state is shown. -/
def startCounted (cause : Nat) (b : State) : State :=
  complete 2 (complete 1 (setN (Obj.APLL_STATE 0) 2 (setN Obj.START_CAUSE cause b)))

theorem getN_startShown {k : Nat} (hbond : Obj.PAIR_BOND_STATE ≠ k) : getN (startShown cause b) k = getN (startCounted cause b) k := by
  unfold startShown
  dsimp only
  rw [apply_ite (fun t => getN t k), getN_setN_ne _ _ hbond, ite_self]
  rfl

theorem getN_startCounted {k : Nat} (hmile : Obj.START_MILESTONE ≠ k) :
    getN (startCounted cause b) k = getN (setN (Obj.APLL_STATE 0) 2 (setN Obj.START_CAUSE cause b)) k := by
  rw [startCounted, getN_complete hmile, getN_complete hmile]

theorem cause_startShown : getN (startShown cause b) Obj.START_CAUSE = cause := by
  rw [getN_startShown _ _ (by decide), getN_startCounted _ _ (by decide), getN_setN_ne _ _ (by decide), getN_setN_same]

theorem live_startShown (n : Fin 8) : getN (startShown cause b) (Obj.TAMPER_LIVE n) = getN b (Obj.TAMPER_LIVE n) := by
  rw [getN_startShown _ _ (by revert n; decide), getN_startCounted _ _ (by revert n; decide), getN_setN_ne _ _ (by revert n; decide),
    getN_setN_ne _ _ (by revert n; decide)]

/-- Two milestones of a state that has none. -/
theorem milestone_startShown (hnone : getN b Obj.START_MILESTONE = 0) : getN (startShown cause b) Obj.START_MILESTONE = 2 := by
  have hcomplete (n : Nat) (t : State) : getN (complete n t) Obj.START_MILESTONE = max (getN t Obj.START_MILESTONE) n :=
    getN_setMax_same _ _ _
  rw [getN_startShown _ _ (by decide), startCounted, hcomplete, hcomplete, getN_setN_ne _ _ (by decide), getN_setN_ne _ _ (by decide), hnone]
  rfl

end shown

theorem milestone_default (v : Variant) : dfltNum v Obj.START_MILESTONE = 0 := by cases v <;> rfl

section born
variable {s b : State} (h : Born s b)
include h

theorem getN_born_outlives {k : Nat} (hk : outlives k = true) : getN b k = getN s k := by
  rw [getN, getN, h.nums, h.variant, lookupKV_filter_key, if_pos hk]

theorem milestone_born : getN b Obj.START_MILESTONE = 0 := by
  rw [getN, h.nums, lookupKV_filter_key, if_neg (by decide)]
  exact milestone_default b.variant

end born

/-! ### A start without a trial and without an alarm -/

theorem startTried_none {t : State} (h : t.update.trial = none) : startTried t = tamperStart t := by
  have hstarts : (t.update.trial.map (·.starts)).getD 0 < 3 := by rw [h]; decide
  unfold startTried
  dsimp only
  rw [if_pos hstarts, if_neg (by rw [h]; decide)]

theorem tamperStart_quiet {t : State} (h : ∀ n, n < 8 → getN t (Obj.TAMPER_LIVE n) ≠ 1) : tamperStart t = reviewMarked t := by
  have hsilent : (List.range 8).find? (fun n => tamperWatches t n && decide (getN t (Obj.TAMPER_LIVE n) = 1)) = none := by
    refine List.find?_eq_none.2 fun n hn => ?_
    rw [decide_eq_false (h n (List.mem_range.1 hn)), Bool.and_false]
    decide
  unfold tamperStart
  rw [hsilent]
  rfl

section start
variable {s : State} (htrial : s.update.trial = none) (hquiet : ∀ n, n < 8 → getN s (Obj.TAMPER_LIVE n) ≠ 1) (cause : Nat)
include htrial hquiet

theorem startUp_quiet : ∃ b, startUp cause s = reviewMarked (startShown cause b) ∧ Born s b := by
  obtain ⟨b, hstart, hborn⟩ := startUp_born cause s
  refine ⟨b, ?_, hborn⟩
  have hnone : (startShown cause b).update.trial = none := by
    obtain ⟨n, m, hshown⟩ := shows_startShown cause b
    rw [hshown]
    exact hborn.trial htrial
  rw [hstart, startTried_none hnone]
  refine tamperStart_quiet fun n hn => ?_
  rw [live_startShown cause b ⟨n, hn⟩, getN_born_outlives hborn ((by decide : ∀ n : Fin 8, outlives (Obj.TAMPER_LIVE n) = true) ⟨n, hn⟩)]
  exact hquiet n hn

/-- What a start leaves of the state before it, and the objects that tell it. -/
theorem startUp_starts : ∃ b, Shows b (startUp cause s) ∧ Born s b ∧ getN (startUp cause s) Obj.START_CAUSE = cause ∧
    getN (startUp cause s) Obj.START_MILESTONE = 2 := by
  obtain ⟨b, hstart, hborn⟩ := startUp_quiet htrial hquiet cause
  have hreview {k : Nat} (hk : Obj.TAMPER_STATE ≠ k) (t : State) : getN (reviewMarked t) k = getN t k := by
    rw [reviewMarked, apply_ite (fun t => getN t k), getN_setN_ne _ _ hk, ite_self]
  rw [hstart]
  exact ⟨b, shows_reviewMarked (shows_startShown cause b), hborn, by rw [hreview (by decide), cause_startShown],
    by rw [hreview (by decide), milestone_startShown _ _ (milestone_born hborn)]⟩

end start

/-- The facts of a start that a statement asks of the settled state. -/
structure Started (cause : Nat) (s t : State) : Prop where
  mode : t.mode = .running
  now : t.now = 0
  variant : t.variant = s.variant
  groups : t.groups = []
  sessions : t.sessions.all (fun x => decide (x.state = 0)) = true
  nor : t.nor = s.nor
  resetLow : t.power.resetLow = s.power.resetLow
  startCause : getN t Obj.START_CAUSE = cause
  milestone : getN t Obj.START_MILESTONE = 2

theorem startUp_started {s : State} (htrial : s.update.trial = none) (hquiet : ∀ n, n < 8 → getN s (Obj.TAMPER_LIVE n) ≠ 1) (cause : Nat) :
    Started cause s (startUp cause s) := by
  obtain ⟨b, ⟨n, m, hshape⟩, hborn, hcause, hmile⟩ := startUp_starts htrial hquiet cause
  rw [hshape] at hcause hmile ⊢
  exact ⟨hborn.mode, hborn.now, hborn.variant, hborn.groups, hborn.sessions, hborn.nor, hborn.resetLow, hcause, hmile⟩

theorem started_setN {cause : Nat} {s t : State} (h : Started cause s t) {k : Nat} (hcause : k ≠ Obj.START_CAUSE)
    (hmile : k ≠ Obj.START_MILESTONE) (v : Int) : Started cause s (setN k v t) :=
  { h with
    startCause := (getN_setN_ne _ _ hcause).trans h.startCause
    milestone := (getN_setN_ne _ _ hmile).trans h.milestone }

theorem started_settle {cause : Nat} {s t : State} (h : Started cause s t) : Started cause s (settle t) := by
  obtain ⟨hmode, hnow, hvariant, hgroups, hsessions, hnor, hreset, hcause, hmile⟩ := h
  refine ⟨?_, ?_, ?_, ?_, ?_, ?_, ?_, (getN_settle t (by decide)).trans hcause, (getN_settle t (by decide)).trans hmile⟩
  all_goals simpa only [settle_keeps]

theorem live_keepAdvance {s : State} (hquiet : ∀ n, n < 8 → getN s (Obj.TAMPER_LIVE n) ≠ 1) (keep n : Nat) (hn : n < 8) :
    getN (keepAdvance keep s) (Obj.TAMPER_LIVE n) ≠ 1 := by
  rw [getN_keepAdvance _ _ (by simp only [Obj.KEEP_COUNT, Obj.TAMPER_LIVE, ne_eq]; omega)]
  exact hquiet n hn

/-! ### Supplies and reset -/

section supplies
variable {s : State} {vin keep : Nat}

theorem vinValid_starts (hlow : 6000 ≤ vin) (hhigh : vin ≤ 40000) (hreset : s.power.resetLow = false)
    (hmode : s.mode = .unpowered ∨ s.mode = .pastS4) : vinValid vin keep s = setN Obj.VIN_NOW vin (startUp 0 (keepAdvance keep s)) := by
  have hstarts : ¬ (vin < 6000 ∨ 40000 < vin ∨ s.power.resetLow = true ∨ (s.mode ≠ .unpowered ∧ s.mode ≠ .pastS4)) := by
    rw [hreset]
    rcases hmode with h | h <;> simp [h, hlow, hhigh]
  unfold vinValid
  rw [if_neg hstarts, Nat.min_eq_left (hhigh.trans (by decide))]

theorem vinValid_waits (h : vin < 6000 ∨ 40000 < vin ∨ s.power.resetLow = true) : vinValid vin keep s = s :=
  if_pos (h.imp_right (Or.imp_right Or.inl))

/-- Half a microsecond is no reset. -/
theorem resetAssert_short {ns : Nat} (taken : Bool) (h : ns < 500) : resetAssert ns taken s = s := if_pos (.inl h)

theorem resetAssert_running {ns : Nat} (taken : Bool) (hrun : s.mode = .running) (h : 1000 ≤ ns) :
    resetAssert ns taken s = goAbsent .resetHeld (finalKeep (setPower (fun p => { p with resetLow := true }) s)) := by
  have hlong : ¬ (ns < 500 ∨ (ns < 1000 ∧ taken = false)) :=
    not_or.2 ⟨Nat.not_lt.2 (Nat.le_trans (by decide) h), fun hshort => Nat.not_lt.2 h hshort.1⟩
  unfold resetAssert
  rw [if_neg hlong]
  exact if_pos hrun

theorem finalKeep_leaves (s : State) : (finalKeep s).power = s.power ∧ (finalKeep s).keys = s.keys := by
  unfold finalKeep
  split
  · exact ⟨rfl, rfl⟩
  · unfold writeKeep
    split <;> exact ⟨rfl, rfl⟩

theorem resetRelease_running (hrun : s.mode = .running) : resetRelease keep s = setPower (fun p => { p with resetLow := false }) s :=
  if_neg (by rw [hrun]; decide)

theorem resetRelease_held (hheld : s.mode = .resetHeld) : resetRelease keep s =
    startUp 1 { keepAdvance keep (setPower (fun p => { p with resetLow := false }) s) with nor := { s.nor with cleanStop := false } } :=
  if_pos hheld

theorem overVoltageStop_within (h : vin ≤ 41000) : overVoltageStop vin s = s := if_pos (.inl h)

theorem overVoltageStop_over (h : 41000 < vin) (hrun : s.mode = .running) :
    overVoltageStop vin s = goAbsent .overVoltage (report 0x0100 1 {} (setN Obj.VIN_NOW (min vin 65535 : Nat) s)) :=
  if_neg (not_or.2 ⟨Nat.not_le.2 h, fun hstopped => hstopped.1 hrun⟩)

theorem overVoltageRestart_starts (hmode : s.mode = .overVoltage) (hlow : 6000 ≤ vin) (hhigh : vin ≤ 40000)
    (hreset : s.power.resetLow = false) : overVoltageRestart vin keep s =
      setN Obj.VIN_NOW vin (startUp 0 { keepAdvance keep s with nor := { s.nor with cleanStop := false } }) := by
  unfold overVoltageRestart
  rw [if_neg (by simp [hmode, hlow, hhigh, hreset])]

theorem powerStop_holds (h : 4000 ≤ vin) : powerStop vin s = s := if_pos h

theorem powerStop_stops (h : vin < 4000) : powerStop vin s =
    setPower (fun p => { p with vinPresent := false, ddrOn := false, closed := 0 }) (setN Obj.VIN_NOW vin (goAbsent .unpowered s)) :=
  if_neg (Nat.not_le.2 h)

end supplies

section rails
variable {s : State} {r : Fin 8} (mv : Nat)

theorem railFault_vin : railFault 0 mv s = s := by
  unfold railFault
  exact if_pos (.inl rfl)

theorem railFault_plain (h0 : r.val ≠ 0) (h1 : r.val ≠ 1) (h5 : r.val ≠ 5) :
    railFault r mv s = report (0x0100 + r) 4 {} (setN (Obj.RAIL_MV r) (min mv 65535 : Nat) s) := by
  unfold railFault
  dsimp only
  rw [if_neg (not_or.2 ⟨h0, fun h => h5 h.1⟩), if_neg h1, if_neg h5]

/-- A supply monitor of a rail that every variant has. -/
theorem srcInfo_rail (v : Variant) (h5 : r.val ≠ 5) : srcInfo v (0x0100 + r) = some { stickyOnly := true, present := true } := by
  have hrow : (0x0100 + (r : Nat)) / 256 = 1 := by omega
  have hcol : (0x0100 + (r : Nat)) % 256 = r := by omega
  have h8 : (r : Nat) < 8 := r.isLt
  simp [srcInfo, hrow, hcol, h5, h8]

theorem mode_railFault (hu : up s = true) (h0 : r.val ≠ 0) (h1 : r.val ≠ 1) (h5 : r.val ≠ 5) : (railFault r mv s).mode = .safe := by
  rw [railFault_plain mv h0 h1 h5, report_eq_raiseWith (.inl (by decide)),
    raiseWith_sticks _ (srcInfo_rail _ h5) (raises_guard (s := setN (Obj.RAIL_MV r) (min mv 65535 : Nat) s) hu rfl) _ (by decide) rfl,
    if_pos rfl]
  rfl

theorem getN_railFault (h0 : r.val ≠ 0) (h1 : r.val ≠ 1) (h5 : r.val ≠ 5) :
    getN (railFault r mv s) (Obj.RAIL_MV r) = (min mv 65535 : Nat) := by
  rw [railFault_plain mv h0 h1 h5, report_c4, getN_raise _ _ _ _ (by revert r; decide), getN_setN_same]

end rails

end Sys2Proof.Machine
end

section
namespace Sys2Proof.Machine

/-- Settles O57: each event by the rule of its case, and each start by what outlives it. -/
theorem powerEvents : Obligations.PowerEvents := by
  unfold Obligations.PowerEvents
  refine fun s => ⟨fun _ _ h => congrArg finish (vinValid_waits h), fun vin keep hl hh hr hm ht hq => ?_,
    fun _ taken h => congrArg finish (resetAssert_short taken h), fun ns taken hrun hlong => ?_,
    fun _ hrun => congrArg finish (resetRelease_running hrun), fun keep hm ht hq => ?_,
    fun _ h => congrArg finish (overVoltageStop_within h),
    fun vin hv hrun => nextWith_finish (congrArg finish (overVoltageStop_over hv hrun)) ⟨?_, ?_, ?_⟩, fun vin keep hm hl hh hr ht hq => ?_,
    fun mv hu => acts_of_ifUp rfl hu (railFault_vin mv), fun r mv hu h0 h1 h5 => nextWith_of_ifUp rfl hu rfl ⟨?_, ?_⟩,
    fun _ h => congrArg finish (powerStop_holds h), fun vin hv => nextWith_finish (congrArg finish (powerStop_stops hv)) ⟨?_, ?_, ?_, ?_, ?_⟩⟩
  · have hstart := started_settle (started_setN (startUp_started (s := keepAdvance keep s) ht (live_keepAdvance hq keep) 0)
      (k := Obj.VIN_NOW) (by decide) (by decide) vin)
    refine nextWith_finish (congrArg finish (vinValid_starts hl hh hr hm)) ⟨hstart.mode, hstart.startCause, hstart.milestone, ?_,
      hstart.now, hstart.sessions, hstart.groups, hstart.variant⟩
    rw [getN_settle _ (by decide), getN_setN_same]
  · obtain ⟨hpower, hkeys⟩ := finalKeep_leaves (setPower (fun p => { p with resetLow := true }) s)
    refine nextWith_finish (congrArg finish (resetAssert_running taken hrun hlong)) ⟨?_, ?_, ?_, ?_⟩
    · simp only [settle_keeps]
      rfl
    · simp only [settle_keeps, goAbsent, hpower]
      rfl
    · simp only [settle_keeps]
      rfl
    · simp only [settle_keeps]
      exact hkeys
  · have hstart := started_settle (startUp_started (s := { keepAdvance keep (setPower (fun p => { p with resetLow := false }) s) with
      nor := { s.nor with cleanStop := false } }) ht (live_keepAdvance hq keep) 1)
    refine nextWith_finish (congrArg finish (resetRelease_held hm)) ⟨hstart.mode, hstart.startCause, hstart.milestone, ?_, ?_⟩
    · rw [hstart.nor]
    · rw [hstart.resetLow]
      rfl
  · simp only [settle_keeps]
    rfl
  · simp only [settle_keeps]
    rfl
  · simp only [settle_keeps]
    rfl
  · have hstart := started_settle (started_setN (startUp_started (s := { keepAdvance keep s with nor := { s.nor with cleanStop := false } })
      ht (live_keepAdvance hq keep) 0) (k := Obj.VIN_NOW) (by decide) (by decide) vin)
    refine nextWith_finish (congrArg finish (overVoltageRestart_starts hm hl hh hr)) ⟨hstart.mode, hstart.startCause, ?_, ?_⟩
    · rw [getN_settle _ (by decide), getN_setN_same]
    · rw [hstart.nor]
  · simp only [settle_keeps, mode_railFault mv hu h0 h1 h5]
  · rw [getN_settle _ (by revert r; decide), getN_railFault mv h0 h1 h5]
  · simp only [settle_keeps]
    rfl
  · rw [getN_settle _ (by decide)]
    exact getN_setN_same _ _ _
  · simp only [settle_keeps]
    rfl
  · simp only [settle_keeps]
    rfl
  · simp only [settle_keeps]
    rfl

end Sys2Proof.Machine
end


section
/-! SUPPORT. Updates: the card and its read, the tests of a staged image, an install, an activation, the end of a trial and a segment
(R503–R516). -/
namespace Sys2Proof.Machine

section running
variable {c : Instr} {f : State → State} {s u : State} (hu : up s = true)
include hu

/-- An event of the update unit in a module that runs. -/
theorem ifUpdate_up : ifUpdate f s = f s := if_pos (by rw [hu]; rfl)

theorem acts_of_ifUpdate (hc : exec c s = finish (ifUpdate f s)) (h : f s = u) : acts c s u := by
  rw [acts, hc, ifUpdate_up hu, h, finish]

theorem nextWith_of_ifUpdate {P : State → Prop} (hc : exec c s = finish (ifUpdate f s)) (h : f s = u) (hP : P (settle u)) :
    nextWith (exec c s) P :=
  nextWith_finish (x := u) (by rw [hc, ifUpdate_up hu, h]) hP

theorem mode_up : s.mode ≠ .recovery := by
  have hrun : s.mode = .running := of_decide_eq_true hu
  rw [hrun]
  decide

end running

/-! ### The card -/

section card
variable {s : State} {t0 : Nat} (hread : s.update.sdSince = some t0)
include hread

theorem sdDone_image (b : List Byte) : sdDone (.image b) s = setN (Obj.STAGE_STATE 0) 2
    (setUpd (fun u => { u with staged := u.staged.set 0 b }) (setUpd (fun u => { u with sdSince := none }) s)) :=
  if_neg (by rw [hread]; exact Bool.false_ne_true)

theorem sdDone_noFile : sdDone .noFile s =
    report 0x3900 1 { detail := 2 } (bump Obj.SD_READ_ERR (emptySlot 0 (setUpd (fun u => { u with sdSince := none }) s))) :=
  if_neg (by rw [hread]; exact Bool.false_ne_true)

end card

/-! ### "Staging tests" (R508) -/

section tests
variable {s : State} {b : List Byte} {sigOk cosigOk : Bool}

theorem stageTest_length (h : b.length ≠ fieldU b 8 4) : stageTest s b sigOk cosigOk = 1 := if_pos h

variable (hlen : b.length = fieldU b 8 4)
include hlen

theorem stageTest_format (h : contFormat b = false) : stageTest s b sigOk cosigOk = 2 :=
  (if_neg (not_not.2 hlen)).trans (if_pos h)

theorem stageTest_variant (hform : contFormat b = true) (h : (fieldU b 7 1).testBit (variantNum s.variant) = false) :
    stageTest s b sigOk cosigOk = 3 := by
  unfold stageTest
  rw [if_neg (not_not.2 hlen), if_neg (by rw [hform]; decide), if_pos h]

end tests

/-- An image that no test refuses has passed each of them. -/
theorem stageTest_passed {s : State} {b : List Byte} {sigOk cosigOk : Bool} (h : stageTest s b sigOk cosigOk = 0) :
    b.length = fieldU b 8 4 ∧ contFormat b = true ∧ (∀ c ∈ contComps b, be 48 (Config.sha384 c.data) = c.digest) ∧ sigOk = true ∧
      cosignOk s b cosigOk = true ∧ (s.mode ≠ .recovery → compatible (resultSet (contComps b) (bankOf s (activeBank s))) = true) := by
  unfold stageTest at h
  dsimp only at h
  generalize hset : (if s.mode = .recovery then contComps b else resultSet (contComps b) (bankOf s (activeBank s))) = set at h
  split_ifs at h with hlen hform hvariant hdigest hsig hcosig hcompat
  refine ⟨not_not.1 hlen, Bool.not_eq_false _ ▸ hform, fun c hc => ?_, Bool.not_eq_false _ ▸ hsig, Bool.not_eq_false _ ▸ hcosig,
    fun hmode => ?_⟩
  · by_contra hne
    exact hdigest (List.any_eq_true.2 ⟨c, hc, decide_eq_true hne⟩)
  · rw [if_neg hmode] at hset
    rw [hset]
    exact Bool.not_eq_false _ ▸ hcompat

/-- Members of a compatible set accept each other's versions (R505). -/
theorem compatible_versions {l : List Comp} (h : compatible l = true) {c d : Comp} (hc : c ∈ l) (hd : d ∈ l) (hid : c.id ≠ d.id) :
    d.minPeer.getD (c.id - 1) 0 ≤ c.version := by
  rw [compatible, Bool.and_eq_true] at h
  exact (of_decide_eq_true (List.all_eq_true.1 (List.all_eq_true.1 h.1 c hc) d hd)).resolve_left hid

/-! ### Verification -/

/-- The image conflict touches its own object and those of a C0 event. -/
theorem evalConflict_leaves (s : State) : (evalConflict s).update = s.update ∧
    ∀ k, k ∉ raiseKeys → Obj.UPD_CONFLICT ≠ k → getN (evalConflict s) k = getN s k := by
  unfold evalConflict
  dsimp only
  split
  · refine ⟨by simp only [journal_keeps, raise_keeps]; rfl, fun k hk hne => ?_⟩
    rw [getN_journal, getN_raise _ _ _ _ hk, getN_setN_ne _ _ hne]
  · exact ⟨rfl, fun k _ hne => getN_setN_ne _ _ hne⟩

/-- A slot's two objects are apart, and neither is of a raise, of the conflict or derived. -/
theorem stageObjects_apart (n : Fin 2) : (Obj.STAGE_CAUSE n ≠ Obj.STAGE_STATE n ∧ Obj.UPD_CONFLICT ≠ Obj.STAGE_STATE n ∧
    Obj.UPD_CONFLICT ≠ Obj.STAGE_CAUSE n) ∧ (Obj.STAGE_STATE n ∉ raiseKeys ∧ Obj.STAGE_CAUSE n ∉ raiseKeys) ∧
    Obj.STAGE_STATE n ∉ derivedKeys ∧ Obj.STAGE_CAUSE n ∉ derivedKeys := by
  revert n
  decide

section verify
variable {s : State} {n : Fin 2} {sigOk cosigOk : Bool}

theorem stageDone_idle (h : getN s (Obj.STAGE_STATE n) ≠ 2) : stageDone n sigOk cosigOk s = s := if_pos h

variable (hmode : s.mode ≠ .recovery) (hstate : getN s (Obj.STAGE_STATE n) = 2)
  (hfails : stageTest s (stagedBytes s n) sigOk cosigOk ≠ 0)
include hmode hstate hfails

/-- An image that a test refuses: the slot shows the test, whatever digest stands beside it. -/
theorem stageDone_refused : ∃ blobs, stageDone n sigOk cosigOk s =
    evalConflict { setN (Obj.STAGE_CAUSE n) (stageTest s (stagedBytes s n) sigOk cosigOk) (setN (Obj.STAGE_STATE n) 4 s) with blobs := blobs } := by
  have hrefused : ¬ (stageTest s (stagedBytes s n) sigOk cosigOk = 0) := hfails
  unfold stageDone
  rw [if_neg (not_not.2 hstate)]
  dsimp only
  rw [if_neg hmode, if_neg fun h => hrefused h.1, if_neg hrefused]
  split
  · exact ⟨_, rfl⟩
  · exact ⟨_, rfl⟩

theorem stageDone_shows : getN (stageDone n sigOk cosigOk s) (Obj.STAGE_STATE n) = 4 ∧
    getN (stageDone n sigOk cosigOk s) (Obj.STAGE_CAUSE n) = stageTest s (stagedBytes s n) sigOk cosigOk ∧
    (stageDone n sigOk cosigOk s).update = s.update := by
  obtain ⟨blobs, h⟩ := stageDone_refused hmode hstate hfails
  obtain ⟨hupdate, hnums⟩ := evalConflict_leaves
    { setN (Obj.STAGE_CAUSE n) (stageTest s (stagedBytes s n) sigOk cosigOk) (setN (Obj.STAGE_STATE n) 4 s) with blobs := blobs }
  obtain ⟨⟨hapart, hstate', hcause'⟩, ⟨hstateR, hcauseR⟩, -⟩ := stageObjects_apart n
  rw [h, hnums _ hstateR hstate', hnums _ hcauseR hcause']
  exact ⟨(getN_setN_ne _ _ hapart).trans (getN_setN_same _ _ _), getN_setN_same _ _ _, hupdate⟩

end verify

/-! ### Installs, activations and trials -/

section installs
variable {s : State}

theorem installDone_none (ok : Bool) (h : s.update.installing = none) : installDone ok s = s := by
  unfold installDone
  rw [h]

variable {n : Nat} (hinst : s.update.installing = some n)
include hinst

theorem installDone_fails : installDone false s = report 0x3800 1 { detail := 1 - activeBank s } (setJ Obj.UPD_STATE 0
    (setUpd (fun u => { u with banks := u.banks.set (1 - activeBank s) (some {}) })
      (setUpd (fun u => { u with installing := none, autoActivate := false }) s))) := by
  unfold installDone
  rw [hinst]
  exact if_neg fun h => absurd h.1 (by decide)

theorem installDone_succeeds (hn : n < 2) (hvalid : getN s (Obj.STAGE_STATE n) = 3) (hauto : s.update.autoActivate = false) :
    installDone true s = setJ Obj.UPD_STATE 2
      (setUpd (fun u => { u with banks := u.banks.set (1 - activeBank s) (some (makeBank (stagedBytes s n) (bankOf s (activeBank s)))) })
        (setUpd (fun u => { u with installing := none, autoActivate := false }) s)) := by
  unfold installDone
  rw [hinst]
  dsimp only
  rw [if_pos ⟨rfl, hn, hvalid⟩, hauto]
  rfl

end installs

section activations
variable {s : State}

theorem updActivation_none (h : s.update.schedule = none) : updActivation s = s := by
  unfold updActivation
  rw [h]

variable {x : Activation} (hsched : s.update.schedule = some x)
include hsched

theorem updActivation_early {t : Nat} (hsec : x.sec = some t) (h : s.ts.mts < t * sec48) : updActivation s = s := by
  unfold updActivation
  rw [hsched]
  dsimp only
  rw [hsec]
  exact if_neg (by simp [h])

theorem updActivation_due (hsec : ∀ t, x.sec = some t → t * sec48 ≤ s.ts.mts) (hopen : s.power.closed < 3) (hmile : milestone s 6 = true) :
    updActivation s = activate x s := by
  unfold updActivation
  rw [hsched]
  refine if_pos ?_
  rw [Bool.and_eq_true, Bool.and_eq_true]
  refine ⟨⟨?_, decide_eq_true hopen⟩, hmile⟩
  split
  · next t ht => exact decide_eq_true (hsec t ht)
  · rfl

end activations

theorem trialExpiry_none {s : State} (h : s.update.trial = none) : trialExpiry s = s := by
  unfold trialExpiry
  rw [h]

theorem autoInstall_off {s : State} (h : getN s Obj.UPD_SD_AUTO ≠ 1) : autoInstall s = s := if_neg fun hauto => h hauto.1

/-- A trial that has run its course, with no card's image to install. -/
theorem trialExpiry_over {s : State} {x : Trial} (htrial : s.update.trial = some x) (hstate : getN s Obj.UPD_STATE = 5)
    (hauto : getN s Obj.UPD_SD_AUTO ≠ 1) (hover : x.since + getNat s Obj.UPD_TRIAL * sT ≤ s.now) :
    trialExpiry s = setJ Obj.UPD_STATE 0 (setN Obj.UPD_TRIAL_LEFT 0 (setUpd (fun u => { u with trial := none }) s)) := by
  unfold trialExpiry
  rw [htrial]
  dsimp only
  rw [if_pos ⟨hover, hstate⟩, autoInstall_off]
  rw [getN_setJ_ne _ _ (by decide), getN_setN_ne _ _ (by decide)]
  exact hauto

/-- A segment that is not the last is answered at once. -/
theorem stageTransom_segment {q : Req} {s s1 : State} (hacc : (acceptFrame q.hdr q.sess s).1 = some s1)
    (htests : tests1to9 q .write (Obj.UPD_STAGE_TRANSOM / 256) (Obj.UPD_STAGE_TRANSOM % 256) (agentCount (acceptRequest q.sess s1)) = stOk)
    (hseg : (stageSegment q (agentCount (acceptRequest q.sess s1))).1 = stOk) (hmore : q.last = false) : stageTransom q s =
      respond q 2 stOk (Obj.UPD_STAGE_TRANSOM / 256) (Obj.UPD_STAGE_TRANSOM % 256) 0 0 []
        (stageSegment q (agentCount (acceptRequest q.sess s1))).2 := by
  unfold stageTransom
  cases hframe : acceptFrame q.hdr q.sess s with
  | mk taken after =>
    rw [hframe] at hacc
    cases hacc
    dsimp only
    rw [if_neg (not_not.2 htests), if_neg (not_not.2 hseg), if_neg (by rw [hmore]; exact Bool.false_ne_true)]

end Sys2Proof.Machine
end

section
namespace Sys2Proof.Machine

/-- Settles O59: each event by the rule of its case, and the staging tests row by row. -/
theorem updateEvents : Obligations.UpdateEvents := by
  unfold Obligations.UpdateEvents
  refine ⟨fun s hu => ⟨fun hm => nextWith_of_ifUpdate hu rfl (if_pos (.inl hm)) ⟨?_, ?_, ?_⟩,
      fun hm => acts_of_ifUpdate hu rfl (if_neg (not_or.2 ⟨by rw [hm]; exact Bool.false_ne_true, mode_up hu⟩)),
      fun b t0 hr hl => nextWith_of_ifUpdate hu rfl (sdDone_image hr b) ⟨?_, ?_, ?_, ?_⟩,
      fun t0 hr => acts_of_ifUpdate hu rfl (sdDone_noFile hr), fun n _ _ h => acts_of_ifUpdate hu rfl (stageDone_idle h),
      fun n a b hs hf => nextWith_of_ifUpdate hu rfl rfl ?_, fun ok h => acts_of_ifUp rfl hu (installDone_none ok h),
      fun n hi hn hv ha => nextWith_of_ifUp rfl hu (installDone_succeeds hi hn hv ha) ⟨?_, ?_, ?_, ?_⟩,
      fun n hi => acts_of_ifUp rfl hu (installDone_fails hi), fun h => acts_of_ifUp rfl hu ?_,
      fun x t hx ht he => acts_of_ifUp rfl hu ?_,
      fun x hx hn hb ho hm => acts_of_ifUp rfl hu ((if_pos hb).trans (updActivation_due hx (fun t ht => ?_) ho hm)),
      fun x t hx ht hd hb ho hm => acts_of_ifUp rfl hu ((if_pos hb).trans (updActivation_due hx (fun t' ht' => ?_) ho hm)),
      fun h => acts_of_ifUp rfl hu (trialExpiry_none h),
      fun x hx hs ha ho => nextWith_of_ifUp rfl hu (trialExpiry_over hx hs ha ho) ⟨?_, ?_, ?_, ?_⟩,
      fun q s1 hacc ht hseg hl => acts_of_ifUp rfl hu (stageTransom_segment hacc ht hseg hl)⟩,
    fun s b sigOk cosigOk => ⟨fun h => stageTest_length h, fun hl h => stageTest_format hl h, fun hl hf h => stageTest_variant hl hf h,
      fun h => stageTest_passed h, fun l h c hc d hd hid => compatible_versions h hc hd hid⟩⟩
  · rw [getN_settle _ (by decide), startSd, getN_setN_same]
  · simp only [settle_keeps]
    rfl
  · simp only [settle_keeps]
    rfl
  · rw [getN_settle _ (by decide), getN_setN_same]
  · simp only [stagedBytes, settle_keeps, setN_keeps, setUpd]
    simp [hl]
  · simp only [settle_keeps]
    rfl
  · exact frame_settle (keepsAll_setN (keepsAll_setUpd (keepsAll_setUpd (keepsAll_refl _ _ s) (by decide) _) (by decide) _) (by decide) _)
  · obtain ⟨hstate, hcause, hupdate⟩ := stageDone_shows (mode_up hu) hs hf
    obtain ⟨-, -, hstateD, hcauseD⟩ := stageObjects_apart n
    exact ⟨(getN_settle _ hstateD).trans hstate, (getN_settle _ hcauseD).trans hcause, by simp only [settle_keeps, hupdate]⟩
  · rw [getN_settle _ (by decide), getN_setJ_same]
  · simp only [settle_keeps, setJ_keeps]
    rfl
  · simp only [settle_keeps, setJ_keeps]
    rfl
  · exact frame_settle (keepsAll_setJ (keepsAll_setUpd (keepsAll_setUpd (keepsAll_refl _ _ s) (by decide) _) (by decide) _) (by decide) _)
  · rcases h with hnone | hbetween
    · rw [updActivation_none hnone, ite_self]
    · rw [hbetween]
      rfl
  · rw [updActivation_early hx ht he, ite_self]
  · exact absurd (hn.symm.trans ht) (Option.some_ne_none t).symm
  · cases ht.symm.trans ht'
    exact hd
  · rw [getN_settle _ (by decide), getN_setJ_same]
  · rw [getN_settle _ (by decide), getN_setJ_ne _ _ (by decide), getN_setN_same]
  · simp only [settle_keeps, setJ_keeps]
    rfl
  · exact frame_settle (keepsAll_setJ (keepsAll_setN (keepsAll_setUpd (keepsAll_refl _ _ s) (by decide) _) (by decide) _) (by decide) _)

end Sys2Proof.Machine
end
